-- ==== Sys2Proof/Word.lean ====
section
/-!
DEFINITION. The word types of the block and its plainest arithmetic: bytes, the numbers of partner ports, clusters,
bus ports, mover channels, targets, units and fault lines (R6), each a `Fin` so that no number out of range can be
written down.
-/

set_option Elab.async false

namespace Sys2Proof

/-- One byte. -/
abbrev Byte := BitVec 8
/-- One 32-bit register word (R37). -/
abbrev Word := BitVec 32
/-- Partner port PP0-PP3 (R31). -/
abbrev PPort := Fin 4
/-- Cluster CL0-CL7 (R6). -/
abbrev Cl := Fin 8
/-- Bus port P000-P127 (R6). -/
abbrev Port := Fin 128
/-- Slice mover channel MOV000-MOV255 (R6). -/
abbrev Chan := Fin 256
/-- Interrupt target T0-T15 (R6). -/
abbrev Tgt := Fin 16
/-- Check-value unit CV0-CV15 (R6). -/
abbrev Unit16 := Fin 16
/-- Fault collector line 0-63 (R368). -/
abbrev Line := Fin 64
/-- Moderation group 0-63 (R355). -/
abbrev Group := Fin 64
/-- An identifier of a frame: 11 or 29 bits in 29 (R80). -/
abbrev Ident := BitVec 29

end Sys2Proof
end

