-- ==== Sys2Proof/Syntax.lean ====
section
/-!
DEFINITION. The commands of the block: one constructor of `Instr` per row of spec/opcode_table.json, in the table's order,
with the row's operands. A command that software writes to PAGE_CMD takes its arguments from PAGE_ARG0 and PAGE_ARG1 of
its page (R45, R49), so its operands are only the writing partner port and the instance of the page.
-/
set_option Elab.async false

namespace Sys2Proof

/-- Kinds of frame; KIND = 0b11 is a form error and no head (R82). -/
inductive FKind
  | low | comet | sync
  deriving DecidableEq, Repr

/-- KIND's encoding (R82, R240, R248). -/
def FKind.code : FKind → Nat
  | .low => 0 | .comet => 1 | .sync => 2

/-- The fields of a frame's head (R80). -/
structure Head where
  id : Ident
  long : Bool
  snd : BitVec 6
  kind : FKind
  rung : Fin 4
  len : BitVec 14
  epi : Bool
  aud : Bool
  deriving DecidableEq, Repr

/-- What SECDED found in a word that was read (R390). -/
inductive Find
  | corrected | uncorrectable
  deriving DecidableEq, Repr

/-- Errors of R142, in the order of PORT_ESTATE.LEC (R169). -/
inductive BusErr
  | bit | stuff | form | ack | hcrc | lcrc | tail | eclipse
  deriving DecidableEq, Repr

/-- Status of an error completion (R43). -/
inductive CplErr
  | poison | ur | ca
  deriving DecidableEq, Repr

/-- Which device read a completion belongs to (R43). -/
inductive DevRead
  /-- Burst `b` of a mover channel (R287). -/
  | mover (m : Chan) (b : Nat)
  /-- A check-value scan (R469), at a partner address. -/
  | scan (u : Unit16) (addr : BitVec 64)
  /-- The piece that PIECE reads (R437). -/
  | piece
  deriving DecidableEq, Repr

/-- A write of the function's configuration space (R31, R34, R42, R43), and the link states that the partner brings about with
it (R64). -/
inductive CfgWrite
  | bme (on : Bool)
  | msix (en fmask : Bool)
  /-- Device Control: Enable Relaxed Ordering, Enable No Snoop, Max Payload Size 128 B x 2^i, Max Read Request Size
  128 B x 2^i. -/
  | devCtl (ro noSnoop : Bool) (mps : Fin 3) (mrrs : Fin 6)
  /-- Device Control 2: Completion Timeout Value. -/
  | devCtl2 (cto : Fin 16)
  /-- Device Control 3: Target Link Width of L0p, x2^i. -/
  | l0p (width : Fin 4)
  /-- Link Control and L1 PM Substates: the link then takes a state of PP_LINK.PM. -/
  | linkPm (pm : Fin 4)
  /-- Power Management Control: D3hot, or D0. -/
  | power (d3 : Bool)
  /-- Base Address Register `i`. -/
  | bar (i : Fin 6) (v : Word)
  /-- AER Uncorrectable Error Status: each 1 clears a bit. -/
  | aerClear (v : Word)
  deriving DecidableEq, Repr

/-- What a sleeping port's or the Moon domain's detector sees (R159, R423). -/
inductive WakeSeen
  | edge
  | frame (head : Head) (data : List Byte)
  deriving DecidableEq, Repr

/-- Coefficients that one received tail contributes (R196, R198). -/
structure TailCoef where
  ctle : Fin 32
  vga : Fin 64
  phase : Fin 256
  ffe : Word
  dfe : Word
  thr : BitVec 30
  eyeH : Byte
  eyeW : Byte
  snr : Byte
  deriving DecidableEq, Repr

/-- Link errors of R43 that the PCI Express specification defines. -/
inductive LinkErr
  | malformed | overflow | flowControl
  deriving DecidableEq, Repr

/-- What INTERNAL_CHECK_FAILURE can name (R369): the blocks that its row lists, and the inputs of lines 48 and 32-35 that no
other row brings. -/
inductive CheckBlock
  | crossbar
  | cluster (c : Cl)
  | coreMemory
  /-- A fuse sense error or a mismatch with the shadow copy: it begins, or is over. -/
  | fuses (bad : Bool)
  /-- An error on the link of PPn. -/
  | link (pp : PPort) (e : LinkErr)
  deriving DecidableEq, Repr

/-- Resets whose end or failure is a row (R376, R379). -/
inductive ResetWhat
  | port (n : Port)
  | ports (c : Cl)
  | cores
  | fence (c : Cl)
  | safe
  deriving DecidableEq, Repr

/-- The commands, one per row of the opcode table. -/
inductive Instr
  | powerOnReset
  | supplyDrop (i : Fin 6)
  | supplyOutOfRange (i : Fin 6)
  | resetNAssert
  | perstAssert (pp : PPort)
  | perstRiseInDormant
  | resetRelease (straps : BitVec 6) (present : BitVec 4)
  | codeVerifyDone (sigOk partsOk : Bool)
  | settingsLoadDone
  | trialConfirm
  | confirmTimeout
  | activationChunkDone
  | functionLevelReset (pp : PPort)
  | hotReset (pp : PPort)
  | linkDown (pp : PPort)
  | linkUp (pp : PPort) (speed : Fin 7) (flit : Bool) (width : Fin 4)
  | registerWrite (pp : PPort) (off : BitVec 22) (wide : Bool) (val : BitVec 64)
  | rcRead (pp : PPort) (off : BitVec 22) (wide : Bool)
  | devFenceSyncRead (pp : PPort)
  | pageFenceWrite (pp : PPort) (page : Fin 640) (val : Word)
  | poisonedWrite (pp : PPort)
  | unsupportedRequest (pp : PPort) (read : Bool) (addr : BitVec 64)
  | bar2StoreWrite (pp : PPort) (off : BitVec 27) (bytes : List (Option Byte))
  | bar2TableWrite (pp : PPort) (off : BitVec 27) (words : List Word)
  | bar2Read (pp : PPort) (off : BitVec 27) (len : Nat) (finds : List (Nat × Find))
  | errorCompletion (r : DevRead) (e : CplErr)
  | completionTimeout (r : DevRead)
  | setMode (pp : PPort)
  | setOwner (pp : PPort)
  | setRef (pp : PPort)
  | devReset (pp : PPort)
  | referenceLoss
  | holdoverExpiry
  | referenceReturn (i : Fin 4)
  | pllLockLoss (cluster : Option Cl)
  | moonRetrim (dev : BitVec 16)
  | thermalSample (tj : Byte) (mw : BitVec 16)
  | moonWakeCondition (n : Port) (w : WakeSeen)
  | wakeTimerExpiry
  | wakeLimit (pp : PPort)
  | candidateFix (n : Port) (nextUp : Bool)
  | arbitrationEnd (n : Port) (won : Bool) (lostInSnd : Option (BitVec 6)) (back e : Nat)
  | headReceived (n : Port) (head : Head) (nextUp : Bool) (back e : Nat) (pulse : Nat) (hit : List Nat)
  | tailEnd (n : Port) (payload : List Byte) (tcrc : Word) (intact : Bool) (coef : Option TailCoef)
  | frameCommit (n : Port) (data : List Byte)
  | busError (n : Port) (e : BusErr) (inNextUp first : Bool) (runs overloads : Nat) (dominant : Bool)
  | frameEnd (n : Port)
  | integrationDone (n : Port)
  | busOffRecoveryDone (n : Port)
  | stuckDominant (n : Port)
  | listenTimeout (n : Port)
  | portWakeCondition (n : Port) (w : WakeSeen)
  | surge (n : Port)
  | cmRange (n : Port)
  | setPmode (pp : PPort) (n : Port)
  | recover (pp : PPort) (n : Port)
  | portDrainDone (n : Port)
  | forcedStop (n : Port)
  | fltCommit (pp : PPort) (n : Port)
  | portTxDb (pp : PPort) (n : Port) (val : Word) (finds : List (Nat × Find))
  | txCancel (pp : PPort) (n : Port)
  | txFlush (pp : PPort) (n : Port)
  | cancelSettled (n : Port)
  | setRung (pp : PPort) (n : Port)
  | calibrate (pp : PPort) (n : Port)
  | eyeScan (pp : PPort) (n : Port)
  | eyeScanDone (n : Port) (counts : List Byte)
  | eyeScanTimeout (n : Port) (counts : List Byte)
  | ltClear (pp : PPort) (n : Port)
  | powerUpCalibrationDone (n : Port) (ok : Bool) (trim : Fin 128)
  | terminationTrim (n : Port) (up : Bool) (ok : Bool)
  | dbandTxCalibration (n : Port) (ok : Bool)
  | samplerCalibration (n : Port) (ok : Bool)
  | clusterPllLock (c : Cl)
  | trainingWindowEnd (n : Port)
  | rxfReset (pp : PPort) (c : Cl)
  | rxRelease (pp : PPort) (c : Cl)
  | rxfGetWrite (pp : PPort) (c : Cl) (f : Fin 64) (val : Word)
  | rxfCfgWrite (pp : PPort) (c : Cl) (f : Fin 64) (val : Word)
  | clRxpoolWrite (pp : PPort) (c : Cl) (val : Word)
  | clBufareaWrite (pp : PPort) (c : Cl) (val : Word)
  | clTxsoftWrite (pp : PPort) (c : Cl) (val : Word)
  | txQuery (pp : PPort) (c : Cl)
  | fetchBlockReserve (m : Chan)
  | tailResident (m : Chan)
  | completionRecordWrite (k : Tgt)
  | pushDone (m : Chan)
  | burstIssue (m : Chan) (finds : List (Nat × Find))
  | readCompletion (m : Chan) (burst : Nat) (data : List Byte) (ns : Nat)
  | xferDone (m : Chan)
  | enable (pp : PPort) (m : Chan)
  | disable (pp : PPort) (m : Chan)
  | resume (pp : PPort) (m : Chan)
  | setDesc (pp : PPort) (m : Chan)
  | abort (pp : PPort) (m : Chan)
  | xfer (pp : PPort) (m : Chan)
  | movCreditAdd (pp : PPort) (m : Chan) (val : Word)
  | lineEdge (e : Nat)
  | framePulse (e : Nat)
  | missingLineEdge
  | lineEnd
  | rtMarkLineWrite (pp : PPort) (val : Word) (e : Nat)
  | rtCfgWrite (pp : PPort) (val : Word)
  | setFrame (pp : PPort)
  | entryFire (c : Cl) (i : Fin 1024) (e : Nat) (find : Option Find) (begun : List Port)
  | heldRungStart (n : Port)
  | arm (pp : PPort) (c : Cl)
  | disarm (pp : PPort) (c : Cl)
  | deliveryDecision (k : Tgt) (fast : Bool)
  | msiXSend (pp : PPort) (vector : Fin 9)
  | tClaim (pp : PPort) (k : Tgt)
  | fClaim (pp : PPort) (k : Tgt)
  | tComplete (pp : PPort) (k : Tgt) (val : Word)
  | fComplete (pp : PPort) (k : Tgt) (val : Word)
  | tEoi (pp : PPort) (k : Tgt)
  | tMask (pp : PPort) (k : Tgt) (val : Word)
  | tCfgWrite (pp : PPort) (k : Tgt) (val : Word)
  | icuSrcCfgWrite (pp : PPort) (val : Word)
  | tRingCfgWrite (pp : PPort) (k : Tgt) (val : Word)
  | tRingGetWrite (pp : PPort) (k : Tgt) (val : Word)
  | tMailOut (pp : PPort) (k : Tgt) (val : Word)
  | tMailInRead (pp : PPort) (k : Tgt)
  | timerExpiry (k : Tgt)
  | tSelfFire (pp : PPort) (k : Tgt)
  | holdOffExpiry (g : Group)
  | coalescingDelayExpiry (src : Fin 4352)
  | resetDone (w : ResetWhat)
  | reactFail (w : ResetWhat)
  | levelLineTick (l : Line)
  | mcWatchdog
  | parityScan (bad : List (Fin 128))
  | fcoInject (pp : PPort) (val : Word)
  | fcoStickyClear (pp : PPort) (hi : Bool) (val : Word)
  | unfence (pp : PPort)
  | unfenceDone (locked : Bool)
  | defaults (pp : PPort)
  | safeExitDone
  | scrubAccess (addr : BitVec 27) (find : Option Find)
  | writeBack (c : Cl)
  | snapshotDue (volts : List (BitVec 16))
  | snapshotWritten
  | snapNow (pp : PPort)
  | mramRefreshCheck (addr : BitVec 24) (find : Option Find)
  | begin (pp : PPort)
  | piece (pp : PPort)
  | pieceDone (data : List Byte) (digestOk : Bool)
  | verify (pp : PPort)
  | verifyDone (sigOk partsOk : Bool)
  | activate (pp : PPort)
  | discard (pp : PPort)
  | setSave (pp : PPort)
  | setLoad (pp : PPort)
  | setErase (pp : PPort)
  | attest (pp : PPort)
  | unlock (pp : PPort) (sigOk : Bool)
  | tapReset
  | extest
  | samplePreload (pins : BitVec 35)
  | idcode
  | clamp
  | highz
  | bypass
  | chal
  | token (bits : List Word) (sigOk : Bool)
  | dbgPage (write : Bool) (off : BitVec 22) (val : Word)
  | dbgCore
  | cvStart (pp : PPort) (u : Unit16)
  | scanDone (u : Unit16) (data : List Byte) (finds : List (Nat × Find)) (us : Nat)
  | cvLimitExpiry (u : Unit16) (data : List Byte) (us : Nat)
  | vddaonDrop
  | supplyReturn (i : Fin 6)
  | configurationWrite (pp : PPort) (w : CfgWrite)
  | lossOfLock (n : Port)
  | internalCheckFailure (b : CheckBlock)
  | corePllRelock (locked : Bool)
  | setSaveDone
  | unlockDone
  | reverifyDone (ok : Bool)
  deriving DecidableEq, Repr

end Sys2Proof
end

