-- ==== Sys2Proof/Decode.lean ====
section
/-!
DEFINITION. The rows of spec/opcode_table.json that give bits: there is none. The commands of this block are register accesses,
events of its buses and links, and ends of its own operations; none of them is spelled by a word of its own.
-/
set_option Elab.async false

namespace Sys2Proof

/-- The command that a word of `nbits` bits spells by the table's bits. -/
def decodeTableWord (_nbits _w : Nat) : Option Instr := none

end Sys2Proof
end

