-- ==== Sys2Proof/Config.lean ====
section
/-!
DEFINITION. What the spec leaves open and the model leaves open with it: opaque constants without a body, so that no
proof can see a value of them. Each is applied to a plain number (a counter of State or an address), log entry 2.
-/
set_option Elab.async false

namespace Sys2Proof

/-- FREE VALUE. The byte that a range of the store with undefined contents reads as: `epoch` tells one loss of contents
from the next (R24, R218, R259). -/
opaque Config.freeByte : (epoch addr : Nat) → Byte

/-- FREE VALUE. A random word drawn by the device (R459), the `n`-th draw. -/
opaque Config.randomWord : (n : Nat) → Word

/-- FREE VALUE. A word of a signature or digest that the device computes with a key no one sees (R395, R456), the
`n`-th one. -/
opaque Config.cryptoWord : (n : Nat) → Word

/-- FREE VALUE. Whether a division whose rounding the spec does not state takes the upper of the two neighbouring
integers (R198, R312, R317), the `n`-th such division. Exact divisions never consult it. -/
opaque Config.roundUp : (n : Nat) → Bool

/-- FREE VALUE. A measured quantity that no rule of the spec determines (DBG_CORE's captured word, R510), the `n`-th
one. -/
opaque Config.measured : (n : Nat) → Word

/-- FREE VALUE. The serial number in the device's fuses (R454). -/
opaque Config.uid : BitVec 64

/-- FREE VALUE. Word `i` of the identity key's public key (R455, R465). -/
opaque Config.pubKey : (i : Nat) → Word

end Sys2Proof
end

