-- ==== Sys2Proof/Machine/State.lean ====
section
/-!
DEFINITION. The state of the block: every register (field by field, R36, R45), every table and store byte (R38), MRAM and
fuses (R431, R454), what the bus, receive, transmit, mover, raster, interrupt and fault units hold between steps, the
pins, and the queue of waiting commands. Plain data throughout.

A map from numbers to values is a list with strictly rising keys; what an unlisted key reads as is said at the field.
-/
set_option Elab.async false

namespace Sys2Proof.Machine

/-- A sparse map: (key, value) pairs, keys strictly rising. -/
abbrev SMap (α : Type) := List (Nat × α)

/-- No command of this block stops the machine, so there is one fault, which no step raises. -/
inductive Fault
  /-- Raised by no step of this model (safe): every row of the table has an effect. -/
  | none
  deriving DecidableEq, Repr

/-- Why a command is not run. -/
inductive Refusal
  /-- An arm of `exec` whose command has no meaning yet (safe: nothing is claimed of it). -/
  | notModelled (mnemonic : String)
  deriving DecidableEq, Repr

/-- Device modes (R61). -/
inductive Mode
  | dormant | loader | configure | run | degraded | safe | update | test
  deriving DecidableEq, Repr

/-- DEV_MODE.MODE's encoding (R61). -/
def Mode.code : Mode → Nat
  | .dormant => 0 | .loader => 1 | .configure => 2 | .run => 3
  | .degraded => 4 | .safe => 5 | .update => 6 | .test => 7

/-- A transition of R24 in progress (DEV_MODE.MOVING = 1, R548). -/
inductive Moving
  /-- CONFIGURE to RUN: the ports enter their configured modes; `auto` when R451 started it. -/
  | toRun (auto : Bool)
  /-- RUN or DEGRADED to CONFIGURE: every port is disabled with drain. -/
  | toConfigure
  /-- SAFE to CONFIGURE (R389). -/
  | safeExit
  /-- CONFIGURE or SAFE to DORMANT: detectors arm, the main domain powers down (R417). -/
  | toDormant
  /-- To UPDATE: step 2 of ACTIVATE, the port drain (R442). -/
  | toUpdate
  deriving DecidableEq, Repr

/-- Causes of AON_RST_CAUSE (R405). -/
inductive RstCause
  | powerOn | supply | resetN | perst | devReset | update | wake
  deriving DecidableEq, Repr

/-! ### Partner ports -/

/-- The PCI Express state of the function of one partner port (R31, R35, R42, R55, R544), and its pins. -/
structure PpState where
  /-- Bus Master Enable (R42). -/
  bme : Bool := false
  /-- MSI-X Enable and Function Mask (R42). -/
  msixEn : Bool := false
  fmask : Bool := false
  /-- Enable Relaxed Ordering and Enable No Snoop of Device Control (R57, R59). -/
  ro : Bool := true
  noSnoop : Bool := true
  /-- Max Payload Size and Max Read Request Size in bytes (R31). Their reset values, and those of the two enables above, are
  those of the PCI Express specification (log 76). -/
  mps : Nat := 128
  mrrs : Nat := 512
  /-- Completion Timeout Value of Device Control 2 (R31). -/
  cto : Nat := 0
  /-- The function is in D3hot (R31). -/
  d3 : Bool := false
  /-- The six Base Address Registers as read, by index (R34). -/
  bars : SMap Nat := []
  /-- AER Uncorrectable Error Status (R31, R43). -/
  aerStatus : Nat := 0
  /-- The MSI-X table, 128 words; an unlisted vector control word reads 1 (masked), every other word 0 (R544). -/
  msix : SMap Nat := []
  /-- A vector 8 message waits to leave (R41, R42). -/
  vec8 : Bool := false
  /-- DEV_FENCE_SYNC reads served, modulo 2^32 (R55, R61). -/
  syncCount : Nat := 0
  /-- Level of PERSTn_N (R405). -/
  perst : Bool := true
  /-- The Moon domain drives WAKEn_N low (R67, R423). -/
  moonWake : Bool := false
  deriving DecidableEq, Repr

/-! ### Interrupt controller -/

/-- One interrupt source (R345, R346, R347, R349). -/
structure IntSrc where
  en : Bool := false
  tgt : Nat := 0
  group : Nat := 0
  level : Nat := 1
  count : Nat := 0
  active : Bool := false
  /-- Target, class and level of the active claim (R345, R354). -/
  atgt : Nat := 0
  afast : Bool := false
  alevel : Nat := 0
  mask : Bool := false
  pin : Bool := false
  /-- A coalescing delay runs (R357). -/
  delay : Bool := false
  deriving DecidableEq, Repr

/-- A record waiting for its target's ring (R238, R274): the sixteen words of its slot without PHASE. `slot`: a receive
record, whose slot is reserved (R221). -/
structure Rec where
  slot : Bool
  words : List Nat
  /-- The object or forward whose record it is. -/
  job : Option Nat := none
  /-- It waits for a slot (R361). -/
  waiting : Bool := false
  /-- Its slot is passed over without a write (R44, R299). -/
  drop : Bool := false
  deriving DecidableEq, Repr

/-- One interrupt target (R349-R353, R360-R363). -/
structure TgtState where
  /-- Message outstanding, per class (R349). -/
  outN : Bool := false
  outF : Bool := false
  /-- A decided message that has not left the partner port, per class (R350). -/
  msgN : Bool := false
  msgF : Bool := false
  /-- The stack of (level, source key), top first (R352). -/
  stack : List (Nat × Nat) := []
  /-- Records waiting to be written, oldest first (R274). -/
  recs : List Rec := []
  deriving DecidableEq, Repr

/-! ### Fault collector -/

/-- One fault line (R370, R371). -/
structure LineState where
  sticky : Bool := false
  level : Nat := 0
  count : Nat := 0
  wstart : Nat := 0
  total : Nat := 0
  deriving DecidableEq, Repr

/-- A reset reaction in progress whose inputs are masked (R376). -/
inductive ResetJob
  | port (n : Nat) | ports (c : Nat) | cores | fence (c : Nat) | safe
  deriving DecidableEq, Repr

/-! ### Frames and the bus engine of a port -/

/-- What a port offers in a start opportunity (R126). -/
inductive Cand
  /-- A pending object or forward, by its number in `jobs`. -/
  | job (uid : Nat)
  /-- The SYNC frame in the port's SYNC slot (R331). -/
  | sync
  deriving DecidableEq, Repr

/-- Raster time as a record carries it (R242). -/
structure Stamp where
  frame : Nat := 0
  line : Nat := 0
  sub : Nat := 0
  fine : Nat := 0
  tb : Nat := 0
  deriving DecidableEq, Repr

/-- What a frame's SOF needs of the time base and the eclipse windows, as it stood between two commands (R134, R242, R332,
R333): frame, line, period of the line, TB and rate code; the fields of PORT_ECL that differ from reset; discontinuities so
far (R316). -/
structure Moment where
  frame : Nat := 0
  line : Nat := 0
  period : Nat := 0
  tb : Nat := 0
  code : Nat := 0
  ecl : SMap Nat := []
  discs : Nat := 0
  deriving DecidableEq, Repr

/-- What the filter list decided about a frame (R216, R217, R222). -/
inductive Verdict
  | rejected
  | overrun (cause : Nat) (ess : Bool)
  | claimed
  deriving DecidableEq, Repr

/-- The receive side of one frame on a port (R216-R222). `dest` is FE_CTL.DEST; `blk` the address of the reserved store
block; `fwd` the number of the reserved forward in `jobs`; `ring` the target with a reserved slot. -/
structure Claim where
  uid : Nat := 0
  verdict : Verdict := .rejected
  elem : Nat := 0
  dest : Nat := 0
  index : Nat := 0
  aux : Nat := 0
  chan : Nat := 0
  ess : Bool := false
  push : Bool := false
  copy : Bool := false
  notify : Bool := false
  fifo : Option Nat := none
  ring : Option Nat := none
  fwd : Option Nat := none
  blk : Option Nat := none
  stamp : Stamp := {}
  /-- TCRC as received, and whether the tail was found intact (R98, R240). -/
  tcrc : Nat := 0
  deriving DecidableEq, Repr

/-- A frame in progress on a segment, as one port sees it. -/
structure BusFrame where
  head : Head
  /-- The port sends it, with this candidate. -/
  own : Option Cand
  claim : Claim := {}
  /-- Payload of a tail, or the data of a LOW or SYNC frame, as received. -/
  data : List Byte := []
  /-- The head lies in a next-up opportunity. -/
  nextUp : Bool := false
  /-- Passed its ACK delimiter on this port without error. -/
  committed : Bool := false
  /-- The frame of the port that lost to this one in SND, for which an identifier-sharing event of case 1 was raised (R117): its
  candidate, with the number of a SYNC frame. -/
  case1 : Option (Cand × Nat) := none
  /-- The port receives the tail's rung, as its receive set stood at the last RUNG bit (R102, R199). -/
  recv : Bool := false
  /-- No valid entry was there to start the tail's training from when the head was fetched, and the tail is not counted yet
  (R193). -/
  cold : Bool := false
  /-- The last END symbol has passed on the segment. -/
  tailOver : Bool := false
  /-- D-band lock was lost in the tail (R98, R192). -/
  lockLost : Bool := false
  /-- The tail passed every check of R98. -/
  tailOk : Bool := false
  /-- The frame failed on this port, which alone and passively flagged it (R123). -/
  failed : Bool := false
  /-- An own SYNC frame: the number of the frame in the slot, and the discontinuities before its SOF (R331, R333). -/
  syncNo : Nat := 0
  discs : Nat := 0
  deriving DecidableEq, Repr

/-- A SYNC frame in a port's SYNC slot (R331). -/
structure SyncSlot where
  id : Nat
  long : Bool
  aud : Bool
  /-- An eclipse announcement: its frame, line, subline, and whether the window opens (R334). -/
  ann : Option (Nat × Nat × Nat × Bool)
  /-- When it was placed: a number that grows. -/
  elig : Nat := 0
  /-- Won, and its frame has not ended. -/
  won : Bool := false
  deriving DecidableEq, Repr

/-- Time base states (R308). -/
inductive Tb
  | free | locked | flywheel
  deriving DecidableEq, Repr

/-- The time base (R307-R320). Times inside a line are in 1/256 of a 6.25 ns quantum. -/
structure Raster where
  frame : Nat := 0
  line : Nat := 0
  tb : Tb := .free
  /-- Line period estimate T, and whether an edge has given one: until then T is RT_NOM_PERIOD (R309). -/
  period : Nat := 728178
  est : Bool := false
  /-- LINES in use. -/
  lines : Nat := 1125
  /-- The rate code measured from the pins (R315), and the code of the frame before it. -/
  code : Nat := 1
  lastCode : Option Nat := none
  /-- Time from the latest edge of the line input to the start of the current line; negative when the edge came after it. -/
  sinceEdge : Int := 0
  /-- An edge has been seen, and the period before the latest edge (R311). -/
  edgeSeen : Bool := false
  prevPeriod : Option Nat := none
  /-- Acquisition (R311): good edges in a row; line edges since F1, once F1 has been seen. -/
  acqEdges : Nat := 0
  acqF1 : Option Nat := none
  /-- Edges since the latest frame pulse and the time they took, and the latest measured length (R314). -/
  pulseSeen : Bool := false
  sincePulse : Nat := 0
  sumPulse : Nat := 0
  lastLen : Option Nat := none
  /-- Consecutive edges outside their windows with agreeing periods, and the latest such period (R313). -/
  outEdges : Nat := 0
  outPeriod : Option Nat := none
  /-- Armed entries, by 1024 c + i, whose line a smaller LINES left beyond the end of their frame (R325). -/
  cut : List Nat := []
  /-- Subline of the current line that raster time had reached when a row or a read last looked at it, and FINE then (R309). -/
  sub : Nat := 0
  fine : Nat := 0
  /-- Marks (R317): accepted in a row, one in this frame, frames without one; the slew of this frame's lines, subtracted
  from T, and of the next frame's. -/
  markRun : Nat := 0
  markSeen : Bool := false
  markMiss : Nat := 0
  slew : Int := 0
  slewNext : Int := 0
  /-- SET_FRAME waits for the boundary (R318). -/
  setFrame : Option Nat := none
  /-- Discontinuities since device reset (R316). -/
  discs : Nat := 0
  deriving DecidableEq, Repr

/-- A change of a port's mode in progress (R161, R164, R200): the page is BUSY. -/
inductive PortMove
  /-- R161: drain to a mode; `cmd`: it is SET_PMODE, not a device transition. -/
  | drain (target : Nat) (cmd : Bool)
  /-- R164: to NORMAL at the next pause of the bus. -/
  | direct (cmd : Bool)
  /-- Out of OFF: waiting for power-up calibration, then on to `target` (R200). -/
  | calibrate (target : Nat) (cmd : Bool)
  /-- Out of CONFIG: waiting while the core PLL free-runs (R412). -/
  | hold (target : Nat) (cmd : Bool)
  deriving DecidableEq, Repr

/-- A contribution of one received tail to a last-table entry (R196, R198). -/
structure Contribution where
  entry : Nat
  ctle : Nat
  vga : Nat
  phase : Nat
  ffe : Nat
  dfe : Nat
  thr : Nat
  eyeH : Nat
  eyeW : Nat
  snr : Nat
  deriving DecidableEq, Repr

/-- A running TX_CANCEL or TX_FLUSH (R266, R268): the job it names (none: every job); TX_FLUSH: where the numbers of later
eligibilities begin; the counts of CANCELLED and LATE. -/
structure CancelRun where
  job : Option Nat
  start : Nat := 0
  cancelled : Nat := 0
  late : Nat := 0
  deriving DecidableEq, Repr

/-- What one bus port holds beside its registers. -/
structure PortState where
  cand : Option Cand := none
  /-- The candidate was fixed for a next-up opportunity. -/
  candNext : Bool := false
  /-- The rung at which the candidate's tail would be sent (R189). -/
  candRung : Nat := 0
  cur : Option BusFrame := none
  nxt : Option BusFrame := none
  /-- Identifier, length and sender of the latest frame that ended without error, and the frame of the port for which an event
  of case 1 was raised on it (R117). -/
  prevGood : Option (Nat × Bool × Nat × Option (Cand × Nat)) := none
  /-- The frame with which the port lost its last arbitration in SND: the head that beat it, not yet received, carries case 1
  (R117). -/
  lostInSnd : Option (Cand × Nat) := none
  /-- Error passive, the port lost its place in a frame and integrates before it takes part again (R145). -/
  reint : Bool := false
  /-- Intact heads in a row in LISTEN (R157). -/
  listenHeads : Nat := 0
  /-- LISTEN waits for its rate: no timing chosen yet (R157). -/
  listenRate : Bool := false
  /-- Wake registers as they stood at entry to SLEEP (R159). -/
  sleepCopy : List Nat := []
  move : Option PortMove := none
  /-- The mode that a device transition takes the port to when its own change in progress has ended (R165). -/
  moveNext : Option Nat := none
  /-- ALONE: the raster frame (or 20 ms step) of the last offered candidate (R153). -/
  aloneAt : Option Nat := none
  sync : Option SyncSlot := none
  /-- A SYNC frame that waits for the end of the one that was won (R331). -/
  syncNext : Option SyncSlot := none
  /-- Discontinuities that an error-free ANN = 0 SYNC frame of the port has shown; its next ones carry DISC while there are
  more (R316, R333). -/
  discSeen : Nat := 0
  cancel : Option CancelRun := none
  /-- Training window (R196): running, and its contributions, oldest first. -/
  window : Bool := false
  contribs : List Contribution := []
  /-- Entries of the tails in error of the window, one by one. -/
  tailErrs : List Nat := []
  /-- Entries written by software in the window (R195). -/
  writtenInWindow : List Nat := []
  /-- A rung change that waits for the window (R199): CEIL and RX_EN. -/
  rungWait : Option (Nat × Nat) := none
  /-- Rung changes of the ephemeris that are held for a BUSY PHY page, oldest first (R330). -/
  heldRung : List (Nat × Nat) := []
  /-- A running EYE_SCAN: result area, source TAILS, rung, sender, DWELL (R202). -/
  eye : Option (Nat × Bool × Nat × Nat × Nat) := none
  /-- Since the latest power estimate: a frame was on the port's segment, and the time of the tails sent or received, by rung, in
  symbol times of rung 3 (R426). -/
  heard : Bool := false
  tailTime : SMap Nat := []
  deriving DecidableEq, Repr

/-! ### Store blocks, received frames, objects -/

/-- Who needs a store block (R225, R229, R236, R255, R257, R296). -/
inductive User
  | claim (uid : Nat)
  | entry (c f fseq pseq port : Nat)
  | push (uid : Nat)
  | direct (pseq port : Nat)
  | job (uid : Nat)
  | xfer (m : Nat)
  deriving DecidableEq, Repr

/-- What a held range belongs to. -/
inductive BlockKind
  | rx | tx | soft
  deriving DecidableEq, Repr

/-- A held range of a slice: BAR2 offset, length, kind, users. `lost`: an uncorrectable word was reported (R243, R392). -/
structure Block where
  addr : Nat
  len : Nat
  kind : BlockKind
  users : List User
  lost : Bool := false
  deriving DecidableEq, Repr

/-- Final results (R262). -/
inductive Res
  | sent | cancelled | retryLimit | fenced | dataLost
  deriving DecidableEq, Repr

/-- Where an object stands on one port (R130, R262). -/
inductive Stage
  | pending | offered | won | final (r : Res)
  deriving DecidableEq, Repr

/-- One port of an object's set. -/
structure JobPort where
  port : Nat
  stage : Stage := .pending
  fails : Nat := 0
  /-- DATA_LOST or FENCED falls due when the attempt ends (R263, R264). -/
  doom : Option Res := none
  /-- The ports whose pages run a cancel that waits for this port's arbitration (R130). -/
  cancelBy : List Nat := []
  deriving DecidableEq, Repr

/-- Residency of an object's tail (R255, R257, R259, R276). -/
inductive Residency
  | waitFetch | waitBlock | fetching | waitChan | resident | completing
  /-- A forward reserved at claim, not yet committed (R271). -/
  | reserved
  deriving DecidableEq, Repr

/-- A TX object in use (R252), or a forward holding its context (R271). -/
structure Job where
  fwd : Bool := false
  cl : Nat
  /-- Object index; template index of a forward. -/
  idx : Nat
  /-- Forward context number (R260). -/
  ctx : Nat := 0
  lead : Nat
  kind : FKind
  id : Nat
  long : Bool
  len : Nat
  rung : Nat
  aud : Bool
  data : List Byte := []
  tgt : Nat
  tag : Nat := 0
  limit : Nat := 0
  /-- TXO_CTL.SRC, 0-2; 2 also for forwards. -/
  src : Nat := 2
  chan : Nat := 0
  /-- Partner address (SRC PARTNER_ADDR). -/
  paddr : Nat := 0
  /-- BAR2 offset of the tail, once it has a place. -/
  store : Option Nat := none
  /-- TXO_CTL.REC of a template (R271). -/
  recMode : Nat := 0
  pseq : Nat := 0
  res : Residency
  /-- When it became eligible: a number that grows (R260). -/
  elig : Nat := 0
  ports : List JobPort
  sentFrames : Nat := 0
  /-- Counted lost already (R263). -/
  lost : Bool := false
  /-- Its wait for a block has been counted (R257). -/
  waited : Bool := false
  deriving DecidableEq, Repr

/-! ### Power, clocks, the Moon domain, the test access port -/

/-- A change of the active reference on its way (R412, R428): to `ref`, by SET_REF or by failover. -/
structure Relock where
  ref : Nat
  cmd : Bool
  deriving DecidableEq, Repr

/-- Supplies, pins, clocks and the Moon domain beside the registers of the CRP and AON pages. -/
structure Chip where
  /-- Level of RESET_N (R405). -/
  resetN : Bool := true
  /-- Supplies below 80 % of nominal, and supplies outside their range, a bit each in the order of CRP_SUPPLY (R404, R427). -/
  low : Nat := 0
  outRange : Nat := 0
  /-- VDDAON is below 80 % of nominal (R404). -/
  aonDown : Bool := false
  /-- The strap that names the primary partner port, as latched (R408). -/
  primary : Nat := 0
  /-- Present reference inputs, a bit each (R410, R412). -/
  refs : Nat := 15
  relock : Option Relock := none
  /-- Wake registers, and PORT_ABT as four numbers, of the ports whose Moon detectors are armed (R417). -/
  moon : SMap (List Nat) := []
  /-- Why the release that ends DORMANT will happen (R421, R423). -/
  wake : Option RstCause := none
  /-- WAKEn_N pins that the first wake since the entry to DORMANT drove, a bit each (R423). -/
  driven : Nat := 0
  /-- Tj has been below 103 °C since line 50 took an event (R369). -/
  cool : Bool := true
  /-- Highest Tj since the previous snapshot, two's complement (R396). -/
  tjMax : Nat := 0
  /-- Estimated device power in milliwatts at the latest sample (R396, R425). -/
  power : Nat := 0
  deriving DecidableEq, Repr

/-- Fuses that the model changes or reads (R454). -/
structure Fuses where
  keyDead : Bool := false
  unlockPend : Bool := false
  /-- The bits of IDKEY are all blown. -/
  idkeyBlown : Bool := false
  debugOpen : Bool := false
  rollback : Nat := 0
  keyrev : Nat := 0
  /-- The fuse sense is in error, or fuses and shadow copy differ (R369, line 48). -/
  mismatch : Bool := false
  deriving DecidableEq, Repr

/-- Instructions of the test access port (R510). -/
inductive TapIr
  | extest | samplePreload | idcode | clamp | highz | chal | token | dbgPage | dbgCore | bypass
  deriving DecidableEq, Repr

/-- The test access port (R509-R514). -/
structure Tap where
  ir : TapIr := .idcode
  /-- The data register as captured, or as shifted in. -/
  dr : Nat := 0
  /-- The 35 boundary cells (R513). -/
  boundary : Nat := 0
  /-- STATUS of the latest UNLOCK (R512). -/
  status : Nat := 0
  deriving DecidableEq, Repr

/-- A settings load in progress (R451): its image, the next record and where it lies, the words of it that are done; `boot`
when it follows the entry to CONFIGURE; `wait`: the page whose command it waits for. -/
structure SetLoad where
  image : List Nat
  record : Nat := 0
  at_ : Nat := 16
  done : Nat := 0
  boot : Bool
  wait : Option Nat := none
  deriving DecidableEq, Repr

/-! ### Slice mover -/

/-- Kinds of request (R279). -/
inductive ReqKind
  | fetch (uid : Nat)
  | push (uid : Nat)
  | xfer
  deriving DecidableEq, Repr

/-- One request of a channel's queue. -/
structure Req where
  kind : ReqKind
  len : Nat
  store : Nat
  useDesc : Bool
  paddr : Nat := 0
  issued : Nat := 0
  got : Nat := 0
  /-- Loop position of its first element, once its first burst was issued. -/
  start : Option Nat := none
  withdrawn : Bool := false
  lost : Bool := false
  deriving DecidableEq, Repr

/-- A burst begun and not completed (reads), or the failed one (R292). -/
structure Burst where
  num : Nat
  req : ReqKind
  paddr : Nat
  store : Nat
  off : Nat
  len : Nat
  discard : Bool := false
  deriving DecidableEq, Repr

/-- A channel's configuration as loaded at ENABLE and SET_DESC (R281, R300). -/
structure ChanCfg where
  pp : Nat
  push : Bool
  noSnoop : Bool
  wrap : Bool
  credit : Bool
  burst : Nat
  elem : Nat
  base : Nat
  c0 : Nat
  c1 : Nat
  c2 : Nat
  s0 : Int
  s1 : Int
  s2 : Int
  deriving DecidableEq, Repr

/-- Channel states that are stored; IDLE, ACTIVE and WAIT follow from the queue (R301). -/
inductive ChanMode
  | disabled | enabled | halted
  deriving DecidableEq, Repr

/-- One mover channel. -/
structure ChanState where
  mode : ChanMode := .disabled
  cfg : Option ChanCfg := none
  pos : Nat := 0
  queue : List Req := []
  outst : List Burst := []
  /-- Bursts that RESUME issues again, the latched one first (R292, R294). -/
  failed : List Burst := []
  /-- SET_DESC took effect since the halt (R294). -/
  setDesc : Bool := false
  /-- The head request waits for credits or for the link, and CREDIT_WAIT was set for it (R286). -/
  waiting : Bool := false
  rem : Nat := 0
  bursts : Nat := 0
  deriving DecidableEq, Repr

/-- A received frame whose tail is being pushed (R234, R235): the sixteen record words, the target with the reserved
slot, the block. -/
structure PushJob where
  tgt : Nat
  words : List Nat
  blk : Nat
  direct : Bool
  chan : Nat
  lost : Bool := false
  deriving DecidableEq, Repr

/-! ### Fault collector inputs -/

/-- The block whose input an event came through, for the masks of R376 and R378. -/
inductive FaultSrc
  | port (n : Nat)
  /-- TX_FENCE_CUT of a port (R376). -/
  | cut (n : Nat)
  | cl (c : Nat)
  | mov (m : Nat)
  | eph (c : Nat)
  | dev
  /-- FCO_INJECT: level when FORCE is 1 (R372). -/
  | inject (force : Option Nat)
  /-- The PLL failure that ends an UNFENCE (R386). -/
  | unmasked
  deriving DecidableEq, Repr

/-- An event on its way to the collector. -/
structure FaultEvent where
  line : Nat
  src : FaultSrc
  deriving DecidableEq, Repr

/-- What leaves the device through its pins and partner ports: the model's own log, newest first. -/
inductive Out
  /-- A record written to a target's ring at a partner address (R360). -/
  | record (tgt : Nat) (addr : Nat) (words : List Nat)
  /-- An MSI-X message of a partner port's function (R41). -/
  | msix (pp vector : Nat)
  /-- A write to partner memory (R57, R287, R398). -/
  | write (pp addr : Nat) (relaxed noSnoop poisoned : Bool) (data : List Byte)
  /-- A device read of partner memory (R287, R436, R469). -/
  | read (pp addr len : Nat) (noSnoop : Bool)
  /-- The completion of a register read (R8, R35, R55). -/
  | regData (pp addr value : Nat)
  /-- The completion of a BAR2 read, poisoned or not (R40, R43). -/
  | bar2Data (pp addr : Nat) (poisoned : Bool) (data : List Byte)
  /-- A UR completion (R43). -/
  | ur (pp addr : Nat)
  /-- The ACK slot of a frame that port `n` has received without error up to it: driven dominant, or left alone (R94). -/
  | ackSlot (n : Nat) (driven : Bool)
  deriving DecidableEq, Repr

/-- A snapshot that has been sampled and is being written (R394): its SEQ, partner port and slot address. -/
structure Snapshot where
  seq : Nat
  pp : Nat
  addr : Nat
  data : List Byte
  deriving DecidableEq, Repr

/-- The whole state. Register fields stand in `regs` under the key of `fieldKey`; an unlisted field reads its reset
value. -/
structure State where
  /-- Commands that wait, first in, first out. -/
  pending : List Instr := []
  /-- Register fields that differ from their reset value. -/
  regs : SMap Nat := []
  /-- Owning partner port by page index where it is not the primary one (R51). -/
  owners : SMap Nat := []
  /-- BAR2 bytes (R38). -/
  mem : List Host.Cell := []
  /-- Ranges of BAR2 with undefined contents: first byte, length, epoch (R24, R218, R259). -/
  undef : List (Nat × Nat × Nat) := []
  /-- How many free values have been drawn. -/
  freeCtr : Nat := 0
  mode : Mode := .loader
  prev : Mode := .loader
  moving : Option Moving := none
  /-- The device is held in device reset (R406, R407). -/
  inReset : Bool := true
  /-- PCI Express functions by partner port number. -/
  pps : SMap PpState := []
  /-- Interrupt sources by key: a shared source by its number, private source 4080 + i of Tk by 4096 + 16 k + i. -/
  srcs : SMap IntSrc := []
  tgts : SMap TgtState := []
  /-- Groups whose hold-off runs (R356). -/
  holdOff : List Nat := []
  lines : SMap LineState := []
  /-- Events raised by the command that runs, not yet taken by the collector; empty between commands. -/
  faults : List FaultEvent := []
  /-- Lines that became or stayed sticky in UPDATE, with their levels: the journal carries them over the restart (R26). -/
  carried : SMap Nat := []
  /-- Indices of configuration words that fail their parity check (R383). -/
  parityBad : List Nat := []
  resets : List ResetJob := []
  /-- The management cores have stalled and have not been restarted since (R22). -/
  stalled : Bool := false
  ports : SMap PortState := []
  blocks : List Block := []
  /-- Objects in use and forwards, by a number that grows. -/
  jobs : SMap Job := []
  pushes : SMap PushJob := []
  /-- The next number of `jobs` and `pushes`, and of eligibilities. -/
  nextUid : Nat := 1
  chans : SMap ChanState := []
  /-- The channel that was granted the link of a partner port last (R288). -/
  granted : SMap Nat := []
  /-- The cluster of a running UNFENCE (R385). -/
  unfencing : Option Nat := none
  /-- Update counts of the dedicated buffers by 1024 c + b (R231). -/
  bufCount : SMap Nat := []
  rt : Raster := {}
  /-- The moments before this one, newest first (the model's own record, bounded): rows that give a SOF count back in it. -/
  moments : List Moment := []
  /-- Next occurrences of the armed ephemeris entries, (frame, line, subline), by 1024 c + i (R324); `fresh`: a ONCE entry
  that was already past when it was armed. -/
  armed : SMap (Nat × Nat × Nat) := []
  /-- Words known uncorrectable and remembered, 32 B store words and 8 B table words by BAR2 offset (R392). -/
  ueWords : List Nat := []
  /-- Words of received data that R243 leaves in place: they read poisoned. -/
  poison : List Nat := []
  /-- Words queued for write-back (R391). -/
  wbq : List Nat := []
  /-- What CL_POOL_MIN of CLc (key c), CL_TXPOOL_MIN (key 8 + c) and CRP_THERM.TJ_MAX (key 16) follow, where a read has cleared
  the register and no new value has been recorded in it since: the value at that read (R8, R244, R275, R427). -/
  sinceRead : SMap Nat := []
  /-- Frame boundaries of the time base, and 20 ms steps of core time while it is FREE, since CONFIGURE (R371). -/
  frameTicks : Nat := 0
  /-- The loader holds FAULT_N low: verification failed or an activation cannot be resumed (R380). -/
  loaderFault : Bool := false
  /-- Snapshots that SNAPSHOT actions and SNAP_NOW have asked for and that are not taken yet (R329, R394, R401). -/
  telExtra : Nat := 0
  /-- The loader restored the code region since the device last entered CONFIGURE from LOADER (R464). -/
  restored : Bool := false
  /-- Telemetry counters by snapshot offset (R395). -/
  tel : SMap Nat := []
  /-- Core time in microseconds, as far as the rows that the core clock times have advanced it. -/
  coreUs : Nat := 0
  /-- Check-value units whose scan has a read that failed, with that read's address (R474). -/
  scanFail : SMap Nat := []
  /-- The snapshot that is being written (R394). -/
  snap : Option Snapshot := none
  /-- SEQ of the next snapshot to be sampled (R394, R396). -/
  telNext : Nat := 0
  chip : Chip := {}
  fuses : Fuses := {}
  tap : Tap := {}
  /-- MRAM bytes (R431); what an unlisted byte reads as is `mramDefault`. -/
  mram : SMap Nat := []
  /-- MRAM words, by address, that are known uncorrectable (R434, R447). -/
  mramBad : List Nat := []
  load : Option SetLoad := none
  /-- The settings image that SET_SAVE is writing (R450). -/
  saving : List Byte := []
  /-- Digest words of the running manifest as computed at boot, and the settings generation applied then (R456). -/
  runDigest : List Nat := []
  bootGen : Nat := 0
  out : List Out := []
  deriving DecidableEq, Repr

/-- The machine right after reset: VDDAON has risen, and the device is held in its power-on reset until RESET_RELEASE (R405,
R406). Registers and tables stand at their reset values; the store, the object tables and the ring space hold no defined
contents (R24, R30, R248); AON_RST_CAUSE reads POWER_ON by its reset value (R429). -/
def State.reset : State :=
  { undef := [(0, 0x4000000, 0), (0x4100000, 0x200000, 0), (0x4C00000, 0x400000, 0)], freeCtr := 1 }

end Sys2Proof.Machine
end

