-- ==== Sys2Proof/Machine/Maps.lean ====
section
/-!
DEFINITION. Sparse maps from numbers to values: reading, writing and removing one key of a list with rising keys, and the
canonical form. The laws (a read after a write, the form is kept) are in Sys2Proof/Laws/Maps.lean.
-/
set_option Elab.async false

namespace Sys2Proof.Machine

variable {α : Type}

/-- The value listed at `k`. -/
def mapGet? : SMap α → Nat → Option α
  | [], _ => none
  | (j, v) :: t, k => if j = k then some v else mapGet? t k

/-- The value at `k`, `d` where none is listed. -/
def mapGet (d : α) (m : SMap α) (k : Nat) : α := (mapGet? m k).getD d

/-- List `v` at `k`, in its place. -/
def mapPut : SMap α → Nat → α → SMap α
  | [], k, v => [(k, v)]
  | (j, w) :: t, k, v =>
    if k < j then (k, v) :: (j, w) :: t
    else if j = k then (k, v) :: t
    else (j, w) :: mapPut t k v

/-- Take `k` off the list. -/
def mapDel (m : SMap α) (k : Nat) : SMap α := m.filter fun e => e.1 != k

/-- Write `v` at `k` of a map whose unlisted keys read `d`: writing `d` itself takes the key off the list. -/
def mapSet [DecidableEq α] (d : α) (m : SMap α) (k : Nat) (v : α) : SMap α :=
  if v = d then mapDel m k else mapPut m k v

/-- Change the value at `k` by `f`. -/
def mapMod [DecidableEq α] (d : α) (m : SMap α) (k : Nat) (f : α → α) : SMap α :=
  mapSet d m k (f (mapGet d m k))

/-- The keys rise strictly. -/
def mapRising : SMap α → Bool
  | [] => true
  | [_] => true
  | (j, _) :: (k, w) :: t => decide (j < k) && mapRising ((k, w) :: t)

/-- No listed value equals what an unlisted key reads as (`d` may depend on the key). -/
def mapClean [DecidableEq α] (d : Nat → α) (m : SMap α) : Bool := m.all fun e => decide (e.2 ≠ d e.1)

end Sys2Proof.Machine
end

