-- ==== Sys2Proof/Machine/Regs.lean ====
section
/-!
DEFINITION. The registers of BAR0 (R36, R45, R61, R64 and the register tables of the chapters; whole-word resets R524-R543),
field by field: where each field stands in its page, its width, its access type (R8) and its reset value, in the order of
the chapters' tables. A field that a table gives for an array of registers carries the array's stride and length; where
its reset value depends on the index, `rst` lists it. The text was made by a script from the tables of spec/.
-/
set_option Elab.async false

namespace Sys2Proof.Machine

/-- Access types of register fields (R8). -/
inductive Access
  | rw | ro | w1c | w1s | wo | rc | rwc
  deriving DecidableEq, Repr

/-- One field of a register: byte offset in its page, lowest bit, width, access type, reset values by index, and the
stride in bytes and length of the array of registers it belongs to. -/
structure Field where
  off : Nat
  lo : Nat
  w : Nat
  ty : Access
  rst : List Nat
  stride : Nat := 0
  cnt : Nat := 1
  deriving DecidableEq, Repr

/-- The reset value of index `i` of a field. -/
def Field.rstAt (f : Field) (i : Nat) : Nat := f.rst.getD i (f.rst.headD 0)

/-- PAGE_ID.VERSION [7:0] (R45). -/
def PAGE_ID_VERSION : Field := ⟨0x000, 0, 8, .ro, [1], 0, 1⟩
/-- PAGE_ID.INSTANCE [23:12] (R45). -/
def PAGE_ID_INSTANCE : Field := ⟨0x000, 12, 12, .ro, [0], 0, 1⟩
/-- PAGE_ID.TYPE [31:24] (R45). -/
def PAGE_ID_TYPE : Field := ⟨0x000, 24, 8, .ro, [0], 0, 1⟩
/-- PAGE_STAT.BUSY [0:0] (R45). -/
def PAGE_STAT_BUSY : Field := ⟨0x004, 0, 1, .ro, [0], 0, 1⟩
/-- PAGE_STAT.ERR [1:1] (R45). -/
def PAGE_STAT_ERR : Field := ⟨0x004, 1, 1, .w1c, [0], 0, 1⟩
/-- PAGE_STAT.OWNER [3:2] (R45). -/
def PAGE_STAT_OWNER : Field := ⟨0x004, 2, 2, .ro, [0], 0, 1⟩
/-- PAGE_STAT.REFCAUSE [7:4] (R45). -/
def PAGE_STAT_REFCAUSE : Field := ⟨0x004, 4, 4, .ro, [0], 0, 1⟩
/-- PAGE_STAT.REFUSALS [31:16] (R45). -/
def PAGE_STAT_REFUSALS : Field := ⟨0x004, 16, 16, .ro, [0], 0, 1⟩
/-- PAGE_CMD.CODE [7:0] (R45). -/
def PAGE_CMD_CODE : Field := ⟨0x008, 0, 8, .wo, [0], 0, 1⟩
/-- PAGE_ARG0.ARG0 [31:0] (R45). -/
def PAGE_ARG0_ARG0 : Field := ⟨0x00c, 0, 32, .rw, [0], 0, 1⟩
/-- PAGE_ARG1.ARG1 [31:0] (R45). -/
def PAGE_ARG1_ARG1 : Field := ⟨0x010, 0, 32, .rw, [0], 0, 1⟩
/-- PAGE_RESULT.STATUS [7:0] (R45). -/
def PAGE_RESULT_STATUS : Field := ⟨0x014, 0, 8, .ro, [0], 0, 1⟩
/-- PAGE_RESULT.CODE [15:8] (R45). -/
def PAGE_RESULT_CODE : Field := ⟨0x014, 8, 8, .ro, [0], 0, 1⟩
/-- PAGE_RESULT.DETAIL [31:16] (R45). -/
def PAGE_RESULT_DETAIL : Field := ⟨0x014, 16, 16, .ro, [0], 0, 1⟩
/-- PAGE_FENCE.VALUE [31:0] (R45). -/
def PAGE_FENCE_VALUE : Field := ⟨0x018, 0, 32, .rw, [0], 0, 1⟩
/-- PAGE_ERRSRC.SRC [15:0] (R45). -/
def PAGE_ERRSRC_SRC : Field := ⟨0x01c, 0, 16, .w1c, [0], 0, 1⟩
/-- PAGE_IRQ_PEND.PEND [15:0] (R45). -/
def PAGE_IRQ_PEND_PEND : Field := ⟨0x020, 0, 16, .w1c, [0], 0, 1⟩
/-- PAGE_IRQ_EN.EN [15:0] (R45). -/
def PAGE_IRQ_EN_EN : Field := ⟨0x024, 0, 16, .rw, [0], 0, 1⟩
/-- DEV_ID.PART [15:0] (R61). -/
def DEV_ID_PART : Field := ⟨0x040, 0, 16, .ro, [296], 0, 1⟩
/-- DEV_ID.STEPPING [23:16] (R61). -/
def DEV_ID_STEPPING : Field := ⟨0x040, 16, 8, .ro, [176], 0, 1⟩
/-- DEV_FW.BUILD [15:0] (R61). -/
def DEV_FW_BUILD : Field := ⟨0x044, 0, 16, .ro, [0], 0, 1⟩
/-- DEV_FW.MINOR [23:16] (R61). -/
def DEV_FW_MINOR : Field := ⟨0x044, 16, 8, .ro, [0], 0, 1⟩
/-- DEV_FW.MAJOR [31:24] (R61). -/
def DEV_FW_MAJOR : Field := ⟨0x044, 24, 8, .ro, [0], 0, 1⟩
/-- DEV_MODE.MODE [3:0] (R61). -/
def DEV_MODE_MODE : Field := ⟨0x048, 0, 4, .ro, [1], 0, 1⟩
/-- DEV_MODE.PREV [7:4] (R61). -/
def DEV_MODE_PREV : Field := ⟨0x048, 4, 4, .ro, [1], 0, 1⟩
/-- DEV_MODE.MOVING [8:8] (R61). -/
def DEV_MODE_MOVING : Field := ⟨0x048, 8, 1, .ro, [0], 0, 1⟩
/-- DEV_CLUSTERS.FENCED [7:0] (R61). -/
def DEV_CLUSTERS_FENCED : Field := ⟨0x04c, 0, 8, .ro, [0], 0, 1⟩
/-- DEV_FENCE_SYNC.COUNT [31:0] (R61). -/
def DEV_FENCE_SYNC_COUNT : Field := ⟨0x050, 0, 32, .ro, [0], 0, 1⟩
/-- DEV_PARTNERS.PRIMARY [1:0] (R61). -/
def DEV_PARTNERS_PRIMARY : Field := ⟨0x054, 0, 2, .ro, [0], 0, 1⟩
/-- DEV_PARTNERS.LINK_UP [7:4] (R61). -/
def DEV_PARTNERS_LINK_UP : Field := ⟨0x054, 4, 4, .ro, [0], 0, 1⟩
/-- DEV_PARTNERS.BME [11:8] (R61). -/
def DEV_PARTNERS_BME : Field := ⟨0x054, 8, 4, .ro, [0], 0, 1⟩
/-- PP_LINK.SPEED [2:0] (R64). -/
def PP_LINK_SPEED : Field := ⟨0x040, 0, 3, .ro, [0], 0, 1⟩
/-- PP_LINK.FLIT [3:3] (R64). -/
def PP_LINK_FLIT : Field := ⟨0x040, 3, 1, .ro, [0], 0, 1⟩
/-- PP_LINK.WIDTH [7:4] (R64). -/
def PP_LINK_WIDTH : Field := ⟨0x040, 4, 4, .ro, [0], 0, 1⟩
/-- PP_LINK.L0P_WIDTH [11:8] (R64). -/
def PP_LINK_L0P_WIDTH : Field := ⟨0x040, 8, 4, .ro, [0], 0, 1⟩
/-- PP_LINK.PM [13:12] (R64). -/
def PP_LINK_PM : Field := ⟨0x040, 12, 2, .ro, [0], 0, 1⟩
/-- PP_PANIC.STATE [0:0] (R64). -/
def PP_PANIC_STATE : Field := ⟨0x044, 0, 1, .ro, [0], 0, 1⟩
/-- PP_PANIC.FORCE [1:1] (R64). -/
def PP_PANIC_FORCE : Field := ⟨0x044, 1, 1, .rw, [0], 0, 1⟩
/-- PP_PANIC.MASK [2:2] (R64). -/
def PP_PANIC_MASK : Field := ⟨0x044, 2, 1, .rw, [0], 0, 1⟩
/-- PP_PANIC_CNT.COUNT [31:0] (R64). -/
def PP_PANIC_CNT_COUNT : Field := ⟨0x048, 0, 32, .rc, [0], 0, 1⟩
/-- PP_PANIC_TIME.MICROS [31:0] (R64). -/
def PP_PANIC_TIME_MICROS : Field := ⟨0x04c, 0, 32, .rc, [0], 0, 1⟩
/-- PP_WAKE.STATE [0:0] (R64). -/
def PP_WAKE_STATE : Field := ⟨0x050, 0, 1, .ro, [0], 0, 1⟩
/-- PP_WAKE.FORCE [1:1] (R64). -/
def PP_WAKE_FORCE : Field := ⟨0x050, 1, 1, .rw, [0], 0, 1⟩
/-- PP_ERR_UR.COUNT [31:0] (R64). -/
def PP_ERR_UR_COUNT : Field := ⟨0x054, 0, 32, .rc, [0], 0, 1⟩
/-- PP_ERR_POISON.COUNT [31:0] (R64). -/
def PP_ERR_POISON_COUNT : Field := ⟨0x058, 0, 32, .rc, [0], 0, 1⟩
/-- PP_ERR_CTO.COUNT [31:0] (R64). -/
def PP_ERR_CTO_COUNT : Field := ⟨0x05c, 0, 32, .rc, [0], 0, 1⟩
/-- PP_UR_ADDR_LO.ADDR [31:0] (R64). -/
def PP_UR_ADDR_LO_ADDR : Field := ⟨0x060, 0, 32, .ro, [0], 0, 1⟩
/-- PP_UR_ADDR_HI.ADDR [31:0] (R64). -/
def PP_UR_ADDR_HI_ADDR : Field := ⟨0x064, 0, 32, .ro, [0], 0, 1⟩
/-- PORT_ABT.PRESC [4:0] (R106). -/
def PORT_ABT_PRESC : Field := ⟨0x040, 0, 5, .rw, [0], 0, 1⟩
/-- PORT_ABT.PH1 [14:8] (R106). -/
def PORT_ABT_PH1 : Field := ⟨0x040, 8, 7, .rw, [126], 0, 1⟩
/-- PORT_ABT.PH2 [21:16] (R106). -/
def PORT_ABT_PH2 : Field := ⟨0x040, 16, 6, .rw, [31], 0, 1⟩
/-- PORT_ABT.SJW [29:24] (R106). -/
def PORT_ABT_SJW : Field := ⟨0x040, 24, 6, .rw, [31], 0, 1⟩
/-- PORT_ABT_ACT.VALUE [31:0] (R106). -/
def PORT_ABT_ACT_VALUE : Field := ⟨0x044, 0, 32, .ro, [522157568], 0, 1⟩
/-- PORT_BITLEN.NQ [10:0] (R106). -/
def PORT_BITLEN_NQ : Field := ⟨0x048, 0, 11, .ro, [160], 0, 1⟩
/-- PORT_SND.SND [5:0] (R106). -/
def PORT_SND_SND : Field := ⟨0x04c, 0, 6, .rwc, [0], 0, 1⟩
/-- PORT_ECL.CEIL [10:0] (R138). -/
def PORT_ECL_CEIL : Field := ⟨0x0c0, 0, 11, .rwc, [0], 0, 1⟩
/-- PORT_ECL.ENFORCE [16:16] (R138). -/
def PORT_ECL_ENFORCE : Field := ⟨0x0c0, 16, 1, .rwc, [0], 0, 1⟩
/-- PORT_ECL.SW_OPEN [24:24] (R138). -/
def PORT_ECL_SW_OPEN : Field := ⟨0x0c0, 24, 1, .rw, [0], 0, 1⟩
/-- PORT_ECL.EPH_OPEN [25:25] (R138). -/
def PORT_ECL_EPH_OPEN : Field := ⟨0x0c0, 25, 1, .ro, [0], 0, 1⟩
/-- PORT_ECL.OPEN [26:26] (R138). -/
def PORT_ECL_OPEN : Field := ⟨0x0c0, 26, 1, .ro, [0], 0, 1⟩
/-- PORT_ARB_LOST.COUNT [31:0] (R138). -/
def PORT_ARB_LOST_COUNT : Field := ⟨0x0c4, 0, 32, .rc, [0], 0, 1⟩
/-- PORT_NU_WON.COUNT [31:0] (R138). -/
def PORT_NU_WON_COUNT : Field := ⟨0x0c8, 0, 32, .rc, [0], 0, 1⟩
/-- PORT_NU_VOID.COUNT [31:0] (R138). -/
def PORT_NU_VOID_COUNT : Field := ⟨0x0cc, 0, 32, .rc, [0], 0, 1⟩
/-- PORT_IDSHARE_CNT.COUNT [31:0] (R138). -/
def PORT_IDSHARE_CNT_COUNT : Field := ⟨0x0d0, 0, 32, .rc, [0], 0, 1⟩
/-- PORT_IDSHARE_ID.ID [28:0] (R138). -/
def PORT_IDSHARE_ID_ID : Field := ⟨0x0d4, 0, 29, .ro, [0], 0, 1⟩
/-- PORT_IDSHARE_ID.LONG [29:29] (R138). -/
def PORT_IDSHARE_ID_LONG : Field := ⟨0x0d4, 29, 1, .ro, [0], 0, 1⟩
/-- PORT_IDSHARE_ID.CASE [30:30] (R138). -/
def PORT_IDSHARE_ID_CASE : Field := ⟨0x0d4, 30, 1, .ro, [0], 0, 1⟩
/-- PORT_IDSHARE_SND.FIRST [5:0] (R138). -/
def PORT_IDSHARE_SND_FIRST : Field := ⟨0x0d8, 0, 6, .ro, [0], 0, 1⟩
/-- PORT_IDSHARE_SND.SECOND [13:8] (R138). -/
def PORT_IDSHARE_SND_SECOND : Field := ⟨0x0d8, 8, 6, .ro, [0], 0, 1⟩
/-- PORT_SNDCLASH.COUNT [31:0] (R138). -/
def PORT_SNDCLASH_COUNT : Field := ⟨0x0dc, 0, 32, .rc, [0], 0, 1⟩
/-- PORT_ECL_VIOL.COUNT [31:0] (R138). -/
def PORT_ECL_VIOL_COUNT : Field := ⟨0x0e0, 0, 32, .rc, [0], 0, 1⟩
/-- PORT_MODE.MODE [3:0] (R168). -/
def PORT_MODE_MODE : Field := ⟨0x050, 0, 4, .ro, [0], 0, 1⟩
/-- PORT_MODE.CFG [7:4] (R168). -/
def PORT_MODE_CFG : Field := ⟨0x050, 4, 4, .rwc, [0], 0, 1⟩
/-- PORT_MODE.MOVING [8:8] (R168). -/
def PORT_MODE_MOVING : Field := ⟨0x050, 8, 1, .ro, [0], 0, 1⟩
/-- PORT_MODE.PREV [15:12] (R168). -/
def PORT_MODE_PREV : Field := ⟨0x050, 12, 4, .ro, [0], 0, 1⟩
/-- PORT_ECNT.TEC [8:0] (R168). -/
def PORT_ECNT_TEC : Field := ⟨0x054, 0, 9, .ro, [0], 0, 1⟩
/-- PORT_ECNT.REC [24:16] (R168). -/
def PORT_ECNT_REC : Field := ⟨0x054, 16, 9, .ro, [0], 0, 1⟩
/-- PORT_ESTATE.STATE [2:0] (R168). -/
def PORT_ESTATE_STATE : Field := ⟨0x058, 0, 3, .ro, [0], 0, 1⟩
/-- PORT_ESTATE.WARN [3:3] (R168). -/
def PORT_ESTATE_WARN : Field := ⟨0x058, 3, 1, .ro, [0], 0, 1⟩
/-- PORT_ESTATE.ALONE [4:4] (R168). -/
def PORT_ESTATE_ALONE : Field := ⟨0x058, 4, 1, .ro, [0], 0, 1⟩
/-- PORT_ESTATE.ACKRUN [12:8] (R168). -/
def PORT_ESTATE_ACKRUN : Field := ⟨0x058, 8, 5, .ro, [0], 0, 1⟩
/-- PORT_ESTATE.LEC [19:16] (R168). -/
def PORT_ESTATE_LEC : Field := ⟨0x058, 16, 4, .ro, [0], 0, 1⟩
/-- PORT_ERRCFG.AUTO [0:0] (R168). -/
def PORT_ERRCFG_AUTO : Field := ⟨0x05c, 0, 1, .rw, [0], 0, 1⟩
/-- PORT_ERRCFG.QUICK [1:1] (R168). -/
def PORT_ERRCFG_QUICK : Field := ⟨0x05c, 1, 1, .rw, [0], 0, 1⟩
/-- PORT_RECOV.SEQ [7:0] (R168). -/
def PORT_RECOV_SEQ : Field := ⟨0x060, 0, 8, .ro, [0], 0, 1⟩
/-- PORT_CNT_BIT.COUNT [31:0] (R168). -/
def PORT_CNT_BIT_COUNT : Field := ⟨0x064, 0, 32, .rc, [0], 0, 1⟩
/-- PORT_CNT_STUFF.COUNT [31:0] (R168). -/
def PORT_CNT_STUFF_COUNT : Field := ⟨0x068, 0, 32, .rc, [0], 0, 1⟩
/-- PORT_CNT_FORM.COUNT [31:0] (R168). -/
def PORT_CNT_FORM_COUNT : Field := ⟨0x06c, 0, 32, .rc, [0], 0, 1⟩
/-- PORT_CNT_ACK.COUNT [31:0] (R168). -/
def PORT_CNT_ACK_COUNT : Field := ⟨0x070, 0, 32, .rc, [0], 0, 1⟩
/-- PORT_CNT_HCRC.COUNT [31:0] (R168). -/
def PORT_CNT_HCRC_COUNT : Field := ⟨0x074, 0, 32, .rc, [0], 0, 1⟩
/-- PORT_CNT_LCRC.COUNT [31:0] (R168). -/
def PORT_CNT_LCRC_COUNT : Field := ⟨0x078, 0, 32, .rc, [0], 0, 1⟩
/-- PORT_CNT_TAIL.COUNT [31:0] (R168). -/
def PORT_CNT_TAIL_COUNT : Field := ⟨0x07c, 0, 32, .rc, [0], 0, 1⟩
/-- PORT_CNT_OVLD.COUNT [31:0] (R168). -/
def PORT_CNT_OVLD_COUNT : Field := ⟨0x080, 0, 32, .rc, [0], 0, 1⟩
/-- PORT_CNT_BUSOFF.COUNT [31:0] (R168). -/
def PORT_CNT_BUSOFF_COUNT : Field := ⟨0x084, 0, 32, .rc, [0], 0, 1⟩
/-- PORT_LISTEN.RATE [2:0] (R168). -/
def PORT_LISTEN_RATE : Field := ⟨0x088, 0, 3, .ro, [0], 0, 1⟩
/-- PORT_LISTEN.RESULT [5:4] (R168). -/
def PORT_LISTEN_RESULT : Field := ⟨0x088, 4, 2, .ro, [0], 0, 1⟩
/-- PORT_LISTEN.RESTARTS [11:8] (R168). -/
def PORT_LISTEN_RESTARTS : Field := ⟨0x088, 8, 4, .ro, [0], 0, 1⟩
/-- PORT_LISTEN.TIMEOUT [23:16] (R168). -/
def PORT_LISTEN_TIMEOUT : Field := ⟨0x088, 16, 8, .rw, [100], 0, 1⟩
/-- PORT_WAKE_CFG.EDGE [0:0] (R168). -/
def PORT_WAKE_CFG_EDGE : Field := ⟨0x090, 0, 1, .rw, [0], 0, 1⟩
/-- PORT_WAKE_CFG.FORCED [1:1] (R168). -/
def PORT_WAKE_CFG_FORCED : Field := ⟨0x090, 1, 1, .ro, [0], 0, 1⟩
/-- PORT_WAKE_CFG.AFTER [7:4] (R168). -/
def PORT_WAKE_CFG_AFTER : Field := ⟨0x090, 4, 4, .rw, [1], 0, 1⟩
/-- PORT_WAKE_ID.ID [28:0] (R168). -/
def PORT_WAKE_ID_ID : Field := ⟨0x094, 0, 29, .rw, [0], 0, 1⟩
/-- PORT_WAKE_ID.XID [29:29] (R168). -/
def PORT_WAKE_ID_XID : Field := ⟨0x094, 29, 1, .rw, [0], 0, 1⟩
/-- PORT_WAKE_IDMASK.MASK [28:0] (R168). -/
def PORT_WAKE_IDMASK_MASK : Field := ⟨0x098, 0, 29, .rw, [0], 0, 1⟩
/-- PORT_WAKE_IDMASK.XMASK [29:29] (R168). -/
def PORT_WAKE_IDMASK_XMASK : Field := ⟨0x098, 29, 1, .rw, [0], 0, 1⟩
/-- PORT_WAKE_DATA0.PATTERN [31:0] (R168). -/
def PORT_WAKE_DATA0_PATTERN : Field := ⟨0x09c, 0, 32, .rw, [0], 0, 1⟩
/-- PORT_WAKE_DATA1.PATTERN [31:0] (R168). -/
def PORT_WAKE_DATA1_PATTERN : Field := ⟨0x0a0, 0, 32, .rw, [0], 0, 1⟩
/-- PORT_WAKE_DMASK0.MASK [31:0] (R168). -/
def PORT_WAKE_DMASK0_MASK : Field := ⟨0x0a4, 0, 32, .rw, [0], 0, 1⟩
/-- PORT_WAKE_DMASK1.MASK [31:0] (R168). -/
def PORT_WAKE_DMASK1_MASK : Field := ⟨0x0a8, 0, 32, .rw, [0], 0, 1⟩
/-- PORT_WAKE_SEEN.ID [28:0] (R168). -/
def PORT_WAKE_SEEN_ID : Field := ⟨0x0ac, 0, 29, .ro, [0], 0, 1⟩
/-- PORT_WAKE_SEEN.LONG [29:29] (R168). -/
def PORT_WAKE_SEEN_LONG : Field := ⟨0x0ac, 29, 1, .ro, [0], 0, 1⟩
/-- PORT_WAKE_SEEN.EDGE [30:30] (R168). -/
def PORT_WAKE_SEEN_EDGE : Field := ⟨0x0ac, 30, 1, .ro, [0], 0, 1⟩
/-- PORT_WAKE_SEEN.VALID [31:31] (R168). -/
def PORT_WAKE_SEEN_VALID : Field := ⟨0x0ac, 31, 1, .ro, [0], 0, 1⟩
/-- PHY_TERM.MODE [1:0] (R205). -/
def PHY_TERM_MODE : Field := ⟨0x040, 0, 2, .rwc, [0], 0, 1⟩
/-- PHY_TERM.CODE [14:8] (R205). -/
def PHY_TERM_CODE : Field := ⟨0x040, 8, 7, .ro, [50], 0, 1⟩
/-- PHY_TERM.TRIMMED [16:16] (R205). -/
def PHY_TERM_TRIMMED : Field := ⟨0x040, 16, 1, .ro, [0], 0, 1⟩
/-- PHY_TERM.LIMIT [17:17] (R205). -/
def PHY_TERM_LIMIT : Field := ⟨0x040, 17, 1, .ro, [0], 0, 1⟩
/-- PHY_RUNG.CEIL [1:0] (R205). -/
def PHY_RUNG_CEIL : Field := ⟨0x044, 0, 2, .ro, [0], 0, 1⟩
/-- PHY_RUNG.RX_EN [7:4] (R205). -/
def PHY_RUNG_RX_EN : Field := ⟨0x044, 4, 4, .ro, [1], 0, 1⟩
/-- PHY_RUNG.PENDING [8:8] (R205). -/
def PHY_RUNG_PENDING : Field := ⟨0x044, 8, 1, .ro, [0], 0, 1⟩
/-- PHY_ABAND.SLEW [1:0] (R205). -/
def PHY_ABAND_SLEW : Field := ⟨0x048, 0, 2, .rw, [0], 0, 1⟩
/-- PHY_TXEQ[4].PRE [3:0] (R205). -/
def PHY_TXEQ_PRE : Field := ⟨0x04c, 0, 4, .rw, [0, 0, 2, 4], 4, 4⟩
/-- PHY_TXEQ[4].POST [11:8] (R205). -/
def PHY_TXEQ_POST : Field := ⟨0x04c, 8, 4, .rw, [2, 4, 6, 9], 4, 4⟩
/-- PHY_TXEQ[4].AMP [18:16] (R205). -/
def PHY_TXEQ_AMP : Field := ⟨0x04c, 16, 3, .rw, [4], 4, 4⟩
/-- PHY_REFINE.EN [0:0] (R205). -/
def PHY_REFINE_EN : Field := ⟨0x05c, 0, 1, .rw, [1], 0, 1⟩
/-- PHY_REFINE.RUNNING [1:1] (R205). -/
def PHY_REFINE_RUNNING : Field := ⟨0x05c, 1, 1, .ro, [0], 0, 1⟩
/-- PHY_REFINE.FOLDS [31:16] (R205). -/
def PHY_REFINE_FOLDS : Field := ⟨0x05c, 16, 16, .ro, [0], 0, 1⟩
/-- PHY_CAL.DONE [0:0] (R205). -/
def PHY_CAL_DONE : Field := ⟨0x060, 0, 1, .ro, [0], 0, 1⟩
/-- PHY_CAL.RUNNING [1:1] (R205). -/
def PHY_CAL_RUNNING : Field := ⟨0x060, 1, 1, .ro, [0], 0, 1⟩
/-- PHY_CAL.TEMP [15:8] (R205). -/
def PHY_CAL_TEMP : Field := ⟨0x060, 8, 8, .ro, [0], 0, 1⟩
/-- PHY_CAL.PERIODIC [31:16] (R205). -/
def PHY_CAL_PERIODIC : Field := ⟨0x060, 16, 16, .ro, [0], 0, 1⟩
/-- PHY_DSTAT.ACTIVE [0:0] (R205). -/
def PHY_DSTAT_ACTIVE : Field := ⟨0x064, 0, 1, .ro, [0], 0, 1⟩
/-- PHY_DSTAT.LOCKED [1:1] (R205). -/
def PHY_DSTAT_LOCKED : Field := ⟨0x064, 1, 1, .ro, [0], 0, 1⟩
/-- PHY_CNT_COLD.COUNT [31:0] (R205). -/
def PHY_CNT_COLD_COUNT : Field := ⟨0x068, 0, 32, .rc, [0], 0, 1⟩
/-- PHY_CNT_LOCKLOSS.COUNT [31:0] (R205). -/
def PHY_CNT_LOCKLOSS_COUNT : Field := ⟨0x06c, 0, 32, .rc, [0], 0, 1⟩
/-- PHY_CNT_SURGE.COUNT [31:0] (R205). -/
def PHY_CNT_SURGE_COUNT : Field := ⟨0x070, 0, 32, .rc, [0], 0, 1⟩
/-- PHY_EYE_PROG.POINTS [12:0] (R205). -/
def PHY_EYE_PROG_POINTS : Field := ⟨0x074, 0, 13, .ro, [0], 0, 1⟩
/-- PHY_LT_VALID.COUNT [8:0] (R205). -/
def PHY_LT_VALID_COUNT : Field := ⟨0x078, 0, 9, .ro, [0], 0, 1⟩
/-- CL_RXPOOL.BASE [6:0] (R244). -/
def CL_RXPOOL_BASE : Field := ⟨0x040, 0, 7, .rwc, [0], 0, 1⟩
/-- CL_RXPOOL.SIZE [15:8] (R244). -/
def CL_RXPOOL_SIZE : Field := ⟨0x040, 8, 8, .rwc, [0], 0, 1⟩
/-- CL_RXPOOL.ESS [23:16] (R244). -/
def CL_RXPOOL_ESS : Field := ⟨0x040, 16, 8, .rwc, [0], 0, 1⟩
/-- CL_BUFAREA.EN [0:0] (R244). -/
def CL_BUFAREA_EN : Field := ⟨0x044, 0, 1, .rwc, [0], 0, 1⟩
/-- CL_RXCFG.LOSS_TGT [3:0] (R244). -/
def CL_RXCFG_LOSS_TGT : Field := ⟨0x048, 0, 4, .rwc, [0], 0, 1⟩
/-- CL_RXCFG.RING_KEEP [15:8] (R244). -/
def CL_RXCFG_RING_KEEP : Field := ⟨0x048, 8, 8, .rwc, [0], 0, 1⟩
/-- CL_POOL_FREE.COMMON [15:0] (R244). -/
def CL_POOL_FREE_COMMON : Field := ⟨0x04c, 0, 16, .ro, [0], 0, 1⟩
/-- CL_POOL_FREE.ESS [31:16] (R244). -/
def CL_POOL_FREE_ESS : Field := ⟨0x04c, 16, 16, .ro, [0], 0, 1⟩
/-- CL_POOL_MIN.COMMON [15:0] (R244). -/
def CL_POOL_MIN_COMMON : Field := ⟨0x050, 0, 16, .rc, [0], 0, 1⟩
/-- CL_POOL_BIG.COMMON_K [3:0] (R244). -/
def CL_POOL_BIG_COMMON_K : Field := ⟨0x054, 0, 4, .ro, [15], 0, 1⟩
/-- CL_POOL_BIG.ESS_K [7:4] (R244). -/
def CL_POOL_BIG_ESS_K : Field := ⟨0x054, 4, 4, .ro, [15], 0, 1⟩
/-- CL_RX_HELD.BLOCKS [15:0] (R244). -/
def CL_RX_HELD_BLOCKS : Field := ⟨0x058, 0, 16, .ro, [0], 0, 1⟩
/-- CL_BUF_OVW.COUNT [31:0] (R244). -/
def CL_BUF_OVW_COUNT : Field := ⟨0x05c, 0, 32, .rc, [0], 0, 1⟩
/-- CL_LOSS_CNT.COUNT [31:0] (R244). -/
def CL_LOSS_CNT_COUNT : Field := ⟨0x060, 0, 32, .rc, [0], 0, 1⟩
/-- CL_BUF_NEW[32].NEW [31:0] (R244). -/
def CL_BUF_NEW_NEW : Field := ⟨0x080, 0, 32, .w1c, [0], 4, 32⟩
/-- RXF_CFG[64].EN [0:0] (R244). -/
def RXF_CFG_EN : Field := ⟨0x100, 0, 1, .rwc, [0], 32, 64⟩
/-- RXF_CFG[64].LOG2 [4:1] (R244). -/
def RXF_CFG_LOG2 : Field := ⟨0x100, 1, 4, .rwc, [0], 32, 64⟩
/-- RXF_CFG[64].BASE [20:8] (R244). -/
def RXF_CFG_BASE : Field := ⟨0x100, 8, 13, .rwc, [0], 32, 64⟩
/-- RXF_CFG[64].TGT [27:24] (R244). -/
def RXF_CFG_TGT : Field := ⟨0x100, 24, 4, .rwc, [0], 32, 64⟩
/-- RXF_KEEP[64].KEEP [13:0] (R244). -/
def RXF_KEEP_KEEP : Field := ⟨0x104, 0, 14, .rwc, [0], 32, 64⟩
/-- RXF_PUT[64].PUT [15:0] (R244). -/
def RXF_PUT_PUT : Field := ⟨0x108, 0, 16, .ro, [0], 32, 64⟩
/-- RXF_GET[64].GET [15:0] (R244). -/
def RXF_GET_GET : Field := ⟨0x10c, 0, 16, .rw, [0], 32, 64⟩
/-- RXF_SEQ[64].SEQ [31:0] (R244). -/
def RXF_SEQ_SEQ : Field := ⟨0x110, 0, 32, .ro, [0], 32, 64⟩
/-- RXF_OVR[64].COUNT [31:0] (R244). -/
def RXF_OVR_COUNT : Field := ⟨0x114, 0, 32, .rc, [0], 32, 64⟩
/-- RXF_RSV[64].SLOTS [13:0] (R244). -/
def RXF_RSV_SLOTS : Field := ⟨0x118, 0, 14, .ro, [0], 32, 64⟩
/-- PORT_FLT_LIST.FIRST [10:0] (R246). -/
def PORT_FLT_LIST_FIRST : Field := ⟨0x100, 0, 11, .ro, [0], 0, 1⟩
/-- PORT_FLT_LIST.COUNT [23:12] (R246). -/
def PORT_FLT_LIST_COUNT : Field := ⟨0x100, 12, 12, .ro, [0], 0, 1⟩
/-- PORT_FLT_STAGE.FIRST [10:0] (R246). -/
def PORT_FLT_STAGE_FIRST : Field := ⟨0x104, 0, 11, .rw, [0], 0, 1⟩
/-- PORT_FLT_STAGE.COUNT [23:12] (R246). -/
def PORT_FLT_STAGE_COUNT : Field := ⟨0x104, 12, 12, .rw, [0], 0, 1⟩
/-- PORT_FLT_BADIDX.INDEX [10:0] (R246). -/
def PORT_FLT_BADIDX_INDEX : Field := ⟨0x108, 0, 11, .ro, [0], 0, 1⟩
/-- PORT_RX_PSEQ.PSEQ [31:0] (R246). -/
def PORT_RX_PSEQ_PSEQ : Field := ⟨0x10c, 0, 32, .ro, [0], 0, 1⟩
/-- PORT_RX_OK.COUNT [31:0] (R246). -/
def PORT_RX_OK_COUNT : Field := ⟨0x110, 0, 32, .rc, [0], 0, 1⟩
/-- PORT_RX_REJ.COUNT [31:0] (R246). -/
def PORT_RX_REJ_COUNT : Field := ⟨0x114, 0, 32, .rc, [0], 0, 1⟩
/-- PORT_RX_OVR.COUNT [31:0] (R246). -/
def PORT_RX_OVR_COUNT : Field := ⟨0x118, 0, 32, .rc, [0], 0, 1⟩
/-- PORT_RX_OVR_ESS.COUNT [31:0] (R246). -/
def PORT_RX_OVR_ESS_COUNT : Field := ⟨0x11c, 0, 32, .rc, [0], 0, 1⟩
/-- PORT_RX_OVRCAUSE.CAUSE [2:0] (R246). -/
def PORT_RX_OVRCAUSE_CAUSE : Field := ⟨0x120, 0, 3, .ro, [0], 0, 1⟩
/-- PORT_RX_UNDO.COUNT [31:0] (R246). -/
def PORT_RX_UNDO_COUNT : Field := ⟨0x124, 0, 32, .rc, [0], 0, 1⟩
/-- CL_TXSOFT.BASE [6:0] (R275). -/
def CL_TXSOFT_BASE : Field := ⟨0x900, 0, 7, .rwc, [0], 0, 1⟩
/-- CL_TXSOFT.SIZE [15:8] (R275). -/
def CL_TXSOFT_SIZE : Field := ⟨0x900, 8, 8, .rwc, [0], 0, 1⟩
/-- CL_TXPOOL_FREE.FREE [15:0] (R275). -/
def CL_TXPOOL_FREE_FREE : Field := ⟨0x904, 0, 16, .ro, [32768], 0, 1⟩
/-- CL_TXPOOL_MIN.FREE [15:0] (R275). -/
def CL_TXPOOL_MIN_FREE : Field := ⟨0x908, 0, 16, .rc, [32768], 0, 1⟩
/-- CL_TX_INUSE.OBJECTS [13:0] (R275). -/
def CL_TX_INUSE_OBJECTS : Field := ⟨0x90c, 0, 14, .ro, [0], 0, 1⟩
/-- CL_FWD_INUSE.CONTEXTS [8:0] (R275). -/
def CL_FWD_INUSE_CONTEXTS : Field := ⟨0x910, 0, 9, .ro, [0], 0, 1⟩
/-- CL_TX_WAIT.COUNT [31:0] (R275). -/
def CL_TX_WAIT_COUNT : Field := ⟨0x914, 0, 32, .rc, [0], 0, 1⟩
/-- CL_TX_LOST.COUNT [31:0] (R275). -/
def CL_TX_LOST_COUNT : Field := ⟨0x918, 0, 32, .rc, [0], 0, 1⟩
/-- CL_PSET[256].PORTS [31:0] (R275). -/
def CL_PSET_PORTS : Field := ⟨0xa00, 0, 32, .rw, [0], 4, 256⟩
/-- PORT_TX_DB.INDEX [12:0] (R277). -/
def PORT_TX_DB_INDEX : Field := ⟨0x140, 0, 13, .wo, [0], 0, 1⟩
/-- PORT_TX_DB.COUNT [23:16] (R277). -/
def PORT_TX_DB_COUNT : Field := ⟨0x140, 16, 8, .wo, [0], 0, 1⟩
/-- PORT_TX_QUOTA.UNITS [7:0] (R277). -/
def PORT_TX_QUOTA_UNITS : Field := ⟨0x144, 0, 8, .rw, [0], 0, 1⟩
/-- PORT_TX_PEND.COUNT [16:0] (R277). -/
def PORT_TX_PEND_COUNT : Field := ⟨0x148, 0, 17, .ro, [0], 0, 1⟩
/-- PORT_TX_BACKLOG.BYTES [26:0] (R277). -/
def PORT_TX_BACKLOG_BYTES : Field := ⟨0x14c, 0, 27, .ro, [0], 0, 1⟩
/-- PORT_TX_OK.COUNT [31:0] (R277). -/
def PORT_TX_OK_COUNT : Field := ⟨0x150, 0, 32, .rc, [0], 0, 1⟩
/-- PORT_TX_FAIL.COUNT [31:0] (R277). -/
def PORT_TX_FAIL_COUNT : Field := ⟨0x154, 0, 32, .rc, [0], 0, 1⟩
/-- PORT_TX_LIMIT.COUNT [31:0] (R277). -/
def PORT_TX_LIMIT_COUNT : Field := ⟨0x158, 0, 32, .rc, [0], 0, 1⟩
/-- PORT_TX_CANCEL.COUNT [31:0] (R277). -/
def PORT_TX_CANCEL_COUNT : Field := ⟨0x15c, 0, 32, .rc, [0], 0, 1⟩
/-- PORT_TX_DBDROP.COUNT [31:0] (R277). -/
def PORT_TX_DBDROP_COUNT : Field := ⟨0x160, 0, 32, .rc, [0], 0, 1⟩
/-- PORT_TX_BAD.INDEX [12:0] (R277). -/
def PORT_TX_BAD_INDEX : Field := ⟨0x164, 0, 13, .ro, [0], 0, 1⟩
/-- PORT_TX_BAD.REASON [19:16] (R277). -/
def PORT_TX_BAD_REASON : Field := ⟨0x164, 16, 4, .ro, [0], 0, 1⟩
/-- PORT_TX_CAND.INDEX [12:0] (R277). -/
def PORT_TX_CAND_INDEX : Field := ⟨0x168, 0, 13, .ro, [0], 0, 1⟩
/-- PORT_TX_CAND.CL [15:13] (R277). -/
def PORT_TX_CAND_CL : Field := ⟨0x168, 13, 3, .ro, [0], 0, 1⟩
/-- PORT_TX_CAND.FWD [16:16] (R277). -/
def PORT_TX_CAND_FWD : Field := ⟨0x168, 16, 1, .ro, [0], 0, 1⟩
/-- PORT_TX_CAND.VALID [17:17] (R277). -/
def PORT_TX_CAND_VALID : Field := ⟨0x168, 17, 1, .ro, [0], 0, 1⟩
/-- MOV_CFG.PP [1:0] (R300). -/
def MOV_CFG_PP : Field := ⟨0x040, 0, 2, .rw, [0], 0, 1⟩
/-- MOV_CFG.MODE [3:2] (R300). -/
def MOV_CFG_MODE : Field := ⟨0x040, 2, 2, .rw, [0], 0, 1⟩
/-- MOV_CFG.NOSNOOP [4:4] (R300). -/
def MOV_CFG_NOSNOOP : Field := ⟨0x040, 4, 1, .rw, [0], 0, 1⟩
/-- MOV_CFG.WRAP [5:5] (R300). -/
def MOV_CFG_WRAP : Field := ⟨0x040, 5, 1, .rw, [0], 0, 1⟩
/-- MOV_CFG.CREDIT [6:6] (R300). -/
def MOV_CFG_CREDIT : Field := ⟨0x040, 6, 1, .rw, [0], 0, 1⟩
/-- MOV_CFG.BURST [11:8] (R300). -/
def MOV_CFG_BURST : Field := ⟨0x040, 8, 4, .rw, [12], 0, 1⟩
/-- MOV_ELEM.ELEM64 [10:0] (R300). -/
def MOV_ELEM_ELEM64 : Field := ⟨0x044, 0, 11, .rw, [1024], 0, 1⟩
/-- MOV_BASE_LO.ADDR [31:0] (R300). -/
def MOV_BASE_LO_ADDR : Field := ⟨0x048, 0, 32, .rw, [0], 0, 1⟩
/-- MOV_BASE_HI.ADDR [31:0] (R300). -/
def MOV_BASE_HI_ADDR : Field := ⟨0x04c, 0, 32, .rw, [0], 0, 1⟩
/-- MOV_CNT01.C0M1 [15:0] (R300). -/
def MOV_CNT01_C0M1 : Field := ⟨0x050, 0, 16, .rw, [0], 0, 1⟩
/-- MOV_CNT01.C1M1 [31:16] (R300). -/
def MOV_CNT01_C1M1 : Field := ⟨0x050, 16, 16, .rw, [0], 0, 1⟩
/-- MOV_CNT2.C2M1 [15:0] (R300). -/
def MOV_CNT2_C2M1 : Field := ⟨0x054, 0, 16, .rw, [0], 0, 1⟩
/-- MOV_STEP0.STEP [31:0] (R300). -/
def MOV_STEP0_STEP : Field := ⟨0x058, 0, 32, .rw, [0], 0, 1⟩
/-- MOV_STEP1.STEP [31:0] (R300). -/
def MOV_STEP1_STEP : Field := ⟨0x05c, 0, 32, .rw, [0], 0, 1⟩
/-- MOV_STEP2.STEP [31:0] (R300). -/
def MOV_STEP2_STEP : Field := ⟨0x060, 0, 32, .rw, [0], 0, 1⟩
/-- MOV_CREDIT_ADD.ELEMS [16:0] (R300). -/
def MOV_CREDIT_ADD_ELEMS : Field := ⟨0x064, 0, 17, .wo, [0], 0, 1⟩
/-- MOV_CREDIT.ELEMS [17:0] (R300). -/
def MOV_CREDIT_ELEMS : Field := ⟨0x068, 0, 18, .ro, [0], 0, 1⟩
/-- MOV_STATE.STATE [2:0] (R300). -/
def MOV_STATE_STATE : Field := ⟨0x070, 0, 3, .ro, [0], 0, 1⟩
/-- MOV_STATE.CAUSE [7:4] (R300). -/
def MOV_STATE_CAUSE : Field := ⟨0x070, 4, 4, .ro, [0], 0, 1⟩
/-- MOV_STATE.DIR [8:8] (R300). -/
def MOV_STATE_DIR : Field := ⟨0x070, 8, 1, .ro, [0], 0, 1⟩
/-- MOV_STATE.URGENT [9:9] (R300). -/
def MOV_STATE_URGENT : Field := ⟨0x070, 9, 1, .ro, [0], 0, 1⟩
/-- MOV_STATE.QUEUED [31:16] (R300). -/
def MOV_STATE_QUEUED : Field := ⟨0x070, 16, 16, .ro, [0], 0, 1⟩
/-- MOV_ERR_ADDR_LO.ADDR [31:0] (R300). -/
def MOV_ERR_ADDR_LO_ADDR : Field := ⟨0x074, 0, 32, .ro, [0], 0, 1⟩
/-- MOV_ERR_ADDR_HI.ADDR [31:0] (R300). -/
def MOV_ERR_ADDR_HI_ADDR : Field := ⟨0x078, 0, 32, .ro, [0], 0, 1⟩
/-- MOV_ERR_STORE.OFFSET [31:0] (R300). -/
def MOV_ERR_STORE_OFFSET : Field := ⟨0x07c, 0, 32, .ro, [0], 0, 1⟩
/-- MOV_POS01.I0 [15:0] (R300). -/
def MOV_POS01_I0 : Field := ⟨0x080, 0, 16, .ro, [0], 0, 1⟩
/-- MOV_POS01.I1 [31:16] (R300). -/
def MOV_POS01_I1 : Field := ⟨0x080, 16, 16, .ro, [0], 0, 1⟩
/-- MOV_POS2.I2 [15:0] (R300). -/
def MOV_POS2_I2 : Field := ⟨0x084, 0, 16, .ro, [0], 0, 1⟩
/-- MOV_XFER.STATE [2:0] (R300). -/
def MOV_XFER_STATE : Field := ⟨0x088, 0, 3, .ro, [0], 0, 1⟩
/-- MOV_BYTES.COUNT [31:0] (R300). -/
def MOV_BYTES_COUNT : Field := ⟨0x08c, 0, 32, .rc, [0], 0, 1⟩
/-- MOV_REQS.COUNT [31:0] (R300). -/
def MOV_REQS_COUNT : Field := ⟨0x090, 0, 32, .rc, [0], 0, 1⟩
/-- MOV_LAT_MAX.NS [31:0] (R300). -/
def MOV_LAT_MAX_NS : Field := ⟨0x094, 0, 32, .rc, [0], 0, 1⟩
/-- PORT_MV_WM.LOW [11:0] (R304). -/
def PORT_MV_WM_LOW : Field := ⟨0x180, 0, 12, .rw, [0], 0, 1⟩
/-- PORT_MV_WM.HIGH [27:16] (R304). -/
def PORT_MV_WM_HIGH : Field := ⟨0x180, 16, 12, .rw, [0], 0, 1⟩
/-- PORT_MV_ATT.PP [1:0] (R304). -/
def PORT_MV_ATT_PP : Field := ⟨0x184, 0, 2, .rw, [0], 0, 1⟩
/-- PORT_MV_ATT.EN [2:2] (R304). -/
def PORT_MV_ATT_EN : Field := ⟨0x184, 2, 1, .rw, [0], 0, 1⟩
/-- PORT_MV_ATT.IN_PANIC [3:3] (R304). -/
def PORT_MV_ATT_IN_PANIC : Field := ⟨0x184, 3, 1, .ro, [0], 0, 1⟩
/-- PORT_MV_PANIC_CNT.COUNT [31:0] (R304). -/
def PORT_MV_PANIC_CNT_COUNT : Field := ⟨0x188, 0, 32, .rc, [0], 0, 1⟩
/-- RT_CFG.SRC [1:0] (R338). -/
def RT_CFG_SRC : Field := ⟨0x040, 0, 2, .rw, [1], 0, 1⟩
/-- RT_CFG.FPOL [2:2] (R338). -/
def RT_CFG_FPOL : Field := ⟨0x040, 2, 1, .rw, [0], 0, 1⟩
/-- RT_CFG.LPOL [3:3] (R338). -/
def RT_CFG_LPOL : Field := ⟨0x040, 3, 1, .rw, [0], 0, 1⟩
/-- RT_CFG.TERM [4:4] (R338). -/
def RT_CFG_TERM : Field := ⟨0x040, 4, 1, .rw, [1], 0, 1⟩
/-- RT_CFG.WIN [15:8] (R338). -/
def RT_CFG_WIN : Field := ⟨0x040, 8, 8, .rw, [16], 0, 1⟩
/-- RT_CFG.MARK_WIN [19:16] (R338). -/
def RT_CFG_MARK_WIN : Field := ⟨0x040, 16, 4, .rw, [2], 0, 1⟩
/-- RT_NOM.LINES [12:0] (R338). -/
def RT_NOM_LINES : Field := ⟨0x044, 0, 13, .rw, [1125], 0, 1⟩
/-- RT_NOM.CODE [19:16] (R338). -/
def RT_NOM_CODE : Field := ⟨0x044, 16, 4, .rw, [1], 0, 1⟩
/-- RT_NOM_PERIOD.PERIOD [21:0] (R338). -/
def RT_NOM_PERIOD_PERIOD : Field := ⟨0x048, 0, 22, .rw, [728178], 0, 1⟩
/-- RT_NOW_FRAME.FRAME [31:0] (R338). -/
def RT_NOW_FRAME_FRAME : Field := ⟨0x050, 0, 32, .ro, [0], 0, 1⟩
/-- RT_NOW_LINE.LINE [11:0] (R338). -/
def RT_NOW_LINE_LINE : Field := ⟨0x054, 0, 12, .ro, [0], 0, 1⟩
/-- RT_NOW_LINE.SUBLINE [19:12] (R338). -/
def RT_NOW_LINE_SUBLINE : Field := ⟨0x054, 12, 8, .ro, [0], 0, 1⟩
/-- RT_NOW_LINE.FINE [27:20] (R338). -/
def RT_NOW_LINE_FINE : Field := ⟨0x054, 20, 8, .ro, [0], 0, 1⟩
/-- RT_NOW_LINE.TB [29:28] (R338). -/
def RT_NOW_LINE_TB : Field := ⟨0x054, 28, 2, .ro, [0], 0, 1⟩
/-- RT_STAT.TB [1:0] (R338). -/
def RT_STAT_TB : Field := ⟨0x058, 0, 2, .ro, [0], 0, 1⟩
/-- RT_STAT.CODE [7:4] (R338). -/
def RT_STAT_CODE : Field := ⟨0x058, 4, 4, .ro, [1], 0, 1⟩
/-- RT_STAT.MISS_L [14:8] (R338). -/
def RT_STAT_MISS_L : Field := ⟨0x058, 8, 7, .ro, [0], 0, 1⟩
/-- RT_STAT.MISS_F [17:16] (R338). -/
def RT_STAT_MISS_F : Field := ⟨0x058, 16, 2, .ro, [0], 0, 1⟩
/-- RT_STAT.ACQ [18:18] (R338). -/
def RT_STAT_ACQ : Field := ⟨0x058, 18, 1, .ro, [0], 0, 1⟩
/-- RT_MEAS.LINES [12:0] (R338). -/
def RT_MEAS_LINES : Field := ⟨0x05c, 0, 13, .ro, [0], 0, 1⟩
/-- RT_MEAS_PERIOD.PERIOD [21:0] (R338). -/
def RT_MEAS_PERIOD_PERIOD : Field := ⟨0x060, 0, 22, .ro, [0], 0, 1⟩
/-- RT_CNT_SLIP.COUNT [31:0] (R338). -/
def RT_CNT_SLIP_COUNT : Field := ⟨0x064, 0, 32, .rc, [0], 0, 1⟩
/-- RT_CNT_LOSS.COUNT [31:0] (R338). -/
def RT_CNT_LOSS_COUNT : Field := ⟨0x068, 0, 32, .rc, [0], 0, 1⟩
/-- RT_CNT_DISC.COUNT [31:0] (R338). -/
def RT_CNT_DISC_COUNT : Field := ⟨0x06c, 0, 32, .rc, [0], 0, 1⟩
/-- RT_MARK_FRAME.FRAME [31:0] (R338). -/
def RT_MARK_FRAME_FRAME : Field := ⟨0x070, 0, 32, .wo, [0], 0, 1⟩
/-- RT_MARK_LINE.LINE [11:0] (R338). -/
def RT_MARK_LINE_LINE : Field := ⟨0x074, 0, 12, .wo, [0], 0, 1⟩
/-- RT_MARK_LINE.SUBLINE [19:12] (R338). -/
def RT_MARK_LINE_SUBLINE : Field := ⟨0x074, 12, 8, .wo, [0], 0, 1⟩
/-- RT_MARK_ERR.ERR [23:0] (R338). -/
def RT_MARK_ERR_ERR : Field := ⟨0x078, 0, 24, .ro, [0], 0, 1⟩
/-- RT_MARK_ERR.STEPPED [24:24] (R338). -/
def RT_MARK_ERR_STEPPED : Field := ⟨0x078, 24, 1, .ro, [0], 0, 1⟩
/-- EPH_CFG.EN [0:0] (R339). -/
def EPH_CFG_EN : Field := ⟨0x080, 0, 1, .rw, [0], 0, 1⟩
/-- EPH_FIRED.COUNT [31:0] (R339). -/
def EPH_FIRED_COUNT : Field := ⟨0x084, 0, 32, .rc, [0], 0, 1⟩
/-- EPH_LATE.COUNT [31:0] (R339). -/
def EPH_LATE_COUNT : Field := ⟨0x088, 0, 32, .rc, [0], 0, 1⟩
/-- EPH_DROPPED.COUNT [31:0] (R339). -/
def EPH_DROPPED_COUNT : Field := ⟨0x08c, 0, 32, .rc, [0], 0, 1⟩
/-- EPH_BAD.INDEX [9:0] (R339). -/
def EPH_BAD_INDEX : Field := ⟨0x090, 0, 10, .ro, [0], 0, 1⟩
/-- EPH_SYNC_SENT.COUNT [31:0] (R339). -/
def EPH_SYNC_SENT_COUNT : Field := ⟨0x094, 0, 32, .rc, [0], 0, 1⟩
/-- EPH_SYNC_LOST.COUNT [31:0] (R339). -/
def EPH_SYNC_LOST_COUNT : Field := ⟨0x098, 0, 32, .rc, [0], 0, 1⟩
/-- EPH_HELD.COUNT [31:0] (R339). -/
def EPH_HELD_COUNT : Field := ⟨0x09c, 0, 32, .rc, [0], 0, 1⟩
/-- EPH_LAST.INDEX [9:0] (R339). -/
def EPH_LAST_INDEX : Field := ⟨0x0a0, 0, 10, .ro, [0], 0, 1⟩
/-- EPH_LAST.LATE [16:16] (R339). -/
def EPH_LAST_LATE : Field := ⟨0x0a0, 16, 1, .ro, [0], 0, 1⟩
/-- EPH_ARMED_CNT.COUNT [10:0] (R339). -/
def EPH_ARMED_CNT_COUNT : Field := ⟨0x0a4, 0, 11, .ro, [0], 0, 1⟩
/-- EPH_ARMED[32].ARMED [31:0] (R339). -/
def EPH_ARMED_ARMED : Field := ⟨0x100, 0, 32, .ro, [0], 4, 32⟩
/-- ICU_SRC_SEL.SRC [11:0] (R364). -/
def ICU_SRC_SEL_SRC : Field := ⟨0x040, 0, 12, .rw, [0], 0, 1⟩
/-- ICU_SRC_SEL.PTGT [19:16] (R364). -/
def ICU_SRC_SEL_PTGT : Field := ⟨0x040, 16, 4, .rw, [0], 0, 1⟩
/-- ICU_SRC_CFG.EN [0:0] (R364). -/
def ICU_SRC_CFG_EN : Field := ⟨0x044, 0, 1, .rw, [0], 0, 1⟩
/-- ICU_SRC_CFG.TGT [7:4] (R364). -/
def ICU_SRC_CFG_TGT : Field := ⟨0x044, 4, 4, .rw, [0], 0, 1⟩
/-- ICU_SRC_CFG.GROUP [13:8] (R364). -/
def ICU_SRC_CFG_GROUP : Field := ⟨0x044, 8, 6, .rw, [0], 0, 1⟩
/-- ICU_SRC_CFG.LEVEL [19:16] (R364). -/
def ICU_SRC_CFG_LEVEL : Field := ⟨0x044, 16, 4, .rw, [1], 0, 1⟩
/-- ICU_SRC_STATE.COUNT [7:0] (R364). -/
def ICU_SRC_STATE_COUNT : Field := ⟨0x048, 0, 8, .ro, [0], 0, 1⟩
/-- ICU_SRC_STATE.ACTIVE [8:8] (R364). -/
def ICU_SRC_STATE_ACTIVE : Field := ⟨0x048, 8, 1, .ro, [0], 0, 1⟩
/-- ICU_SRC_STATE.MASKED [9:9] (R364). -/
def ICU_SRC_STATE_MASKED : Field := ⟨0x048, 9, 1, .ro, [0], 0, 1⟩
/-- ICU_SRC_STATE.PINNED [10:10] (R364). -/
def ICU_SRC_STATE_PINNED : Field := ⟨0x048, 10, 1, .ro, [0], 0, 1⟩
/-- ICU_SRC_STATE.ELIGIBLE [11:11] (R364). -/
def ICU_SRC_STATE_ELIGIBLE : Field := ⟨0x048, 11, 1, .ro, [0], 0, 1⟩
/-- ICU_SRC_STATE.WAITING [12:12] (R364). -/
def ICU_SRC_STATE_WAITING : Field := ⟨0x048, 12, 1, .ro, [0], 0, 1⟩
/-- ICU_SRC_STATE.ATGT [19:16] (R364). -/
def ICU_SRC_STATE_ATGT : Field := ⟨0x048, 16, 4, .ro, [0], 0, 1⟩
/-- ICU_SUMMARY.NORMAL [15:0] (R364). -/
def ICU_SUMMARY_NORMAL : Field := ⟨0x04c, 0, 16, .ro, [0], 0, 1⟩
/-- ICU_SUMMARY.FAST [31:16] (R364). -/
def ICU_SUMMARY_FAST : Field := ⟨0x04c, 16, 16, .ro, [0], 0, 1⟩
/-- ICU_MSG_HELD.NORMAL [15:0] (R364). -/
def ICU_MSG_HELD_NORMAL : Field := ⟨0x050, 0, 16, .ro, [0], 0, 1⟩
/-- ICU_MSG_HELD.FAST [31:16] (R364). -/
def ICU_MSG_HELD_FAST : Field := ⟨0x050, 16, 16, .ro, [0], 0, 1⟩
/-- ICU_GRP[64].VALUE [15:0] (R364). -/
def ICU_GRP_VALUE : Field := ⟨0x100, 0, 16, .rw, [0], 4, 64⟩
/-- ICU_GRP[64].CLASS [16:16] (R364). -/
def ICU_GRP_CLASS : Field := ⟨0x100, 16, 1, .rw, [0], 4, 64⟩
/-- T_CFG.MODE [0:0] (R365). -/
def T_CFG_MODE : Field := ⟨0x040, 0, 1, .rwc, [0], 0, 1⟩
/-- T_CFG.FAST [7:4] (R365). -/
def T_CFG_FAST : Field := ⟨0x040, 4, 4, .rwc, [0], 0, 1⟩
/-- T_IDLE.IDLE [0:0] (R365). -/
def T_IDLE_IDLE : Field := ⟨0x044, 0, 1, .rw, [0], 0, 1⟩
/-- T_CLAIM.SRC [11:0] (R365). -/
def T_CLAIM_SRC : Field := ⟨0x048, 0, 12, .rc, [0], 0, 1⟩
/-- T_CLAIM.COUNT [19:12] (R365). -/
def T_CLAIM_COUNT : Field := ⟨0x048, 12, 8, .rc, [0], 0, 1⟩
/-- T_CLAIM.LEVEL [23:20] (R365). -/
def T_CLAIM_LEVEL : Field := ⟨0x048, 20, 4, .rc, [0], 0, 1⟩
/-- T_COMPLETE.SRC [11:0] (R365). -/
def T_COMPLETE_SRC : Field := ⟨0x04c, 0, 12, .wo, [0], 0, 1⟩
/-- T_EOI.POP [0:0] (R365). -/
def T_EOI_POP : Field := ⟨0x050, 0, 1, .wo, [0], 0, 1⟩
/-- T_PENDING.SRC [11:0] (R365). -/
def T_PENDING_SRC : Field := ⟨0x054, 0, 12, .ro, [0], 0, 1⟩
/-- T_PENDING.NUM [19:12] (R365). -/
def T_PENDING_NUM : Field := ⟨0x054, 12, 8, .ro, [0], 0, 1⟩
/-- T_PENDING.LEVEL [23:20] (R365). -/
def T_PENDING_LEVEL : Field := ⟨0x054, 20, 4, .ro, [0], 0, 1⟩
/-- T_STACK.DEPTH [3:0] (R365). -/
def T_STACK_DEPTH : Field := ⟨0x058, 0, 4, .ro, [0], 0, 1⟩
/-- T_STACK.RP [7:4] (R365). -/
def T_STACK_RP : Field := ⟨0x058, 4, 4, .ro, [0], 0, 1⟩
/-- T_STACK.TOP [19:8] (R365). -/
def T_STACK_TOP : Field := ⟨0x058, 8, 12, .ro, [0], 0, 1⟩
/-- T_MASK.SRC [11:0] (R365). -/
def T_MASK_SRC : Field := ⟨0x05c, 0, 12, .wo, [0], 0, 1⟩
/-- T_MASK.MASK [31:31] (R365). -/
def T_MASK_MASK : Field := ⟨0x05c, 31, 1, .wo, [0], 0, 1⟩
/-- T_ACTIVE.NORMAL [12:0] (R365). -/
def T_ACTIVE_NORMAL : Field := ⟨0x060, 0, 13, .ro, [0], 0, 1⟩
/-- T_ACTIVE.FAST [28:16] (R365). -/
def T_ACTIVE_FAST : Field := ⟨0x060, 16, 13, .ro, [0], 0, 1⟩
/-- T_MSG_CNT.COUNT [31:0] (R365). -/
def T_MSG_CNT_COUNT : Field := ⟨0x064, 0, 32, .rc, [0], 0, 1⟩
/-- T_RING_BASE_LO.ADDR [31:6] (R365). -/
def T_RING_BASE_LO_ADDR : Field := ⟨0x068, 6, 26, .rw, [0], 0, 1⟩
/-- T_RING_BASE_HI.ADDR [31:0] (R365). -/
def T_RING_BASE_HI_ADDR : Field := ⟨0x06c, 0, 32, .rw, [0], 0, 1⟩
/-- T_RING_CFG.LOG2 [3:0] (R365). -/
def T_RING_CFG_LOG2 : Field := ⟨0x070, 0, 4, .rw, [4], 0, 1⟩
/-- T_RING_CFG.EN [8:8] (R365). -/
def T_RING_CFG_EN : Field := ⟨0x070, 8, 1, .rw, [0], 0, 1⟩
/-- T_RING_PUT.PUT [15:0] (R365). -/
def T_RING_PUT_PUT : Field := ⟨0x074, 0, 16, .ro, [0], 0, 1⟩
/-- T_RING_GET.GET [15:0] (R365). -/
def T_RING_GET_GET : Field := ⟨0x078, 0, 16, .rw, [0], 0, 1⟩
/-- T_RING_RSV.SLOTS [15:0] (R365). -/
def T_RING_RSV_SLOTS : Field := ⟨0x07c, 0, 16, .ro, [0], 0, 1⟩
/-- T_RING_RSV.WAIT [31:16] (R365). -/
def T_RING_RSV_WAIT : Field := ⟨0x07c, 16, 16, .ro, [0], 0, 1⟩
/-- T_MAIL_OUT.TGT [3:0] (R365). -/
def T_MAIL_OUT_TGT : Field := ⟨0x080, 0, 4, .wo, [0], 0, 1⟩
/-- T_MAIL_OUT.VALUE [31:16] (R365). -/
def T_MAIL_OUT_VALUE : Field := ⟨0x080, 16, 16, .wo, [0], 0, 1⟩
/-- T_MAIL_IN.FROM [3:0] (R365). -/
def T_MAIL_IN_FROM : Field := ⟨0x084, 0, 4, .ro, [0], 0, 1⟩
/-- T_MAIL_IN.VALID [7:7] (R365). -/
def T_MAIL_IN_VALID : Field := ⟨0x084, 7, 1, .rc, [0], 0, 1⟩
/-- T_MAIL_IN.LOST [15:8] (R365). -/
def T_MAIL_IN_LOST : Field := ⟨0x084, 8, 8, .rc, [0], 0, 1⟩
/-- T_MAIL_IN.VALUE [31:16] (R365). -/
def T_MAIL_IN_VALUE : Field := ⟨0x084, 16, 16, .ro, [0], 0, 1⟩
/-- T_TIMER.PERIOD [23:0] (R365). -/
def T_TIMER_PERIOD : Field := ⟨0x088, 0, 24, .rw, [0], 0, 1⟩
/-- T_SELF.FIRE [0:0] (R365). -/
def T_SELF_FIRE : Field := ⟨0x08c, 0, 1, .w1s, [0], 0, 1⟩
/-- T_PRIV[16].EN [0:0] (R365). -/
def T_PRIV_EN : Field := ⟨0x0c0, 0, 1, .rw, [0], 4, 16⟩
/-- T_PRIV[16].GROUP [13:8] (R365). -/
def T_PRIV_GROUP : Field := ⟨0x0c0, 8, 6, .rw, [0], 4, 16⟩
/-- T_PRIV[16].LEVEL [19:16] (R365). -/
def T_PRIV_LEVEL : Field := ⟨0x0c0, 16, 4, .rw, [1], 4, 16⟩
/-- F_CLAIM.SRC [11:0] (R366). -/
def F_CLAIM_SRC : Field := ⟨0x040, 0, 12, .rc, [0], 0, 1⟩
/-- F_CLAIM.COUNT [19:12] (R366). -/
def F_CLAIM_COUNT : Field := ⟨0x040, 12, 8, .rc, [0], 0, 1⟩
/-- F_CLAIM.LEVEL [23:20] (R366). -/
def F_CLAIM_LEVEL : Field := ⟨0x040, 20, 4, .rc, [0], 0, 1⟩
/-- F_COMPLETE.SRC [11:0] (R366). -/
def F_COMPLETE_SRC : Field := ⟨0x044, 0, 12, .wo, [0], 0, 1⟩
/-- F_PENDING.SRC [11:0] (R366). -/
def F_PENDING_SRC : Field := ⟨0x048, 0, 12, .ro, [0], 0, 1⟩
/-- F_PENDING.NUM [19:12] (R366). -/
def F_PENDING_NUM : Field := ⟨0x048, 12, 8, .ro, [0], 0, 1⟩
/-- F_PENDING.LEVEL [23:20] (R366). -/
def F_PENDING_LEVEL : Field := ⟨0x048, 20, 4, .ro, [0], 0, 1⟩
/-- F_MSG_CNT.COUNT [31:0] (R366). -/
def F_MSG_CNT_COUNT : Field := ⟨0x04c, 0, 32, .rc, [0], 0, 1⟩
/-- FCO_STICKY_LO.LINES [31:0] (R399). -/
def FCO_STICKY_LO_LINES : Field := ⟨0x040, 0, 32, .w1c, [0], 0, 1⟩
/-- FCO_STICKY_HI.LINES [31:0] (R399). -/
def FCO_STICKY_HI_LINES : Field := ⟨0x044, 0, 32, .w1c, [0], 0, 1⟩
/-- FCO_IN_LO.LINES [31:0] (R399). -/
def FCO_IN_LO_LINES : Field := ⟨0x048, 0, 32, .ro, [0], 0, 1⟩
/-- FCO_IN_HI.LINES [31:0] (R399). -/
def FCO_IN_HI_LINES : Field := ⟨0x04c, 0, 32, .ro, [0], 0, 1⟩
/-- FCO_STAT.TOP [2:0] (R399). -/
def FCO_STAT_TOP : Field := ⟨0x050, 0, 3, .ro, [0], 0, 1⟩
/-- FCO_STAT.ANY [3:3] (R399). -/
def FCO_STAT_ANY : Field := ⟨0x050, 3, 1, .ro, [0], 0, 1⟩
/-- FCO_STAT.FAULT [4:4] (R399). -/
def FCO_STAT_FAULT : Field := ⟨0x050, 4, 1, .ro, [0], 0, 1⟩
/-- FCO_STAT.PARITY_ERR [5:5] (R399). -/
def FCO_STAT_PARITY_ERR : Field := ⟨0x050, 5, 1, .ro, [0], 0, 1⟩
/-- FCO_STAT.PIDX [14:8] (R399). -/
def FCO_STAT_PIDX : Field := ⟨0x050, 8, 7, .ro, [0], 0, 1⟩
/-- FCO_INJECT.LINE [5:0] (R399). -/
def FCO_INJECT_LINE : Field := ⟨0x054, 0, 6, .wo, [0], 0, 1⟩
/-- FCO_INJECT.LEVEL [10:8] (R399). -/
def FCO_INJECT_LEVEL : Field := ⟨0x054, 8, 3, .wo, [0], 0, 1⟩
/-- FCO_INJECT.FORCE [11:11] (R399). -/
def FCO_INJECT_FORCE : Field := ⟨0x054, 11, 1, .wo, [0], 0, 1⟩
/-- FCO_EVENTS.COUNT [31:0] (R399). -/
def FCO_EVENTS_COUNT : Field := ⟨0x058, 0, 32, .rc, [0], 0, 1⟩
/-- FCO_MASKED.COUNT [31:0] (R399). -/
def FCO_MASKED_COUNT : Field := ⟨0x05c, 0, 32, .rc, [0], 0, 1⟩
/-- FCO_LCFG_A[64].EN [0:0] (R399). -/
def FCO_LCFG_A_EN : Field := ⟨0x080, 0, 1, .rw, List.replicate 40 1 ++ [0] ++ List.replicate 23 1, 8, 64⟩
/-- FCO_LCFG_A[64].BASE [3:1] (R399). -/
def FCO_LCFG_A_BASE : Field := ⟨0x080, 1, 3, .rw, List.replicate 8 2 ++ List.replicate 8 1 ++ List.replicate 8 0 ++ List.replicate 12 1 ++ List.replicate 5 0 ++ [4, 1, 0, 0, 2, 2, 1, 4, 4, 1, 4, 1, 0, 1, 1, 1, 0, 4, 0, 0, 4, 1, 2], 8, 64⟩
/-- FCO_LCFG_A[64].CNT [6:4] (R399). -/
def FCO_LCFG_A_CNT : Field := ⟨0x080, 4, 3, .rw, List.replicate 16 3 ++ List.replicate 8 2 ++ List.replicate 12 1 ++ List.replicate 4 2 ++ [1, 4, 1, 1, 0, 4, 4, 1, 4, 4, 1, 4, 4, 0, 1, 1, 1] ++ List.replicate 4 0 ++ [4, 1, 2], 8, 64⟩
/-- FCO_LCFG_A[64].CAP [9:7] (R399). -/
def FCO_LCFG_A_CAP : Field := ⟨0x080, 7, 3, .rw, List.replicate 8 3 ++ List.replicate 8 2 ++ List.replicate 24 1 ++ [0, 4, 1, 0, 0, 2, 2, 1, 4, 4, 1, 4, 1, 0, 1, 1, 1] ++ List.replicate 4 0 ++ [4, 1, 2], 8, 64⟩
/-- FCO_LCFG_A[64].UNIT [10:10] (R399). -/
def FCO_LCFG_A_UNIT : Field := ⟨0x080, 10, 1, .rw, List.replicate 16 1 ++ List.replicate 20 0 ++ List.replicate 5 1 ++ List.replicate 4 0 ++ [1, 1] ++ List.replicate 5 0 ++ [1] ++ List.replicate 11 0, 8, 64⟩
/-- FCO_LCFG_A[64].N [19:12] (R399). -/
def FCO_LCFG_A_N : Field := ⟨0x080, 12, 8, .rw, List.replicate 8 2 ++ List.replicate 8 8 ++ List.replicate 8 16 ++ List.replicate 12 1 ++ List.replicate 5 64 ++ [1, 1, 4, 1, 3, 2] ++ List.replicate 5 1 ++ [10] ++ List.replicate 5 1 ++ [0] ++ List.replicate 5 1, 8, 64⟩
/-- FCO_LCFG_A[64].W [31:20] (R399). -/
def FCO_LCFG_A_W : Field := ⟨0x080, 20, 12, .rw, List.replicate 16 1000 ++ List.replicate 8 50 ++ List.replicate 12 0 ++ List.replicate 5 1000 ++ [0, 0, 50, 0, 4000, 4000] ++ List.replicate 5 0 ++ [20] ++ List.replicate 11 0, 8, 64⟩
/-- FCO_LCFG_B[64].NOTE [3:0] (R399). -/
def FCO_LCFG_B_NOTE : Field := ⟨0x084, 0, 4, .rw, List.replicate 64 0, 8, 64⟩
/-- FCO_LCFG_B[64].MINOR [7:4] (R399). -/
def FCO_LCFG_B_MINOR : Field := ⟨0x084, 4, 4, .rw, List.replicate 58 1 ++ [0] ++ List.replicate 5 1, 8, 64⟩
/-- FCO_LCFG_B[64].MAJOR [11:8] (R399). -/
def FCO_LCFG_B_MAJOR : Field := ⟨0x084, 8, 4, .rw, List.replicate 58 2 ++ [0] ++ List.replicate 5 2, 8, 64⟩
/-- FCO_LCFG_B[64].SEVERE [15:12] (R399). -/
def FCO_LCFG_B_SEVERE : Field := ⟨0x084, 12, 4, .rw, List.replicate 32 3 ++ List.replicate 26 2 ++ [0] ++ List.replicate 5 2, 8, 64⟩
/-- FCO_LSTAT[64].LEVEL [2:0] (R399). -/
def FCO_LSTAT_LEVEL : Field := ⟨0x280, 0, 3, .ro, [0], 4, 64⟩
/-- FCO_LSTAT[64].STICKY [3:3] (R399). -/
def FCO_LSTAT_STICKY : Field := ⟨0x280, 3, 1, .ro, [0], 4, 64⟩
/-- FCO_LSTAT[64].COUNT [15:8] (R399). -/
def FCO_LSTAT_COUNT : Field := ⟨0x280, 8, 8, .ro, [0], 4, 64⟩
/-- FCO_LSTAT[64].TOTAL [31:16] (R399). -/
def FCO_LSTAT_TOTAL : Field := ⟨0x280, 16, 16, .ro, [0], 4, 64⟩
/-- TEL_CFG.EN [0:0] (R401). -/
def TEL_CFG_EN : Field := ⟨0x040, 0, 1, .rw, [0], 0, 1⟩
/-- TEL_CFG.PP [2:1] (R401). -/
def TEL_CFG_PP : Field := ⟨0x040, 1, 2, .rw, [0], 0, 1⟩
/-- TEL_CFG.LOG2 [7:4] (R401). -/
def TEL_CFG_LOG2 : Field := ⟨0x040, 4, 4, .rw, [0], 0, 1⟩
/-- TEL_CFG.SIGN [8:8] (R401). -/
def TEL_CFG_SIGN : Field := ⟨0x040, 8, 1, .rw, [0], 0, 1⟩
/-- TEL_BASE_LO.ADDR [31:12] (R401). -/
def TEL_BASE_LO_ADDR : Field := ⟨0x044, 12, 20, .rw, [0], 0, 1⟩
/-- TEL_BASE_HI.ADDR [31:0] (R401). -/
def TEL_BASE_HI_ADDR : Field := ⟨0x048, 0, 32, .rw, [0], 0, 1⟩
/-- TEL_SEQ.SEQ [31:0] (R401). -/
def TEL_SEQ_SEQ : Field := ⟨0x04c, 0, 32, .ro, [0], 0, 1⟩
/-- TEL_SKIPPED.COUNT [31:0] (R401). -/
def TEL_SKIPPED_COUNT : Field := ⟨0x050, 0, 32, .rc, [0], 0, 1⟩
/-- CRP_STRAP.PRIMPP [1:0] (R427). -/
def CRP_STRAP_PRIMPP : Field := ⟨0x040, 0, 2, .ro, [0], 0, 1⟩
/-- CRP_STRAP.REFSEL [3:2] (R427). -/
def CRP_STRAP_REFSEL : Field := ⟨0x040, 2, 2, .ro, [0], 0, 1⟩
/-- CRP_STRAP.REFAUTO [4:4] (R427). -/
def CRP_STRAP_REFAUTO : Field := ⟨0x040, 4, 1, .ro, [0], 0, 1⟩
/-- CRP_STRAP.AUTOSTART [5:5] (R427). -/
def CRP_STRAP_AUTOSTART : Field := ⟨0x040, 5, 1, .ro, [0], 0, 1⟩
/-- CRP_CLK.ACTIVE [1:0] (R427). -/
def CRP_CLK_ACTIVE : Field := ⟨0x044, 0, 2, .ro, [0], 0, 1⟩
/-- CRP_CLK.HOLDOVER [2:2] (R427). -/
def CRP_CLK_HOLDOVER : Field := ⟨0x044, 2, 1, .ro, [0], 0, 1⟩
/-- CRP_CLK.FREERUN [3:3] (R427). -/
def CRP_CLK_FREERUN : Field := ⟨0x044, 3, 1, .ro, [0], 0, 1⟩
/-- CRP_CLK.FAILOVER [4:4] (R427). -/
def CRP_CLK_FAILOVER : Field := ⟨0x044, 4, 1, .rw, [0], 0, 1⟩
/-- CRP_CLK.PRESENT [11:8] (R427). -/
def CRP_CLK_PRESENT : Field := ⟨0x044, 8, 4, .ro, [0], 0, 1⟩
/-- CRP_CLK.CORE_LOCK [16:16] (R427). -/
def CRP_CLK_CORE_LOCK : Field := ⟨0x044, 16, 1, .ro, [1], 0, 1⟩
/-- CRP_CLK.CL_LOCK [31:24] (R427). -/
def CRP_CLK_CL_LOCK : Field := ⟨0x044, 24, 8, .ro, [0], 0, 1⟩
/-- CRP_MOON.DEV [15:0] (R427). -/
def CRP_MOON_DEV : Field := ⟨0x048, 0, 16, .ro, [0], 0, 1⟩
/-- CRP_MOON.TRIMMED [16:16] (R427). -/
def CRP_MOON_TRIMMED : Field := ⟨0x048, 16, 1, .ro, [0], 0, 1⟩
/-- CRP_THERM.TJ [7:0] (R427). -/
def CRP_THERM_TJ : Field := ⟨0x04c, 0, 8, .ro, [0], 0, 1⟩
/-- CRP_THERM.TJ_MAX [15:8] (R427). -/
def CRP_THERM_TJ_MAX : Field := ⟨0x04c, 8, 8, .rc, [0], 0, 1⟩
/-- CRP_PWR.MW [15:0] (R427). -/
def CRP_PWR_MW : Field := ⟨0x050, 0, 16, .ro, [0], 0, 1⟩
/-- CRP_SUPPLY.IN_RANGE [5:0] (R427). -/
def CRP_SUPPLY_IN_RANGE : Field := ⟨0x054, 0, 6, .ro, [63], 0, 1⟩
/-- AON_RST_CAUSE.CAUSE [3:0] (R429). -/
def AON_RST_CAUSE_CAUSE : Field := ⟨0x040, 0, 4, .ro, [1], 0, 1⟩
/-- AON_RST_CAUSE.COUNT [15:8] (R429). -/
def AON_RST_CAUSE_COUNT : Field := ⟨0x040, 8, 8, .ro, [0], 0, 1⟩
/-- AON_WAKE_EN[4].PORTS [31:0] (R429). -/
def AON_WAKE_EN_PORTS : Field := ⟨0x044, 0, 32, .rw, [0], 4, 4⟩
/-- AON_WAKE_PP.PPS [31:0] (R429). -/
def AON_WAKE_PP_PPS : Field := ⟨0x054, 0, 32, .rw, [4294967295], 0, 1⟩
/-- AON_TIMER.SECONDS [23:0] (R429). -/
def AON_TIMER_SECONDS : Field := ⟨0x058, 0, 24, .rw, [0], 0, 1⟩
/-- AON_TIMER.PP [27:24] (R429). -/
def AON_TIMER_PP : Field := ⟨0x058, 24, 4, .rw, [15], 0, 1⟩
/-- AON_STAT.SLEEP_ABORTED [0:0] (R429). -/
def AON_STAT_SLEEP_ABORTED : Field := ⟨0x05c, 0, 1, .w1c, [0], 0, 1⟩
/-- AON_STAT.ARMED [1:1] (R429). -/
def AON_STAT_ARMED : Field := ⟨0x05c, 1, 1, .ro, [0], 0, 1⟩
/-- AON_STAT.FORCED_FRAME [2:2] (R429). -/
def AON_STAT_FORCED_FRAME : Field := ⟨0x05c, 2, 1, .ro, [0], 0, 1⟩
/-- AON_WAKE_SEEN.PORT [6:0] (R429). -/
def AON_WAKE_SEEN_PORT : Field := ⟨0x060, 0, 7, .ro, [0], 0, 1⟩
/-- AON_WAKE_SEEN.NOPORT [7:7] (R429). -/
def AON_WAKE_SEEN_NOPORT : Field := ⟨0x060, 7, 1, .ro, [0], 0, 1⟩
/-- AON_WAKE_SEEN.SOURCE [10:8] (R429). -/
def AON_WAKE_SEEN_SOURCE : Field := ⟨0x060, 8, 3, .ro, [0], 0, 1⟩
/-- AON_WAKE_SEEN.COUNT [23:16] (R429). -/
def AON_WAKE_SEEN_COUNT : Field := ⟨0x060, 16, 8, .ro, [0], 0, 1⟩
/-- AON_WAKE_SEEN.VALID [31:31] (R429). -/
def AON_WAKE_SEEN_VALID : Field := ⟨0x060, 31, 1, .w1c, [0], 0, 1⟩
/-- AON_WAKE_ID.VALUE [31:0] (R429). -/
def AON_WAKE_ID_VALUE : Field := ⟨0x064, 0, 32, .ro, [0], 0, 1⟩
/-- AON_FALLBACK[4].PORTS [31:0] (R429). -/
def AON_FALLBACK_PORTS : Field := ⟨0x068, 0, 32, .ro, [0], 4, 4⟩
/-- AON_TERM[4].END [31:0] (R429). -/
def AON_TERM_END : Field := ⟨0x078, 0, 32, .ro, [0], 4, 4⟩
/-- AON_SCRATCH[8].VALUE [31:0] (R429). -/
def AON_SCRATCH_VALUE : Field := ⟨0x0c0, 0, 32, .rw, [0], 4, 8⟩
/-- UPD_STAGE.STATE [2:0] (R462). -/
def UPD_STAGE_STATE : Field := ⟨0x040, 0, 3, .ro, [0], 0, 1⟩
/-- UPD_STAGE.HELD [26:16] (R462). -/
def UPD_STAGE_HELD : Field := ⟨0x040, 16, 11, .ro, [0], 0, 1⟩
/-- UPD_TAG.TAG [31:0] (R462). -/
def UPD_TAG_TAG : Field := ⟨0x044, 0, 32, .ro, [0], 0, 1⟩
/-- UPD_COUNT.N [10:0] (R462). -/
def UPD_COUNT_N : Field := ⟨0x048, 0, 11, .ro, [0], 0, 1⟩
/-- UPD_JOURNAL.PHASE [2:0] (R462). -/
def UPD_JOURNAL_PHASE : Field := ⟨0x04c, 0, 3, .ro, [0], 0, 1⟩
/-- UPD_JOURNAL.PART [7:4] (R462). -/
def UPD_JOURNAL_PART : Field := ⟨0x04c, 4, 4, .ro, [0], 0, 1⟩
/-- UPD_JOURNAL.CHUNK [18:8] (R462). -/
def UPD_JOURNAL_CHUNK : Field := ⟨0x04c, 8, 11, .ro, [0], 0, 1⟩
/-- UPD_JOURNAL.ATTEMPTS [21:20] (R462). -/
def UPD_JOURNAL_ATTEMPTS : Field := ⟨0x04c, 20, 2, .ro, [0], 0, 1⟩
/-- UPD_LOADER.CAUSE [7:0] (R462). -/
def UPD_LOADER_CAUSE : Field := ⟨0x050, 0, 8, .ro, [0], 0, 1⟩
/-- UPD_MF_FW.FW [31:0] (R462). -/
def UPD_MF_FW_FW : Field := ⟨0x054, 0, 32, .ro, [0], 0, 1⟩
/-- UPD_MF_INFO.SCHEMA [15:0] (R462). -/
def UPD_MF_INFO_SCHEMA : Field := ⟨0x058, 0, 16, .ro, [0], 0, 1⟩
/-- UPD_MF_INFO.MIN_ROLLBACK [22:16] (R462). -/
def UPD_MF_INFO_MIN_ROLLBACK : Field := ⟨0x058, 16, 7, .ro, [0], 0, 1⟩
/-- UPD_MF_INFO.KEYID [25:24] (R462). -/
def UPD_MF_INFO_KEYID : Field := ⟨0x058, 24, 2, .ro, [0], 0, 1⟩
/-- UPD_RUN_INFO.SCHEMA [15:0] (R462). -/
def UPD_RUN_INFO_SCHEMA : Field := ⟨0x05c, 0, 16, .ro, [0], 0, 1⟩
/-- UPD_RUN_INFO.MIN_ROLLBACK [22:16] (R462). -/
def UPD_RUN_INFO_MIN_ROLLBACK : Field := ⟨0x05c, 16, 7, .ro, [0], 0, 1⟩
/-- UPD_SET_STAT.SLOT [0:0] (R462). -/
def UPD_SET_STAT_SLOT : Field := ⟨0x060, 0, 1, .ro, [0], 0, 1⟩
/-- UPD_SET_STAT.VALID [1:1] (R462). -/
def UPD_SET_STAT_VALID : Field := ⟨0x060, 1, 1, .ro, [0], 0, 1⟩
/-- UPD_SET_STAT.LOADED [2:2] (R462). -/
def UPD_SET_STAT_LOADED : Field := ⟨0x060, 2, 1, .ro, [0], 0, 1⟩
/-- UPD_SET_STAT.AUTORUN [3:3] (R462). -/
def UPD_SET_STAT_AUTORUN : Field := ⟨0x060, 3, 1, .ro, [0], 0, 1⟩
/-- UPD_SET_STAT.RESET [4:4] (R462). -/
def UPD_SET_STAT_RESET : Field := ⟨0x060, 4, 1, .w1c, [0], 0, 1⟩
/-- UPD_SET_STAT.CORRUPT [5:5] (R462). -/
def UPD_SET_STAT_CORRUPT : Field := ⟨0x060, 5, 1, .ro, [0], 0, 1⟩
/-- UPD_SET_STAT.FAILED [6:6] (R462). -/
def UPD_SET_STAT_FAILED : Field := ⟨0x060, 6, 1, .w1c, [0], 0, 1⟩
/-- UPD_SET_STAT.OLD_SCHEMA [31:16] (R462). -/
def UPD_SET_STAT_OLD_SCHEMA : Field := ⟨0x060, 16, 16, .ro, [0], 0, 1⟩
/-- UPD_SET_GEN.GEN [31:0] (R462). -/
def UPD_SET_GEN_GEN : Field := ⟨0x064, 0, 32, .ro, [0], 0, 1⟩
/-- UPD_SET_FAIL.RECORD [15:0] (R462). -/
def UPD_SET_FAIL_RECORD : Field := ⟨0x068, 0, 16, .ro, [0], 0, 1⟩
/-- UPD_SET_FAIL.STATUS [23:16] (R462). -/
def UPD_SET_FAIL_STATUS : Field := ⟨0x068, 16, 8, .ro, [0], 0, 1⟩
/-- UPD_SET_FAIL.REFCAUSE [27:24] (R462). -/
def UPD_SET_FAIL_REFCAUSE : Field := ⟨0x068, 24, 4, .ro, [0], 0, 1⟩
/-- UPD_PROGRESS.DONE [11:0] (R462). -/
def UPD_PROGRESS_DONE : Field := ⟨0x06c, 0, 12, .ro, [0], 0, 1⟩
/-- UPD_PROGRESS.TOTAL [27:16] (R462). -/
def UPD_PROGRESS_TOTAL : Field := ⟨0x06c, 16, 12, .ro, [0], 0, 1⟩
/-- UPD_MRAM.PASSES [15:0] (R462). -/
def UPD_MRAM_PASSES : Field := ⟨0x070, 0, 16, .ro, [0], 0, 1⟩
/-- UPD_MRAM.REWRITES [31:16] (R462). -/
def UPD_MRAM_REWRITES : Field := ⟨0x070, 16, 16, .ro, [0], 0, 1⟩
/-- UPD_BITMAP[48].HELD [31:0] (R462). -/
def UPD_BITMAP_HELD : Field := ⟨0x100, 0, 32, .ro, [0], 4, 48⟩
/-- SEC_UID_LO.UID [31:0] (R465). -/
def SEC_UID_LO_UID : Field := ⟨0x040, 0, 32, .ro, [0], 0, 1⟩
/-- SEC_UID_HI.UID [31:0] (R465). -/
def SEC_UID_HI_UID : Field := ⟨0x044, 0, 32, .ro, [0], 0, 1⟩
/-- SEC_STATE.KEY [0:0] (R465). -/
def SEC_STATE_KEY : Field := ⟨0x048, 0, 1, .ro, [0], 0, 1⟩
/-- SEC_STATE.OPEN [1:1] (R465). -/
def SEC_STATE_OPEN : Field := ⟨0x048, 1, 1, .ro, [0], 0, 1⟩
/-- SEC_STATE.ROLLBACK [14:8] (R465). -/
def SEC_STATE_ROLLBACK : Field := ⟨0x048, 8, 7, .ro, [0], 0, 1⟩
/-- SEC_STATE.KEYREV [19:16] (R465). -/
def SEC_STATE_KEYREV : Field := ⟨0x048, 16, 4, .ro, [0], 0, 1⟩
/-- SEC_STATE.FAILS [22:20] (R465). -/
def SEC_STATE_FAILS : Field := ⟨0x048, 20, 3, .ro, [0], 0, 1⟩
/-- SEC_CNT.ATTESTS [15:0] (R465). -/
def SEC_CNT_ATTESTS : Field := ⟨0x04c, 0, 16, .ro, [0], 0, 1⟩
/-- SEC_PUB[16].BYTES [31:0] (R465). -/
def SEC_PUB_BYTES : Field := ⟨0x080, 0, 32, .ro, [0], 4, 16⟩
/-- SEC_NONCE[8].BYTES [31:0] (R465). -/
def SEC_NONCE_BYTES : Field := ⟨0x0c0, 0, 32, .rw, [0], 4, 8⟩
/-- SEC_CHAL[4].BYTES [31:0] (R465). -/
def SEC_CHAL_BYTES : Field := ⟨0x0e0, 0, 32, .ro, [0], 4, 4⟩
/-- SEC_QUOTE[32].BYTES [31:0] (R465). -/
def SEC_QUOTE_BYTES : Field := ⟨0x100, 0, 32, .ro, [0], 4, 32⟩
/-- SEC_SIG[16].BYTES [31:0] (R465). -/
def SEC_SIG_BYTES : Field := ⟨0x180, 0, 32, .ro, [0], 4, 16⟩
/-- SEC_TOKEN[32].BYTES [31:0] (R465). -/
def SEC_TOKEN_BYTES : Field := ⟨0x200, 0, 32, .rw, [0], 4, 32⟩
/-- CV_CFG.ALG [3:0] (R475). -/
def CV_CFG_ALG : Field := ⟨0x040, 0, 4, .rw, [0], 0, 1⟩
/-- CV_CFG.SRC [4:4] (R475). -/
def CV_CFG_SRC : Field := ⟨0x040, 4, 1, .rw, [0], 0, 1⟩
/-- CV_CFG.PP [6:5] (R475). -/
def CV_CFG_PP : Field := ⟨0x040, 5, 2, .rw, [0], 0, 1⟩
/-- CV_CFG.CONT [7:7] (R475). -/
def CV_CFG_CONT : Field := ⟨0x040, 7, 1, .rw, [0], 0, 1⟩
/-- CV_CFG.WIDTHM1 [13:8] (R475). -/
def CV_CFG_WIDTHM1 : Field := ⟨0x040, 8, 6, .rw, [31], 0, 1⟩
/-- CV_CFG.REFIN [14:14] (R475). -/
def CV_CFG_REFIN : Field := ⟨0x040, 14, 1, .rw, [0], 0, 1⟩
/-- CV_CFG.REFOUT [15:15] (R475). -/
def CV_CFG_REFOUT : Field := ⟨0x040, 15, 1, .rw, [0], 0, 1⟩
/-- CV_CFG.TAIL [18:16] (R475). -/
def CV_CFG_TAIL : Field := ⟨0x040, 16, 3, .rw, [0], 0, 1⟩
/-- CV_CFG.CMP [19:19] (R475). -/
def CV_CFG_CMP : Field := ⟨0x040, 19, 1, .rw, [0], 0, 1⟩
/-- CV_ADDR_LO.ADDR [31:0] (R475). -/
def CV_ADDR_LO_ADDR : Field := ⟨0x044, 0, 32, .rw, [0], 0, 1⟩
/-- CV_ADDR_HI.ADDR [31:0] (R475). -/
def CV_ADDR_HI_ADDR : Field := ⟨0x048, 0, 32, .rw, [0], 0, 1⟩
/-- CV_LEN.BYTES [31:0] (R475). -/
def CV_LEN_BYTES : Field := ⟨0x04c, 0, 32, .rw, [0], 0, 1⟩
/-- CV_POLY_LO.POLY [31:0] (R475). -/
def CV_POLY_LO_POLY : Field := ⟨0x050, 0, 32, .rw, [0], 0, 1⟩
/-- CV_POLY_HI.POLY [31:0] (R475). -/
def CV_POLY_HI_POLY : Field := ⟨0x054, 0, 32, .rw, [0], 0, 1⟩
/-- CV_INIT_LO.INIT [31:0] (R475). -/
def CV_INIT_LO_INIT : Field := ⟨0x058, 0, 32, .rw, [0], 0, 1⟩
/-- CV_INIT_HI.INIT [31:0] (R475). -/
def CV_INIT_HI_INIT : Field := ⟨0x05c, 0, 32, .rw, [0], 0, 1⟩
/-- CV_XOR_LO.XOR [31:0] (R475). -/
def CV_XOR_LO_XOR : Field := ⟨0x060, 0, 32, .rw, [0], 0, 1⟩
/-- CV_XOR_HI.XOR [31:0] (R475). -/
def CV_XOR_HI_XOR : Field := ⟨0x064, 0, 32, .rw, [0], 0, 1⟩
/-- CV_EXPECT_LO.VALUE [31:0] (R475). -/
def CV_EXPECT_LO_VALUE : Field := ⟨0x068, 0, 32, .rw, [0], 0, 1⟩
/-- CV_EXPECT_HI.VALUE [31:0] (R475). -/
def CV_EXPECT_HI_VALUE : Field := ⟨0x06c, 0, 32, .rw, [0], 0, 1⟩
/-- CV_LIMIT.MS [15:0] (R475). -/
def CV_LIMIT_MS : Field := ⟨0x070, 0, 16, .rw, [0], 0, 1⟩
/-- CV_RESULT_LO.VALUE [31:0] (R475). -/
def CV_RESULT_LO_VALUE : Field := ⟨0x080, 0, 32, .ro, [0], 0, 1⟩
/-- CV_RESULT_HI.VALUE [31:0] (R475). -/
def CV_RESULT_HI_VALUE : Field := ⟨0x084, 0, 32, .ro, [0], 0, 1⟩
/-- CV_RAW_LO.REG [31:0] (R475). -/
def CV_RAW_LO_REG : Field := ⟨0x088, 0, 32, .rw, [0], 0, 1⟩
/-- CV_RAW_HI.REG [31:0] (R475). -/
def CV_RAW_HI_REG : Field := ⟨0x08c, 0, 32, .rw, [0], 0, 1⟩
/-- CV_DONE.BYTES [31:0] (R475). -/
def CV_DONE_BYTES : Field := ⟨0x090, 0, 32, .ro, [0], 0, 1⟩
/-- CV_ERR_ADDR_LO.ADDR [31:0] (R475). -/
def CV_ERR_ADDR_LO_ADDR : Field := ⟨0x094, 0, 32, .ro, [0], 0, 1⟩
/-- CV_ERR_ADDR_HI.ADDR [31:0] (R475). -/
def CV_ERR_ADDR_HI_ADDR : Field := ⟨0x098, 0, 32, .ro, [0], 0, 1⟩
/-- CV_TIME.MICROS [31:0] (R475). -/
def CV_TIME_MICROS : Field := ⟨0x09c, 0, 32, .ro, [0], 0, 1⟩
/-- CV_SCANS.COUNT [31:0] (R475). -/
def CV_SCANS_COUNT : Field := ⟨0x0a0, 0, 32, .rc, [0], 0, 1⟩

/-- Every field of the header that every page begins with (R45). -/
def fieldsHDR : List Field :=
  [PAGE_ID_VERSION, PAGE_ID_INSTANCE, PAGE_ID_TYPE, PAGE_STAT_BUSY, PAGE_STAT_ERR, PAGE_STAT_OWNER, PAGE_STAT_REFCAUSE, PAGE_STAT_REFUSALS] ++
  [PAGE_CMD_CODE, PAGE_ARG0_ARG0, PAGE_ARG1_ARG1, PAGE_RESULT_STATUS, PAGE_RESULT_CODE, PAGE_RESULT_DETAIL, PAGE_FENCE_VALUE, PAGE_ERRSRC_SRC] ++
  [PAGE_IRQ_PEND_PEND, PAGE_IRQ_EN_EN]

/-- Every field of a DEV page's own registers. -/
def fieldsDEV : List Field :=
  [DEV_ID_PART, DEV_ID_STEPPING, DEV_FW_BUILD, DEV_FW_MINOR, DEV_FW_MAJOR, DEV_MODE_MODE, DEV_MODE_PREV, DEV_MODE_MOVING] ++
  [DEV_CLUSTERS_FENCED, DEV_FENCE_SYNC_COUNT, DEV_PARTNERS_PRIMARY, DEV_PARTNERS_LINK_UP, DEV_PARTNERS_BME]

/-- Every field of a PP page's own registers. -/
def fieldsPP : List Field :=
  [PP_LINK_SPEED, PP_LINK_FLIT, PP_LINK_WIDTH, PP_LINK_L0P_WIDTH, PP_LINK_PM, PP_PANIC_STATE, PP_PANIC_FORCE, PP_PANIC_MASK] ++
  [PP_PANIC_CNT_COUNT, PP_PANIC_TIME_MICROS, PP_WAKE_STATE, PP_WAKE_FORCE, PP_ERR_UR_COUNT, PP_ERR_POISON_COUNT, PP_ERR_CTO_COUNT, PP_UR_ADDR_LO_ADDR] ++
  [PP_UR_ADDR_HI_ADDR]

/-- Every field of a PORT page's own registers. -/
def fieldsPORT : List Field :=
  [PORT_ABT_PRESC, PORT_ABT_PH1, PORT_ABT_PH2, PORT_ABT_SJW, PORT_ABT_ACT_VALUE, PORT_BITLEN_NQ, PORT_SND_SND, PORT_ECL_CEIL] ++
  [PORT_ECL_ENFORCE, PORT_ECL_SW_OPEN, PORT_ECL_EPH_OPEN, PORT_ECL_OPEN, PORT_ARB_LOST_COUNT, PORT_NU_WON_COUNT, PORT_NU_VOID_COUNT, PORT_IDSHARE_CNT_COUNT] ++
  [PORT_IDSHARE_ID_ID, PORT_IDSHARE_ID_LONG, PORT_IDSHARE_ID_CASE, PORT_IDSHARE_SND_FIRST, PORT_IDSHARE_SND_SECOND, PORT_SNDCLASH_COUNT, PORT_ECL_VIOL_COUNT, PORT_MODE_MODE] ++
  [PORT_MODE_CFG, PORT_MODE_MOVING, PORT_MODE_PREV, PORT_ECNT_TEC, PORT_ECNT_REC, PORT_ESTATE_STATE, PORT_ESTATE_WARN, PORT_ESTATE_ALONE] ++
  [PORT_ESTATE_ACKRUN, PORT_ESTATE_LEC, PORT_ERRCFG_AUTO, PORT_ERRCFG_QUICK, PORT_RECOV_SEQ, PORT_CNT_BIT_COUNT, PORT_CNT_STUFF_COUNT, PORT_CNT_FORM_COUNT] ++
  [PORT_CNT_ACK_COUNT, PORT_CNT_HCRC_COUNT, PORT_CNT_LCRC_COUNT, PORT_CNT_TAIL_COUNT, PORT_CNT_OVLD_COUNT, PORT_CNT_BUSOFF_COUNT, PORT_LISTEN_RATE, PORT_LISTEN_RESULT] ++
  [PORT_LISTEN_RESTARTS, PORT_LISTEN_TIMEOUT, PORT_WAKE_CFG_EDGE, PORT_WAKE_CFG_FORCED, PORT_WAKE_CFG_AFTER, PORT_WAKE_ID_ID, PORT_WAKE_ID_XID, PORT_WAKE_IDMASK_MASK] ++
  [PORT_WAKE_IDMASK_XMASK, PORT_WAKE_DATA0_PATTERN, PORT_WAKE_DATA1_PATTERN, PORT_WAKE_DMASK0_MASK, PORT_WAKE_DMASK1_MASK, PORT_WAKE_SEEN_ID, PORT_WAKE_SEEN_LONG, PORT_WAKE_SEEN_EDGE] ++
  [PORT_WAKE_SEEN_VALID, PORT_FLT_LIST_FIRST, PORT_FLT_LIST_COUNT, PORT_FLT_STAGE_FIRST, PORT_FLT_STAGE_COUNT, PORT_FLT_BADIDX_INDEX, PORT_RX_PSEQ_PSEQ, PORT_RX_OK_COUNT] ++
  [PORT_RX_REJ_COUNT, PORT_RX_OVR_COUNT, PORT_RX_OVR_ESS_COUNT, PORT_RX_OVRCAUSE_CAUSE, PORT_RX_UNDO_COUNT, PORT_TX_DB_INDEX, PORT_TX_DB_COUNT, PORT_TX_QUOTA_UNITS] ++
  [PORT_TX_PEND_COUNT, PORT_TX_BACKLOG_BYTES, PORT_TX_OK_COUNT, PORT_TX_FAIL_COUNT, PORT_TX_LIMIT_COUNT, PORT_TX_CANCEL_COUNT, PORT_TX_DBDROP_COUNT, PORT_TX_BAD_INDEX] ++
  [PORT_TX_BAD_REASON, PORT_TX_CAND_INDEX, PORT_TX_CAND_CL, PORT_TX_CAND_FWD, PORT_TX_CAND_VALID, PORT_MV_WM_LOW, PORT_MV_WM_HIGH, PORT_MV_ATT_PP] ++
  [PORT_MV_ATT_EN, PORT_MV_ATT_IN_PANIC, PORT_MV_PANIC_CNT_COUNT]

/-- Every field of a PHY page's own registers. -/
def fieldsPHY : List Field :=
  [PHY_TERM_MODE, PHY_TERM_CODE, PHY_TERM_TRIMMED, PHY_TERM_LIMIT, PHY_RUNG_CEIL, PHY_RUNG_RX_EN, PHY_RUNG_PENDING, PHY_ABAND_SLEW] ++
  [PHY_TXEQ_PRE, PHY_TXEQ_POST, PHY_TXEQ_AMP, PHY_REFINE_EN, PHY_REFINE_RUNNING, PHY_REFINE_FOLDS, PHY_CAL_DONE, PHY_CAL_RUNNING] ++
  [PHY_CAL_TEMP, PHY_CAL_PERIODIC, PHY_DSTAT_ACTIVE, PHY_DSTAT_LOCKED, PHY_CNT_COLD_COUNT, PHY_CNT_LOCKLOSS_COUNT, PHY_CNT_SURGE_COUNT, PHY_EYE_PROG_POINTS] ++
  [PHY_LT_VALID_COUNT]

/-- Every field of a CL page's own registers. -/
def fieldsCL : List Field :=
  [CL_RXPOOL_BASE, CL_RXPOOL_SIZE, CL_RXPOOL_ESS, CL_BUFAREA_EN, CL_RXCFG_LOSS_TGT, CL_RXCFG_RING_KEEP, CL_POOL_FREE_COMMON, CL_POOL_FREE_ESS] ++
  [CL_POOL_MIN_COMMON, CL_POOL_BIG_COMMON_K, CL_POOL_BIG_ESS_K, CL_RX_HELD_BLOCKS, CL_BUF_OVW_COUNT, CL_LOSS_CNT_COUNT, CL_BUF_NEW_NEW, RXF_CFG_EN] ++
  [RXF_CFG_LOG2, RXF_CFG_BASE, RXF_CFG_TGT, RXF_KEEP_KEEP, RXF_PUT_PUT, RXF_GET_GET, RXF_SEQ_SEQ, RXF_OVR_COUNT] ++
  [RXF_RSV_SLOTS, CL_TXSOFT_BASE, CL_TXSOFT_SIZE, CL_TXPOOL_FREE_FREE, CL_TXPOOL_MIN_FREE, CL_TX_INUSE_OBJECTS, CL_FWD_INUSE_CONTEXTS, CL_TX_WAIT_COUNT] ++
  [CL_TX_LOST_COUNT, CL_PSET_PORTS]

/-- Every field of a MOV page's own registers. -/
def fieldsMOV : List Field :=
  [MOV_CFG_PP, MOV_CFG_MODE, MOV_CFG_NOSNOOP, MOV_CFG_WRAP, MOV_CFG_CREDIT, MOV_CFG_BURST, MOV_ELEM_ELEM64, MOV_BASE_LO_ADDR] ++
  [MOV_BASE_HI_ADDR, MOV_CNT01_C0M1, MOV_CNT01_C1M1, MOV_CNT2_C2M1, MOV_STEP0_STEP, MOV_STEP1_STEP, MOV_STEP2_STEP, MOV_CREDIT_ADD_ELEMS] ++
  [MOV_CREDIT_ELEMS, MOV_STATE_STATE, MOV_STATE_CAUSE, MOV_STATE_DIR, MOV_STATE_URGENT, MOV_STATE_QUEUED, MOV_ERR_ADDR_LO_ADDR, MOV_ERR_ADDR_HI_ADDR] ++
  [MOV_ERR_STORE_OFFSET, MOV_POS01_I0, MOV_POS01_I1, MOV_POS2_I2, MOV_XFER_STATE, MOV_BYTES_COUNT, MOV_REQS_COUNT, MOV_LAT_MAX_NS]

/-- Every field of a EPH page's own registers. -/
def fieldsEPH : List Field :=
  [RT_CFG_SRC, RT_CFG_FPOL, RT_CFG_LPOL, RT_CFG_TERM, RT_CFG_WIN, RT_CFG_MARK_WIN, RT_NOM_LINES, RT_NOM_CODE] ++
  [RT_NOM_PERIOD_PERIOD, RT_NOW_FRAME_FRAME, RT_NOW_LINE_LINE, RT_NOW_LINE_SUBLINE, RT_NOW_LINE_FINE, RT_NOW_LINE_TB, RT_STAT_TB, RT_STAT_CODE] ++
  [RT_STAT_MISS_L, RT_STAT_MISS_F, RT_STAT_ACQ, RT_MEAS_LINES, RT_MEAS_PERIOD_PERIOD, RT_CNT_SLIP_COUNT, RT_CNT_LOSS_COUNT, RT_CNT_DISC_COUNT] ++
  [RT_MARK_FRAME_FRAME, RT_MARK_LINE_LINE, RT_MARK_LINE_SUBLINE, RT_MARK_ERR_ERR, RT_MARK_ERR_STEPPED, EPH_CFG_EN, EPH_FIRED_COUNT, EPH_LATE_COUNT] ++
  [EPH_DROPPED_COUNT, EPH_BAD_INDEX, EPH_SYNC_SENT_COUNT, EPH_SYNC_LOST_COUNT, EPH_HELD_COUNT, EPH_LAST_INDEX, EPH_LAST_LATE, EPH_ARMED_CNT_COUNT] ++
  [EPH_ARMED_ARMED]

/-- Every field of a ICU page's own registers. -/
def fieldsICU : List Field :=
  [ICU_SRC_SEL_SRC, ICU_SRC_SEL_PTGT, ICU_SRC_CFG_EN, ICU_SRC_CFG_TGT, ICU_SRC_CFG_GROUP, ICU_SRC_CFG_LEVEL, ICU_SRC_STATE_COUNT, ICU_SRC_STATE_ACTIVE] ++
  [ICU_SRC_STATE_MASKED, ICU_SRC_STATE_PINNED, ICU_SRC_STATE_ELIGIBLE, ICU_SRC_STATE_WAITING, ICU_SRC_STATE_ATGT, ICU_SUMMARY_NORMAL, ICU_SUMMARY_FAST, ICU_MSG_HELD_NORMAL] ++
  [ICU_MSG_HELD_FAST, ICU_GRP_VALUE, ICU_GRP_CLASS]

/-- Every field of a T page's own registers. -/
def fieldsT : List Field :=
  [T_CFG_MODE, T_CFG_FAST, T_IDLE_IDLE, T_CLAIM_SRC, T_CLAIM_COUNT, T_CLAIM_LEVEL, T_COMPLETE_SRC, T_EOI_POP] ++
  [T_PENDING_SRC, T_PENDING_NUM, T_PENDING_LEVEL, T_STACK_DEPTH, T_STACK_RP, T_STACK_TOP, T_MASK_SRC, T_MASK_MASK] ++
  [T_ACTIVE_NORMAL, T_ACTIVE_FAST, T_MSG_CNT_COUNT, T_RING_BASE_LO_ADDR, T_RING_BASE_HI_ADDR, T_RING_CFG_LOG2, T_RING_CFG_EN, T_RING_PUT_PUT] ++
  [T_RING_GET_GET, T_RING_RSV_SLOTS, T_RING_RSV_WAIT, T_MAIL_OUT_TGT, T_MAIL_OUT_VALUE, T_MAIL_IN_FROM, T_MAIL_IN_VALID, T_MAIL_IN_LOST] ++
  [T_MAIL_IN_VALUE, T_TIMER_PERIOD, T_SELF_FIRE, T_PRIV_EN, T_PRIV_GROUP, T_PRIV_LEVEL]

/-- Every field of a F page's own registers. -/
def fieldsF : List Field :=
  [F_CLAIM_SRC, F_CLAIM_COUNT, F_CLAIM_LEVEL, F_COMPLETE_SRC, F_PENDING_SRC, F_PENDING_NUM, F_PENDING_LEVEL, F_MSG_CNT_COUNT]

/-- Every field of a FCO page's own registers. -/
def fieldsFCO : List Field :=
  [FCO_STICKY_LO_LINES, FCO_STICKY_HI_LINES, FCO_IN_LO_LINES, FCO_IN_HI_LINES, FCO_STAT_TOP, FCO_STAT_ANY, FCO_STAT_FAULT, FCO_STAT_PARITY_ERR] ++
  [FCO_STAT_PIDX, FCO_INJECT_LINE, FCO_INJECT_LEVEL, FCO_INJECT_FORCE, FCO_EVENTS_COUNT, FCO_MASKED_COUNT, FCO_LCFG_A_EN, FCO_LCFG_A_BASE] ++
  [FCO_LCFG_A_CNT, FCO_LCFG_A_CAP, FCO_LCFG_A_UNIT, FCO_LCFG_A_N, FCO_LCFG_A_W, FCO_LCFG_B_NOTE, FCO_LCFG_B_MINOR, FCO_LCFG_B_MAJOR] ++
  [FCO_LCFG_B_SEVERE, FCO_LSTAT_LEVEL, FCO_LSTAT_STICKY, FCO_LSTAT_COUNT, FCO_LSTAT_TOTAL]

/-- Every field of a TEL page's own registers. -/
def fieldsTEL : List Field :=
  [TEL_CFG_EN, TEL_CFG_PP, TEL_CFG_LOG2, TEL_CFG_SIGN, TEL_BASE_LO_ADDR, TEL_BASE_HI_ADDR, TEL_SEQ_SEQ, TEL_SKIPPED_COUNT]

/-- Every field of a CRP page's own registers. -/
def fieldsCRP : List Field :=
  [CRP_STRAP_PRIMPP, CRP_STRAP_REFSEL, CRP_STRAP_REFAUTO, CRP_STRAP_AUTOSTART, CRP_CLK_ACTIVE, CRP_CLK_HOLDOVER, CRP_CLK_FREERUN, CRP_CLK_FAILOVER] ++
  [CRP_CLK_PRESENT, CRP_CLK_CORE_LOCK, CRP_CLK_CL_LOCK, CRP_MOON_DEV, CRP_MOON_TRIMMED, CRP_THERM_TJ, CRP_THERM_TJ_MAX, CRP_PWR_MW] ++
  [CRP_SUPPLY_IN_RANGE]

/-- Every field of a AON page's own registers. -/
def fieldsAON : List Field :=
  [AON_RST_CAUSE_CAUSE, AON_RST_CAUSE_COUNT, AON_WAKE_EN_PORTS, AON_WAKE_PP_PPS, AON_TIMER_SECONDS, AON_TIMER_PP, AON_STAT_SLEEP_ABORTED, AON_STAT_ARMED] ++
  [AON_STAT_FORCED_FRAME, AON_WAKE_SEEN_PORT, AON_WAKE_SEEN_NOPORT, AON_WAKE_SEEN_SOURCE, AON_WAKE_SEEN_COUNT, AON_WAKE_SEEN_VALID, AON_WAKE_ID_VALUE, AON_FALLBACK_PORTS] ++
  [AON_TERM_END, AON_SCRATCH_VALUE]

/-- Every field of a UPD page's own registers. -/
def fieldsUPD : List Field :=
  [UPD_STAGE_STATE, UPD_STAGE_HELD, UPD_TAG_TAG, UPD_COUNT_N, UPD_JOURNAL_PHASE, UPD_JOURNAL_PART, UPD_JOURNAL_CHUNK, UPD_JOURNAL_ATTEMPTS] ++
  [UPD_LOADER_CAUSE, UPD_MF_FW_FW, UPD_MF_INFO_SCHEMA, UPD_MF_INFO_MIN_ROLLBACK, UPD_MF_INFO_KEYID, UPD_RUN_INFO_SCHEMA, UPD_RUN_INFO_MIN_ROLLBACK, UPD_SET_STAT_SLOT] ++
  [UPD_SET_STAT_VALID, UPD_SET_STAT_LOADED, UPD_SET_STAT_AUTORUN, UPD_SET_STAT_RESET, UPD_SET_STAT_CORRUPT, UPD_SET_STAT_FAILED, UPD_SET_STAT_OLD_SCHEMA, UPD_SET_GEN_GEN] ++
  [UPD_SET_FAIL_RECORD, UPD_SET_FAIL_STATUS, UPD_SET_FAIL_REFCAUSE, UPD_PROGRESS_DONE, UPD_PROGRESS_TOTAL, UPD_MRAM_PASSES, UPD_MRAM_REWRITES, UPD_BITMAP_HELD]

/-- Every field of a SEC page's own registers. -/
def fieldsSEC : List Field :=
  [SEC_UID_LO_UID, SEC_UID_HI_UID, SEC_STATE_KEY, SEC_STATE_OPEN, SEC_STATE_ROLLBACK, SEC_STATE_KEYREV, SEC_STATE_FAILS, SEC_CNT_ATTESTS] ++
  [SEC_PUB_BYTES, SEC_NONCE_BYTES, SEC_CHAL_BYTES, SEC_QUOTE_BYTES, SEC_SIG_BYTES, SEC_TOKEN_BYTES]

/-- Every field of a CV page's own registers. -/
def fieldsCV : List Field :=
  [CV_CFG_ALG, CV_CFG_SRC, CV_CFG_PP, CV_CFG_CONT, CV_CFG_WIDTHM1, CV_CFG_REFIN, CV_CFG_REFOUT, CV_CFG_TAIL] ++
  [CV_CFG_CMP, CV_ADDR_LO_ADDR, CV_ADDR_HI_ADDR, CV_LEN_BYTES, CV_POLY_LO_POLY, CV_POLY_HI_POLY, CV_INIT_LO_INIT, CV_INIT_HI_INIT] ++
  [CV_XOR_LO_XOR, CV_XOR_HI_XOR, CV_EXPECT_LO_VALUE, CV_EXPECT_HI_VALUE, CV_LIMIT_MS, CV_RESULT_LO_VALUE, CV_RESULT_HI_VALUE, CV_RAW_LO_REG] ++
  [CV_RAW_HI_REG, CV_DONE_BYTES, CV_ERR_ADDR_LO_ADDR, CV_ERR_ADDR_HI_ADDR, CV_TIME_MICROS, CV_SCANS_COUNT]

end Sys2Proof.Machine
end

