-- ==== Sys2Proof/Machine/Ops.lean ====
section
/-!
DEFINITION. The named operations over registers, pages, outputs, counters and free values. Every other file reads and
writes registers through these.
-/
set_option Elab.async false

namespace Sys2Proof.Machine

/-! ### Pages (R36) -/

def devPg : Nat := 0
def crpPg : Nat := 1
def aonPg : Nat := 2
def fcoPg : Nat := 3
def icuPg : Nat := 4
def tnPg (k : Nat) : Nat := 5 + 2 * k
def tfPg (k : Nat) : Nat := 6 + 2 * k
def updPg : Nat := 0x25
def secPg : Nat := 0x26
def telPg : Nat := 0x27
def ppPg (n : Nat) : Nat := 0x28 + n
def clPg (c : Nat) : Nat := 0x30 + c
def ephPg (c : Nat) : Nat := 0x38 + c
def cvPg (u : Nat) : Nat := 0x40 + u
def portPg (n : Nat) : Nat := 0x80 + n
def phyPg (n : Nat) : Nat := 0x100 + n
def movPg (m : Nat) : Nat := 0x180 + m

/-- Kinds of page with their instance number (R46). -/
inductive Page
  | dev | crp | aon | fco | icu
  | tn (k : Nat) | tf (k : Nat)
  | upd | sec | tel
  | pp (n : Nat) | cl (c : Nat) | eph (c : Nat) | cv (u : Nat)
  | port (n : Nat) | phy (n : Nat) | mov (m : Nat)
  deriving DecidableEq, Repr

/-- The page at a page index, where R36 puts one. -/
def pageAt (p : Nat) : Option Page :=
  if p = 0 then some .dev else if p = 1 then some .crp else if p = 2 then some .aon
  else if p = 3 then some .fco else if p = 4 then some .icu
  else if p < 0x25 then some (if p % 2 = 1 then .tn ((p - 5) / 2) else .tf ((p - 6) / 2))
  else if p = 0x25 then some .upd else if p = 0x26 then some .sec else if p = 0x27 then some .tel
  else if p < 0x2C then some (.pp (p - 0x28))
  else if p < 0x30 then none
  else if p < 0x38 then some (.cl (p - 0x30))
  else if p < 0x40 then some (.eph (p - 0x38))
  else if p < 0x50 then some (.cv (p - 0x40))
  else if p < 0x80 then none
  else if p < 0x100 then some (.port (p - 0x80))
  else if p < 0x180 then some (.phy (p - 0x100))
  else if p < 0x280 then some (.mov (p - 0x180))
  else none

/-- PAGE_ID.TYPE and PAGE_ID.INSTANCE (R46, R525). -/
def Page.typeInst : Page → Nat × Nat
  | .dev => (0x01, 0) | .crp => (0x02, 0) | .aon => (0x03, 0) | .fco => (0x04, 0) | .icu => (0x05, 0)
  | .tn k => (0x06, k) | .tf k => (0x07, k)
  | .upd => (0x08, 0) | .sec => (0x09, 0) | .tel => (0x0A, 0)
  | .pp n => (0x0B, n) | .cl c => (0x0C, c) | .eph c => (0x0D, c) | .cv u => (0x0E, u)
  | .port n => (0x0F, n) | .phy n => (0x10, n) | .mov m => (0x11, m)

/-- The fields of a page's own registers. -/
def Page.fields : Page → List Field
  | .dev => fieldsDEV | .crp => fieldsCRP | .aon => fieldsAON | .fco => fieldsFCO | .icu => fieldsICU
  | .tn _ => fieldsT | .tf _ => fieldsF | .upd => fieldsUPD | .sec => fieldsSEC | .tel => fieldsTEL
  | .pp _ => fieldsPP | .cl _ => fieldsCL | .eph _ => fieldsEPH | .cv _ => fieldsCV
  | .port _ => fieldsPORT | .phy _ => fieldsPHY | .mov _ => fieldsMOV

/-! ### Fields -/

/-- Where field `f`, index `i`, of page `p` stands in `regs`. -/
def fieldKey (p : Nat) (f : Field) (i : Nat) : Nat := (p * 4096 + f.off + f.stride * i) * 32 + f.lo

/-- The value a field holds. -/
def State.rd (s : State) (p : Nat) (f : Field) (i : Nat := 0) : Nat := mapGet (f.rstAt i) s.regs (fieldKey p f i)

/-- Set a field, cut to its width. -/
def State.wr (s : State) (p : Nat) (f : Field) (v : Nat) (i : Nat := 0) : State :=
  { s with regs := mapSet (f.rstAt i) s.regs (fieldKey p f i) (v % 2 ^ f.w) }

/-- A field of one bit as a truth value. -/
def State.flag (s : State) (p : Nat) (f : Field) (i : Nat := 0) : Bool := s.rd p f i != 0

/-- Set a field of one bit. -/
def State.wrB (s : State) (p : Nat) (f : Field) (b : Bool) (i : Nat := 0) : State := s.wr p f (if b then 1 else 0) i

/-- Add to a counter, which stays at its greatest value (R64, R138 and the other counter tables). -/
def State.bump (s : State) (p : Nat) (f : Field) (n : Nat := 1) (i : Nat := 0) : State :=
  s.wr p f (min (s.rd p f i + n) (2 ^ f.w - 1)) i

/-- Add to a count that wraps. -/
def State.adv (s : State) (p : Nat) (f : Field) (n : Nat := 1) (i : Nat := 0) : State :=
  s.wr p f (s.rd p f i + n) i

/-- Set bits of a field. -/
def State.orBits (s : State) (p : Nat) (f : Field) (bits : Nat) (i : Nat := 0) : State :=
  s.wr p f (s.rd p f i ||| bits) i

/-- Clear bits of a field. -/
def clearBits (old bits : Nat) : Nat := old ^^^ (old &&& bits)

/-- Bit `i` of a number. -/
def bit (i : Nat) : Nat := 2 ^ i

/-- Bits [lo + w - 1 : lo] of a number. -/
def bits (v lo w : Nat) : Nat := v / 2 ^ lo % 2 ^ w

/-- Advance a telemetry counter, which wraps modulo 2^32 (R395), by its offset in the snapshot. -/
def State.tally (s : State) (off : Nat) (n : Nat := 1) : State :=
  { s with tel := mapMod 0 s.tel off fun v => (v + n) % 2 ^ 32 }

/-- Whether cluster `c` is fenced (R384). -/
def State.fencedCl (s : State) (c : Nat) : Bool := (s.rd devPg DEV_CLUSTERS_FENCED).testBit c

/-- A telemetry counter of a cluster block; it stops while the cluster is fenced (R395, R397). -/
def State.tallyCl (s : State) (c word : Nat) (n : Nat := 1) : State :=
  if s.fencedCl c then s else s.tally (0x100 + 64 * c + word) n

/-- A telemetry counter of a port block; it stops while the cluster is fenced (R395, R397). -/
def State.tallyPort (s : State) (n word : Nat) (k : Nat := 1) : State :=
  if s.fencedCl (n / 16) then s else s.tally (0x300 + 64 * n + word) k

/-- Log something that leaves the device. -/
def State.emit (s : State) (o : Out) : State := { s with out := o :: s.out }

/-! ### Instances -/

def State.pp (s : State) (n : Nat) : PpState := mapGet {} s.pps n
def State.modPp (s : State) (n : Nat) (f : PpState → PpState) : State := { s with pps := mapMod {} s.pps n f }
def State.tgt (s : State) (k : Nat) : TgtState := mapGet {} s.tgts k
def State.modTgt (s : State) (k : Nat) (f : TgtState → TgtState) : State := { s with tgts := mapMod {} s.tgts k f }
def State.src (s : State) (k : Nat) : IntSrc := mapGet {} s.srcs k
def State.modSrc (s : State) (k : Nat) (f : IntSrc → IntSrc) : State := { s with srcs := mapMod {} s.srcs k f }
def State.line (s : State) (l : Nat) : LineState := mapGet {} s.lines l
def State.modLine (s : State) (l : Nat) (f : LineState → LineState) : State := { s with lines := mapMod {} s.lines l f }
def State.port (s : State) (n : Nat) : PortState := mapGet {} s.ports n
def State.modPort (s : State) (n : Nat) (f : PortState → PortState) : State := { s with ports := mapMod {} s.ports n f }
def State.chan (s : State) (m : Nat) : ChanState := mapGet {} s.chans m
def State.modChan (s : State) (m : Nat) (f : ChanState → ChanState) : State := { s with chans := mapMod {} s.chans m f }

/-- Change a listed job. -/
def State.modJob (s : State) (uid : Nat) (f : Job → Job) : State :=
  match mapGet? s.jobs uid with
  | some j => { s with jobs := mapPut s.jobs uid (f j) }
  | none => s

/-- A new number for a job, a push or an eligibility. -/
def State.fresh (s : State) : Nat × State := (s.nextUid, { s with nextUid := s.nextUid + 1 })

/-- What the management cores execute: the end of a long operation or of a transition, the scheduling of calibration, the assembly
of telemetry, the update sequence. While they are stalled it does not happen (R22). -/
def State.byCores (s : State) (f : State → State) : State := if s.stalled then s else f s

/-! ### Free values -/

/-- Draw a random word (R459). -/
def State.drawRandom (s : State) : Nat × State :=
  ((Config.randomWord s.freeCtr).toNat, { s with freeCtr := s.freeCtr + 1 })

/-- Draw a word of a signature or digest (R395, R456). -/
def State.drawCrypto (s : State) : Nat × State :=
  ((Config.cryptoWord s.freeCtr).toNat, { s with freeCtr := s.freeCtr + 1 })

/-- Draw a number that no rule determines, of `w` bits. -/
def State.drawOpen (s : State) (w : Nat) : Nat × State :=
  ((Config.measured s.freeCtr).toNat % 2 ^ w, { s with freeCtr := s.freeCtr + 1 })

/-- A quotient whose rounding the spec leaves open (R198, R312, R317): exact where it is exact, else either neighbour. -/
def State.divOpen (s : State) (a : Int) (b : Nat) : Int × State :=
  if a % b = 0 then (a / b, s)
  else (a / b + (if Config.roundUp s.freeCtr then 1 else 0), { s with freeCtr := s.freeCtr + 1 })

/-! ### Lists -/

/-- Run `f` over a list, left to right. -/
def State.each {α : Type} (s : State) (l : List α) (f : State → α → State) : State := l.foldl f s

/-- The sixteen ports of a cluster. -/
def clusterPorts (c : Nat) : List Nat := (List.range 16).map fun i => 16 * c + i

/-- The 32-bit word `i` of a list of bytes, little-endian (R14, R39). -/
def wordOf (b : List Byte) (i : Nat) : Nat :=
  ((b.drop (4 * i)).take 4).foldr (fun x acc => x.toNat + 256 * acc) 0

/-- The four bytes of a word. -/
def bytesOf (w : Nat) : List Byte := (List.range 4).map fun i => BitVec.ofNat 8 (w / 256 ^ i)

end Sys2Proof.Machine
end

