-- ==== Sys2Proof/Machine/Flags.lean ====
section
/-!
DEFINITION. Events and flags: interrupt sources and their counts (R342-R358), PAGE_IRQ_PEND, PAGE_ERRSRC and the fault lines
its bits drive (R45, R369), the result of a command (R48, R49), and the refusal of a write (R8, R47).
-/
set_option Elab.async false

namespace Sys2Proof.Machine

/-! ### Interrupt sources -/

/-- The key of private source 4080 + `i` of target `k` in `srcs`. -/
def privKey (k i : Nat) : Nat := 4096 + 16 * k + i

/-- The source number that a key stands for (R343, R344). -/
def srcNum (key : Nat) : Nat := if key < 4096 then key else 4080 + (key - 4096) % 16

/-- The target a source is routed to (R344, R345). -/
def State.srcTgt (s : State) (key : Nat) : Nat := if key < 4096 then (s.src key).tgt else (key - 4096) / 16

/-- Shared numbers that R343 does not reserve. -/
def sharedExists (n : Nat) : Bool :=
  (0 < n && n < 13) || (16 ≤ n && n < 48) || (64 ≤ n && n < 768)

/-- The interrupt controller runs (R359). -/
def State.icuRuns (s : State) : Bool :=
  match s.mode with
  | .loader | .dormant => false
  | _ => true

/-- A source that has just become pending starts its group's coalescing delay (R357): user class with a delay. -/
def State.startDelay (s : State) (key : Nat) : State :=
  let g := (s.src key).group
  if s.flag icuPg ICU_GRP_CLASS g && s.rd icuPg ICU_GRP_VALUE g != 0 then s.modSrc key fun x => { x with delay := true }
  else s

/-- One event of a source (R345, R346). -/
def State.event (s : State) (key : Nat) : State :=
  let x := s.src key
  if !x.en || !s.icuRuns then s
  else
    let s1 := s.modSrc key fun x => { x with count := min (x.count + 1) 255 }
    if x.count = 0 && !x.active then s1.startDelay key else s1

/-- The source of a page (R343, R344, R525). -/
def pageSource : Page → Nat
  | .dev => 1 | .crp => 2 | .aon => 3 | .fco => 4 | .icu => 5 | .upd => 6 | .sec => 7 | .tel => 8
  | .pp n => 9 + n | .cl c => 16 + c | .eph c => 24 + c | .cv u => 32 + u
  | .port n => 256 + n | .phy n => 384 + n | .mov m => 512 + m
  | .tn k => privKey k 7 | .tf k => privKey k 7

/-- Some bit is set in both PAGE_IRQ_PEND and PAGE_IRQ_EN (R45). -/
def State.pageIrq (s : State) (p : Nat) : Bool :=
  s.rd p PAGE_IRQ_PEND_PEND &&& s.rd p PAGE_IRQ_EN_EN != 0

/-- The condition of a page's level source (R342, R344). -/
def State.pageCond (s : State) (p : Nat) : Bool :=
  match pageAt p with
  | some (.tn k) => s.pageIrq p || s.pageIrq (tfPg k)
  | some (.tf k) => s.pageIrq p || s.pageIrq (tnPg k)
  | _ => s.pageIrq p

/-- After a change of a page's pending or enable bits: the level source counts an event when its condition has become
true, and vector 8 of a PP page is signalled (R41, R342). `was`: the condition before. -/
def State.pageRise (s : State) (p : Nat) (was : Bool) : State :=
  if was || !s.pageCond p then s
  else
    match pageAt p with
    | some (.pp n) => (s.modPp n fun x => { x with vec8 := true }).event (9 + n)
    | some pg => s.event (pageSource pg)
    | none => s

/-- Set bits of PAGE_IRQ_PEND (R45). -/
def State.irq (s : State) (p bits : Nat) : State :=
  (s.orBits p PAGE_IRQ_PEND_PEND bits).pageRise p (s.pageCond p)

/-- The keys of a target's sources (R344, R345). -/
def State.targetSources (s : State) (k : Nat) : List (Nat × IntSrc) :=
  s.srcs.filter fun e => if e.1 < 4096 then e.2.tgt == k else (e.1 - 4096) / 16 == k

/-- T_CFG.MODE = STACK (R352). -/
def State.stackMode (s : State) (k : Nat) : Bool := s.flag (tnPg k) T_CFG_MODE

/-- The class of a level on a target: fast or not (R351). -/
def State.isFast (s : State) (k level : Nat) : Bool :=
  let f := s.rd (tnPg k) T_CFG_FAST
  !s.stackMode k && f != 0 && decide (f ≤ level)

/-- Running priority (R352). -/
def State.runPrio (s : State) (k : Nat) : Nat :=
  match (s.tgt k).stack with
  | (l, _) :: _ => l
  | [] => 0

/-- A claim is active on the target, of one class or of any (R351, R357). -/
def State.activeClaims (s : State) (k : Nat) (fast : Option Bool) : Nat :=
  (s.srcs.filter fun e => e.2.active && e.2.atgt == k &&
    (match fast with | some b => e.2.afast == b | none => true)).length

/-- A target is idle (R357). -/
def State.tgtIdle (s : State) (k : Nat) : Bool := s.flag (tnPg k) T_IDLE_IDLE && s.activeClaims k none == 0

/-- The source's group lets it through (R356, R357). -/
def State.groupLets (s : State) (k : Nat) (x : IntSrc) : Bool :=
  if s.flag icuPg ICU_GRP_CLASS x.group then !x.delay || s.tgtIdle k
  else !s.holdOff.contains x.group

/-- Pending (R346). -/
def IntSrc.pending (x : IntSrc) : Bool := x.count != 0 && !x.active

/-- Eligible on its target (R349). -/
def State.eligible (s : State) (k : Nat) (x : IntSrc) : Bool :=
  x.en && x.pending && (!x.mask || x.pin) && s.groupLets k x && (!s.stackMode k || decide (s.runPrio k < x.level))

/-- What a claim of a class may return: eligible or pinned, of the class (R354). -/
def State.claimable (s : State) (k : Nat) (fast : Bool) (x : IntSrc) : Bool :=
  (s.eligible k x || (x.pin && x.pending)) && s.isFast k x.level == fast &&
    (!s.stackMode k || decide (s.runPrio k < x.level))

/-- Of two sources the one that ranks first: higher level, then lower number (R349). -/
def rankFirst (a b : Nat × IntSrc) : Nat × IntSrc :=
  if b.2.level < a.2.level then a
  else if a.2.level < b.2.level then b
  else if srcNum a.1 ≤ srcNum b.1 then a else b

/-- The first of a list of sources in rank. -/
def topSource : List (Nat × IntSrc) → Option (Nat × IntSrc)
  | [] => none
  | a :: t => match topSource t with
    | none => some a
    | some b => some (rankFirst a b)

/-- The source that a claim of a class would return now (R354, R365). -/
def State.claimTop (s : State) (k : Nat) (fast : Bool) : Option (Nat × IntSrc) :=
  topSource ((s.targetSources k).filter fun e => s.claimable k fast e.2)

/-- The source that a delivery decision of a class would select now (R349). -/
def State.decisionTop (s : State) (k : Nat) (fast : Bool) : Option (Nat × IntSrc) :=
  topSource ((s.targetSources k).filter fun e => s.eligible k e.2 && s.isFast k e.2.level == fast)

/-- The page whose condition a shared source follows, for the page sources of R343. -/
def sourcePage (n : Nat) : Option Nat :=
  if 0 < n ∧ n < 6 then some (n - 1)
  else if 6 ≤ n ∧ n < 9 then some (0x25 + (n - 6))
  else if 9 ≤ n ∧ n < 13 then some (ppPg (n - 9))
  else if 16 ≤ n ∧ n < 24 then some (clPg (n - 16))
  else if 24 ≤ n ∧ n < 32 then some (ephPg (n - 24))
  else if 32 ≤ n ∧ n < 48 then some (cvPg (n - 32))
  else if 256 ≤ n ∧ n < 384 then some (portPg (n - 256))
  else if 384 ≤ n ∧ n < 512 then some (phyPg (n - 384))
  else if 512 ≤ n ∧ n < 768 then some (movPg (n - 512))
  else none

/-- An active claim ends: a level source whose condition still holds counts one further event (R342); a non-zero count
makes the source pending again (R346, R357). -/
def State.endClaim (s : State) (key : Nat) : State :=
  let s1 := s.modSrc key fun x => { x with active := false }
  let page := if key < 4096 then sourcePage key
    else if (key - 4096) % 16 = 7 then some (tnPg ((key - 4096) / 16)) else none
  let s2 := if (s1.src key).count != 0 then s1.startDelay key else s1
  match page with
  | some p => if s2.pageCond p then s2.event key else s2
  | none => s2

/-! ### Fault inputs (R368, R369) -/

/-- Raise an event on a fault line; the collector takes it when the command's own effect is done. -/
def State.fault (s : State) (line : Nat) (src : FaultSrc) : State := { s with faults := s.faults ++ [⟨line, src⟩] }

/-- The line that a PAGE_ERRSRC bit drives, and the input it comes through (R369). -/
def State.errLine (s : State) (pg : Page) (b : Nat) : Option (Nat × FaultSrc) :=
  match pg with
  | .port n =>
    if b < 4 then some (16 + n / 16, .port n)
    else if b = 7 then some (24 + n / 16, .cut n)
    else if b < 8 then some (24 + n / 16, .port n) else none
  | .phy n => if b < 4 then some (16 + n / 16, .port n) else none
  | .cl c => if b = 0 then some (24 + c, .cl c) else if b < 3 then some (8 + c, .cl c) else none
  | .eph c => if b = 0 then some (24 + c, .eph c)
    else if c = 0 && b = 1 then some (42, .dev) else if c = 0 && b = 2 then some (43, .dev) else none
  | .mov m => if b = 0 then some (36 + (match (s.chan m).cfg with | some g => g.pp | none => 0), .mov m) else none
  | .tn _ => if b < 6 then some (44, .dev) else none
  | .tf _ => if b = 0 then some (44, .dev) else none
  | .cv _ => some (53, .dev)
  | .upd => some (54, .dev)
  | .sec => some (55, .dev)
  | .crp => some (56, .dev)
  | .aon => some (56, .dev)
  | .tel => some (57, .dev)
  | .dev => some (60, .dev)
  | .fco => if b = 0 then some (58, .dev) else none
  | .icu => none
  | .pp _ => none

/-- Set a bit of PAGE_ERRSRC; every occurrence is an event on the bit's line (R45, R368). -/
def State.err (s : State) (p b : Nat) : State :=
  let s1 := s.orBits p PAGE_ERRSRC_SRC (bit b)
  match pageAt p with
  | some pg => match s.errLine pg b with
    | some (l, src) => s1.fault l src
    | none => s1
  | none => s1

/-! ### Commands and refusals -/

/-- PAGE_RESULT.STATUS (R48). -/
def stOk : Nat := 1
def stRunning : Nat := 2
def stBadArg : Nat := 3
def stBadState : Nat := 4
def stAborted : Nat := 5
def stTimeout : Nat := 6
def stFault : Nat := 7

/-- A command is accepted: BUSY and RUNNING (R49). Its code stays in the WO field of PAGE_CMD, which reads as 0. -/
def State.cmdStart (s : State) (p code : Nat) : State :=
  ((s.wr p PAGE_CMD_CODE code).wr p PAGE_STAT_BUSY 1).wr p PAGE_RESULT_STATUS stRunning

/-- A command ends: STATUS, CODE and DETAIL, then CMD_DONE, then BUSY cleared (R49). -/
def State.cmdEnd (s : State) (p status detail : Nat) : State :=
  let s1 := ((s.wr p PAGE_RESULT_STATUS status).wr p PAGE_RESULT_CODE (s.rd p PAGE_CMD_CODE)).wr p PAGE_RESULT_DETAIL detail
  (s1.irq p 1).wr p PAGE_STAT_BUSY 0

/-- A command ends with a status for which no rule states DETAIL: it is a free value. -/
def State.cmdStop (s : State) (p status : Nat) : State :=
  let (d, s1) := s.drawOpen 16
  s1.cmdEnd p status d

/-- Causes of refusal (R47). -/
inductive RefCause
  | busy | owner | rwc | modeLock | badCmd | held | badValue
  deriving DecidableEq, Repr

/-- PAGE_STAT.REFCAUSE's encoding (R47). -/
def RefCause.code : RefCause → Nat
  | .busy => 1 | .owner => 2 | .rwc => 3 | .modeLock => 4 | .badCmd => 5 | .held => 6 | .badValue => 7

/-- A write to page `p` is refused: counted once, flagged, its cause latched, with no other effect (R8, R45, R47). -/
def State.refuse (s : State) (p : Nat) (c : RefCause) : State :=
  let was := s.flag p PAGE_STAT_ERR
  let s1 := ((s.bump p PAGE_STAT_REFUSALS).wr p PAGE_STAT_ERR 1).wr p PAGE_STAT_REFCAUSE c.code
  if was then s1 else s1.irq p 2

/-- The fixed owner of a page (R51). -/
def Page.fixedOwner : Page → Option Nat
  | .pp n => some n
  | .tn k => some (k / 4)
  | .tf k => some (k / 4)
  | _ => none

/-- The owner of a page (R51). -/
def State.owner (s : State) (p : Nat) : Nat :=
  match (pageAt p).bind Page.fixedOwner with
  | some n => n
  | none => mapGet (s.rd crpPg CRP_STRAP_PRIMPP) s.owners p

/-- Whether the pages of a kind accept writes in the current mode (R63). -/
def Page.accepts (pg : Page) : Mode → Bool
  | .loader => match pg with
    | .dev | .upd | .sec | .pp _ => true
    | _ => false
  | .safe => match pg with
    | .cl _ | .eph _ | .port _ | .phy _ | .mov _ => false
    | _ => true
  | .update => match pg with
    | .dev | .fco | .icu | .tn _ | .tf _ | .upd | .tel | .pp _ => true
    | _ => false
  | .dormant => false
  | _ => true

/-- Why a write by partner port `pp` to page `p` is refused before its register is looked at, in the order of R47. -/
def State.gate (s : State) (pp p : Nat) : Option RefCause :=
  match pageAt p with
  | none => none
  | some pg =>
    if !pg.accepts s.mode then some .modeLock
    else if s.owner p != pp then some .owner
    else if s.flag p PAGE_STAT_BUSY then some .busy
    else none

/-- No partner port is up: the device is held in device reset or is in DORMANT (R61, R406). -/
def State.down (s : State) : Bool := s.inReset || s.mode == .dormant

/-- No write takes effect: the partner ports are down, or the settings load that precedes partner writes runs (R451). -/
def State.deaf (s : State) : Bool :=
  s.down || (match s.load with | some x => x.boot | none => false)

/-- Telemetry snapshots are taken (R23, R394). -/
def State.telRuns (s : State) : Bool :=
  !s.down && !s.stalled && s.flag telPg TEL_CFG_EN &&
  match s.mode with
  | .configure | .run | .degraded | .safe => true
  | _ => false

/-- A SNAPSHOT action or a SNAP_NOW asks for one snapshot (R394). -/
def State.wantSnapshot (s : State) : State := if s.telRuns then { s with telExtra := s.telExtra + 1 } else s

/-- A command written to page `p` by `pp` with code `code`: refused by the gate, or because it is not permitted now (`ok`
false, R47); else accepted, and `f` is what it does. -/
def State.command (s : State) (pp p code : Nat) (ok : Bool) (f : State → State) : State :=
  if s.deaf then s else
  match s.gate pp p with
  | some c => s.refuse p c
  | none => if ok then f (s.cmdStart p code) else s.refuse p .badCmd

/-- A command that the management cores execute: while they are stalled it is accepted and its page stays BUSY (R22). -/
def State.longCommand (s : State) (pp p code : Nat) (ok : Bool) (f : State → State) : State :=
  s.command pp p code ok (·.byCores f)

/-- A register write to page `p` by `pp` that is not a command: refused by the gate, or for its value (`cause`), else `f`. -/
def State.guarded (s : State) (pp p : Nat) (cause : Option RefCause) (f : State → State) : State :=
  if s.deaf then s else
  match s.gate pp p with
  | some c => s.refuse p c
  | none => match cause with
    | some c => s.refuse p c
    | none => f s

/-- The two arguments of a command (R45). -/
def State.arg0 (s : State) (p : Nat) : Nat := s.rd p PAGE_ARG0_ARG0
def State.arg1 (s : State) (p : Nat) : Nat := s.rd p PAGE_ARG1_ARG1

/-- A write that would change an RWC field outside CONFIGURE (R8). -/
def State.rwcLocked (s : State) (p : Nat) (f : Field) (v : Nat) (i : Nat := 0) : Bool :=
  s.mode != .configure && s.rd p f i != v

end Sys2Proof.Machine
end

