-- ==== Sys2Proof/Machine/Memory.lean ====
section
/-!
DEFINITION. BAR2: its map (R38, R39), its bytes, ranges with undefined contents (R24, R218, R259), and the store's blocks:
free blocks, reservation, holding and freeing (R224-R226, R229, R255-R257).
-/
set_option Elab.async false

namespace Sys2Proof.Machine

/-! ### The map of BAR2 (R38, R546) -/

def sliceBase (c : Nat) : Nat := c * 0x800000
def filterBase (c : Nat) : Nat := 0x4000000 + c * 0x8000
def objectBase (c : Nat) : Nat := 0x4100000 + c * 0x40000
def ephBase (c : Nat) : Nat := 0x4400000 + c * 0x8000
def lastBase (n : Nat) : Nat := 0x4800000 + n * 0x4000
def ringBase (c : Nat) : Nat := 0x4C00000 + c * 0x80000

/-- Regions of BAR2, with the cluster (or port, for a last table) and the size of an entry. -/
inductive Region
  | store (c : Nat) | filters (c : Nat) | objects (c : Nat) | ephemeris (c : Nat) | last (n : Nat) | ring (c : Nat)
  deriving DecidableEq, Repr

/-- The region an offset lies in; none for the reserved ranges (R38). -/
def regionAt (a : Nat) : Option Region :=
  if a < 0x4000000 then some (.store (a / 0x800000))
  else if a < 0x4040000 then some (.filters ((a - 0x4000000) / 0x8000))
  else if a < 0x4100000 then none
  else if a < 0x4300000 then some (.objects ((a - 0x4100000) / 0x40000))
  else if a < 0x4400000 then none
  else if a < 0x4440000 then some (.ephemeris ((a - 0x4400000) / 0x8000))
  else if a < 0x4800000 then none
  else if a < 0x4A00000 then some (.last ((a - 0x4800000) / 0x4000))
  else if a < 0x4C00000 then none
  else if a < 0x5000000 then some (.ring ((a - 0x4C00000) / 0x80000))
  else none

/-- The cluster whose CL page governs a region (R40). -/
def Region.cluster : Region → Nat
  | .store c | .filters c | .objects c | .ephemeris c | .ring c => c
  | .last n => n / 16

/-- Size of an entry of a table (R38); 1 for the store. -/
def Region.entry : Region → Nat
  | .store _ => 1
  | .filters _ => 16
  | .objects _ => 32
  | .ephemeris _ => 32
  | .last _ => 64
  | .ring _ => 64

/-- What an unlisted byte of BAR2 reads as: 0, except the fields LT_CTL.SENDER and RUNG of a last-table entry, which are
fixed by the entry's index (R194). -/
def memDefault (a : Nat) : Byte :=
  if 0x4800000 ≤ a ∧ a < 0x4A00000 then
    let idx := (a - 0x4800000) % 0x4000 / 64
    if a % 64 = 2 then BitVec.ofNat 8 (idx % 64) else if a % 64 = 3 then BitVec.ofNat 8 (idx / 64) else 0
  else 0

/-- Ranges that no reset initializes: the store (R24, R30), the object tables (R248), the ring space. -/
def undefAtReset (epoch : Nat) : List (Nat × Nat × Nat) :=
  [(0, 0x4000000, epoch), (0x4100000, 0x200000, epoch), (0x4C00000, 0x400000, epoch)]

/-- One byte of BAR2 as it is held. -/
def State.rawByte (s : State) (a : Nat) : Byte :=
  match s.undef.find? fun r => decide (r.1 ≤ a) && decide (a < r.1 + r.2.1) with
  | some r => Config.freeByte r.2.2 a
  | none => mapGet (memDefault a) s.mem a

/-- The bits of word `i` of a TX object that are not reserved (R248). -/
def objectBits : Nat → Nat
  | 0 => 0xFF1F7FFF
  | 1 => 0x3FFFFFFF
  | 2 => 0xFFFF3FFF
  | 3 => 0x003FFFFF
  | _ => 0xFFFFFFFF

/-- A TX object's byte with its reserved bits read as 0 (R9, R248); the last two words are reserved in a COMET object. -/
def State.objectByte (s : State) (a : Nat) : Byte :=
  let i := a % 32
  if 24 ≤ i && (s.rawByte (a - i)).toNat % 4 == 1 then 0
  else s.rawByte a &&& BitVec.ofNat 8 (objectBits (i / 4) / 2 ^ (8 * (i % 4)))

/-- Read one byte of BAR2. -/
def State.mb (s : State) (a : Nat) : Byte :=
  if 0x4100000 ≤ a ∧ a < 0x4300000 then s.objectByte a else s.rawByte a

/-- Read `n` bytes of BAR2. -/
def State.mbs (s : State) (a n : Nat) : List Byte := (List.range n).map fun i => s.mb (a + i)

/-- Read a 32-bit word of BAR2, little-endian (R39). -/
def State.mw (s : State) (a : Nat) : Nat := wordOf (s.mbs a 4) 0

/-- Take the bytes from `a`, `n` of them, out of a range with undefined contents. -/
def rangeCut (a n : Nat) (r : Nat × Nat × Nat) : List (Nat × Nat × Nat) :=
  if n = 0 ∨ r.1 + r.2.1 ≤ a ∨ a + n ≤ r.1 then [r]
  else
    (if r.1 < a then [(r.1, a - r.1, r.2.2)] else []) ++
    (if a + n < r.1 + r.2.1 then [(a + n, r.1 + r.2.1 - (a + n), r.2.2)] else [])

/-- Write one listed byte (the byte is no longer undefined). -/
def State.mput (s : State) (a : Nat) (b : Byte) : State := { s with mem := mapSet (memDefault a) s.mem a b }

/-- Write bytes at consecutive addresses. A word of a written byte is no longer known uncorrectable (R390, R392). -/
def State.mputs (s : State) (a : Nat) (bs : List Byte) : State :=
  let n := bs.length
  let gone (w : Nat) : Bool :=
    let sz := if w < 0x4000000 then 32 else 8
    decide (a < w + sz) && decide (w < a + n)
  let s1 := { s with
    undef := s.undef.flatMap (rangeCut a n)
    ueWords := s.ueWords.filter fun w => !gone w
    poison := s.poison.filter fun w => !gone w }
  (bs.foldl (fun p b => (p.1.mput p.2 b, p.2 + 1)) (s1, a)).1

/-- Write a 32-bit word of BAR2. -/
def State.mputw (s : State) (a w : Nat) : State := s.mputs a (bytesOf w)

/-- The contents of a range become undefined (R24, R218, R259). -/
def State.forget (s : State) (a n : Nat) : State :=
  { s with
    mem := s.mem.filter fun e => !(decide (a ≤ e.1) && decide (e.1 < a + n))
    undef := (a, n, s.freeCtr) :: s.undef.flatMap (rangeCut a n)
    freeCtr := s.freeCtr + 1 }

/-! ### Words under SECDED (R390-R392) -/

/-- The word that a byte lies in: 32 B in the store, 8 B in the table space (R390). -/
def eccWord (a : Nat) : Nat := if a < 0x4000000 then a / 32 * 32 else a / 8 * 8

/-- The cluster whose slice or table a byte belongs to. -/
def eccCluster (a : Nat) : Nat := match regionAt a with
  | some r => r.cluster
  | none => 0

/-- A range holds a word that is known and remembered as uncorrectable (R392). -/
def State.brokenIn (s : State) (a n : Nat) : Bool :=
  s.ueWords.any fun w => decide (a ≤ w) && decide (w < a + n)

/-- Remember an uncorrectable word; a slice remembers up to 64 (R392). -/
def State.remember (s : State) (w : Nat) : State :=
  if s.ueWords.contains w || decide (64 ≤ (s.ueWords.filter fun x => eccCluster x == eccCluster w).length) then s
  else { s with ueWords := s.ueWords ++ [w] }

/-- A range is cleared to what an unlisted byte reads as (R194, R208, R321, R385). -/
def State.wipe (s : State) (a n : Nat) : State :=
  let out (w : Nat) : Bool := !(decide (a ≤ w) && decide (w < a + n))
  { s with
    mem := s.mem.filter fun e => out e.1
    undef := s.undef.flatMap (rangeCut a n)
    ueWords := s.ueWords.filter out
    poison := s.poison.filter out
    wbq := s.wbq.filter out }

/-- The memory is in canonical form: addresses rise strictly and no entry equals what an unlisted address reads as. -/
abbrev Memory.wf (m : List Host.Cell) : Prop := (mapRising m && mapClean memDefault m) = true

/-! ### Blocks of the store -/

/-- Two ranges share a byte. -/
def overlaps (a n b m : Nat) : Bool := decide (a < b + m) && decide (b < a + n)

/-- Some held block shares a byte with a range (R40). -/
def State.heldIn (s : State) (a n : Nat) : Bool := s.blocks.any fun b => overlaps a n b.addr b.len

/-- The maximal free blocks inside the block of order `k` at `a` (R224): orders and addresses, rising. -/
def freeBlocks (hs : List Block) (a : Nat) : Nat → List (Nat × Nat)
  | 0 => if hs.any fun b => overlaps a 256 b.addr b.len then [] else [(0, a)]
  | k + 1 =>
    if hs.any fun b => overlaps a (256 * 2 ^ (k + 1)) b.addr b.len then
      freeBlocks hs a k ++ freeBlocks hs (a + 256 * 2 ^ k) k
    else [(k + 1, a)]

/-- The free blocks of a list of 64 KiB units of cluster `c`. -/
def State.freeOf (s : State) (c : Nat) (units : List Nat) : List (Nat × Nat) :=
  let mine := s.blocks.filter fun b => decide (sliceBase c ≤ b.addr) && decide (b.addr < sliceBase (c + 1))
  units.flatMap fun u => freeBlocks mine (sliceBase c + u * 0x10000) 8

/-- Order of the smallest block for `n` bytes (R224). -/
def orderFor (n : Nat) : Nat :=
  ((List.range 9).find? fun k => decide (n ≤ 256 * 2 ^ k)).getD 8

/-- The block a reservation of order `k` takes: of the smallest order that is free, the lowest address (R224). -/
def takeFrom (free : List (Nat × Nat)) (k : Nat) : Option Nat :=
  let pick (acc : Option (Nat × Nat)) (b : Nat × Nat) : Option (Nat × Nat) :=
    if b.1 < k then acc
    else match acc with
      | none => some b
      | some x => if b.1 < x.1 || (b.1 == x.1 && decide (b.2 < x.2)) then some b else some x
  (free.foldl pick none).map (·.2)

/-- Units of the receive pool's common and essential regions (R225). -/
def State.commonUnits (s : State) (c : Nat) : List Nat :=
  let b := s.rd (clPg c) CL_RXPOOL_BASE
  (List.range (s.rd (clPg c) CL_RXPOOL_SIZE - s.rd (clPg c) CL_RXPOOL_ESS)).map (b + ·)
def State.essUnits (s : State) (c : Nat) : List Nat :=
  let b := s.rd (clPg c) CL_RXPOOL_BASE + (s.rd (clPg c) CL_RXPOOL_SIZE - s.rd (clPg c) CL_RXPOOL_ESS)
  (List.range (s.rd (clPg c) CL_RXPOOL_ESS)).map (b + ·)

/-- A unit belongs to the receive pool, to the buffer area, to the software area (R226, R231, R256). -/
def State.inRxPool (s : State) (c u : Nat) : Bool :=
  let b := s.rd (clPg c) CL_RXPOOL_BASE
  decide (b ≤ u) && decide (u < b + s.rd (clPg c) CL_RXPOOL_SIZE)
def State.inBufArea (s : State) (c u : Nat) : Bool := s.flag (clPg c) CL_BUFAREA_EN && u == 127
def State.inSoft (s : State) (c u : Nat) : Bool :=
  let b := s.rd (clPg c) CL_TXSOFT_BASE
  decide (b ≤ u) && decide (u < b + s.rd (clPg c) CL_TXSOFT_SIZE) && !s.inRxPool c u && !s.inBufArea c u

/-- Units of the transmit pool (R256). -/
def State.txUnits (s : State) (c : Nat) : List Nat :=
  (List.range 128).filter fun u => !s.inRxPool c u && !s.inBufArea c u && !s.inSoft c u

/-- A range of a slice lies wholly in the software area (R253, R296). -/
def State.softRange (s : State) (c a n : Nat) : Bool :=
  let o := a - sliceBase c
  decide (sliceBase c ≤ a) && decide (a + n ≤ sliceBase (c + 1)) && decide (0 < n) &&
    (List.range ((o + n - 1) / 0x10000 - o / 0x10000 + 1)).all fun i => s.inSoft c (o / 0x10000 + i)

/-- Free bytes in 256 B (R244, R275). -/
def freeSum (free : List (Nat × Nat)) : Nat := free.foldl (fun n b => n + 2 ^ b.1) 0

/-- The largest free order, 15 when there is none (R244). -/
def freeBig (free : List (Nat × Nat)) : Nat := if free.isEmpty then 15 else free.foldl (fun n b => max n b.1) 0

/-- The lowest-free registers follow a change of the pools (R244, R275). -/
def State.poolMin (s : State) (c : Nat) : State :=
  let com := freeSum (s.freeOf c (s.commonUnits c))
  let tx := freeSum (s.freeOf c (s.txUnits c))
  let was (k : Nat) (f : Field) : Nat := (mapGet? s.sinceRead k).getD (s.rd (clPg c) f)
  let s1 := (s.wr (clPg c) CL_POOL_MIN_COMMON (min (was c CL_POOL_MIN_COMMON) com)).wr (clPg c) CL_TXPOOL_MIN_FREE
    (min (was (8 + c) CL_TXPOOL_MIN_FREE) tx)
  { s1 with sinceRead := mapDel (mapDel s1.sinceRead c) (8 + c) }

/-- Reserve a receive block for a tail of `n` bytes (R224, R225). -/
def State.takeRx (s : State) (c n : Nat) (ess : Bool) (u : User) : Option (Nat × State) :=
  let k := orderFor n
  let pick := match takeFrom (s.freeOf c (s.commonUnits c)) k with
    | some a => some a
    | none => if ess then takeFrom (s.freeOf c (s.essUnits c)) k else none
  pick.map fun a =>
    (a, ({ s with
      blocks := ⟨a, 256 * 2 ^ k, .rx, [u], false⟩ :: s.blocks
      poison := s.poison.filter fun w => !(decide (a ≤ w) && decide (w < a + 256 * 2 ^ k)) }).poolMin c)

/-- Reserve a transmit block (R256, R257). -/
def State.takeTx (s : State) (c n : Nat) (u : User) : Option (Nat × State) :=
  let k := orderFor n
  (takeFrom (s.freeOf c (s.txUnits c)) k).map fun a =>
    (a, ({ s with blocks := ⟨a, 256 * 2 ^ k, .tx, [u], false⟩ :: s.blocks }).poolMin c)

/-- Hold the 64-byte blocks of a range of the software area or of the slice (R255, R296). -/
def State.holdRange (s : State) (a n : Nat) (u : User) : State :=
  let lo := a / 64 * 64
  { s with blocks := ⟨lo, (a + n + 63) / 64 * 64 - lo, .soft, [u], false⟩ :: s.blocks }

/-- One more user of a block. -/
def State.addUser (s : State) (a : Nat) (u : User) : State :=
  { s with blocks := s.blocks.map fun b => if b.addr = a && b.kind != .soft then { b with users := b.users ++ [u] } else b }

/-- Replace a user of a block by others. -/
def State.swapUser (s : State) (a : Nat) (u : User) (us : List User) : State :=
  { s with blocks := s.blocks.map fun b =>
      if b.addr = a && b.kind != .soft && b.users.contains u then { b with users := b.users.filter (· != u) ++ us } else b }

/-- A user is done with every block it held; a block without users is freed (R229, R234, R236, R265). -/
def State.dropUser (s : State) (u : User) : State :=
  { s with blocks := (s.blocks.map fun b => { b with users := b.users.filter (· != u) }).filter fun b => !b.users.isEmpty }

/-- As `dropUser`, where the bytes of the freed blocks become undefined (R218, R259). -/
def State.dropUndone (s : State) (u : User) : State :=
  let gone := s.blocks.filter fun b => b.users == [u] && b.kind != .soft
  (s.dropUser u).each gone fun s b => s.forget b.addr b.len

/-- The block that lies at an address. -/
def State.blockAt (s : State) (a : Nat) : Option Block := s.blocks.find? fun b => b.addr == a && b.kind != .soft

end Sys2Proof.Machine
end

