-- ==== Sys2Proof/Machine/Operands.lean ====
section
/-!
DEFINITION. Operand forms: filter elements (R208-R211), TX objects and templates (R248-R250, R253, R270), ephemeris
entries (R321), last-table entries (R194), arbitration keys (R113) and payload lengths (R83), as the device reads them.
-/
set_option Elab.async false

namespace Sys2Proof.Machine

/-! ### Lengths and keys -/

/-- LEN is valid for a kind: LOW 0-16, SYNC 8, COMET every value (R83). -/
def lenValid : FKind → Nat → Bool
  | .low, l => decide (l ≤ 16)
  | .sync, l => l == 8
  | .comet, _ => true

/-- Payload bytes of a head (R83, R240): 4 (LEN + 1) for a COMET, LEN otherwise. -/
def payloadBytes (k : FKind) (len : Nat) : Nat :=
  match k with
  | .comet => 4 * (len + 1)
  | _ => len

/-- The arbitration key (R113). -/
def arbKey (id : Nat) (long : Bool) (snd : Nat) : Nat :=
  if long then id / 2 ^ 18 * 2 ^ 25 + 2 ^ 24 + id % 2 ^ 18 * 64 + snd else id * 2 ^ 25 + snd * 2 ^ 18

/-- ID_A of an identifier (R81). -/
def idA (id : Nat) (long : Bool) : Nat := if long then id / 2 ^ 18 else id

/-! ### Filter elements -/

/-- A filter element (R208). -/
structure Elem where
  ty : Nat
  long : Bool
  ess : Bool
  kinds : Nat
  snd : Nat
  sndMask : Nat
  dest : Nat
  push : Bool
  copy : Bool
  notify : Bool
  ida : Nat
  idb : Nat
  index : Nat
  aux : Nat
  chan : Nat
  deriving DecidableEq, Repr

/-- Element `i` of the pool of CLc. -/
def State.elem (s : State) (c i : Nat) : Elem :=
  let a := filterBase c + 16 * i
  let w := s.mw a
  let d := s.mw (a + 12)
  { ty := bits w 0 2, long := w.testBit 2, ess := w.testBit 3, kinds := bits w 4 3, snd := bits w 8 6,
    sndMask := bits w 16 6, dest := bits w 24 3, push := w.testBit 27, copy := w.testBit 28, notify := w.testBit 29,
    ida := bits (s.mw (a + 4)) 0 29, idb := bits (s.mw (a + 8)) 0 29,
    index := bits d 0 13, aux := bits d 16 6, chan := bits d 24 5 }

/-- An element matches a head (R210). -/
def Elem.hits (e : Elem) (id : Nat) (long : Bool) (snd : Nat) : Bool :=
  if e.ty = 0 || e.long != long then false
  else if (snd ^^^ e.snd) &&& e.sndMask != 0 then false
  else if e.ty = 1 then decide (e.ida ≤ id) && decide (id ≤ e.idb)
  else if e.ty = 2 then id == e.ida || id == e.idb
  else (id ^^^ e.ida) &&& e.idb == 0

/-! ### TX objects -/

/-- The fields of a TX object or template (R248). -/
structure TxObj where
  kind : Nat
  rung : Nat
  aud : Bool
  src : Nat
  psSet : Bool
  tgt : Nat
  tpl : Bool
  recMode : Nat
  chan : Nat
  limit : Nat
  id : Nat
  long : Bool
  len : Nat
  tag : Nat
  map : Nat
  set : Nat
  data : List Byte
  addrLo : Nat
  addrHi : Nat
  deriving DecidableEq, Repr

/-- Object `i` of the table of CLc. -/
def State.txObj (s : State) (c i : Nat) : TxObj :=
  let a := objectBase c + 32 * i
  let w := s.mw a
  let d := s.mw (a + 4)
  let l := s.mw (a + 8)
  let p := s.mw (a + 12)
  { kind := bits w 0 2, rung := bits w 2 2, aud := w.testBit 4, src := bits w 5 2, psSet := w.testBit 7, tgt := bits w 8 4,
    tpl := w.testBit 12, recMode := bits w 13 2, chan := bits w 16 5, limit := bits w 24 8,
    id := bits d 0 29, long := d.testBit 29, len := bits l 0 14, tag := bits l 16 16, map := bits p 0 16, set := bits p 16 6,
    data := s.mbs (a + 16) 16, addrLo := s.mw (a + 16), addrHi := s.mw (a + 20) }

/-- The ports of an object's or template's port set (R250), rising. -/
def State.portSet (s : State) (c : Nat) (o : TxObj) : List Nat :=
  if o.psSet then
    (List.range 128).filter fun n => (s.rd (clPg c) CL_PSET_PORTS (4 * o.set + n / 32)).testBit (n % 32)
  else (clusterPorts c).filter fun n => o.map.testBit (n % 16)

/-- A template is valid for a FORWARD element (R270). -/
def State.templateOk (s : State) (c i : Nat) : Bool :=
  let o := s.txObj c i
  o.tpl && !(s.portSet c o).isEmpty && o.recMode != 3 && bits o.len 0 8 != 0

/-- The partner port a channel is bound to (R281). -/
def State.boundPp (s : State) (m : Nat) : Option Nat := (s.chan m).cfg.map (·.pp)

/-- A channel is enabled for fetches (R281). -/
def State.fetchEnabled (s : State) (m : Nat) : Bool :=
  let x := s.chan m
  x.mode != .disabled && (match x.cfg with | some g => !g.push | none => false)

/-- A channel is available to a receive claim with PUSH (R281). -/
def State.pushAvailable (s : State) (m : Nat) : Bool :=
  let x := s.chan m
  x.mode == .enabled && (match x.cfg with | some g => g.push | none => false)

/-- A filter element is valid now (R211), in the order of its rules. DESIGN CHOICE: R208 gives a BUFFER element's INDEX as 0-1,023
and R211 says nothing of a greater one; such an element is invalid (log 82). -/
def State.elemValid (s : State) (c : Nat) (e : Elem) : Bool :=
  let comet := e.kinds.testBit 1
  let fifoOn (f : Nat) : Bool := decide (f < 64) && s.flag (clPg c) RXF_CFG_EN f
  e.ty == 0 ||
  (decide (e.dest < 5) &&
   (e.long || (decide (e.ida < 2 ^ 11) && decide (e.idb < 2 ^ 11))) &&
   (e.ty != 1 || decide (e.ida ≤ e.idb)) &&
   (!e.push || e.dest == 1 || e.dest == 3) && (!e.copy || e.dest == 4) && (!e.notify || e.dest == 2) &&
   (e.dest != 1 || fifoOn e.index) && (!(e.dest == 4 && e.copy) || fifoOn e.aux) &&
   (e.dest != 2 || (!comet && s.flag (clPg c) CL_BUFAREA_EN && decide (e.index < 1024))) &&
   (e.dest != 3 || (decide (e.aux ≤ 15) && (!comet || e.push))) &&
   (!(e.dest == 2 && e.notify) || decide (e.aux ≤ 15)) &&
   (!e.push ||
     s.boundPp (32 * c + e.chan) ==
       some ((if e.dest = 1 then s.rd (clPg c) RXF_CFG_TGT e.index else e.aux) / 4)) &&
   (e.dest != 4 || s.templateOk c e.index))

/-! ### Ephemeris and last-table entries -/

/-- An ephemeris entry (R321). -/
structure EphEntry where
  action : Nat
  miss : Bool
  ann : Bool
  rep : Nat
  period : Nat
  aud : Bool
  frame : Nat
  line : Nat
  sub : Nat
  map : Nat
  arg0 : Nat
  arg1 : Nat
  lateMax : Nat
  deriving DecidableEq, Repr

/-- Entry `i` of the ephemeris of CLc. -/
def State.ephEntry (s : State) (c i : Nat) : EphEntry :=
  let a := ephBase c + 32 * i
  let w := s.mw a
  let t := s.mw (a + 8)
  { action := bits w 0 4, miss := w.testBit 4, ann := w.testBit 5, rep := bits w 6 2, period := bits w 8 12,
    aud := w.testBit 20, frame := s.mw (a + 4), line := bits t 0 12, sub := bits t 12 8,
    map := bits (s.mw (a + 12)) 0 16, arg0 := s.mw (a + 16), arg1 := s.mw (a + 20), lateMax := bits (s.mw (a + 24)) 0 12 }

/-- The address of the last-table entry of port `n` for a sender and a rung (R39). -/
def lastEntry (n snd rung : Nat) : Nat := lastBase n + (rung * 64 + snd) * 64

/-- A last-table entry is VALID, is LOCKED (R194). An entry with an uncorrectable word is used as not VALID (R392). -/
def State.ltValid (s : State) (a : Nat) : Bool := (s.mb a).toNat.testBit 0 && !s.brokenIn a 64
def State.ltLocked (s : State) (a : Nat) : Bool := (s.mb a).toNat.testBit 1

end Sys2Proof.Machine
end

