-- ==== Sys2Proof/Machine/Records.lean ====
section
/-!
DEFINITION. Completion rings (R238, R240, R272, R274, R360, R361): the free slots of a ring, the queue of records of a
target, and the writing of the next record.
-/
set_option Elab.async false

namespace Sys2Proof.Machine

/-- The fill of a ring, and its free slots (R360); 0 while it is not enabled. -/
def State.ringFill (s : State) (k : Nat) : Nat :=
  (s.rd (tnPg k) T_RING_PUT_PUT + 65536 - s.rd (tnPg k) T_RING_GET_GET) % 65536
def State.ringFree (s : State) (k : Nat) : Nat :=
  if s.flag (tnPg k) T_RING_CFG_EN then
    2 ^ s.rd (tnPg k) T_RING_CFG_LOG2 - s.ringFill k - s.rd (tnPg k) T_RING_RSV_SLOTS
  else 0

/-- Reserve and return a slot for a receive record (R221). -/
def State.slotTake (s : State) (k : Nat) : State := s.adv (tnPg k) T_RING_RSV_SLOTS
def State.slotGive (s : State) (k : Nat) : State :=
  s.wr (tnPg k) T_RING_RSV_SLOTS (s.rd (tnPg k) T_RING_RSV_SLOTS - 1)

/-- Queue a record for target `k`. A record without a reserved slot begins to wait when the ring is full or not enabled,
or when one ahead of it waits; it then fires RING_WAIT (R274, R361). -/
def State.queueRec (s : State) (k : Nat) (r : Rec) : State :=
  let waits := !r.slot && (s.ringFree k == 0 || (s.tgt k).recs.any (·.waiting))
  let s1 := s.modTgt k fun t => { t with recs := t.recs ++ [{ r with waiting := waits }] }
  if waits then s1.event (privKey k 2) else s1

/-- The first record that has its slot, or for which a slot is free, with the records before and after it. -/
def splitRec (free : Bool) : List Rec → Option (List Rec × Rec × List Rec)
  | [] => none
  | r :: t =>
    if r.slot then some ([], r, t)
    else if free then some ([], r, t)
    else match splitRec free t with
      | some (a, x, b) => some (r :: a, x, b)
      | none => none

/-- The function may issue requests: Bus Master Enable is set, and it is not in D3hot (R31, R42, log 77). -/
def PpState.masters (x : PpState) : Bool := x.bme && !x.d3

/-- PPn is in L0, L0p or L1 (R61). -/
def State.linkUp (s : State) (n : Nat) : Bool := s.rd (ppPg n) PP_LINK_SPEED != 0

/-- The partner address of ring slot `put` of target `k` (R360). -/
def State.slotAddr (s : State) (k put : Nat) : Nat :=
  s.rd (tnPg k) T_RING_BASE_HI_ADDR * 2 ^ 32 + s.rd (tnPg k) T_RING_BASE_LO_ADDR * 64 +
    put % 2 ^ s.rd (tnPg k) T_RING_CFG_LOG2 * 64

/-- The words of a record with PHASE set for position `put` (R238, R360). -/
def State.phased (s : State) (k put : Nat) (ws : List Nat) : List Nat :=
  let ph := if put / 2 ^ s.rd (tnPg k) T_RING_CFG_LOG2 % 2 = 0 then 2 ^ 31 else 0
  (List.range 16).map fun i => ws.getD i 0 + (if i = 15 then ph else 0)

/-- A record leaves the queue at the ring's position: it is sent, and RECORD fires (R344), or it is discarded because the
link is down or it is to be dropped (R44, R361); PUT advances either way, and its object is no longer in use (R265). -/
def State.sendRec (s : State) (k : Nat) (r : Rec) : State :=
  let p := tnPg k
  let put := s.rd p T_RING_PUT_PUT
  let s1 := if r.slot then s.slotGive k else s
  let s2 := if s.linkUp (k / 4) && !r.drop then
      (s1.emit (.record k (s.slotAddr k put) (s.phased k put r.words))).event (privKey k 1)
    else s1
  let s3 := s2.adv p T_RING_PUT_PUT
  match r.job with
  | some uid => { s3 with jobs := mapDel s3.jobs uid }
  | none => s3

/-- The next record of target `k`'s queue that has a slot leaves it, when it can be written or is dropped (R274): with the
link up and Bus Master Enable clear it stays. A record that finds no slot begins to wait. -/
def State.nextRec (s : State) (k : Nat) (drop : Bool) : State :=
  match splitRec (s.ringFree k != 0) (s.tgt k).recs with
  | some (a, r, b) =>
    let r1 := { r with drop := r.drop || drop }
    if s.linkUp (k / 4) && !(s.pp (k / 4)).masters && !r1.drop then s
    else (s.modTgt k fun t => { t with recs := a ++ b }).sendRec k r1
  | none =>
    let fresh := (s.tgt k).recs.filter fun r => !r.waiting
    (s.modTgt k fun t => { t with recs := t.recs.map fun r => { r with waiting := true } }).each fresh
      fun s _ => s.event (privKey k 2)

/-- COMPLETION_RECORD_WRITE (R274). -/
def State.writeRec (s : State) (k : Nat) : State := s.nextRec k false

/-- The link of PPn is lost or its function is reset: every record of its targets that has a slot is discarded (R44, R361). -/
def State.discardRecs (s : State) (n : Nat) : State :=
  s.each [4 * n, 4 * n + 1, 4 * n + 2, 4 * n + 3] fun s k =>
    s.each (s.tgt k).recs fun s _ => s.nextRec k true

end Sys2Proof.Machine
end

