-- ==== Sys2Proof/Machine/Mover.lean ====
section
/-!
DEFINITION. The slice mover's shared operations (R279-R299): the descriptor's walk, bursts, the queue, withdrawal, halts,
and the watermarks that move PANICn (R65, R290).
-/
set_option Elab.async false

namespace Sys2Proof.Machine

/-! ### The descriptor (R282-R285) -/

/-- Elements of the whole loop. -/
def ChanCfg.total (g : ChanCfg) : Nat := g.c0 * g.c1 * g.c2

/-- The partner address of the element at linear position `i` (R282). -/
def ChanCfg.addr (g : ChanCfg) (i : Nat) : Nat :=
  ((g.base : Int) + (i % g.c0 : Nat) * g.s0 + (i / g.c0 % g.c1 : Nat) * g.s1 + (i / (g.c0 * g.c1) : Nat) * g.s2
    : Int).emod (2 ^ 64) |>.toNat

/-- The position `j` elements after `p`, wrapping with WRAP (R284). -/
def ChanCfg.after (g : ChanCfg) (p j : Nat) : Nat := if g.wrap then (p + j) % g.total else p + j

/-- Elements that a request takes (R283). -/
def ChanCfg.elems (g : ChanCfg) (len : Nat) : Nat := (len + g.elem - 1) / g.elem

/-- Set the loop position and the registers that show it (R300). -/
def State.setPos (s : State) (m p : Nat) : State :=
  match (s.chan m).cfg with
  | none => s
  | some g =>
    let q := movPg m
    (((s.modChan m fun x => { x with pos := p }).wr q MOV_POS01_I0 (p % g.c0)).wr q MOV_POS01_I1 (p / g.c0 % g.c1)).wr
      q MOV_POS2_I2 (p / (g.c0 * g.c1))

/-! ### The queue -/

/-- Raise a request on a channel (R279, R280). -/
def State.raise (s : State) (m : Nat) (r : Req) : State := s.modChan m fun x => { x with queue := x.queue ++ [r] }

/-- Change the queued request of a kind. -/
def State.modReq (s : State) (m : Nat) (k : ReqKind) (f : Req → Req) : State :=
  s.modChan m fun x => { x with queue := x.queue.map fun r => if r.kind = k then f r else r }

/-- The queued request of a kind. -/
def State.reqOf (s : State) (m : Nat) (k : ReqKind) : Option Req := (s.chan m).queue.find? fun r => r.kind == k

/-- A read of the request is outstanding. -/
def State.reading (s : State) (m : Nat) (k : ReqKind) : Bool := (s.chan m).outst.any fun b => b.req == k

/-- The request that the channel serves: the first with bytes left to begin. -/
def ChanState.head (x : ChanState) : Option Req := x.queue.find? fun r => !r.withdrawn && decide (r.issued < r.len)

/-- A request has ended: it leaves the queue and is counted (R300); a wait for credits ends with the request that waits (R286). -/
def State.endReq (s : State) (m : Nat) (k : ReqKind) : State :=
  (s.modChan m fun x =>
    { x with waiting := x.waiting && x.head.map Req.kind != some k
             queue := x.queue.filter fun r => r.kind != k }).bump (movPg m) MOV_REQS_COUNT

/-- A request of which bursts are left counts all its elements as used: the position moves behind them (R289). The position
is there already when its last burst has been begun. -/
def State.skipElems (s : State) (m : Nat) (r : Req) : State :=
  match r.start, (s.chan m).cfg with
  | some p, some g => if r.useDesc && decide (r.issued < r.len) then s.setPos m (g.after p (g.elems r.len)) else s
  | _, _ => s

/-- Bytes moved are counted exactly and shown in units of 64 B (R300). -/
def State.moved (s : State) (m n : Nat) : State :=
  let t := (s.chan m).rem + n
  (s.modChan m fun x => { x with rem := t % 64 }).bump (movPg m) MOV_BYTES_COUNT (t / 64)

/-- A request is withdrawn (R289): not begun, it leaves no trace; begun, no further burst starts, not the failed one either
(R267), its elements count as used, and data that still arrives for it is discarded. -/
def State.withdraw (s : State) (m : Nat) (k : ReqKind) : State :=
  match s.reqOf m k with
  | none => s
  | some r =>
    if r.start.isNone then s.endReq m k
    else
      let s1 := (s.skipElems m r).modChan m fun x =>
        { x with outst := x.outst.map fun b => if b.req = k then { b with discard := true } else b
                 failed := x.failed.filter fun b => b.req != k
                 waiting := x.waiting && x.head.map Req.kind != some k }
      if s1.reading m k then s1.modReq m k fun r => { r with withdrawn := true } else s1.endReq m k

/-- Partner port `n` takes device reads and writes (R299). -/
def State.serves (s : State) (n : Nat) : Bool := s.linkUp n && (s.pp n).masters

/-- The read requests that cover `n` bytes from `a`: each of at most `m` bytes (R31), none across a 4 KiB boundary. At most `fuel`
of them. -/
def requests (m : Nat) : (fuel a n : Nat) → List (Nat × Nat)
  | 0, _, _ => []
  | fuel + 1, a, n =>
    let k := min n (min m (4096 - a % 4096))
    if n = 0 then [] else (a, k) :: requests m fuel ((a + k) % 2 ^ 64) (n - k)

/-- The reads of a range of partner memory that no channel makes (R31, R59, R437, R473). -/
def State.emitReads (s : State) (pp a n : Nat) : State :=
  s.each (requests (s.pp pp).mrrs (n / 64 + 2) a n) fun s q => s.emit (.read pp q.1 q.2 false)

/-- MOV_STATE.STATE (R301). -/
def State.chanState (s : State) (m : Nat) : Nat :=
  let x := s.chan m
  match x.mode with
  | .disabled => 0
  | .halted => 4
  | .enabled =>
    let up := match x.cfg with
      | some g => s.serves g.pp
      | none => true
    if x.queue.isEmpty then 1 else if x.waiting || !up then 3 else 2

/-- The queue from the request of a kind on; all of it when it holds none. -/
def queueFrom (q : List Req) (k : ReqKind) : List Req :=
  if q.any fun r => r.kind == k then q.dropWhile fun r => r.kind != k else q

/-- A channel halts on request `k` (R292): the failing burst is latched. Causes 1-5 set BUS_ERR. -/
def State.halt (s : State) (m : Nat) (k : ReqKind) (cause addr store : Nat) (write : Bool) (failed : List Burst) : State :=
  let p := movPg m
  let s1 := s.modChan m fun x => { x with mode := .halted, failed := failed, setDesc := false, waiting := false }
  let s2 := ((((s1.wr p MOV_STATE_CAUSE cause).wrB p MOV_STATE_DIR write).wr p MOV_ERR_ADDR_LO_ADDR addr).wr
    p MOV_ERR_ADDR_HI_ADDR (addr / 2 ^ 32)).wr p MOV_ERR_STORE_OFFSET store
  let s3 := s2.irq p 4
  -- the failed fetch and those behind it wait for their channel (R294)
  let s4 := s3.each (queueFrom (s3.chan m).queue k) fun s r =>
    match r.kind with
    | .fetch uid => s.modJob uid fun j => if j.res = .resident || j.res = .completing then j else { j with res := .waitChan }
    | _ => s
  if cause < 6 then s4.err p 0 else s4

/-! ### Backlog and panic (R258, R290) -/

/-- The port of a job, where it is named. -/
def Job.on (j : Job) (n : Nat) : Option JobPort := j.ports.find? fun x => x.port == n

/-- A stage without a final result that the port has not won. -/
def Stage.unwon : Stage → Bool
  | .pending | .offered => true
  | _ => false

/-- A stage that is final. -/
def Stage.isFinal : Stage → Bool
  | .final _ => true
  | _ => false

/-- Resident backlog of a port (R258). -/
def State.backlog (s : State) (n : Nat) : Nat :=
  s.jobs.foldl (fun a e =>
    match e.2.on n with
    | some x => if e.2.res = .resident && e.2.kind = .comet && x.stage.unwon then a + payloadBytes .comet e.2.len else a
    | none => a) 0

/-- A port has demand (R290). -/
def State.demand (s : State) (n : Nat) : Bool :=
  s.jobs.any fun e => (e.2.on n).isSome && e.2.src != 2 &&
    (e.2.res = .waitFetch || e.2.res = .waitBlock || e.2.res = .fetching)

/-- Whether a port is in panic after a change of its backlog, demand or watermarks (R65, R290). -/
def State.panicNow (s : State) (n : Nat) : Bool :=
  let low := s.rd (portPg n) PORT_MV_WM_LOW
  let high := max low (s.rd (portPg n) PORT_MV_WM_HIGH)
  if !s.flag (portPg n) PORT_MV_ATT_EN || low == 0 || !s.demand n then false
  else if s.backlog n < 4096 * low then true
  else if 4096 * high ≤ s.backlog n then false
  else s.flag (portPg n) PORT_MV_ATT_IN_PANIC

/-- Level of PANICn of a partner port (R64, R65). -/
def State.panicLevel (s : State) (pp : Nat) : Bool :=
  s.flag (ppPg pp) PP_PANIC_FORCE ||
  (!s.flag (ppPg pp) PP_PANIC_MASK && !s.inReset && (s.mode == .run || s.mode == .degraded) &&
    (List.range 128).any fun n =>
      s.flag (portPg n) PORT_MV_ATT_IN_PANIC && s.flag (portPg n) PORT_MV_ATT_EN && s.rd (portPg n) PORT_MV_ATT_PP == pp)

/-- PANICn of every partner port follows its level; a rising edge is counted and reported (R64, R65). -/
def State.panicPins (s : State) : State :=
  s.each [0, 1, 2, 3] fun s pp =>
    let was := s.flag (ppPg pp) PP_PANIC_STATE
    let now := s.panicLevel pp
    let s1 := s.wrB (ppPg pp) PP_PANIC_STATE now
    if now && !was then ((s1.bump (ppPg pp) PP_PANIC_CNT_COUNT).tally (0x60 + 16 * pp + 8)).irq (ppPg pp) 8 else s1

/-- The comparison of R290 on some ports, and the pins. -/
def State.panic (s : State) (ns : List Nat) : State :=
  (s.each ns fun s n =>
    let was := s.flag (portPg n) PORT_MV_ATT_IN_PANIC
    let now := s.panicNow n
    let s1 := s.wrB (portPg n) PORT_MV_ATT_IN_PANIC now
    if now && !was then s1.bump (portPg n) PORT_MV_PANIC_CNT_COUNT else s1).panicPins

end Sys2Proof.Machine
end

