-- ==== Sys2Proof/Machine/Tx.lean ====
section
/-!
DEFINITION. Objects and forwards (R251-R273): acceptance, results port by port, completion and its record, cancels, loss
and fences, and the choice of a candidate (R260).
-/
set_option Elab.async false

namespace Sys2Proof.Machine

/-- The code of a final result (R262). -/
def Res.code : Res → Nat
  | .sent => 1 | .cancelled => 2 | .retryLimit => 3 | .fenced => 4 | .dataLost => 5

/-- The result code that a record carries for port `n` (R262, R272). -/
def Job.codeOn (j : Job) (n : Nat) : Nat :=
  match j.on n with
  | some ⟨_, .final r, _, _, _⟩ => r.code
  | _ => 0

/-- The words of a TX_DONE or FWD_DONE record (R272, R273). -/
def Job.record (j : Job) : List Nat :=
  let res := (List.range 13).map fun w =>
    (List.range 10).foldl (fun a i => a + (if 10 * w + i < 128 then j.codeOn (10 * w + i) else 0) * 8 ^ i) 0
  let seen := (List.range 5).foldl (fun a k =>
    a + (if j.ports.any fun x => j.codeOn x.port == k + 1 then 2 ^ (16 + k) else 0)) 0
  res ++ [j.idx + j.cl * 2 ^ 13 + seen, (if j.fwd then j.pseq else min j.sentFrames 65535 + j.tag * 2 ^ 16),
    j.lead + (if j.fwd then 9 else 8) * 2 ^ 24]

/-- Change the state of a job on one port. -/
def State.modJobPort (s : State) (uid n : Nat) (f : JobPort → JobPort) : State :=
  s.modJob uid fun j => { j with ports := j.ports.map fun x => if x.port = n then f x else x }

/-- The job of a number. -/
def State.job? (s : State) (uid : Nat) : Option Job := mapGet? s.jobs uid

/-- R265, once every port has a final result and no read of the tail is outstanding: the blocks are freed, the record is
queued (for a forward as REC directs, R271), and a forward's context is returned. -/
def State.tryComplete (s : State) (uid : Nat) : State :=
  match s.job? uid with
  | none => s
  | some j =>
    if j.res = .completing || !(j.ports.all fun x => x.stage.isFinal) || s.reading j.chan (.fetch uid) then s
    else
      let s1 := if j.res = .resident then s.dropUser (.job uid) else s.dropUndone (.job uid)
      let s2 := s1.panic (j.ports.map (·.port))
      if j.fwd then
        let wanted := j.recMode = 0 || (j.recMode = 1 && j.ports.any fun x => x.stage != .final .sent)
        let s3 := { s2 with jobs := mapDel s2.jobs uid }
        if wanted then s3.queueRec j.tgt { slot := false, words := j.record } else s3
      else
        (s2.modJob uid fun j => { j with res := .completing }).queueRec j.tgt
          { slot := false, words := j.record, job := some uid }

/-- A port reaches a final result (R262), with its counters (R275, R277, R397). -/
def State.finish (s : State) (uid n : Nat) (r : Res) : State :=
  match s.job? uid with
  | none => s
  | some j =>
    match j.on n with
    | none => s
    | some x =>
      if x.stage.isFinal then s
      else
        let s1 := s.modJobPort uid n fun x => { x with stage := .final r, doom := none, cancelBy := [] }
        let s2 := s1.modPort n fun p => if p.cand = some (.job uid) then { p with cand := none } else p
        let p := portPg n
        let s3 := match r with
          | .sent => ((s2.bump p PORT_TX_OK_COUNT).tallyPort n 0x08).tallyPort n 0x0C (payloadBytes j.kind j.len)
          | .retryLimit => (s2.bump p PORT_TX_LIMIT_COUNT).irq p (bit 11)
          | .cancelled => s2.bump p PORT_TX_CANCEL_COUNT
          | .fenced | .dataLost => s2
        -- no port left that needs the fetch: it ends (R259)
        let s4 := match s3.job? uid with
          | some j => if j.res != Residency.resident && j.res != Residency.completing && !j.fwd &&
                j.ports.all (fun x => x.stage.isFinal)
              then s3.withdraw j.chan (.fetch uid) else s3
          | none => s3
        (s4.panic [n]).tryComplete uid

/-- The eligibilities of a job begin now (R258, R260). -/
def State.makeEligible (s : State) (uid : Nat) : State :=
  let (t, s1) := s.fresh
  match s1.job? uid with
  | none => s1
  | some j => (s1.modJob uid fun j => { j with res := .resident, elig := t }).panic (j.ports.map (·.port))

/-! ### Acceptance (R251-R254) -/

/-- An object is in use (R252). -/
def State.objectInUse (s : State) (c i : Nat) : Option Nat :=
  (s.jobs.find? fun e => !e.2.fwd && e.2.cl == c && e.2.idx == i).map (·.1)

/-- The kind an object names. -/
def kindOf (k : Nat) : FKind := if k = 0 then .low else if k = 1 then .comet else .sync

/-- The reason to refuse an object at acceptance, 0 for none (R253). -/
def State.refusal (s : State) (c : Nat) (o : TxObj) : Nat :=
  let m := 32 * c + o.chan
  let comet := o.kind == 1
  let partner := comet && (o.src == 0 || o.src == 1)
  if s.fencedCl c then 9
  else if o.tpl then 1
  else if o.kind = 3 then 2
  else if !lenValid (kindOf o.kind) o.len then 3
  else if (s.portSet c o).isEmpty then 4
  else if o.recMode != 0 then 5
  else if comet && (o.src == 3 ||
      (o.src == 2 && (o.addrLo % 64 != 0 || !s.softRange c o.addrLo (payloadBytes .comet o.len))) ||
      (o.src == 0 && o.addrLo % 4 != 0)) then 6
  else if partner && (!s.fetchEnabled m || s.boundPp m != some (o.tgt / 4)) then 7
  else if partner && (s.txUnits c).isEmpty then 8
  else 0

/-- A submission is dropped (R252). -/
def State.dropSubmission (s : State) (lead : Nat) : State :=
  (s.bump (portPg lead) PORT_TX_DBDROP_COUNT).irq (portPg lead) (bit 15)

/-- One object of a run is dropped, refused with a TX_BAD record, or accepted (R252-R255). -/
def State.submit (s : State) (lead i : Nat) (bad : Bool) : State :=
  let c := lead / 16
  if (s.objectInUse c i).isSome then s.dropSubmission lead
  else if s.brokenIn (objectBase c + 32 * i) 32 then s.dropSubmission lead
  else if bad then ((s.dropSubmission lead).remember (objectBase c + 32 * i)).fault c (.cl c)
  else
    let o := s.txObj c i
    let why := s.refusal c o
    if why != 0 then
      let p := portPg lead
      let words := List.replicate 13 0 ++ [i + c * 2 ^ 13, why + o.tag * 2 ^ 16, lead + 10 * 2 ^ 24]
      (((s.queueRec o.tgt { slot := false, words := words }).wr p PORT_TX_BAD_INDEX i).wr p PORT_TX_BAD_REASON why).irq
        p (bit 10)
    else
      let (uid, s1) := s.fresh
      let k := kindOf o.kind
      let n := payloadBytes k o.len
      let set := s1.portSet c o
      let m := 32 * c + o.chan
      let fetch := k == .comet && o.src != 2
      let j : Job := {
        cl := c, idx := i, lead := lead, kind := k, id := o.id, long := o.long, len := o.len, rung := o.rung, aud := o.aud
        data := if k = .comet then [] else o.data.take n
        tgt := o.tgt, tag := o.tag, limit := o.limit, src := if k = .comet then o.src else 2, chan := m
        paddr := o.addrLo + o.addrHi * 2 ^ 32
        store := if k = .comet && o.src = 2 then some o.addrLo else none
        res := .waitFetch, ports := set.map fun q => { port := q } }
      let s2 := { s1 with jobs := mapPut s1.jobs uid j }
      let s3 := if k = .comet && o.src = 2 then s2.holdRange o.addrLo n (.job uid) else s2
      let dead := set.filter fun q => s3.fencedCl (q / 16)
      let s4 := if fetch then
          if dead.length = set.length then s3
          else ((s3.raise m { kind := .fetch uid, len := n, store := 0, useDesc := o.src == 1, paddr := j.paddr }).modJob
            uid fun j => { j with res := if (s3.chan m).mode = .halted then .waitChan else .waitFetch }).panic set
        else s3.makeEligible uid
      s4.each dead fun s q => s.finish uid q .fenced

/-- PORT_TX_DB, and the ENQUEUE action with COUNT 0 (R251, R328): the run of objects. -/
def State.doorbell (s : State) (lead first count : Nat) (finds : List (Nat × Find)) : State :=
  s.each (List.range (count + 1)) fun s k =>
    let i := (first + k) % 8192
    s.submit lead i (finds.any fun f => f.1 == i && f.2 == .uncorrectable)

/-! ### Attempts -/

/-- The running cancel of port `page`'s page counts ports settled CANCELLED and LATE (R266, R268). -/
def State.countCancel (s : State) (page cancelled late : Nat) : State :=
  s.modPort page fun p => { p with cancel := p.cancel.map fun (q : CancelRun) =>
    { q with cancelled := q.cancelled + cancelled, late := q.late + late } }

/-- Cancels that waited on an offer of this port settle as CANCELLED (R130), and the commands of `pages` count it. -/
def State.settled (s : State) (uid n : Nat) (pages : List Nat) : State :=
  (s.finish uid n .cancelled).each pages fun s page => s.countCancel page 1 0

/-- The result that falls due when the port no longer sends the frame: the one marked, or DATA_LOST of a lost object, which is
offered nowhere again (R263, R264). -/
def Job.due (j : Job) (x : JobPort) : Option Res := if x.doom.isNone && j.lost then some .dataLost else x.doom

/-- A job goes back to pending on a port without a failed attempt: its offer lapsed or lost, its next-up result is void, or
the port stopped (R112, R126, R130, R151, R162, R377). A result or a cancel that fell due is taken. -/
def State.backToPending (s : State) (uid n : Nat) : State :=
  match s.job? uid with
  | none => s
  | some j =>
    match j.on n with
    | none => s
    | some x =>
      if x.stage.isFinal then s
      else match j.due x with
        | some r => s.finish uid n r
        | none =>
          if x.cancelBy.isEmpty then (s.modJobPort uid n fun x => { x with stage := .pending }).panic [n]
          else s.settled uid n x.cancelBy

/-- The port has won the arbitration for a job: the cancels that waited are LATE (R130). -/
def State.wonArb (s : State) (uid n : Nat) : State :=
  match (s.job? uid).bind (·.on n) with
  | none => s
  | some x =>
    ((s.modJobPort uid n fun x => { x with stage := .won, cancelBy := [] }).panic [n]).each x.cancelBy fun s page =>
      s.countCancel page 0 1

/-- A failed attempt (R262): counted, and final at LIMIT or when a result fell due (R263, R264). -/
def State.failAttempt (s : State) (uid n : Nat) : State :=
  let s1 := (s.bump (portPg n) PORT_TX_FAIL_COUNT).tallyPort n 0x10
  let s2 := s1.modJob uid fun j => { j with sentFrames := j.sentFrames + 1 }
  let s3 := s2.modJobPort uid n fun x => { x with fails := x.fails + 1 }
  match s3.job? uid with
  | none => s3
  | some j =>
    match j.on n with
    | none => s3
    | some x =>
      match j.due x with
      | some r => s3.finish uid n r
      | none =>
        if j.limit != 0 && decide (j.limit ≤ x.fails) then s3.finish uid n .retryLimit
        else if x.cancelBy.isEmpty then (s3.modJobPort uid n fun x => { x with stage := .pending }).panic [n]
        else s3.settled uid n x.cancelBy

/-- A frame of the object ended without error on the port that sent it (R262), or with the result that fell due. -/
def State.sentOk (s : State) (uid n : Nat) : State :=
  let s1 := s.modJob uid fun j => { j with sentFrames := j.sentFrames + 1 }
  match (s1.job? uid).bind (·.on n) with
  | none => s1
  | some x => s1.finish uid n (x.doom.getD .sent)

/-! ### Loss and fences (R263, R264) -/

/-- The port still sends, or has yet to send, the tail of the frame it has won for a job. -/
def State.tailAhead (s : State) (uid n : Nat) : Bool :=
  match (s.port n).cur with
  | some f => !(f.own == some (.job uid) && f.tailOver)
  | none => true

/-- An uncorrectable error hits the tail of a job (R263). A port that is sending it marks the result, and sends an inverted
TCRC: TAIL_END then sets TX_DATA_LOST. -/
def State.loseJob (s : State) (uid : Nat) : State :=
  match s.job? uid with
  | none => s
  | some j =>
    if j.lost || j.res = .completing then s
    else
      let s1 := s.modJob uid fun j => { j with lost := true }
      let s2 := ((s1.bump (clPg j.cl) CL_TX_LOST_COUNT).tallyCl j.cl 0x20).err (clPg j.cl) 2
      s2.each j.ports fun s x =>
        match x.stage with
        | .pending => s.finish uid x.port .dataLost
        | .offered => s.modJobPort uid x.port fun y => { y with doom := some .dataLost }
        | .won => if s.tailAhead uid x.port then s.modJobPort uid x.port fun y => { y with doom := some .dataLost } else s
        | .final _ => s

/-- Cluster `c` is fenced: FENCED on every port that the fence concerns (R264). A port that has won and whose tail is not over
cuts it. A forward gets FENCED at its commit (R254). -/
def State.fenceJobs (s : State) (c : Nat) : State :=
  s.each s.jobs fun s e =>
    let (uid, j) := e
    s.each j.ports fun s x =>
      if x.stage.isFinal || j.res = .completing || j.res = .reserved then s
      else if x.port / 16 = c then s.finish uid x.port .fenced
      else if j.cl = c then
        match x.stage with
        | .won => if j.kind = .comet && s.tailAhead uid x.port then
              (s.modJobPort uid x.port fun y => { y with doom := some .fenced }).err (portPg x.port) 7
            else s.finish uid x.port .fenced
        | _ => s.finish uid x.port .fenced
      else s

/-! ### Cancels (R266-R268) -/

/-- Apply a cancel to one port of a job, for the page of port `page`. -/
def State.cancelPort (s : State) (uid n page : Nat) : State :=
  match (s.job? uid).bind (·.on n) with
  | none => s
  | some x =>
    match x.stage with
    | .final _ => s
    | .pending => (s.finish uid n .cancelled).countCancel page 1 0
    | .offered => s.modJobPort uid n fun y => { y with cancelBy := y.cancelBy ++ [page] }
    | .won => s.countCancel page 0 1

/-- The object still has a partner read to issue or outstanding (R266). -/
def State.jobReads (s : State) (uid : Nat) : Bool :=
  match s.job? uid with
  | none => false
  | some j => s.reading j.chan (.fetch uid) || (!j.fwd && j.res != .resident && j.res != .completing)

/-- Some port of a list still waits for its arbitration under the cancel of `page`. -/
def State.cancelWaits (s : State) (page : Nat) : Bool :=
  s.jobs.any fun e => e.2.ports.any fun x => x.cancelBy.contains page

/-- End a running TX_CANCEL or TX_FLUSH of port `n`'s page, when nothing is left to settle. What became eligible on the port
while TX_FLUSH runs is cancelled there (R268). -/
def State.settleCancel (s : State) (n : Nat) : State :=
  match (s.port n).cancel with
  | none => s
  | some q =>
    let s1 := match q.job with
      | some _ => s
      | none => s.each s.jobs fun s e =>
          if e.2.res == Residency.resident && decide (q.start ≤ e.2.elig) && (e.2.on n).map JobPort.stage == some Stage.pending
          then s.cancelPort e.1 n n else s
    match (s1.port n).cancel with
    | none => s1
    | some r =>
      let reads := match q.job with
        | some uid => s1.jobReads uid
        | none => false
      if s1.cancelWaits n || reads || s1.stalled then s1
      else
        let s2 := s1.modPort n fun p => { p with cancel := none }
        let status := if r.late != 0 then 0x90 else stOk
        match q.job with
        | some _ => s2.cmdEnd (portPg n) status (r.cancelled % 256 + r.late % 256 * 256)
        | none => s2.cmdEnd (portPg n) status (min r.cancelled 65535)

/-- TX_CANCEL (R266). -/
def State.txCancel (s : State) (n : Nat) : State :=
  let a := s.arg0 (portPg n)
  let all := a.testBit 31
  match s.objectInUse (n / 16) (bits a 0 13) with
  | none => s.cmdEnd (portPg n) 0x91 0
  | some uid =>
    let names := match s.job? uid with
      | some j => j.ports.map (·.port)
      | none => []
    if !all && !names.contains n then s.cmdStop (portPg n) stBadArg
    else
      let s1 := s.modPort n fun p => { p with cancel := some { job := some uid } }
      (s1.each (if all then names else [n]) fun s q => s.cancelPort uid q n).settleCancel n

/-- TX_FLUSH (R268): every object and forward that stands pending, offered or won on the port now, and what becomes eligible on
it while the command runs. -/
def State.txFlush (s : State) (n : Nat) : State :=
  let s1 := s.modPort n fun p => { p with cancel := some { job := none, start := s.nextUid } }
  (s1.each s1.jobs fun s e =>
    if e.2.res = .completing || e.2.res = .reserved then s else s.cancelPort e.1 n n).settleCancel n

/-- TX_QUERY (R276): state and ports without a final result. DESIGN CHOICE, safe: an object queued behind its channel's head,
for which the table has no state, answers WAIT_BLOCK (log 60). -/
def State.txQuery (s : State) (c i : Nat) : Nat :=
  match (s.objectInUse c i).bind s.job? with
  | none => 0
  | some j =>
    let st := match j.res with
      | .waitFetch | .waitBlock => 1
      | .fetching => 2
      | .waitChan => 3
      | .resident => 4
      | .completing => 5
      | .reserved => 4
    st + (j.ports.filter fun x => !x.stage.isFinal).length * 256

/-! ### Candidates (R126, R133, R260) -/

/-- A frame is a control frame on a port (R132). -/
def State.isControl (s : State) (n : Nat) (k : FKind) (id : Nat) (long : Bool) : Bool :=
  k != .comet && decide (idA id long ≤ s.rd (portPg n) PORT_ECL_CEIL)

/-- The port's eclipse window is open (R132). -/
def State.eclipseOpen (s : State) (n : Nat) : Bool :=
  s.flag (portPg n) PORT_ECL_SW_OPEN || s.flag (portPg n) PORT_ECL_EPH_OPEN

/-- A job may be offered on a port. -/
def State.offerable (s : State) (n : Nat) (j : Job) : Bool :=
  j.res = .resident && (match j.on n with | some x => x.stage == .pending | none => false) &&
    (!s.eclipseOpen n || s.isControl n j.kind j.id j.long)

/-- The order of R260 as a list of numbers to compare from the left. -/
def State.rankOf (s : State) (n : Nat) (j : Job) : List Nat :=
  [arbKey j.id j.long (s.rd (portPg n) PORT_SND_SND), j.elig, if j.fwd then 1 else 0, j.cl, if j.fwd then j.ctx else j.idx]

/-- Compare two ranks from the left. -/
def rankLt : List Nat → List Nat → Bool
  | a :: as, b :: bs => decide (a < b) || (a == b && rankLt as bs)
  | _, _ => false

/-- The object or forward that ranks first on a port. -/
def State.topJob (s : State) (n : Nat) : Option (Nat × Job) :=
  s.jobs.foldl (fun best e =>
    if s.offerable n e.2 then
      match best with
      | none => some e
      | some b => if rankLt (s.rankOf n e.2) (s.rankOf n b.2) then some e else best
    else best) none

end Sys2Proof.Machine
end

