-- ==== Sys2Proof/Machine/Rx.lean ====
section
/-!
DEFINITION. The receive path's operations (R208-R243): evaluation of a filter list, the claim and its resources, its undo,
commit, overruns, pushes, loss records and the release of FIFO entries.
-/
set_option Elab.async false

namespace Sys2Proof.Machine

/-! ### Time stamps (R242, R309) -/

/-- TB's encoding (R308). -/
def Tb.code : Tb → Nat
  | .free => 0 | .locked => 1 | .flywheel => 2

/-- Subline and FINE after `e` (1/256 quantum) of a line of period `t` (R309). -/
def subline (e t : Nat) : Nat := if t = 0 then 255 else min 255 (256 * e / t)
def fineOf (e t : Nat) : Nat := min 255 ((e - (subline e t * t + 255) / 256) / 256)

/-- The period of the current line: T, less the slew of a mark (R309, R317). -/
def Raster.lineTime (r : Raster) : Nat := ((r.period : Int) - r.slew).toNat

/-- The rate code in use (R315). -/
def State.rateCode (s : State) : Nat :=
  if s.rt.tb = .free || s.rd (ephPg 0) RT_CFG_SRC != 1 then s.rd (ephPg 0) RT_NOM_CODE else s.rt.code

/-- The key of a field that opens an eclipse window (R132). -/
def eclipseKey (k : Nat) : Bool :=
  decide (128 ≤ k / 131072) && decide (k / 131072 < 256) &&
    (k % 131072 == fieldKey 0 PORT_ECL_SW_OPEN 0 || k % 131072 == fieldKey 0 PORT_ECL_EPH_OPEN 0)

/-- The moment that a SOF in this command's time has (R134, R242). -/
def State.moment (s : State) : Moment :=
  { frame := s.rt.frame, line := s.rt.line, period := s.rt.lineTime, tb := s.rt.tb.code, code := s.rateCode
    ecl := s.regs.filter fun e => eclipseKey e.1, discs := s.rt.discs }

/-- A command has ended: a moment that differs from the latest is noted; the 256 newest are kept. -/
def State.noteMoment (s : State) : State :=
  let m := s.moment
  if s.moments.head? = some m then s else { s with moments := (m :: s.moments).take 256 }

/-- The moment of a SOF, `back` moments before this one (log 61). -/
def State.momentOf (s : State) (back : Nat) : Moment := if back = 0 then s.moment else s.moments.getD back s.moment

/-- The eclipse window of port `n` was open then (R132). -/
def Moment.eclipseOpen (m : Moment) (n : Nat) : Bool :=
  mapGet 0 m.ecl (fieldKey (portPg n) PORT_ECL_SW_OPEN 0) != 0 || mapGet 0 m.ecl (fieldKey (portPg n) PORT_ECL_EPH_OPEN 0) != 0

/-- Raster time at a SOF, `e` into the line of its moment (R242). -/
def Moment.stamp (m : Moment) (e : Nat) : Stamp :=
  { frame := m.frame, line := m.line, sub := subline e m.period, fine := fineOf e m.period, tb := m.tb }

/-! ### Loss records (R243, R392) -/

/-- One RX_LOSS record: what was hit, and its counters and flags. -/
def State.rxLoss (s : State) (c what index fseq pseq addr : Nat) (port : Option Nat) : State :=
  let words := [what, index, fseq, pseq, addr] ++ List.replicate 10 0 ++
    [(match port with | some n => n | none => 128) + 4 * 2 ^ 24]
  let s1 := s.queueRec (s.rd (clPg c) CL_RXCFG_LOSS_TGT) { slot := false, words := words }
  (((s1.bump (clPg c) CL_LOSS_CNT_COUNT).tallyCl c 0x1C).irq (clPg c) 4).err (clPg c) 1

/-! ### The filter list (R212, R213) -/

/-- An invalid element was skipped (R213, R392). -/
def State.badElem (s : State) (n i : Nat) : State :=
  ((s.wr (portPg n) PORT_FLT_BADIDX_INDEX i).err (portPg n) 5).irq (portPg n) (bit 9)

/-- Evaluate `cnt` elements from `i` on: the first match, with the invalid ones before it skipped (R213). `hit`: elements
found uncorrectable by this evaluation. -/
def State.evalList (s : State) (n id : Nat) (long : Bool) (snd : Nat) (hit : List Nat) :
    Nat → Nat → Option (Nat × Elem) × State
  | _, 0 => (none, s)
  | i, cnt + 1 =>
    let c := n / 16
    let e := s.elem c i
    let known := s.brokenIn (filterBase c + 16 * i) 16
    if hit.contains i || known || !s.elemValid c e then
      let s1 := s.badElem n i
      let s2 := if hit.contains i && !known then (s1.remember (filterBase c + 16 * i)).fault c (.cl c) else s1
      s2.evalList n id long snd hit (i + 1) cnt
    else if e.hits id long snd then (some (i, e), s)
    else s.evalList n id long snd hit (i + 1) cnt

/-! ### Resources (R221, R271) -/

/-- The fill of an RX FIFO (R228). -/
def State.fifoFill (s : State) (c f : Nat) : Nat :=
  (s.rd (clPg c) RXF_PUT_PUT f + 65536 - s.rd (clPg c) RXF_GET_GET f) % 65536

/-- A FIFO slot is free for a claim (R221). -/
def State.fifoRoom (s : State) (c f : Nat) (ess : Bool) : Bool :=
  let used := s.fifoFill c f + s.rd (clPg c) RXF_RSV_SLOTS f
  let size := 2 ^ s.rd (clPg c) RXF_CFG_LOG2 f
  decide (used < if ess then size else size - s.rd (clPg c) RXF_KEEP_KEEP f)

/-- A ring slot is free for a claim (R221). -/
def State.ringRoom (s : State) (c k : Nat) (ess : Bool) : Bool :=
  decide ((if ess then 0 else s.rd (clPg c) CL_RXCFG_RING_KEEP) < s.ringFree k)

/-- Forward contexts of a cluster, and of one template (R271). -/
def State.forwards (s : State) (c : Nat) : List (Nat × Job) := s.jobs.filter fun e => e.2.fwd && e.2.cl == c

/-- The lowest free forward context. -/
def State.freeCtx (s : State) (c : Nat) : Option Nat :=
  (List.range 256).find? fun i => !(s.forwards c).any fun e => e.2.ctx == i

/-- Give back everything that a claim reserved (R218). `undone`: the block's bytes become undefined. -/
def State.releaseClaim (s : State) (c : Nat) (k : Claim) : State :=
  let s1 := match k.fifo with
    | some f => s.wr (clPg c) RXF_RSV_SLOTS (s.rd (clPg c) RXF_RSV_SLOTS f - 1) f
    | none => s
  let s2 := match k.ring with
    | some t => s1.slotGive t
    | none => s1
  let s3 := match k.fwd with
    | some uid => { s2 with jobs := mapDel s2.jobs uid }
    | none => s2
  if k.blk.isSome then s3.dropUndone (.claim k.uid) else s3

/-- The target of a claim's record, and its FIFO (R221, R237). -/
def State.claimTargets (s : State) (c : Nat) (e : Elem) : Option Nat × Option Nat :=
  let tgtOf (f : Nat) := s.rd (clPg c) RXF_CFG_TGT f
  match e.dest with
  | 1 => (some e.index, some (tgtOf e.index))
  | 2 => (none, if e.notify then some e.aux else none)
  | 3 => (none, some e.aux)
  | 4 => if e.copy then (some e.aux, some (tgtOf e.aux)) else (none, none)
  | _ => (none, none)

/-- Reserve the resources of a claim in the order of R221; the first that fails overruns it (R222, R223). -/
def State.reserve (s : State) (n : Nat) (h : Head) (i : Nat) (e : Elem) (st : Stamp) : Claim × State :=
  let c := n / 16
  let comet := h.kind == .comet
  let (uid, s) := s.fresh
  let (fifo, ring) := s.claimTargets c e
  let base : Claim := { uid := uid, elem := i, dest := e.dest, index := e.index, aux := e.aux, chan := 32 * c + e.chan
                        ess := e.ess, push := e.push && comet, copy := e.copy, notify := e.notify, stamp := st }
  let onFull (cause : Nat) (k : Claim) (s : State) : Claim × State :=
    ({ base with verdict := .overrun cause e.ess, fifo := if cause = 1 then fifo else none }, s.releaseClaim c k)
  match fifo with
  | some f => if !s.fifoRoom c f e.ess then onFull 1 base s else
      let k := { base with verdict := .claimed, fifo := some f }
      go k ring onFull (s.adv (clPg c) RXF_RSV_SLOTS 1 f)
  | none => go { base with verdict := .claimed } ring onFull s
where
  /-- Ring slot, forward, mover channel and store block, in this order. -/
  go (k : Claim) (ring : Option Nat) (onFull : Nat → Claim → State → Claim × State) (s : State) : Claim × State :=
    let c := n / 16
    let comet := h.kind == .comet
    match ring with
    | some t =>
      if !s.ringRoom c t e.ess then onFull 2 k s else fwdStep { k with ring := some t } onFull (s.slotTake t) c comet
    | none => fwdStep k onFull s c comet
  fwdStep (k : Claim) (onFull : Nat → Claim → State → Claim × State) (s : State) (c : Nat) (comet : Bool) :
      Claim × State :=
    if e.dest != 4 then moverStep k onFull s c comet
    else
      let o := s.txObj c e.index
      match s.freeCtx c with
      | none => onFull 3 k s
      | some ctx =>
        if bits o.len 0 8 ≤ ((s.forwards c).filter fun x => x.2.idx == e.index).length then onFull 3 k s
        else
          let (uid, s1) := s.fresh
          let j : Job := {
            fwd := true, cl := c, idx := e.index, ctx := ctx, lead := n, kind := h.kind, id := h.id.toNat, long := h.long
            len := h.len.toNat, rung := o.rung, aud := o.aud, tgt := o.tgt, limit := o.limit, recMode := o.recMode
            res := .reserved, ports := ((s.portSet c o).filter (· != n)).map fun q => { port := q } }
          moverStep { k with fwd := some uid } onFull { s1 with jobs := mapPut s1.jobs uid j } c comet
  moverStep (k : Claim) (onFull : Nat → Claim → State → Claim × State) (s : State) (c : Nat) (comet : Bool) :
      Claim × State :=
    if k.push && !s.pushAvailable k.chan then onFull 4 k s
    else if comet && (e.dest == 1 || e.dest == 3 || e.dest == 4) then
      match s.takeRx c (payloadBytes .comet h.len.toNat) e.ess (.claim k.uid) with
      | some (a, s1) => ({ k with blk := some a }, s1.forget a (256 * 2 ^ orderFor (payloadBytes .comet h.len.toNat)))
      | none => onFull 5 k s
    else (k, s)

/-- The claim of a head on a port (R213, R216, R217). DESIGN CHOICE, unsafe: a COMET whose rung the port does not receive is
rejected before anything is reserved for it, also where a resource would have been short (log 67). -/
def State.claimHead (s : State) (n : Nat) (h : Head) (st : Stamp) (hit : List Nat) : Claim × State :=
  let p := portPg n
  match s.evalList n h.id.toNat h.long h.snd.toNat hit (s.rd p PORT_FLT_LIST_FIRST) (s.rd p PORT_FLT_LIST_COUNT) with
  | (none, s1) => ({ stamp := st }, s1)
  | (some (i, e), s1) =>
    if e.dest = 0 || !e.kinds.testBit h.kind.code ||
        (h.kind == .comet && !(s1.rd (phyPg n) PHY_RUNG_RX_EN).testBit h.rung.val) then ({ elem := i, stamp := st }, s1)
    else s1.reserve n h i e st

/-- The payload of a tail enters its block as it arrives (R216): the bytes received, as far as the block has room. A word that was
found uncorrectable while the block was filled stays so (R392). -/
def State.fillBlock (s : State) (k : Claim) (payload : List Byte) : State :=
  match k.blk.bind s.blockAt with
  | some b => { s.mputs b.addr (payload.take b.len) with poison := s.poison }
  | none => s

/-- A claim is undone before commit (R218). -/
def State.undoClaim (s : State) (n : Nat) (k : Claim) : State :=
  if k.verdict = .claimed then
    ((s.releaseClaim (n / 16) k).bump (portPg n) PORT_RX_UNDO_COUNT).tallyPort n 0x1C
  else s

/-! ### Entries and records (R240) -/

/-- A frame's block holds a word that was found uncorrectable while it was filled: the first such word (R243). -/
def State.firstBad (s : State) (b : Block) : Nat :=
  (s.poison.filter fun w => overlaps w 32 b.addr b.len).foldl (fun m w => if w < m then w else m) (b.addr + b.len)

/-- A use of a receive block by a committed frame reports the loss of word `w` (R243); `pushed`: a push of the block runs. -/
def State.loseUser (s : State) (w : Nat) (pushed : Bool) (u : User) : State :=
  match u with
  | .push uid =>
    match mapGet? s.pushes uid with
    | some j => ({ s with pushes := mapPut s.pushes uid { j with lost := true } }).err (clPg (w / 0x800000)) 1
    | none => s
  | .entry c f fseq pseq port => if pushed then s else s.rxLoss c 0 f fseq pseq w (some port)
  | .direct pseq port => if pushed then s else s.rxLoss (w / 0x800000) 3 0 0 pseq w (some port)
  | .job uid => s.loseJob uid
  | _ => s

/-- Every use of a block reports the loss of its word `w`, once (R243, R263). -/
def State.loseBlock (s : State) (b : Block) (w : Nat) : State :=
  let pushed := b.users.any fun u => match u with | .push _ => true | _ => false
  s.each b.users fun s u => s.loseUser w pushed u

/-- The words of an entry or receive record of type `ty`. -/
def rxWords (n : Nat) (f : BusFrame) (data : List Byte) (fseq pseq didx ty : Nat) (off : Option Nat) : List Nat :=
  let h := f.head
  let k := f.claim
  let comet := h.kind == .comet
  let flag (b : Bool) (i : Nat) : Nat := if b then 2 ^ i else 0
  [ h.id.toNat + flag h.long 29 + h.kind.code * 2 ^ 30,
    h.snd.toNat + (if comet then h.rung.val * 64 else 0) + h.len.toNat * 2 ^ 8 + flag h.epi 22 + flag h.aud 23 +
      flag k.ess 24 + flag f.case1.isSome 25 + flag k.push 26 + flag (k.dest == 4) 27,
    fseq, pseq, k.stamp.frame,
    k.stamp.line + k.stamp.sub * 2 ^ 12 + k.stamp.fine * 2 ^ 20 + k.stamp.tb * 2 ^ 28,
    payloadBytes h.kind h.len.toNat,
    k.elem + didx * 2 ^ 12 ] ++
  (if comet then [off.getD 0xFFFFFFFF, k.tcrc, 0, 0] else (List.range 4).map (wordOf (data ++ List.replicate 16 0))) ++
  [0, 0, 0, n + ty * 2 ^ 24]

/-- A record's words with STATUS, PADDR and TAIL_OFF of a push that has ended (R234, R235, R241). -/
def pushWords (ws : List Nat) (status paddr : Nat) (keep : Bool) : List Nat :=
  ws.zipIdx.map fun x =>
    if x.2 = 8 ∧ !keep then 0xFFFFFFFF
    else if x.2 = 10 then paddr % 2 ^ 32
    else if x.2 = 11 then paddr / 2 ^ 32
    else if x.2 = 12 then status else x.1

/-- Write the sixteen words of an entry. -/
def State.putEntry (s : State) (a : Nat) (ws : List Nat) : State := s.mputs a (ws.flatMap bytesOf)

/-- A push is requested for a committed frame, or fails at once when its channel is no longer enabled for pushes (R234, R279). Such
a push has taken no element, and no rule gives its PADDR: DESIGN CHOICE, unsafe, 0 (log 66). -/
def State.startPush (s : State) (n : Nat) (k : Claim) (ws : List Nat) (tgt pseq len : Nat) (direct : Bool) : State :=
  match k.blk with
  | none => s
  | some a =>
    let x := s.chan k.chan
    if x.mode = .disabled || !(match x.cfg with | some g => g.push | none => false) then
      let s1 := if direct then s.addUser a (.direct pseq n) else s
      s1.queueRec tgt { slot := true, words := pushWords ws 1 0 true }
    else
      let (uid, s1) := s.fresh
      let s2 := (s1.addUser a (.push uid)).raise k.chan { kind := .push uid, len := len, store := a, useDesc := true }
      { s2 with pushes := mapPut s2.pushes uid ⟨tgt, ws, a, direct, k.chan, false⟩ }

/-- An entry goes into an RX FIFO, with its record or its push (R219, R228, R235). -/
def State.enterFifo (s : State) (n : Nat) (f : BusFrame) (data : List Byte) (fi pseq : Nat) : State :=
  let c := n / 16
  let p := clPg c
  let k := f.claim
  let put := s.rd p RXF_PUT_PUT fi
  let fseq := s.rd p RXF_SEQ_SEQ fi
  let ws := rxWords n f data fseq pseq fi 1 k.blk
  let a := ringBase c + (s.rd p RXF_CFG_BASE fi + put % 2 ^ s.rd p RXF_CFG_LOG2 fi) * 64
  let s1 := s.putEntry a ws
  let s2 := ((s1.adv p RXF_PUT_PUT 1 fi).adv p RXF_SEQ_SEQ 1 fi).wr p RXF_RSV_SLOTS (s.rd p RXF_RSV_SLOTS fi - 1) fi
  let s3 := match k.blk with
    | some b => s2.addUser b (.entry c fi fseq pseq n)
    | none => s2
  match k.ring with
  | none => s3
  | some t =>
    if k.push && k.dest == 1 then s3.startPush n k ws t pseq (payloadBytes .comet f.head.len.toNat) false
    else s3.queueRec t { slot := true, words := ws }

/-- A dedicated buffer is updated (R231, R232). -/
def State.enterBuffer (s : State) (n : Nat) (f : BusFrame) (data : List Byte) (pseq : Nat) : State :=
  let c := n / 16
  let b := f.claim.index
  let cnt := (mapGet 0 s.bufCount (1024 * c + b) + 1) % 2 ^ 32
  let ws := rxWords n f data cnt pseq b 3 none
  let s1 := ({ s with bufCount := mapSet 0 s.bufCount (1024 * c + b) cnt }).putEntry (sliceBase c + 0x7F0000 + 64 * b) ws
  let was := (s1.rd (clPg c) CL_BUF_NEW_NEW (b / 32)).testBit (b % 32)
  let s2 := if was then s1.bump (clPg c) CL_BUF_OVW_COUNT else s1.orBits (clPg c) CL_BUF_NEW_NEW (bit (b % 32)) (b / 32)
  match f.claim.ring with
  | some t => s2.queueRec t { slot := true, words := ws }
  | none => s2

/-- The forward of a committed frame becomes eligible, and is FENCED where R254 says so. -/
def State.commitForward (s : State) (uid pseq : Nat) (blk : Option Nat) (data : List Byte) : State :=
  let s1 := s.modJob uid fun j => { j with pseq := pseq, store := blk, data := data }
  let s2 := (match blk with
    | some a => if (s1.job? uid).isSome then s1.addUser a (.job uid) else s1
    | none => s1).makeEligible uid
  match s2.job? uid with
  | none => s2
  | some j =>
    (s2.each (j.ports.filter fun x => s2.fencedCl (x.port / 16)) fun s x => s.finish uid x.port .fenced).tryComplete uid

/-- A frame overran and reached its ACK delimiter without error: it is counted (R222). -/
def State.countOverrun (s : State) (n cause : Nat) (ess : Bool) (fifo : Option Nat) : State :=
  let p := portPg n
  let s1 := ((s.bump p PORT_RX_OVR_COUNT).wr p PORT_RX_OVRCAUSE_CAUSE cause).tallyPort n 0x18
  let s2 := match fifo with
    | some f => s1.bump (clPg (n / 16)) RXF_OVR_COUNT 1 f
    | none => s1
  let s3 := s2.irq p (bit 8)
  if ess then (s3.bump p PORT_RX_OVR_ESS_COUNT).err p 4 else s3

/-- Commit (R219): one step at the ACK delimiter. The tail stands in its block already (`State.fillBlock`). A block that was found
to hold an uncorrectable word while it was filled is lost at the commit (R243, R263, R392). -/
def State.commit (s : State) (n : Nat) (f : BusFrame) (data : List Byte) : State :=
  let p := portPg n
  let k := f.claim
  let len := payloadBytes f.head.kind f.head.len.toNat
  match k.verdict with
  | .rejected => (s.bump p PORT_RX_REJ_COUNT).tallyPort n 0x14
  | .overrun cause ess => s.countOverrun n cause ess k.fifo
  | .claimed =>
    let pseq := s.rd p PORT_RX_PSEQ_PSEQ
    let s1 := s.adv p PORT_RX_PSEQ_PSEQ
    let s3 := match k.dest with
      | 1 => s1.enterFifo n f data k.index pseq
      | 2 => s1.enterBuffer n f data pseq
      | 3 => match k.ring with
        | none => s1
        | some t =>
          let ws := rxWords n f data 0 pseq 0 2 k.blk
          if k.push then s1.startPush n k ws t pseq len true else s1.queueRec t { slot := true, words := ws }
      | 4 =>
        let s4 := if k.copy then s1.enterFifo n f data k.aux pseq else s1
        match k.fwd with
        | some uid => s4.commitForward uid pseq k.blk data
        | none => s4
      | _ => s1
    let s4 := s3.dropUser (.claim k.uid)
    let s5 := match k.blk.bind s4.blockAt with
      | some b => if b.lost then s4.loseBlock b (s4.firstBad b) else s4
      | none => s4
    ((s5.bump p PORT_RX_OK_COUNT).tallyPort n 0x00).tallyPort n 0x04 len

/-! ### Release (R228-R230, R245) -/

/-- Release the entries of a FIFO from GET up to `cnt` further (R229). -/
def State.releaseEntries (s : State) (c f cnt : Nat) : State :=
  let seq := s.rd (clPg c) RXF_SEQ_SEQ f
  let fill := s.fifoFill c f
  -- the entry at distance d from GET has FSEQ = SEQ - fill + d
  let gone (u : User) : Bool := match u with
    | .entry c' f' q _ _ => c' == c && f' == f && decide ((q + fill + 2 ^ 32 - seq) % 2 ^ 32 < cnt)
    | _ => false
  { s with blocks := (s.blocks.map fun b => { b with users := b.users.filter fun u => !gone u }).filter fun b =>
      !b.users.isEmpty }

/-- RXF_GET (R228, R229). -/
def State.rxfGet (s : State) (pp c f v : Nat) : State :=
  let p := clPg c
  let g := bits v 0 16
  s.guarded pp p none fun s =>
    let d := (g + 65536 - s.rd p RXF_GET_GET f) % 65536
    if d > s.fifoFill c f then s.err p 0 else (s.releaseEntries c f d).wr p RXF_GET_GET g f

/-- Empty a FIFO (R230): entries released. -/
def State.fifoReset (s : State) (c f : Nat) : Nat × State :=
  let n := s.fifoFill c f
  (n, ((s.releaseEntries c f n).wr (clPg c) RXF_PUT_PUT 0 f).wr (clPg c) RXF_GET_GET 0 f)

/-- RX_RELEASE (R245): DETAIL is the order of the block freed. -/
def State.rxRelease (s : State) (c a : Nat) : State :=
  let isDirect (u : User) : Bool := match u with | .direct _ _ => true | _ => false
  match s.blocks.find? fun b => b.addr == a && b.kind == .rx && a / 0x800000 == c && b.users.any isDirect with
  | none => s.cmdStop (clPg c) stBadArg
  | some b =>
    let s1 := { s with blocks := (s.blocks.map fun x =>
        if x = b then { x with users := x.users.filter fun u => !isDirect u } else x).filter fun x => !x.users.isEmpty }
    s1.cmdEnd (clPg c) stOk (orderFor b.len)

/-- RXF_CFG (R227): the reasons to refuse under R10. -/
def State.rxfCfgBad (s : State) (c f v : Nat) : Bool :=
  let log2 := bits v 1 4
  let base := bits v 8 13
  log2 == 14 || log2 == 15 ||
  (v.testBit 0 && (base % 2 ^ log2 != 0 || (List.range 64).any fun g =>
    g != f && s.flag (clPg c) RXF_CFG_EN g &&
      overlaps base (2 ^ log2) (s.rd (clPg c) RXF_CFG_BASE g) (2 ^ s.rd (clPg c) RXF_CFG_LOG2 g)))

/-- A held block of another use lies in a unit of a range of units (R226). -/
def State.unitsHeld (s : State) (c base size : Nat) (f : Block → Bool) : Bool :=
  s.blocks.any fun b => f b && overlaps (sliceBase c + base * 0x10000) (size * 0x10000) b.addr b.len

/-- CL_RXPOOL (R226): the reasons to refuse under R10. -/
def State.rxPoolBad (s : State) (c v : Nat) : Bool :=
  let base := bits v 0 7
  let size := bits v 8 8
  let ess := bits v 16 8
  decide (128 < base + size) || decide (size < ess) ||
  (s.flag (clPg c) CL_BUFAREA_EN && decide (base ≤ 127) && decide (127 < base + size)) ||
  s.unitsHeld c (s.rd (clPg c) CL_RXPOOL_BASE) (s.rd (clPg c) CL_RXPOOL_SIZE) (fun b => b.kind == .rx) ||
  s.unitsHeld c base size (fun b => b.kind != .rx)

/-- CL_BUFAREA (R226). -/
def State.bufAreaBad (s : State) (c v : Nat) : Bool :=
  v.testBit 0 && (s.inRxPool c 127 || s.unitsHeld c 127 1 (fun b => b.kind != .rx))

/-- CL_TXSOFT (R275): no block of the transmit pool or the software area is held. -/
def State.txSoftBad (s : State) (c v : Nat) : Bool :=
  decide (128 < bits v 0 7 + bits v 8 8) ||
  (List.range 128).any fun u => !s.inRxPool c u && !s.inBufArea c u && s.unitsHeld c u 1 fun b => b.kind != .rx

end Sys2Proof.Machine
end

