-- ==== Sys2Proof/Machine/Ecc.lean ====
section
/-!
DEFINITION. What SECDED finds when the device reads the store or the tables (R390-R392), and what an uncorrectable word does
by the place where it lies (R243, R263, R392).
-/
set_option Elab.async false

namespace Sys2Proof.Machine

/-- A corrected word (R391): an event on line 40, the counters, and the slice's write-back queue of sixteen words. A word
that is queued already raises nothing. -/
def State.corrected (s : State) (a : Nat) : State :=
  let w := eccWord a
  let c := eccCluster a
  if s.wbq.contains w then s
  else
    let s1 := (s.fault 40 .dev).tallyCl c (if a < 0x4000000 then 0x10 else 0x18)
    if (s1.wbq.filter fun x => eccCluster x == c).length < 16 then { s1 with wbq := s1.wbq ++ [w] } else s1

/-- Words that read poisoned (R40, R243). -/
def State.spoil (s : State) (w : Nat) : State := if s.poison.contains w then s else { s with poison := s.poison ++ [w] }

/-- The FIFO of cluster `c` that holds an unreleased entry in slot `j` of its ring space. -/
def State.fifoOfSlot (s : State) (c j : Nat) : Option Nat :=
  (List.range 64).find? fun f =>
    s.flag (clPg c) RXF_CFG_EN f &&
    (List.range (s.fifoFill c f)).any fun d =>
      s.rd (clPg c) RXF_CFG_BASE f + (s.rd (clPg c) RXF_GET_GET f + d) % 65536 % 2 ^ s.rd (clPg c) RXF_CFG_LOG2 f == j

/-- An uncorrectable word lies in a held block: its users report it once; a block that a claim fills reports at the commit
(R243, R263). -/
def State.blockLoss (s : State) (c w : Nat) (known : Bool) (b : Block) : State :=
  let isClaim (u : User) : Bool := match u with | .claim _ => true | _ => false
  let isXfer (u : User) : Bool := match u with | .xfer _ => true | _ => false
  if b.users.any isXfer then if known then s else (s.remember w).fault (8 + c) (.cl c)
  else
    let s1 := ({ s with blocks := s.blocks.map fun x => if x = b then { x with lost := true } else x }).spoil w
    if b.lost || b.users.any isClaim then s1 else s1.loseBlock b w

/-- A 64-byte entry holds a word that was found uncorrectable before: its loss is reported (R243). -/
def State.entryLost (s : State) (w : Nat) : Bool := s.poison.any fun x => x / 64 == w / 64

/-- An uncorrectable word of the store: in held blocks, of which STORE objects may share one; the dedicated buffers; a free
block of a pool; the software area. -/
def State.storeLoss (s : State) (c w : Nat) (scrub : Bool) : State :=
  let known := s.ueWords.contains w || s.poison.contains w
  let s := if known then s else s.tallyCl c 0x14
  match s.blocks.filter fun b => overlaps w 32 b.addr b.len with
  | b :: bs => s.each (b :: bs) (·.blockLoss c w known)
  | [] =>
    let u := w % 0x800000 / 0x10000
    if s.inBufArea c u then
      let i := w % 0x10000 / 64
      if known then s
      else if mapGet 0 s.bufCount (1024 * c + i) != 0 then if s.entryLost w then s.spoil w else (s.spoil w).rxLoss c 2 i 0 0 w none
      else (s.remember w).fault (8 + c) (.cl c)
    else if s.inSoft c u then if known then s else (s.remember w).fault (8 + c) (.cl c)
    else
      let s1 := if scrub then s.mputs w (List.replicate 32 0) else s
      if known then s1 else s1.fault (8 + c) (.cl c)

/-- An uncorrectable word (R392). -/
def State.uncorrectable (s : State) (a : Nat) (scrub : Bool) : State :=
  let w := eccWord a
  match regionAt w with
  | none => s
  | some (.store c) => s.storeLoss c w scrub
  | some r =>
    let c := r.cluster
    if s.ueWords.contains w || s.poison.contains w then s
    else match r with
    | .ring c =>
      match s.fifoOfSlot c ((w - ringBase c) / 64) with
      | some f => if s.entryLost w then s.spoil w else (s.spoil w).rxLoss c 1 f 0 0 (w / 32 * 32) none
      | none => (s.remember w).fault (8 + c) (.cl c)
    | .ephemeris c =>
      let i := (w - ephBase c) / 32
      ((({ s with armed := mapDel s.armed (1024 * c + i) }).wr (ephPg c) EPH_BAD_INDEX i).remember w).fault c (.cl c)
    | _ => (s.remember w).fault c (.cl c)

/-- What a read of the words `a` up to `a + n` finds: corrected and uncorrectable words of the list take effect. -/
def State.found (s : State) (a n : Nat) (finds : List (Nat × Find)) : State :=
  s.each finds fun s f =>
    if decide (eccWord a ≤ f.1) && decide (f.1 < a + n) then
      match f.2 with
      | .corrected => s.corrected f.1
      | .uncorrectable => s.uncorrectable f.1 false
    else s

/-- A read of a range hits a word that is uncorrectable: one of the list, or one that is known (R40, R243). -/
def State.badRead (s : State) (a n : Nat) (finds : List (Nat × Find)) : Bool :=
  (finds.any fun f => f.2 == .uncorrectable && decide (eccWord a ≤ f.1) && decide (f.1 < a + n)) ||
  (s.ueWords ++ s.poison).any fun w => decide (eccWord a ≤ w) && decide (w < a + n)

/-- A write of some bytes: a word that is known uncorrectable and is written in part reads first, and its other bytes are
set to 0 (R390). -/
def State.writeWords (s : State) (a : Nat) (bs : List Byte) : State :=
  let n := bs.length
  let size (w : Nat) : Nat := if w < 0x4000000 then 32 else 8
  let part := (s.ueWords ++ s.poison).filter fun w =>
    decide (w < a + n) && decide (a < w + size w) && !(decide (a ≤ w) && decide (w + size w ≤ a + n))
  (s.each part fun s w => s.mputs w (List.replicate (size w) 0)).mputs a bs

/-- The scrubber of slice `c` runs (R23, R391). -/
def State.scrubs (s : State) (c : Nat) : Bool :=
  !s.down && !s.fencedCl c &&
  match s.mode with
  | .configure | .run | .degraded | .safe | .update => true
  | _ => false

/-- SCRUB_ACCESS (R391): one store word of the sequential pass, in a slice in service. -/
def State.scrub (s : State) (a : Nat) (f : Option Find) : State :=
  let c := a / 0x800000
  if !s.scrubs c || decide (0x4000000 ≤ a) then s
  else
    let s1 := match f with
      | some .corrected =>
        -- the pass itself writes the word back
        let s1 := s.corrected a
        { s1 with wbq := s1.wbq.filter (· != eccWord a) }
      | some .uncorrectable => s.uncorrectable a true
      | none => s
    -- the last word of a slice ends its pass (R397)
    if a / 32 % 0x40000 = 0x3FFFF then s1.tallyCl c 0x3A else s1

/-- WRITE_BACK (R391): the oldest queued word of a slice is written back. -/
def State.writeBack (s : State) (c : Nat) : State :=
  if !s.scrubs c then s
  else match s.wbq.find? fun w => eccCluster w == c with
  | some w => { s with wbq := s.wbq.filter (· != w) }
  | none => s

end Sys2Proof.Machine
end

