-- ==== Sys2Proof/Machine/Cv.lean ====
section
/-!
DEFINITION. The check-value units (R467-R477): the algorithms, the start of a scan and its ends.
-/
set_option Elab.async false

namespace Sys2Proof.Machine

/-! ### Algorithms (R468, R469) -/

/-- Parameters of a CRC: width, polynomial, initial value, input and output reflection, final XOR. -/
structure Alg where
  w : Nat
  poly : Nat
  init : Nat
  refin : Bool
  refout : Bool
  xorout : Nat
  deriving DecidableEq, Repr

/-- A 64-bit value in two registers. -/
def State.rd64 (s : State) (p : Nat) (lo hi : Field) : Nat := s.rd p lo + s.rd p hi * 2 ^ 32
def State.wr64 (s : State) (p : Nat) (lo hi : Field) (v : Nat) : State := (s.wr p lo v).wr p hi (v / 2 ^ 32)

/-- The algorithm that CV_CFG of unit `u` selects; none when it is reserved. Bits above the width are ignored. -/
def State.cvAlg (s : State) (u : Nat) : Option Alg :=
  let p := cvPg u
  match s.rd p CV_CFG_ALG with
  | 0 =>
    let w := s.rd p CV_CFG_WIDTHM1 + 1
    some ⟨w, s.rd64 p CV_POLY_LO_POLY CV_POLY_HI_POLY % 2 ^ w, s.rd64 p CV_INIT_LO_INIT CV_INIT_HI_INIT % 2 ^ w,
      s.flag p CV_CFG_REFIN, s.flag p CV_CFG_REFOUT, s.rd64 p CV_XOR_LO_XOR CV_XOR_HI_XOR % 2 ^ w⟩
  | 1 => some ⟨15, 0x2F15, 0x7FFF, false, false, 0⟩
  | 2 => some ⟨17, 0x1B5D3, 0x1FFFF, false, false, 0⟩
  | 3 => some ⟨32, 0x1EDC6F41, 0xFFFFFFFF, true, true, 0xFFFFFFFF⟩
  | 4 => some ⟨32, 0x04C11DB7, 0xFFFFFFFF, true, true, 0xFFFFFFFF⟩
  | 5 => some ⟨64, 0x42F0E1EBA9EA3693, 0xFFFFFFFFFFFFFFFF, true, true, 0xFFFFFFFFFFFFFFFF⟩
  | _ => none

/-- One bit enters the register. -/
def Alg.bitIn (g : Alg) (reg : Nat) (b : Bool) : Nat :=
  let r := reg * 2 % 2 ^ g.w
  if reg.testBit (g.w - 1) != b then r ^^^ g.poly else r

/-- The first `n` bits of a byte enter the register. -/
def Alg.byteIn (g : Alg) (n reg : Nat) (x : Byte) : Nat :=
  (List.range n).foldl (fun r k => g.bitIn r (if g.refin then x.toNat.testBit k else x.toNat.testBit (7 - k))) reg

/-- The register after the bytes; `tail`, when not 0, is how many bits of the last byte count. -/
def Alg.run (g : Alg) (tail : Nat) : Nat → List Byte → Nat
  | reg, [] => reg
  | reg, [x] => g.byteIn (if tail = 0 then 8 else tail) reg x
  | reg, x :: y :: t => g.run tail (g.byteIn 8 reg x) (y :: t)

/-- The `w` low bits of `v` in reverse order. -/
def reflect (v w : Nat) : Nat := (List.range w).foldl (fun a i => if v.testBit i then a + 2 ^ (w - 1 - i) else a) 0

/-- CV_RESULT from the register. -/
def Alg.result (g : Alg) (reg : Nat) : Nat := (if g.refout then reflect reg g.w else reg) ^^^ g.xorout

/-! ### Scans (R471-R474) -/

/-- A scan runs on unit `u`. -/
def State.scanning (s : State) (u : Nat) : Bool := s.flag (cvPg u) PAGE_STAT_BUSY

/-- The partner port of a running PARTNER scan. -/
def State.scanPp (s : State) (u : Nat) : Option Nat :=
  if s.scanning u && s.flag (cvPg u) CV_CFG_SRC then some (s.rd (cvPg u) CV_CFG_PP) else none

/-- A scan ends after the bytes `data` (R469, R471, R474): the registers are written before the result. -/
def State.scanEnd (s : State) (u : Nat) (g : Alg) (data : List Byte) (us status : Nat) : State :=
  let p := cvPg u
  let all := data.length == s.rd p CV_LEN_BYTES
  let reg0 := if s.flag p CV_CFG_CONT then s.rd64 p CV_RAW_LO_REG CV_RAW_HI_REG % 2 ^ g.w else g.init
  let reg := g.run (if all then s.rd p CV_CFG_TAIL else 0) reg0 data
  let res := g.result reg
  let s1 := ((s.wr p CV_DONE_BYTES data.length).wr64 p CV_RAW_LO_REG CV_RAW_HI_REG reg).wr64 p CV_RESULT_LO_VALUE
    CV_RESULT_HI_VALUE res
  let s2 := (s1.wr p CV_TIME_MICROS (min us (2 ^ 32 - 1))).bump p CV_SCANS_COUNT
  let s3 := { s2 with scanFail := mapDel s2.scanFail u }
  let st := if status = stOk && s.flag p CV_CFG_CMP &&
      res != s.rd64 p CV_EXPECT_LO_VALUE CV_EXPECT_HI_VALUE % 2 ^ g.w then 0x80 else status
  (if st = 0x80 then s3.irq p 4 else s3).cmdEnd p st 0

/-- START, accepted (R467, R472, R473). -/
def State.scanStart (s : State) (u : Nat) : State :=
  let p := cvPg u
  let a := s.rd64 p CV_ADDR_LO_ADDR CV_ADDR_HI_ADDR
  let n := s.rd p CV_LEN_BYTES
  let partner := s.flag p CV_CFG_SRC
  match s.cvAlg u with
  | none => (s.bump p CV_SCANS_COUNT).cmdEnd p stBadArg 0
  | some g =>
    if n = 0 || (!partner && decide (0x4000000 < a + n)) then (s.bump p CV_SCANS_COUNT).cmdEnd p stBadArg 0
    else if partner then
      let pp := s.rd p CV_CFG_PP
      if s.serves pp then s.emitReads pp a n else s.scanEnd u g [] 0 stFault
    else s

/-- The scan's reads have failed, or its time is over, or it met an uncorrectable word, or it has read everything, in the
order of R474: `data` are the bytes it processed, `finds` what SECDED found in the store. `late`: the limit of CV_LIMIT has passed
with the words up to there read. -/
def State.scanOver (s : State) (u : Nat) (data : List Byte) (finds : List (Nat × Find)) (us : Nat) (late : Bool) : State :=
  let p := cvPg u
  let a := s.rd64 p CV_ADDR_LO_ADDR CV_ADDR_HI_ADDR
  let n := s.rd p CV_LEN_BYTES
  match s.cvAlg u with
  | none => s
  | some g =>
    if s.down || !s.scanning u || decide (n < data.length) || (late && s.rd p CV_LIMIT_MS == 0) then s
    else
      let store := !s.flag p CV_CFG_SRC
      let read := if late then data.length else n
      let bad := ((finds.filter fun f => f.2 == .uncorrectable).map (·.1) ++ s.ueWords ++ s.poison).filter fun w =>
        decide (0 < read) && decide (eccWord a ≤ w) && decide (w < a + read)
      match (if store then bad.foldl (fun (x : Option Nat) w => some (min w (x.getD w))) none else none) with
      | some w =>
        let s1 := (s.found a (w + 32 - a) finds).err p 1
        ((s1.wr64 p CV_ERR_ADDR_LO_ADDR CV_ERR_ADDR_HI_ADDR w)).scanEnd u g (data.take (w - a)) us 0x81
      | none =>
        let s1 := if store then s.found a read finds else s
        match mapGet? s.scanFail u with
        | some f => ((s1.wr64 p CV_ERR_ADDR_LO_ADDR CV_ERR_ADDR_HI_ADDR f).err p 0).scanEnd u g data us stFault
        | none =>
          if late then (s1.err p 2).scanEnd u g data us stTimeout
          else if data.length = n then s1.scanEnd u g data us stOk
          else s

/-- A read of a PARTNER scan fails (R474): the first one counts. -/
def State.scanFails (s : State) (u addr : Nat) : State :=
  if (mapGet? s.scanFail u).isSome then s else { s with scanFail := mapPut s.scanFail u addr }

/-- The link of PPn is lost or its function reset: its scans have reads that fail (R474), at an address that no rule tells. -/
def State.scansLose (s : State) (n : Nat) : State :=
  s.each (List.range 16) fun s u =>
    if s.scanPp u = some n then
      let (lo, s1) := s.drawOpen 32
      let (hi, s2) := s1.drawOpen 32
      s2.scanFails u (lo + hi * 2 ^ 32)
    else s

/-- Every scan ends before its time: with ABORTED at the entry to UPDATE or DORMANT (R473, R474), with FAULT at a restart of
the management cores (R376). How far it had come is a free value. -/
def State.endScans (s : State) (status : Nat) : State :=
  s.each (List.range 16) fun s u =>
    let p := cvPg u
    if !s.scanning u then s
    else
      let (k, s1) := s.drawOpen 32
      let (r0, s2) := s1.drawOpen 32
      let (r1, s3) := s2.drawOpen 32
      let (t, s4) := s3.drawOpen 32
      let w := (s.cvAlg u).elim 64 Alg.w
      let reg := (r0 + r1 * 2 ^ 32) % 2 ^ w
      let s5 := ((s4.wr p CV_DONE_BYTES (k % (s.rd p CV_LEN_BYTES + 1))).wr64 p CV_RAW_LO_REG CV_RAW_HI_REG reg).wr64
        p CV_RESULT_LO_VALUE CV_RESULT_HI_VALUE ((s.cvAlg u).elim 0 fun g => g.result reg)
      (({ s5 with scanFail := mapDel s5.scanFail u }.wr p CV_TIME_MICROS t).bump p CV_SCANS_COUNT).cmdEnd p status 0

def State.abortScans (s : State) : State := s.endScans stAborted

end Sys2Proof.Machine
end

