-- ==== Sys2Proof/Machine/Phy.lean ====
section
/-!
DEFINITION. The transceivers' shared operations (R189-R207): what a training window gathers and folds into the last table,
rung changes, the start of a tail, and calibration steps.
-/
set_option Elab.async false

namespace Sys2Proof.Machine

/-- The mode of a port (R154). -/
def State.pmode (s : State) (n : Nat) : Nat := s.rd (portPg n) PORT_MODE_MODE

/-- Addition to a field of `w` bits that stays at its greatest value. -/
def satAdd (w a b : Nat) : Nat := min (a + b) (2 ^ w - 1)

/-- A two's complement field of `w` bits as a number, and back. -/
def signed (w v : Nat) : Int := if v.testBit (w - 1) then (v : Int) - 2 ^ w else v
def unsigned (w : Nat) (v : Int) : Nat := (v.emod (2 ^ w)).toNat

/-! ### Coefficient sets (R194) -/

/-- The coefficients of an entry: where each starts in the words LT_AFE, LT_FFE, LT_DFE, LT_THR, its width, and whether it
is signed (R194). -/
def coefFields : List (Nat × Nat × Nat × Bool) :=
  [(0, 0, 5, false), (0, 8, 6, false), (0, 16, 8, true),
   (1, 0, 8, true), (1, 8, 8, true), (1, 16, 8, true), (1, 24, 8, true),
   (2, 0, 8, true), (2, 8, 8, true), (2, 16, 8, true), (2, 24, 8, true),
   (3, 0, 10, true), (3, 10, 10, true), (3, 20, 10, true)]

/-- The coefficient set that four words hold. -/
def coefsOf (ws : List Nat) : List Int :=
  coefFields.map fun (i, lo, w, sg) => let v := bits (ws.getD i 0) lo w; if sg then signed w v else v

/-- The four words of a coefficient set. -/
def coefWords (cs : List Int) : List Nat :=
  (List.range 4).map fun i => (coefFields.zip cs).foldl (fun a x =>
    if x.1.1 = i then a + unsigned x.1.2.2.1 x.2 * 2 ^ x.1.2.1 else a) 0

/-- The words of a contribution. -/
def Contribution.words (c : Contribution) : List Nat :=
  [c.ctle + c.vga * 2 ^ 8 + c.phase * 2 ^ 16, c.ffe, c.dfe, c.thr]

/-- The mean of some coefficient sets; its rounding is open (R198). -/
def State.meanCoefs (s : State) (cs : List (List Int)) : List Int × State :=
  (List.range coefFields.length).foldl (fun (acc, s) i =>
    let (v, s1) := s.divOpen (cs.foldl (fun a c => a + c.getD i 0) 0) cs.length
    (acc ++ [v], s1)) ([], s)

/-- An entry moves by a quarter of its distance from the mean; the rounding is open (R198). -/
def State.blendCoefs (s : State) (old new : List Int) : List Int × State :=
  (old.zip new).foldl (fun (acc, s) x =>
    let (v, s1) := s.divOpen (x.2 - x.1) 4
    (acc ++ [x.1 + v], s1)) ([], s)

/-- The margin of the mean of a window's sets: that of the one set there is, else a free value (R198). -/
def State.meanMargin (s : State) (cs : List Contribution) : Nat × State :=
  match cs with
  | [c] => (c.eyeH + c.eyeW * 2 ^ 8 + c.snr * 2 ^ 16, s)
  | _ => (wordOf ((List.range 3).map fun i => Config.freeByte s.freeCtr i) 0, { s with freeCtr := s.freeCtr + 1 })

/-! ### Folds (R196-R198) -/

/-- Fold a window into the entry with index `i` (64 RUNG + sender) of port `n`. -/
def State.foldEntry (s : State) (n i : Nat) : State :=
  let x := s.port n
  let a := lastEntry n (i % 64) (i / 64)
  let cs := x.contribs.filter fun c => c.entry == i
  let k := cs.length
  let errs := (x.tailErrs.filter (· == i)).length
  let s1 :=
    if k != 0 && !s.ltLocked a && !x.writtenInWindow.contains i then
      let (m, s1) := s.meanCoefs (cs.map fun c => coefsOf c.words)
      let valid := s1.ltValid a
      let (v, s2) := if valid then s1.blendCoefs (coefsOf ((List.range 4).map fun j => s1.mw (a + 4 + 4 * j))) m else (m, s1)
      let (mg, s3) := s2.meanMargin cs
      let ctl := s3.mw a
      let ctl1 := 1 + bits ctl 1 1 * 2 + (if valid then 2 else 1) * 4 + satAdd 8 (bits ctl 8 8) 1 * 2 ^ 8 + ctl / 2 ^ 16 * 2 ^ 16
      let s4 := s3.mputs a ((ctl1 :: (coefWords v ++ [mg])).flatMap bytesOf)
      if valid then s4 else s4.irq (phyPg n) 4
    else s
  if k != 0 || errs != 0 then
    let cnt := s1.mw (a + 0x1C)
    (s1.mputw (a + 0x18) s1.rt.frame).mputw (a + 0x1C)
      (satAdd 16 (cnt % 2 ^ 16) k + satAdd 16 (cnt / 2 ^ 16) errs * 2 ^ 16)
  else s1

/-- Entries with a contribution or a tail error in the window. -/
def PortState.touched (x : PortState) : List Nat := (x.contribs.map (·.entry) ++ x.tailErrs).eraseDups

/-- The port folds its contributions into its last table (R198). -/
def State.fold (s : State) (n : Nat) : State :=
  let es := (s.port n).touched
  let s1 := s.each es fun s i => s.foldEntry n i
  let s2 := if es.isEmpty then s1 else s1.adv (phyPg n) PHY_REFINE_FOLDS
  s2.modPort n fun x => { x with contribs := [], tailErrs := [] }

/-- CEIL and RX_EN take new values (R199). -/
def State.applyRung (s : State) (n ceil rx : Nat) : State :=
  (s.wr (phyPg n) PHY_RUNG_CEIL ceil).wr (phyPg n) PHY_RUNG_RX_EN rx

/-- A rung change that waited is applied after the fold, and SET_RUNG ends with OK (R199). -/
def State.endRungWait (s : State) (n : Nat) : State :=
  match (s.port n).rungWait with
  | none => s
  | some (ceil, rx) => s.byCores fun s =>
    (((s.modPort n fun x => { x with rungWait := none }).applyRung n ceil rx).wr (phyPg n) PHY_RUNG_PENDING 0).cmdEnd
      (phyPg n) stOk (ceil + rx * 16)

/-- The port takes part in the running window (R196). -/
def State.takesPart (s : State) (n : Nat) : Bool :=
  s.flag (phyPg n) PHY_REFINE_EN && (s.mode == .run || s.mode == .degraded) && !s.fencedCl (n / 16) &&
    (s.pmode n == 2 || s.pmode n == 3 || (s.pmode n == 4 && s.rd (portPg n) PORT_LISTEN_RESULT == 2))

/-- The running window of a port ends: the fold, then a waiting rung change; the next window begins (R197-R199). What was
written in it is forgotten, whether the port took part or not (R195). FRAME at the fold is that of the time base once the
event that ends the window has set it (DESIGN CHOICE, log 62). -/
def State.windowEnd (s : State) (n : Nat) : State :=
  let s1 := if (s.port n).window then (s.fold n).endRungWait n else s
  if (s1.port n).writtenInWindow.isEmpty then s1 else s1.modPort n fun x => { x with writtenInWindow := [] }

/-- The windows of all ports end at one moment of the time base (R197). -/
def State.windowsEnd (s : State) : State := s.each (List.range 128) State.windowEnd

/-- A port begins to take part, or stops, whereupon its window ends early with a fold (R196, R199). -/
def State.windowSync (s : State) (n : Nat) : State :=
  let was := (s.port n).window
  let now := s.takesPart n
  let s1 := if was && !now then s.fold n else s
  let s2 := if was != now then (s1.modPort n fun x => { x with window := now }).wrB (phyPg n) PHY_REFINE_RUNNING now else s1
  if was && !now then s2.endRungWait n else s2

/-- The cluster of the port is fenced: its window ends without a fold (R196). -/
def State.windowDrop (s : State) (n : Nat) : State :=
  (s.modPort n fun x => { x with window := false, contribs := [], tailErrs := [] }).wr
    (phyPg n) PHY_REFINE_RUNNING 0

/-! ### Tails (R193) -/

/-- The head of a COMET frame finds no valid entry of its sender for a rung that the port receives: its tail starts cold
(R193). -/
def State.startsCold (s : State) (n : Nat) (h : Head) : Bool :=
  h.kind == .comet && (s.rd (phyPg n) PHY_RUNG_RX_EN).testBit h.rung.val &&
    !s.ltValid (lastEntry n h.snd.toNat h.rung.val)

/-- The tail of the current frame has begun: a cold start is counted, once (R193). TRN symbol 0 has no row, so this is told by
the first row that lies behind it (log 63). -/
def State.countCold (s : State) (n : Nat) : State :=
  match (s.port n).cur with
  | some f =>
    if f.cold then
      ((s.modPort n fun x => { x with cur := some { f with cold := false } }).bump (phyPg n) PHY_CNT_COLD_COUNT).tallyPort n 0x3A
    else s
  | none => s

/-- A frame ends in error before its tail was seen to end: whether the tail had begun is open (R193, log 63). -/
def State.coldCut (s : State) (n : Nat) : State :=
  if (match (s.port n).cur with | some f => f.cold && !f.tailOver | none => false) then
    let (b, s1) := s.drawOpen 1
    if b = 1 then s1.countCold n else s1
  else s

/-- An error-free tail contributes to the window; a tail in error is counted in it (R193, R198). -/
def State.contribute (s : State) (n : Nat) (h : Head) (ok : Bool) (c : Option TailCoef) : State :=
  if !(s.port n).window then s
  else
    let i := h.rung.val * 64 + h.snd.toNat
    if !ok then s.modPort n fun x => { x with tailErrs := x.tailErrs ++ [i] }
    else match c with
      | none => s
      | some c => s.modPort n fun x => { x with contribs := x.contribs ++ [
          { entry := i, ctle := c.ctle.val, vga := c.vga.val, phase := c.phase.val, ffe := c.ffe.toNat, dfe := c.dfe.toNat
            thr := c.thr.toNat, eyeH := c.eyeH.toNat, eyeW := c.eyeW.toNat, snr := c.snr.toNat }] }

/-! ### Calibration (R200, R201) -/

/-- The trim code, and LIMIT with it (R205). -/
def State.setTrim (s : State) (n code : Nat) : State :=
  let p := phyPg n
  let lim := code == 0 || code == 100
  let s1 := (((s.wr p PHY_TERM_CODE code).wrB p PHY_TERM_LIMIT lim).wr p PHY_TERM_TRIMMED 1).wr p PHY_CAL_TEMP
    (s.rd crpPg CRP_THERM_TJ)
  if lim then (s1.err p 1).irq p 8 else s1

/-- Periodic calibration runs on the port (R23, R200). -/
def State.calibrates (s : State) (n : Nat) : Bool :=
  !s.down && !s.stalled && !s.fencedCl (n / 16) &&
  match s.mode with
  | .configure | .run | .degraded | .safe => true
  | _ => false

/-- A periodic calibration step: counted, or failed with the previous values kept (R201). -/
def State.calStep (s : State) (n : Nat) (ok : Bool) : State :=
  if !s.calibrates n then s
  else if ok then s.adv (phyPg n) PHY_CAL_PERIODIC else s.err (phyPg n) 0

/-- One step of the termination trim (R200, R201). -/
def State.trimStep (s : State) (n : Nat) (up ok : Bool) : State :=
  if !s.calibrates n then s
  else if !ok then s.err (phyPg n) 0
  else
    let c := s.rd (phyPg n) PHY_TERM_CODE
    (s.setTrim n (if up then min (c + 1) 100 else c - 1)).adv (phyPg n) PHY_CAL_PERIODIC

/-! ### Commands of the PHY page (R199, R202, R206) -/

/-- SET_RUNG may be written now. -/
def State.rungOk (s : State) (n : Nat) : Bool :=
  !s.fencedCl (n / 16) &&
  match s.mode with
  | .configure | .run | .degraded | .test => true
  | _ => false

/-- SET_RUNG, by command or by the ephemeris, once BUSY is set (R199). -/
def State.setRung (s : State) (n ceil rx : Nat) : State :=
  if s.flag (phyPg n) PHY_REFINE_RUNNING then
    (s.modPort n fun x => { x with rungWait := some (ceil, rx) }).wr (phyPg n) PHY_RUNG_PENDING 1
  else (s.applyRung n ceil rx).cmdEnd (phyPg n) stOk (ceil + rx * 16)

/-- TRAINING_WINDOW_END (R196, R197): a window of 40 ms of core time ends. While the time base is not FREE, windows end with
its own steps (`State.windowsEnd`), and the row tells nothing more. -/
def State.windowTimeout (s : State) (n : Nat) : State := if s.rt.tb = .free then s.windowEnd n else s

/-- LT_CLEAR (R195, R206). -/
def State.ltClear (s : State) (n : Nat) : State :=
  let a := s.arg0 (phyPg n)
  let es := (List.range 256).filter fun i =>
    (a.testBit 8 || i % 64 == bits a 0 6) && (bits a 12 4).testBit (i / 64)
  let s1 := s.each es fun s i =>
    let e := lastEntry n (i % 64) (i / 64)
    let ctl := s.mw e
    s.mputw e (bits ctl 1 1 * 2 + ctl / 2 ^ 16 * 2 ^ 16)
  (s1.modPort n fun x => { x with writtenInWindow := x.writtenInWindow ++ es }).cmdEnd
    (phyPg n) stOk es.length

/-- EYE_SCAN is permitted now: TEST, and a port mode that suits its source (R202). -/
def State.eyeOk (s : State) (n : Nat) : Bool :=
  let m := s.pmode n
  s.mode == .test &&
  match bits (s.arg0 (phyPg n)) 4 2 with
  | 0 => m == 5 || m == 6
  | 1 => m == 6 || (m == 4 && s.rd (portPg n) PORT_LISTEN_RESULT == 2)
  | _ => true

/-- EYE_SCAN, accepted (R202). POINTS counts up while the scan runs (`State.phyView`). -/
def State.eyeStart (s : State) (n : Nat) : State :=
  let a := s.arg0 (phyPg n)
  let area := s.arg1 (phyPg n)
  if bits a 2 2 = 3 || decide (1 < bits a 4 2) || area % 64 != 0 || area / 0x800000 != n / 16 ||
      (area + 16255) / 0x800000 != n / 16 then s.cmdEnd (phyPg n) stBadArg 0
  else
    (s.wr (phyPg n) PHY_EYE_PROG_POINTS 0).modPort n fun x =>
      { x with eye := some (area, bits a 4 2 == 1, bits a 0 2, bits a 16 6, bits a 8 4) }

/-- A running EYE_SCAN ends with a status; `counts` are the two-byte counts of the points done (R202, R203). -/
def State.eyeEnd (s : State) (n : Nat) (counts : List Byte) (status : Nat) : State :=
  match (s.port n).eye with
  | none => s
  | some (area, _, _, _, _) =>
    let cs := counts.take 16256
    ((((s.modPort n fun x => { x with eye := none }).mputs area cs).wr (phyPg n) PHY_EYE_PROG_POINTS (cs.length / 2)).cmdEnd
      (phyPg n) status 0)

/-- EYE_SCAN_DONE (R203): every one of the 8,128 points has been visited. EYE_SCAN_TIMEOUT (R202): a TAILS scan has run for
10 s. -/
def State.eyeDone (s : State) (n : Nat) (counts : List Byte) : State :=
  if counts.length = 16256 && !s.stalled then s.eyeEnd n counts stOk else s
def State.eyeLate (s : State) (n : Nat) (counts : List Byte) : State :=
  match (s.port n).eye with
  | some (_, true, _, _, _) => if counts.length < 16256 && !s.stalled then s.eyeEnd n counts stTimeout else s
  | _ => s

/-- A running EYE_SCAN ends before its time (R25, R202): how many points it had done, and so what the rows it had reached hold,
no rule tells; the rows it had not reached keep their contents (R203). -/
def State.eyeAbort (s : State) (n status : Nat) : State :=
  match (s.port n).eye with
  | none => s
  | some (area, _, _, _, _) =>
    let (k, s1) := s.drawOpen 13
    let done := k % 8129
    (((s1.forget area (128 * ((done + 63) / 64))).modPort n fun x => { x with eye := none }).wr (phyPg n) PHY_EYE_PROG_POINTS
      done).cmdEnd (phyPg n) status 0

end Sys2Proof.Machine
end

