-- ==== Sys2Proof/Machine/PortOps.lean ====
section
/-!
DEFINITION. Operations on a bus port that several steps share: error state and counters (R148-R153, R169), bit timing
(R106-R108), entry to a port mode (R154-R159, R166), and the stop of a port (R162, R165, R377).
-/
set_option Elab.async false

namespace Sys2Proof.Machine

/-! ### Port modes and states (R154, R169) -/

def pmOff : Nat := 0
def pmConfig : Nat := 1
def pmNormal : Nat := 2
def pmRestricted : Nat := 3
def pmListen : Nat := 4
def pmLoopInt : Nat := 5
def pmLoopExt : Nat := 6
def pmSleep : Nat := 7

def esNone : Nat := 0
def esIntegrating : Nat := 1
def esActive : Nat := 2
def esPassive : Nat := 3
def esBusOff : Nat := 4
def esRecovering : Nat := 5
def esReceiving : Nat := 6
def esDetecting : Nat := 7

/-- A port mode in which the port offers objects (R154). -/
def offersMode (m : Nat) : Bool := m == 2 || m == 5 || m == 6

/-- A port mode that takes part in the bus (R161). -/
def busMode (m : Nat) : Bool := decide (2 ≤ m) && decide (m ≤ 6)

/-- State of the port's error confinement (R169). -/
def State.estate (s : State) (n : Nat) : Nat := s.rd (portPg n) PORT_ESTATE_STATE

/-- Sequences of eleven recessive bits that end a recovery (R152). -/
def State.recoverySeq (s : State) (n : Nat) : Nat := if s.flag (portPg n) PORT_ERRCFG_QUICK then 32 else 128

/-- Change STATE; a change sets ESTATE (R171). A recovery that ends has counted a number of sequences that no row told: free,
below its end (R168, log 64); the row that completes it writes the full count afterwards. -/
def State.setEstate (s : State) (n st : Nat) : State :=
  if s.estate n = st then s
  else
    let s1 := if s.estate n = esRecovering then
        let (k, s1) := s.drawOpen 7
        s1.wr (portPg n) PORT_RECOV_SEQ (k % s.recoverySeq n)
      else s
    (s1.wr (portPg n) PORT_ESTATE_STATE st).irq (portPg n) 4

/-- Change the counters; WARN follows, and a change of it sets ESTATE (R150, R168, R171). -/
def State.setCounters (s : State) (n tec rec_ : Nat) : State :=
  let p := portPg n
  let warn := decide (96 ≤ tec) || decide (96 ≤ rec_)
  let was := s.flag p PORT_ESTATE_WARN
  let s1 := ((s.wr p PORT_ECNT_TEC tec).wr p PORT_ECNT_REC rec_).wrB p PORT_ESTATE_WARN warn
  if was != warn then s1.irq p 4 else s1

/-- A SYNC frame is lost (R331). -/
def State.syncLost (s : State) (n : Nat) : State :=
  (s.bump (ephPg (n / 16)) EPH_SYNC_LOST_COUNT).tallyCl (n / 16) 0x34

/-! ### Bit timing (R106-R108) -/

/-- N_q of PORT_ABT (R108). -/
def State.abtNq (s : State) (n : Nat) : Nat :=
  let p := portPg n
  (s.rd p PORT_ABT_PRESC + 1) * (1 + (s.rd p PORT_ABT_PH1 + 1) + (s.rd p PORT_ABT_PH2 + 1))

/-- N_q of PORT_ABT is in range (R108). -/
def State.abtOk (s : State) (n : Nat) : Bool := decide (40 ≤ s.abtNq n) && decide (s.abtNq n ≤ 1280)

/-- The port loads PORT_ABT: SJW clamped, N_q shown (R108). -/
def State.loadAbt (s : State) (n : Nat) : State :=
  let p := portPg n
  let ph1 := s.rd p PORT_ABT_PH1
  let ph2 := s.rd p PORT_ABT_PH2
  let sjw := min (s.rd p PORT_ABT_SJW) (min ph1 ph2)
  (s.wr p PORT_ABT_ACT_VALUE (s.rd p PORT_ABT_PRESC + ph1 * 2 ^ 8 + ph2 * 2 ^ 16 + sjw * 2 ^ 24)).wr p PORT_BITLEN_NQ
    (s.abtNq n)

/-- The recommended timing of the standard rates (R76): N_q and PORT_ABT value. -/
def stdRates : List (Nat × Nat) :=
  [(1280, 0x1F1F7E07), (640, 0x1F1F7E03), (320, 0x1F1F7E01), (160, 0x1F1F7E00), (80, 0x0F0F3E00), (40, 0x07071E00)]

/-! ### Entry to port modes -/

/-- An eye scan whose port mode or device mode no longer permits it ends ABORTED (R25, R202). -/
def State.eyeSync (s : State) (n : Nat) : State :=
  match (s.port n).eye with
  | none => s
  | some (_, tails, _, _, _) =>
    let m := s.pmode n
    if s.mode == .test && (m == 6 || (!tails && m == 5) || (tails && m == 4)) then s else s.eyeAbort n stAborted

/-- MODE changes, and PREV when it is another (R168), and with them the port's part in the training window (R196) and a running eye scan. DONE
of PHY_CAL is 0 in OFF (R205). -/
def State.setMode (s : State) (n m : Nat) : State :=
  let p := portPg n
  let s1 := ((if s.pmode n = m then s else s.wr p PORT_MODE_PREV (s.pmode n)).wr p PORT_MODE_MODE m).windowSync n
    |>.eyeSync n
  if m = 0 then s1.wr (phyPg n) PHY_CAL_DONE 0 else s1

/-- The wake registers as SLEEP copies them (R159): EDGE, ID, XID, MASK, XMASK, two patterns, two masks; AFTER last. -/
def State.wakeRegs (s : State) (n : Nat) : List Nat :=
  let p := portPg n
  [s.rd p PORT_WAKE_CFG_EDGE, s.rd p PORT_WAKE_ID_ID, s.rd p PORT_WAKE_ID_XID, s.rd p PORT_WAKE_IDMASK_MASK,
   s.rd p PORT_WAKE_IDMASK_XMASK, s.rd p PORT_WAKE_DATA0_PATTERN, s.rd p PORT_WAKE_DATA1_PATTERN,
   s.rd p PORT_WAKE_DMASK0_MASK, s.rd p PORT_WAKE_DMASK1_MASK, s.rd p PORT_WAKE_CFG_AFTER]

/-- Leaving a mode that offers no objects, for mode `m`, discards a SYNC frame in the slot (R331). -/
def State.dropSlot (s : State) (n m : Nat) : State :=
  if !offersMode (s.pmode n) && s.pmode n != m then
    let x := s.port n
    let s1 := s.modPort n fun x => { x with sync := none, syncNext := none }
    let s2 := if x.sync.isSome then s1.syncLost n else s1
    if x.syncNext.isSome then s2.syncLost n else s2
  else s

/-- The port enters mode `m` (R156, R157, R159, R166). In LISTEN no rule gives PORT_LISTEN.RATE before a first rate is tried: a
free value of those that may be returned (R169, log 65). -/
def State.enterMode (s : State) (n m : Nat) : State :=
  let p := portPg n
  let s0 := if m = 4 then (s.dropSlot n m).wr p PORT_LISTEN_RESULT 1 else s.dropSlot n m
  let s1 := ((s0.setMode n m).wr p PORT_ESTATE_ALONE 0).wr p PORT_ESTATE_ACKRUN 0
    |>.modPort n fun x => { x with reint := false, aloneAt := none, lostInSnd := none, prevGood := none }
  if m = 2 || m = 3 || m = 5 || m = 6 then ((s1.loadAbt n).setCounters n 0 0).setEstate n esIntegrating
  else if m = 4 then
    let s2 := s1.modPort n fun x => { x with listenHeads := 0, listenRate := false }
    let (k, s3) := s2.drawOpen 3
    (((s3.setCounters n 0 0).wr p PORT_LISTEN_RESTARTS 0).wr p PORT_LISTEN_RATE (k % 6)).setEstate n esDetecting
  else if m = 7 then
    -- PORT_ABT is loaded when SLEEP is entered from OFF or CONFIG (R108)
    let s2 := (if s.pmode n < 2 then s1.loadAbt n else s1).modPort n fun x => { x with sleepCopy := s.wakeRegs n }
    ((s2.setCounters n 0 0).wr p PORT_WAKE_SEEN_VALID 0).setEstate n esNone
  else (s1.setCounters n 0 0).setEstate n esNone

/-! ### Stopping a port -/

/-- The SYNC frame that was won has ended otherwise than without error: it is pending again, or the frame that waits takes
its place and it counts as lost (R331). -/
def State.syncBack (s : State) (n : Nat) : State :=
  let x := s.port n
  match x.sync, x.syncNext with
  | some y, none => s.modPort n fun x => { x with sync := some { y with won := false } }
  | some y, some z =>
    if y.won then (s.modPort n fun x => { x with sync := some z, syncNext := none }).syncLost n else s
  | none, _ => s

/-- The SYNC frame that was won has ended without error: it is counted, and the frame that waits takes the slot (R331). -/
def State.syncSent (s : State) (n : Nat) : State :=
  let c := n / 16
  let s1 := (s.bump (ephPg c) EPH_SYNC_SENT_COUNT).tallyCl c 0x30
  s1.modPort n fun x => { x with sync := x.syncNext, syncNext := none }

/-- What the port offers or has won goes back to pending (R151, R162, R377). -/
def State.returnCand (s : State) (n : Nat) (c : Option Cand) : State :=
  match c with
  | some (.job uid) => s.backToPending uid n
  | some .sync => s.syncBack n
  | none => s

/-- Frames in progress on the port end for it: claims not committed are undone, won frames are pending again (R162, R218,
R377). -/
def State.dropFrames (s : State) (n : Nat) : State :=
  let x := s.port n
  let drop (s : State) (f : Option BusFrame) : State :=
    match f with
    | none => s
    | some f => (if f.committed then s else s.undoClaim n f.claim).returnCand n f.own
  let s1 := drop (drop ((s.coldCut n).returnCand n x.cand) x.cur) x.nxt
  s1.modPort n fun x => { x with cand := none, candNext := false, cur := none, nxt := none }

/-- A mode change in progress ends with another status: the page of the port leaves BUSY (R25, R161). -/
def State.endMove (s : State) (n status : Nat) : State :=
  match (s.port n).move with
  | none => s
  | some mv =>
    let s1 := (s.modPort n fun x => { x with move := none }).wr (portPg n) PORT_MODE_MOVING 0
    let cmd := match mv with
      | .drain _ c => c
      | .direct c => c
      | .calibrate _ c => c
      | .hold _ c => c
    if cmd then s1.cmdEnd (portPg n) status (s1.pmode n) else s1

/-- TX_CANCEL and TX_FLUSH end ABORTED when their page is locked (R388). -/
def State.abortCancel (s : State) (n : Nat) : State :=
  match (s.port n).cancel with
  | none => s
  | some _ =>
    (s.modPort n fun x => { x with cancel := none }).cmdStop (portPg n) stAborted

/-- Another long operation of the PORT page ends: a FLT_COMMIT that the stalled cores have left running (R22, R376, R388). -/
def State.endPortOp (s : State) (n status : Nat) : State :=
  if s.flag (portPg n) PAGE_STAT_BUSY then s.cmdStop (portPg n) status else s

/-- The port stops driving at once and goes to mode `m`, OFF or CONFIG, with no drain (R165). -/
def State.stopPort (s : State) (n m : Nat) : State :=
  let p := portPg n
  let s1 := ((s.dropFrames n).wr p PORT_ESTATE_ALONE 0).wr p PORT_ESTATE_ACKRUN 0
  let s2 := (s1.modPort n fun x => { x with aloneAt := none, reint := false }).dropSlot n m
  ((if s2.pmode n = m then s2 else s2.setMode n m).setCounters n 0 0).setEstate n esNone

/-- Steps 1 and 2 of a port reset (R377); a port in OFF, CONFIG or SLEEP is not affected. -/
def State.portReset (s : State) (n : Nat) : State :=
  let p := portPg n
  if !busMode (s.pmode n) then s
  else
    let s1 := (((s.dropFrames n).setCounters n 0 0).wr p PORT_ESTATE_ALONE 0).wr p PORT_ESTATE_LEC 0
    let s2 := ((s1.wr p PORT_ESTATE_ACKRUN 0).loadAbt n).modPort n fun x => { x with aloneAt := none, reint := false }
    { s2.setEstate n esNone with resets := s2.resets ++ [.port n] }

/-- Step 3 of a port reset (R377): the port enters the mode it was in, and integrates; a drain in progress goes on instead. -/
def State.portRestart (s : State) (n : Nat) : State :=
  match (s.port n).move with
  | some (.drain _ _) => s
  | _ => if busMode (s.pmode n) then s.enterMode n (s.pmode n) else s

end Sys2Proof.Machine
end

