-- ==== Sys2Proof/Machine/Raster.lean ====
section
/-!
DEFINITION. Raster time and what is scheduled against it: comparison of times (R319), ephemeris entries and their occurrences
(R321-R327), their actions (R328-R331), and the steps of the time base (R307-R318). Times inside a line are in 1/256 of a
6.25 ns quantum.
-/
set_option Elab.async false

namespace Sys2Proof.Machine

/-- A raster time: frame, line, subline (R7). -/
abbrev RTime := Nat × Nat × Nat

/-- `t` is before `u` (R319). -/
def RTime.before (t u : RTime) : Bool :=
  let d := (u.1 + 2 ^ 32 - t.1) % 2 ^ 32
  if d = 0 then decide (t.2.1 < u.2.1) || (t.2.1 == u.2.1 && decide (t.2.2 < u.2.2)) else decide (d < 2 ^ 31)

/-- The start of the current line. -/
def State.lineStart (s : State) : RTime := (s.rt.frame, s.rt.line, 0)

/-- Raster time when a command looks at it whose row gives no time: the line is the current one, and how far it has run is open,
though never back (R309, R310, log 68). SUBLINE and FINE go together: both follow from one elapsed time. -/
def State.lookAtTime (s : State) : State :=
  let t := s.rt.lineTime
  let (k, s1) := s.drawOpen 32
  let from_ := (s.rt.sub * t + 255) / 256 + 256 * s.rt.fine
  let e := if from_ < t then from_ + k % (t - from_) else from_
  { s1 with rt := { s1.rt with sub := max s.rt.sub (subline e t), fine := fineOf e t } }

/-- A row tells that raster time has come `e` into the current line. -/
def State.timeIs (s : State) (e : Nat) : State :=
  let t := s.rt.lineTime
  if s.rt.sub ≤ subline e t then { s with rt := { s.rt with sub := subline e t, fine := fineOf e t } } else s

/-- The raster time last looked at. -/
def State.seenTime (s : State) : RTime := (s.rt.frame, s.rt.line, s.rt.sub)

/-- Raster time `e` after the current line began. -/
def State.rtNow (s : State) (e : Nat) : RTime := (s.rt.frame, s.rt.line, subline e s.rt.lineTime)

/-- The time base runs (R320). -/
def State.tbRuns (s : State) : Bool := !s.down && s.mode != .loader

/-- RT_CFG.SRC: 0 NONE, 1 PINS, 2 LINK (R307). -/
def State.rtSrc (s : State) : Nat := s.rd (ephPg 0) RT_CFG_SRC

/-! ### Entries and occurrences (R323, R324) -/

/-- An entry is valid (R323). -/
def EphEntry.valid (x : EphEntry) : Bool :=
  decide (x.action < 8) && decide (x.rep < 2) && !(x.rep == 1 && x.period == 0) &&
  !((x.action == 2 || x.action == 3 || x.action == 4 || x.action == 7) && x.map == 0) &&
  !(x.action == 4 && !x.arg0.testBit 29 && decide (0x7FF < bits x.arg0 0 29)) &&
  !(x.action == 7 && (x.line != 0 || x.sub != 0))

/-- The first occurrence of a FRAMES entry that is not before `now` (R324). -/
def EphEntry.firstFrom (x : EphEntry) (now : RTime) : RTime :=
  let d := (now.1 + 2 ^ 32 - x.frame) % 2 ^ 32
  let at_ (f : Nat) : RTime := (f % 2 ^ 32, x.line, x.sub)
  if 2 ^ 31 ≤ d then at_ x.frame
  else
    let r := d % x.period
    if r = 0 then (if (at_ now.1).before now then at_ (now.1 + x.period) else at_ now.1)
    else at_ (now.1 + (x.period - r))

/-- The next occurrence of an armed entry is moved. -/
def State.setNext (s : State) (c i : Nat) (t : RTime) : State := { s with armed := mapPut s.armed (1024 * c + i) t }

/-- An entry is disarmed. -/
def State.disarmEntry (s : State) (c i : Nat) : State := { s with armed := mapDel s.armed (1024 * c + i) }

/-- The ephemeris of CLc runs (R325, R327). -/
def State.ephRuns (s : State) (c : Nat) : Bool :=
  (s.mode == .run || s.mode == .degraded) && !s.down && !s.fencedCl c && s.flag (ephPg c) EPH_CFG_EN

/-- The armed entries of a cluster, with their next occurrences. -/
def State.armedOf (s : State) (c : Nat) : List (Nat × RTime) :=
  (s.armed.filter fun e => e.1 / 1024 == c).map fun e => (e.1 % 1024, e.2)

/-- An entry fires before another: earlier occurrence, then lower index (R325). -/
def firesFirst (a b : Nat × RTime) : Bool := a.2.before b.2 || (a.2 == b.2 && decide (a.1 < b.1))

/-- Insert in firing order. -/
def insertFiring (a : Nat × RTime) : List (Nat × RTime) → List (Nat × RTime)
  | [] => [a]
  | b :: t => if firesFirst a b then a :: b :: t else b :: insertFiring a t

/-- In firing order. -/
def firingOrder (l : List (Nat × RTime)) : List (Nat × RTime) := l.foldr insertFiring []

/-! ### Actions (R322, R328-R331) -/

/-- The fixed candidate lapses or is withdrawn (R126, R329). -/
def State.lapse (s : State) (n : Nat) : State :=
  match (s.port n).cand with
  | none => s
  | some c => (s.modPort n fun x => { x with cand := none }).returnCand n (some c)

/-- The port's candidate, if it has one, is a control frame (R132). -/
def State.candControl (s : State) (n : Nat) : Bool :=
  match (s.port n).cand with
  | some (.job uid) => (match s.job? uid with
    | some j => s.isControl n j.kind j.id j.long
    | none => true)
  | some .sync => (match (s.port n).sync with
    | some y => s.isControl n .sync y.id y.long
    | none => true)
  | none => true

/-- A window has opened: a non-control candidate whose SOF has not begun is withdrawn (R134, R329). `begun`: whether it has;
where the row does not tell, it is open (log 69). -/
def State.windowOpened (s : State) (n : Nat) (begun : Option Bool) : State :=
  if s.candControl n || !s.eclipseOpen n then s
  else match begun with
    | some true => s
    | some false => s.lapse n
    | none =>
      let (b, s1) := s.drawOpen 1
      if b = 1 then s1 else s1.lapse n

/-- A SYNC frame is placed in a port's SYNC slot (R331). -/
def State.placeSync (s : State) (n : Nat) (y : SyncSlot) : State :=
  if !offersMode (s.pmode n) then s.syncLost n
  else
    let x := s.port n
    match x.sync with
    | none => s.modPort n fun x => { x with sync := some y }
    | some z =>
      if z.won then
        let s1 := s.modPort n fun x => { x with syncNext := some y }
        if x.syncNext.isSome then s1.syncLost n else s1
      else (s.modPort n fun x => { x with sync := some y }).syncLost n

/-- Start SET_RUNG on a port, as if its command had been written (R330). `joins`: the change joins the fold of the window that
has just ended. -/
def State.startRung (s : State) (n ceil rx : Nat) (joins : Bool) : State :=
  let s1 := s.cmdStart (phyPg n) 1
  if joins then (s1.applyRung n ceil rx).cmdEnd (phyPg n) stOk (ceil + rx * 16) else s1.setRung n ceil rx

/-- RUNG on one port: at once, or held for a BUSY PHY page (R330). -/
def State.rungAction (s : State) (c n ceil rx : Nat) (joins : Bool) : State :=
  if s.flag (phyPg n) PAGE_STAT_BUSY then
    (s.modPort n fun x => { x with heldRung := x.heldRung ++ [(ceil, rx)] }).bump (ephPg c) EPH_HELD_COUNT
  else s.startRung n ceil rx joins

/-- HELD_RUNG_START (R330). -/
def State.heldRungStart (s : State) (n : Nat) : State :=
  match (s.port n).heldRung with
  | (ceil, rx) :: t =>
    if s.down || s.fencedCl (n / 16) || s.flag (phyPg n) PAGE_STAT_BUSY then s
    else (s.modPort n fun x => { x with heldRung := t }).startRung n ceil rx false
  | [] => s

/-- The ports of an entry's MAP. -/
def EphEntry.ports (x : EphEntry) (c : Nat) : List Nat := (clusterPorts c).filter fun n => x.map.testBit (n % 16)

/-- The effect of an entry's action at raster time `now` (R322), for its occurrence `at_`; none when the entry fires late.
`begun`: ports whose candidate's SOF has begun, where the row tells. A RUNG occurrence at the start of an even frame joins the
fold of the window that has just ended (R330). -/
def State.act (s : State) (c : Nat) (x : EphEntry) (now : RTime) (at_ : Option RTime) (begun : Option (List Nat)) : State :=
  match x.action with
  | 1 => s.doorbell (16 * c + bits x.arg0 16 4) (bits x.arg0 0 13) 0 []
  | 2 => s.each (x.ports c) fun s n =>
      let was := s.eclipseOpen n
      let s1 := s.wr (portPg n) PORT_ECL_EPH_OPEN 1
      if was then s1 else s1.windowOpened n (begun.map fun l => l.contains n)
  | 3 => s.each (x.ports c) fun s n => s.wr (portPg n) PORT_ECL_EPH_OPEN 0
  | 4 =>
    let (t, s1) := s.fresh
    let a := x.arg1
    let ann := if x.ann then some ((now.1 + bits a 20 8) % 2 ^ 32, bits a 0 12, bits a 12 8, a.testBit 28) else none
    s1.each (x.ports c) fun s n => s.placeSync n
      { id := bits x.arg0 0 29, long := x.arg0.testBit 29, aud := x.aud, ann := ann, elig := t }
  | 5 => s.wantSnapshot
  | 6 => s.event (128 + 16 * c + bits x.arg0 0 4)
  | 7 =>
    let joins := s.rt.tb != Tb.free && (match at_ with
      | some t => t.2.1 == 0 && t.2.2 == 0 && t.1 % 2 == 0 && t.1 == now.1 && now.2.1 == 0
      | none => false)
    s.each (x.ports c) fun s n => s.rungAction c n (bits x.arg0 0 2) (bits x.arg0 4 4) joins
  | _ => s

/-- Entry `i` of CLc fires (R325): counted, shown, late (`at_` none) or for its occurrence, and its action taken. -/
def State.fire (s : State) (c i : Nat) (now : RTime) (at_ : Option RTime) (begun : Option (List Nat)) : State :=
  let late := at_.isNone
  let p := ephPg c
  let x := s.ephEntry c i
  let s1 := (((s.bump p EPH_FIRED_COUNT).tallyCl c 0x24).wr p EPH_LAST_INDEX i).wrB p EPH_LAST_LATE late
  let s2 := if late then ((s1.bump p EPH_LATE_COUNT).tallyCl c 0x28).irq p 4 else s1
  s2.act c x now at_ begun

/-- An entry's skipped occurrence is dropped (R324, R325). -/
def State.dropEntry (s : State) (c : Nat) : State :=
  ((s.bump (ephPg c) EPH_DROPPED_COUNT).tallyCl c 0x2C).irq (ephPg c) 8

/-- Sublines from `t` to `u` with `lines` lines to a frame. -/
def RTime.distance (lines : Nat) (t u : RTime) : Int :=
  let d : Nat := (u.1 + 2 ^ 32 - t.1) % 2 ^ 32
  let frames : Int := if d < 2 ^ 31 then (d : Int) else (d : Int) - 2 ^ 32
  (frames * (lines : Int) + (u.2.1 : Int) - (t.2.1 : Int)) * 256 + (u.2.2 : Int) - (t.2.2 : Int)

/-- An occurrence lies more than EPH_LATEMAX lines before the new time (R325). -/
def State.tooLate (s : State) (x : EphEntry) (t now : RTime) : Bool :=
  x.lateMax != 0 && decide ((256 * x.lateMax : Int) < t.distance s.rt.lines now)

/-- Handle one skipped occurrence at the new time (R325). -/
def State.skipped (s : State) (c : Nat) (now : RTime) (e : Nat × RTime) : State :=
  let x := s.ephEntry c e.1
  let s1 := if x.rep = 1 then s.setNext c e.1 (x.firstFrom now) else s.disarmEntry c e.1
  if x.miss || s.tooLate x e.2 now then s1.dropEntry c else s1.fire c e.1 now none none

/-- Handle, in a cluster whose ephemeris runs, the occurrences that `gone` says were skipped, in order. -/
def State.skipIn (s : State) (c : Nat) (now : RTime) (gone : RTime → Bool) : State :=
  s.each (firingOrder ((s.armedOf c).filter fun e => gone e.2)) fun s e => s.skipped c now e

/-- Raster time goes from `old` to `new`; occurrences after `old` and before `upto` are skipped (R325). -/
def State.pass (s : State) (old upto new : RTime) : State :=
  s.each (List.range 8) fun s c =>
    if s.ephRuns c then s.skipIn c new fun t => old.before t && t.before upto else s

/-- At a frame boundary, the occurrences of the frames before `new` whose line a smaller LINES took away are skipped (R325). -/
def State.passCut (s : State) (new : RTime) : State :=
  if s.rt.cut.isEmpty then s
  else s.each (List.range 8) fun s c =>
    if s.ephRuns c then
      s.each (firingOrder ((s.armedOf c).filter fun e => s.rt.cut.contains (1024 * c + e.1) && e.2.before new))
        fun s e => s.skipped c new e
    else s

/-- A backward step (R326). -/
def State.rewind (s : State) (now : RTime) : State :=
  { s with armed := s.armed.map fun e =>
      let x := s.ephEntry (e.1 / 1024) (e.1 % 1024)
      (e.1, if x.rep = 1 then x.firstFrom now else e.2) }

/-- The ephemerides of some clusters may run again: what time passed during the pause is skipped now (R327). -/
def State.ephResume (s : State) (cs : List Nat) : State :=
  if cs.any s.ephRuns then
    let s1 := s.lookAtTime
    s1.each cs fun s c => if s.ephRuns c then s.skipIn c s.seenTime fun t => t.before s.seenTime else s
  else s

/-- An invalid entry is written or armed (R323). -/
def State.badEntry (s : State) (c i : Nat) : State :=
  (((s.disarmEntry c i).wr (ephPg c) EPH_BAD_INDEX i).err (ephPg c) 0).irq (ephPg c) 16

/-- Arm an entry as it stands in the table, or disarm it when its ACTION is NONE (R323, R324). -/
def State.armEntry (s : State) (c i : Nat) : State :=
  let x := s.ephEntry c i
  let s := { s with rt := { s.rt with cut := s.rt.cut.filter (· != 1024 * c + i) } }
  if s.brokenIn (ephBase c + 32 * i) 32 then s.disarmEntry c i
  else if x.action = 0 then s.disarmEntry c i
  else if !x.valid then s.badEntry c i
  else
    let s := s.lookAtTime
    let now := s.seenTime
    if x.rep = 1 then s.setNext c i (x.firstFrom now)
    else
      let t : RTime := (x.frame, x.line, x.sub)
      let s1 := s.setNext c i t
      if s.ephRuns c && !now.before t then s1.skipped c now (i, t) else s1

/-- ARM (R340). -/
def State.armCmd (s : State) (c : Nat) : State :=
  let p := ephPg c
  let a := s.arg0 p
  let armedNow (s : State) (i : Nat) : Bool :=
    let x := s.ephEntry c i
    x.action != 0 && x.valid && !s.brokenIn (ephBase c + 32 * i) 32
  if a.testBit 31 then
    let is := (List.range 1024).filter fun i => (s.ephEntry c i).action != 0
    (s.each is fun s i => s.armEntry c i).cmdEnd p stOk (is.filter (armedNow s)).length
  else
    let i := bits a 0 10
    let x := s.ephEntry c i
    let s1 := s.armEntry c i
    if x.action != 0 && !armedNow s i then s1.cmdStop p stBadArg else s1.cmdEnd p stOk (if armedNow s i then 1 else 0)

/-- DISARM (R340). -/
def State.disarmCmd (s : State) (c : Nat) : State :=
  let p := ephPg c
  let a := s.arg0 p
  let is := ((s.armedOf c).map (·.1)).filter fun i => a.testBit 31 || i == bits a 0 10
  (s.each is fun s i => s.disarmEntry c i).cmdEnd p stOk is.length

/-- ENTRY_FIRE (R325): entry `i` of CLc is due and first in order; an uncorrectable word in it disarms it (R392). -/
def State.entryFire (s : State) (c i e : Nat) (find : Option Find) (begun : List Nat) : State :=
  let now := s.rtNow e
  match mapGet? s.armed (1024 * c + i) with
  | none => s
  | some t =>
    let s := s.timeIs e
    let first := (s.armedOf c).all fun x => x.1 == i || firesFirst (i, t) x
    if !s.ephRuns c || now.before t || !first then s
    else
      let a := ephBase c + 32 * i
      let s1 := match find with
        | some .corrected => s.corrected a
        | _ => s
      if s.brokenIn a 32 then s.disarmEntry c i
      else if find = some .uncorrectable then s.uncorrectable a false
      else
        let x := s1.ephEntry c i
        let s2 := if x.rep = 1 then s1.setNext c i ((t.1 + x.period) % 2 ^ 32, t.2.1, t.2.2) else s1.disarmEntry c i
        s2.fire c i now (some t) (some begun)

/-! ### The time base (R307-R318) -/

/-- Change the time base. -/
def State.modRt (s : State) (f : Raster → Raster) : State := { s with rt := f s.rt }

/-- A discontinuity (R316). -/
def State.disc (s : State) : State :=
  ((s.bump (ephPg 0) RT_CNT_DISC_COUNT).irq (ephPg 0) (bit 6)).modRt fun r => { r with discs := r.discs + 1 }

/-- The state of the time base changes (R308, R341). -/
def State.setTb (s : State) (t : Tb) : State :=
  if s.rt.tb = t then s else (s.modRt fun r => { r with tb := t }).irq (ephPg 0) (bit 5)

/-- The window of a line edge, in 1/256 quantum. -/
def State.rtWin (s : State) : Nat := s.rd (ephPg 0) RT_CFG_WIN * 256

/-- A slip (R313). -/
def State.slip (s : State) : State :=
  (((s.bump (ephPg 0) RT_CNT_SLIP_COUNT).irq (ephPg 0) (bit 7)).err (ephPg 0) 2).disc

/-- Acquisition begins at its first step (R311). -/
def Raster.reacquire (r : Raster) : Raster :=
  { r with edgeSeen := false, prevPeriod := none, acqEdges := 0, acqF1 := none, outEdges := 0, outPeriod := none
           markRun := 0, markSeen := false, markMiss := 0 }

/-- Entry to FREE: through missing pulses or marks (`loss`), or by a change of SRC (R307, R312, R317, R318). -/
def State.tbFree (s : State) (loss : Bool) : State :=
  let p := ephPg 0
  let s1 := if loss then (s.bump p RT_CNT_LOSS_COUNT).err p 1 else s
  let s2 := ((s1.setTb .free).wr p RT_STAT_MISS_L 0).wr p RT_STAT_MISS_F 0
  let s3 := if s2.rt.setFrame.isSome then (s2.modRt fun r => { r with setFrame := none }).cmdEnd p stAborted 0 else s2
  ((s3.modRt fun r => { r.reacquire with slew := 0, slewNext := 0 }).disc).windowsEnd

/-- LINES in use takes a new value (R314); a smaller one leaves armed occurrences beyond the end of their frames, a greater one
gives some back (R325). -/
def State.setLines (s : State) (n : Nat) : State :=
  let old := s.rt.lines
  let beyond := s.armed.filter fun e => decide (n ≤ e.2.2.1)
  let kept := s.rt.cut.filter fun k => beyond.any fun e => e.1 == k
  let new := (beyond.filter fun e => decide (e.2.2.1 < old) && !kept.contains e.1).map (·.1)
  if n = old then s else s.modRt fun r => { r with lines := n, cut := kept ++ new }

/-- A frame begins (R309, R318): its number is one further, or as SET_FRAME says; a time base that has not followed the pins
takes the nominal LINES (R307, R317). SET_FRAME is executed by the cores, and waits while they are stalled (R22). Outside FREE, one with an even number, or one that a step begins, ends the training
windows (R197). -/
def State.frameBegins (s : State) (step : Bool) : State :=
  let p := ephPg 0
  let r := s.rt
  let nominal := s.rtSrc != 1 || !r.est
  let set := if s.stalled then none else r.setFrame
  let f := set.getD ((r.frame + 1) % 2 ^ 32)
  let s1 := (if nominal then s.setLines (s.rd p RT_NOM_LINES) else s).modRt fun r =>
    { r with frame := f, line := 0, sub := 0, fine := 0, setFrame := if set.isSome then none else r.setFrame
             slew := r.slewNext, slewNext := 0 }
  let s2 := if r.tb = .free then s1 else { s1 with frameTicks := s1.frameTicks + 1 }
  let s3 := if set.isSome then (s2.cmdEnd p stOk 0).disc else s2
  if r.tb != .free && (f % 2 == 0 || step || set.isSome) then s3.windowsEnd else s3

/-- In LINK mode a frame has ended with or without an accepted mark (R317). -/
def State.markFrame (s : State) : State :=
  let r := s.rt
  if s.rtSrc != 2 then s
  else if r.markSeen then s.modRt fun r => { r with markSeen := false, markMiss := 0 }
  else
    let s1 := s.modRt fun r => { r with markRun := 0, markMiss := min 3 (r.markMiss + 1) }
    if r.tb = .free then s1 else if 2 ≤ r.markMiss then s1.tbFree true else s1.setTb .flywheel

/-- The period of a time base without a source, or without an estimate yet, is the nominal one (R307, R309). -/
def State.linePeriod (s : State) : State :=
  if s.rtSrc = 0 || !s.rt.est then s.modRt fun r => { r with period := s.rd (ephPg 0) RT_NOM_PERIOD_PERIOD } else s

/-- The current line ends `len` after it began, and the next one begins (R309, R312, R313). `edge`: at an edge of the line
input, with a frame pulse or not. A line cut short, a frame cut short and a smaller LINES skip what they leave out (R325). -/
def State.lineEnds (s : State) (len : Nat) (edge : Option Bool) : State :=
  let r := s.rt
  let p := ephPg 0
  let pulse := edge == some true
  let nl := r.line + 1
  let track := r.tb != Tb.free && s.rtSrc == 1
  let slips := track && pulse && decide (nl < r.lines)
  let old : RTime := (r.frame, r.line, if edge.isSome then subline len r.lineTime else 255)
  let s0 := (s.modRt fun r => { r with sinceEdge := if edge.isSome then 0 else r.sinceEdge + len }).linePeriod
  if slips || decide (r.lines ≤ nl) then
    let s1 := if track then s0.wr p RT_STAT_MISS_F (if pulse then 0 else s.rd p RT_STAT_MISS_F + 1) else s0.markFrame
    let s2 := s1.frameBegins slips
    let s3 := if slips then s2.slip else s2
    let new := s3.lineStart
    if new.before old then s3.rewind new
    else if slips || (r.setFrame.isSome && s3.rt.setFrame.isNone) then s3.pass old new new
    else (if edge.isSome then s3.pass old (r.frame, nl, 0) new else s3).passCut new
  else
    let s1 := s0.modRt fun r => { r with line := nl, sub := 0, fine := 0 }
    if edge.isSome then s1.pass old s1.lineStart s1.lineStart else s1

/-- The state follows the counters of missing pulses (R312). -/
def State.tbSettle (s : State) (missL : Nat) : State :=
  let p := ephPg 0
  if 65 ≤ missL || 3 ≤ s.rd p RT_STAT_MISS_F then s.tbFree true
  else (s.wr p RT_STAT_MISS_L missL).setTb (if missL != 0 || s.rd p RT_STAT_MISS_F != 0 then .flywheel else .locked)

/-! #### Rates (R314, R315) -/

/-- The listed rasters: code, frame rate as a fraction, lines (R315). -/
def rasterCodes : List (Nat × Nat × Nat × Nat) :=
  [(1, 50, 1, 1125), (2, 60000, 1001, 1125), (3, 60, 1, 1125), (4, 50, 1, 2250), (5, 60000, 1001, 2250), (6, 60, 1, 2250),
   (7, 50, 1, 750), (8, 60000, 1001, 750), (9, 60, 1, 750)]

/-- The code that fits a line count and a measured frame period in 1/256 quantum, 0 for none: a listed period within 300 ppm of
the measured one (R315). -/
def codeFor (lines per : Nat) : Nat :=
  match rasterCodes.find? fun x =>
    x.2.2.2 == lines &&
      decide (((per * x.2.1 : Int) - 40960000000 * x.2.2.1).natAbs * 1000000 ≤ 300 * per * x.2.1) with
  | some x => x.1
  | none => 0

/-- A change of LINES or of the rate code (R314). -/
def State.rateChange (s : State) : State := (s.irq (ephPg 0) (bit 8)).disc

/-- What a step of the time base, or a write of its registers, has changed of LINES and of the rate code in use (R314-R316). -/
def State.noteRates (was s : State) : State :=
  let s1 := if was.rt.lines = s.rt.lines then s else s.rateChange
  if was.rateCode = s.rateCode then s1 else s1.rateChange

/-- LINES and the rate code at a frame pulse (R314): `meas` the measured length, `prev` the one before it, `per` the measured
frame period. -/
def State.rates (s : State) (prev : Option Nat) (meas per : Nat) : State :=
  let s1 := if prev = some meas && decide (2 ≤ meas) && decide (meas ≤ 4096) then s.setLines meas else s
  let c := codeFor s1.rt.lines per
  s1.modRt fun r => { r with code := if r.lastCode = some c then c else r.code, lastCode := some c }

/-- The edges since the latest frame pulse and their time, before and at a pulse (R314). -/
def State.countEdge (s : State) (per : Nat) (pulse : Bool) : State :=
  let s1 := s.modRt fun r => { r with sincePulse := r.sincePulse + 1, sumPulse := r.sumPulse + per }
  if !pulse then s1
  else
    let s2 := if s1.rt.pulseSeen then
        (s1.modRt fun r => { r with lastLen := some r.sincePulse }).wr (ephPg 0) RT_MEAS_LINES (min 8191 s1.rt.sincePulse)
      else s1
    s2.modRt fun r => { r with pulseSeen := true, sincePulse := 0, sumPulse := 0 }

/-! #### Edges (R311-R313) -/

/-- Two periods agree within twice the window (R311, R313). -/
def State.agree (s : State) (a b : Nat) : Bool := decide (((a : Int) - b).natAbs ≤ 2 * s.rtWin)

/-- Acquisition ends at F2 (R311): LOCKED, frame f + 1 at 0.0, the rest of frame f skipped. -/
def State.acquired (s : State) (lines per frame e : Nat) : State :=
  let old := s.rtNow e
  let s1 := ((s.setLines lines).modRt fun r =>
    let c := codeFor lines frame
    { r with
      period := per, est := true, code := c, lastCode := some c, sinceEdge := 0, acqEdges := 0, acqF1 := none
      slew := 0, slewNext := 0 }).wr (ephPg 0) RT_MEAS_PERIOD_PERIOD per
  let s3 := ((s1.setTb .locked).frameBegins true).disc
  let new := s3.lineStart
  if new.before old then s3.rewind new else s3.pass old new new

/-- An edge in FREE (R311), `per` after the one before it; `frame` the time since the latest pulse. -/
def State.acquire (s : State) (per : Option Nat) (pulse : Bool) (frame e : Nat) : State :=
  let r := s.rt
  let back := s.modRt fun r => { r with sinceEdge := -(e : Int), edgeSeen := true }
  match per with
  | none => back
  | some m =>
    let ok := decide (81920 ≤ m) && decide (m ≤ 4096000)
    let good := ok && (match r.prevPeriod with | some q => s.agree m q | none => true)
    let s1 := back.modRt fun r => { r with prevPeriod := if ok then some m else none }
    if !good then s1.modRt fun r => { r with acqEdges := 0, acqF1 := none }
    else if r.acqEdges < 16 then s1.modRt fun r => { r with acqEdges := r.acqEdges + 1 }
    else match r.acqF1 with
      | none => if pulse then s1.modRt fun r => { r with acqF1 := some 0 } else s1
      | some k =>
        if !pulse then s1.modRt fun r => { r with acqF1 := some (k + 1) }
        else if 2 ≤ k + 1 && decide (k + 1 ≤ 4096) then s1.acquired (k + 1) m frame e
        else s1.modRt fun r => { r with acqF1 := some 0 }

/-- A valid edge (R312): it begins the next line and updates the estimate. -/
def State.validEdge (s : State) (e : Nat) (pulse : Bool) : State :=
  let (q, s1) := s.divOpen ((e : Int) - s.rt.period) 16
  let t := (s.rt.period + q).toNat
  let s2 := (s1.modRt fun r => { r with est := true, outEdges := 0, outPeriod := none }).lineEnds e (some pulse)
  ((s2.modRt fun r => { r with period := t }).wr (ephPg 0) RT_MEAS_PERIOD_PERIOD t).tbSettle 0

/-- An edge outside its window (R312): ignored, but for the eighth in a row whose periods agree, which re-phases (R313). -/
def State.outsideEdge (s : State) (per : Option Nat) (e : Nat) (pulse : Bool) : State :=
  let r := s.rt
  let n := match per, r.outPeriod with
    | some m, some q => if s.agree m q then r.outEdges + 1 else 2
    | some _, none => min 2 (r.outEdges + 1)
    | none, _ => 1
  if 8 ≤ n then
    let slips := pulse && decide (r.line + 1 < r.lines)
    let s1 := (s.modRt fun r => { r with outEdges := 0, outPeriod := none }).lineEnds e (some pulse)
    (if slips then s1 else s1.slip).tbSettle 0
  else s.modRt fun r => { r with outEdges := n, outPeriod := if r.outEdges = 0 then none else per, sinceEdge := -(e : Int) }

/-- LINE_EDGE and FRAME_PULSE (R306, R311-R314): an active edge of the line input `e` after the current line began, with the
frame input active or not. -/
def State.rasterEdge (s : State) (e : Nat) (pulse : Bool) : State :=
  if !s.tbRuns || s.rtSrc != 1 then s
  else
    let r := s.rt
    let per := if r.edgeSeen then some (r.sinceEdge + e).toNat else none
    let m := per.getD 0
    let s1 := s.countEdge m pulse
    if r.tb = .free then s.noteRates (s1.acquire per pulse (r.sumPulse + m) e)
    else
      let s2 := if pulse && r.pulseSeen then s1.rates r.lastLen (r.sincePulse + 1) (r.sumPulse + m) else s1
      s.noteRates (if ((e : Int) - r.period).natAbs ≤ s.rtWin then s2.validEdge e pulse else s2.outsideEdge per e pulse)

/-- MISSING_LINE_EDGE (R312): the next line begins at the prediction. -/
def State.missingEdge (s : State) : State :=
  if !s.tbRuns || s.rtSrc != 1 || s.rt.tb = .free then s
  else
    let missL := s.rd (ephPg 0) RT_STAT_MISS_L + 1
    s.noteRates ((s.lineEnds s.rt.period none).tbSettle missL)

/-- LINE_END (R309): a line of period T ends in FREE, in LINK mode, or in place of a missing edge. -/
def State.lineEnd (s : State) : State :=
  if !s.tbRuns then s
  else if s.rt.tb != .free && s.rtSrc = 1 then s.missingEdge
  else s.noteRates (s.lineEnds s.rt.lineTime none)

/-! #### Marks, SRC, SET_FRAME -/

/-- RT_MARK_ERR after a mark with an error of `err` sublines (R317, R339): 24 bits with a sign, held at its ends. -/
def State.noteMark (s : State) (err : Int) (far : Bool) : State :=
  (s.wr (ephPg 0) RT_MARK_ERR_ERR (unsigned 24 (max (-8388608) (min 8388607 err)))).wrB (ephPg 0) RT_MARK_ERR_STEPPED far

/-- A mark inside the window slews the line period of the next frame, by at most 1/1000 of it (R317). -/
def State.slewMark (s : State) (err : Int) : State :=
  let (q, s1) := s.divOpen (err * s.rt.period) (256 * s.rt.lines)
  let lim : Int := s.rt.period / 1000
  s1.modRt fun r => { r with slewNext := max (-lim) (min lim q) }

/-- A mark outside the window steps the time base to the mark's time (R317). -/
def State.stepMark (s : State) (now m : RTime) : State :=
  let s1 := ((s.modRt fun r => { r with frame := m.1, line := m.2.1, sub := m.2.2, fine := 0 }).irq (ephPg 0) (bit 9)).disc.windowsEnd
  if m.before now then s1.rewind m else s1.pass now m m

/-- A mark takes effect (R317), `e` after the current line began. -/
def State.mark (s : State) (frame line sub e : Nat) : State :=
  let now := s.rtNow e
  let m : RTime := (frame, line, sub)
  let err := now.distance s.rt.lines m
  let far := decide ((256 * s.rd (ephPg 0) RT_CFG_MARK_WIN : Int) < err.natAbs)
  let s1 := s.noteMark err far
  let s2 := if far then s1.stepMark now m else s1.slewMark err
  let s3 := s2.modRt fun r => { r with markSeen := true, markRun := min 2 (r.markRun + 1) }
  if s3.rt.markRun < 2 then s3
  -- the window of core time ends (R197)
  else if s3.rt.tb = .free then (s3.setTb .locked).windowsEnd
  else s3.setTb .locked

/-- RT_MARK_LINE (R317, R338): a mark, while SRC is LINK. -/
def State.markWrite (s : State) (pp v e : Nat) : State :=
  s.guarded pp (ephPg 0) none fun s =>
    if s.tbRuns && s.rtSrc = 2 then s.mark (s.rd (ephPg 0) RT_MARK_FRAME_FRAME) (bits v 0 12) (bits v 12 8) e else s

/-- RT_CFG (R307, R338). -/
def State.rtCfgWrite (s : State) (pp v : Nat) : State :=
  let p := ephPg 0
  s.guarded pp p (if bits v 0 2 == 3 || bits v 8 8 == 0 || bits v 16 4 == 0 then some .badValue else none) fun s =>
    let changes := s.rtSrc != bits v 0 2
    let s1 := ((((((s.wr p RT_CFG_SRC (bits v 0 2)).wr p RT_CFG_FPOL (bits v 2 1)).wr p RT_CFG_LPOL (bits v 3 1)).wr
      p RT_CFG_TERM (bits v 4 1)).wr p RT_CFG_WIN (bits v 8 8)).wr p RT_CFG_MARK_WIN (bits v 16 4))
    if changes then s.noteRates (s1.tbFree false) else s1

/-- SET_FRAME (R318): the next frame boundary ends it. -/
def State.setFrameCmd (s : State) : State :=
  let f := s.arg0 (ephPg 0)
  s.modRt fun r => { r with setFrame := some f }

end Sys2Proof.Machine
end

