-- ==== Sys2Proof/Machine/Fault.lean ====
section
/-!
DEFINITION. The fault collector (R368-R389): acceptance and masks, classification, reactions, block resets, fences, entry to
SAFE, FAULT_N; and `State.done`, which lets the collector take the events that a command has raised.
-/
set_option Elab.async false

namespace Sys2Proof.Machine

/-! ### Words and masks -/

/-- A configuration field of line `l`; a word that fails its parity check reads as its reset value (R383). -/
def State.lcfg (s : State) (l : Nat) (f : Field) : Nat :=
  if s.parityBad.contains (2 * l + (if f.off = 0x84 then 1 else 0)) then f.rstAt l else s.rd fcoPg f l

/-- An input is masked by a reset in progress or by a fence (R376, R378). -/
def State.masked (s : State) (e : FaultEvent) : Bool :=
  let l := e.line
  let fenced (c : Nat) : Bool := s.fencedCl c
  let byReset (j : ResetJob) : Bool :=
    match j, e.src with
    | .port n, .port m => n == m
    | .port n, .cut m => n == m
    | .ports c, .port m => m / 16 == c
    | .ports c, .cut m => m / 16 == c
    | .cores, _ => l == 45 || l == 46 || l == 54 || l == 57
    | .fence _, .cut _ => true
    | .fence c, .mov m => m / 32 == c && decide (36 ≤ l) && decide (l < 40)
    | .safe, .port _ => true
    | .safe, .cut _ => true
    | _, _ => false
  match e.src with
  | .inject _ => false
  | .unmasked => false
  | .port n => s.resets.any byReset || fenced (n / 16)
  | .cut n => s.resets.any byReset || fenced (n / 16)
  | .cl c => s.resets.any byReset || fenced c
  | .mov m => s.resets.any byReset || fenced (m / 32)
  | .eph c => s.resets.any byReset || fenced c
  | .dev => s.resets.any byReset

/-- The collector runs (R375). -/
def State.collects (s : State) : Bool :=
  match s.mode with
  | .loader | .dormant => false
  | _ => true

/-- Window time of a line's unit: raster frames, or 20 ms steps of core time while FREE; or milliseconds (R371). -/
def State.windowNow (s : State) (l : Nat) : Nat :=
  if s.lcfg l FCO_LCFG_A_UNIT != 0 then s.coreUs / 1000
  else s.frameTicks

/-- Some sticky bit is set. -/
def State.anySticky (s : State) : Bool := s.lines.any fun e => e.2.sticky

/-- The highest level among sticky lines (R399). -/
def State.topLevel (s : State) : Nat := s.lines.foldl (fun a e => if e.2.sticky then max a e.2.level else a) 0

/-! ### Mode changes that reactions make -/

/-- The Moon detectors are disarmed (R419, R424). -/
def State.disarmMoon (s : State) : State :=
  (({ s with chip := { s.chip with moon := [] } }).wr aonPg AON_STAT_ARMED 0).wr aonPg AON_STAT_FORCED_FRAME 0

/-- A transition in progress ends ABORTED (R25, R548). -/
def State.abortMove (s : State) : State :=
  match s.moving with
  | none => s
  | some mv =>
    let s1 := (({ s with moving := none }).wr devPg DEV_MODE_MOVING 0).each (List.range 128) fun s n =>
      s.modPort n fun x => { x with moveNext := none }
    match mv with
    | .toRun true => s1.wr devPg PAGE_STAT_BUSY 0
    | .toUpdate => s1.cmdStop updPg stAborted
    | .toDormant => s1.disarmMoon.cmdEnd devPg stAborted s1.mode.code
    | _ => s1.cmdEnd devPg stAborted s1.mode.code

/-- MODE and PREV change (R548); PANIC, FORCED, the training windows and the eye scans follow (R65, R168, R196, R202). A
transition in progress goes on. -/
def State.changeMode (s : State) (m : Mode) : State :=
  let s1 := { s with mode := m, prev := s.mode }
  let s2 := (s1.wr devPg DEV_MODE_MODE m.code).wr devPg DEV_MODE_PREV s.mode.code
  (s2.panicPins).each (List.range 128) fun s n => (s.windowSync n).eyeSync n

/-- A transition ends in mode `m`, and MOVING is cleared (R548). -/
def State.enterDeviceMode (s : State) (m : Mode) : State :=
  (({ s with moving := none }).wr devPg DEV_MODE_MOVING 0).changeMode m

/-- No port of a cluster in service has a mode change in progress. -/
def State.portsSettled (s : State) : Bool :=
  (List.range 128).all fun n => (s.port n).move.isNone && (s.port n).moveNext.isNone || s.fencedCl (n / 16)

/-- A transition that waits for its ports ends when the last of them has entered its mode (R24, R165, R442, R548). -/
def State.moveCheck (s : State) : State :=
  if !s.portsSettled || s.stalled then s
  else match s.moving with
    | some (.toRun auto) =>
      let s1 := s.enterDeviceMode .run
      let s2 := if auto then (s1.wr updPg UPD_SET_STAT_AUTORUN 1).wr devPg PAGE_STAT_BUSY 0
        else s1.cmdEnd devPg stOk Mode.run.code
      s2.ephResume (List.range 8)
    | some .toConfigure => (s.enterDeviceMode .configure).cmdEnd devPg stOk Mode.configure.code
    | some .toUpdate =>
      let s1 := ((s.wr updPg UPD_JOURNAL_PHASE 1).wr updPg UPD_JOURNAL_PART 0).wr updPg UPD_JOURNAL_CHUNK 0
      ({ (s1.wr updPg UPD_PROGRESS_DONE 0).abortScans with chans := [] }).enterDeviceMode .update
    | _ => s

/-- Requests of the channels of a fenced cluster are withdrawn, and the channels go to DISABLED (R299). A burst begun ends at
once, so a fetch that waited for its last reads is over and its object completes (R259, R265). -/
def State.fenceChan (s : State) (m : Nat) : State :=
  let x := s.chan m
  let s1 := s.each x.queue fun s r =>
    match r.kind with
    | .push uid =>
      match mapGet? s.pushes uid with
      | some j =>
        let s1 := if j.direct then s.swapUser j.blk (.push uid) [.direct (j.words.getD 3 0) (j.words.getD 15 0 % 128)]
          else s.swapUser j.blk (.push uid) []
        ({ s1 with pushes := mapDel s1.pushes uid }).queueRec j.tgt { slot := true, words := pushWords j.words 1 r.paddr true }
      | none => s
    | .xfer => ((s.dropUser (.xfer m)).wr (movPg m) MOV_XFER_STATE 4).irq (movPg m) 8
    | .fetch _ => s
  let s2 := s1.each x.queue fun s r => s.skipElems m r
  let s3 := (s2.modChan m fun x => { x with mode := .disabled, queue := [], outst := [], failed := [], waiting := false }).bump
    (movPg m) MOV_REQS_COUNT x.queue.length
  s3.each x.queue fun s r =>
    match r.kind with
    | .fetch uid => s.tryComplete uid
    | _ => s

/-- A long operation of the PHY page of port `n` ends with a status (R25, R376, R388): the rung change that waited is
dropped, a scan or a calibration is over. -/
def State.endPhyOp (s : State) (n status : Nat) : State :=
  if (s.port n).eye.isSome then s.eyeAbort n status
  else if s.flag (phyPg n) PAGE_STAT_BUSY then
    (((s.modPort n fun x => { x with rungWait := none }).wr (phyPg n) PHY_RUNG_PENDING 0).wr
      (phyPg n) PHY_CAL_RUNNING 0).cmdStop (phyPg n) status
  else s

/-- A fence on one port of the cluster (R384): it stops, its pages' operations end, its window is dropped. -/
def State.fencePort (s : State) (n : Nat) : State :=
  ((((((s.endMove n stAborted).abortCancel n).endPortOp n stAborted).windowDrop n).endPhyOp n stAborted).modPort n fun x =>
    { x with moveNext := none, heldRung := [] }).stopPort n pmOff

/-- The channels of a cluster. -/
def clusterChans (c : Nat) : List Nat := (List.range 32).map fun i => 32 * c + i

/-- RUN becomes DEGRADED when a cluster is fenced, and DEGRADED becomes DEGRADED (R24, R384); a transition in progress continues in
the other clusters (R25, R446). -/
def State.degrade (s : State) : State :=
  if s.mode = .run || s.mode = .degraded then s.changeMode .degraded else s

/-- A fence of cluster `c` (R384). -/
def State.fenceCluster (s : State) (c : Nat) : State :=
  if s.fencedCl c then s
  else
    let s1 := ({ s with resets := s.resets ++ [ResetJob.fence c] }).each (clusterPorts c) State.fencePort
    let s3 := (s1.fenceJobs c).each (clusterChans c) State.fenceChan
    (((s3.orBits devPg DEV_CLUSTERS_FENCED (bit c)).irq fcoPg 8).panic (clusterPorts c)).degrade

/-- Entry to SAFE on one port (R388). -/
def State.safePort (s : State) (n : Nat) : State :=
  let s1 := (((s.endMove n stAborted).abortCancel n).endPortOp n stAborted).endPhyOp n stAborted
  if s1.pmode n = pmOff then s1 else s1.stopPort n pmConfig

/-- A running UNFENCE ends ABORTED (R386, R388). -/
def State.abortUnfence (s : State) : State :=
  match s.unfencing with
  | some _ => ({ s with unfencing := none }).cmdEnd fcoPg stAborted (s.rd devPg DEV_CLUSTERS_FENCED)
  | none => s

/-- A running SET_FRAME ends with a status (R318, R388). -/
def State.endSetFrame (s : State) (status : Nat) : State :=
  if s.rt.setFrame.isSome then (s.modRt fun r => { r with setFrame := none }).cmdEnd (ephPg 0) status 0 else s

/-- Step 1 of a running ACTIVATE ends ABORTED (R446). -/
def State.abortReverify (s : State) : State :=
  if s.flag updPg PAGE_STAT_BUSY && s.rd updPg PAGE_CMD_CODE == 4 then s.cmdStop updPg stAborted else s

/-- Entry to SAFE (R388). -/
def State.enterSafe (s : State) : State :=
  if s.mode = .safe || s.mode = .update || !s.collects then s
  else
    let s0 := { s.abortMove.abortReverify with resets := s.resets ++ [ResetJob.safe] }
    (((s0.each (List.range 128) State.safePort).abortUnfence).endSetFrame stAborted).enterDeviceMode .safe

/-! ### What a reset of the main domain leaves -/

/-- A register that MRAM holds (R462): the staging, journal and loader words, the settings generation, the bitmap. -/
def keptUpd (page off : Nat) : Bool :=
  page == updPg && (off == 0x40 || off == 0x44 || off == 0x48 || off == 0x4C || off == 0x50 || off == 0x64 ||
    (decide (0x100 ≤ off) && decide (off < 0x1C0)))

/-- A register that keeps its value across a device reset: MRAM's and the Moon domain's (R406, R429, R430). -/
def keptKey (key : Nat) : Bool :=
  let page := key / 131072
  let off := key / 32 % 4096
  (page == aonPg && decide (0x40 ≤ off)) || keptUpd page off

/-- What any reset leaves (R30, R406): the registers that `keep` names, the pins, the Moon domain, MRAM and fuses; every other
field as at power-on. The contents of the store, of the object tables and of the ring space are undefined. -/
def State.afterReset (s : State) (keep : Nat → Bool) : State :=
  { pending := s.pending
    regs := s.regs.filter fun e => keep e.1
    undef := undefAtReset s.freeCtr
    freeCtr := s.freeCtr + 1
    pps := s.pps.foldl (fun m e => mapSet {} m e.1 { perst := e.2.perst, moonWake := e.2.moonWake }) []
    carried := s.carried
    restored := s.restored
    chip := { s.chip with relock := none, wake := none, driven := 0, cool := true, tjMax := 0, power := 0 }
    fuses := s.fuses
    tap := { s.tap with status := if s.tap.status = stRunning then 0 else s.tap.status }
    mram := s.mram
    mramBad := s.mramBad
    out := s.out }

/-! ### Reactions (R374-R377) -/

/-- A reset of the management cores: they run again, and every long operation ends with FAULT (R22, R376). -/
def State.resetCores (s : State) : State :=
  let s1 := { s with resets := s.resets ++ [ResetJob.cores], stalled := false }
  let pages := [devPg, crpPg, aonPg, fcoPg, updPg, secPg, telPg] ++ (List.range 8).flatMap (fun c => [clPg c, ephPg c]) ++
    (List.range 128).map portPg
  let s2 := (match s1.moving with
    | some .toDormant => s1.disarmMoon
    | some (.toRun true) => s1.wr devPg PAGE_STAT_BUSY 0
    | _ => s1).modRt fun r => { r with setFrame := none }
  let s3 := { s2 with
    moving := none
    unfencing := none
    saving := []
    tap := { s2.tap with status := if s2.tap.status = stRunning then stFault else s2.tap.status }
    load := match s2.load with
      | some x => if x.boot then some x else none
      | none => none }
  let s4 := (s3.each (List.range 128) fun s n =>
    ((s.modPort n fun x => { x with move := none, moveNext := none, cancel := none }).wr (portPg n) PORT_MODE_MOVING 0).endPhyOp
      n stFault).endScans stFault
  (s4.wr devPg DEV_MODE_MOVING 0).each pages fun s p =>
    if s.flag p PAGE_STAT_BUSY then s.cmdStop p stFault else s

/-- The reset of a line's reset block (R369, R377): every port of CLc, the port that raised the event, the cores. -/
def State.resetBlock (s : State) (e : FaultEvent) : State :=
  let l := e.line
  if l < 8 then
    let s1 := s.each (clusterPorts l) fun s n =>
      let s1 := s.portReset n
      { s1 with resets := s1.resets.filter (· != ResetJob.port n) }
    { s1 with resets := s1.resets ++ [ResetJob.ports l] }
  else if 16 ≤ l ∧ l < 24 then
    match e.src with
    | .port n => s.portReset n
    | .cut n => s.portReset n
    | _ => s
  else if l = 45 ∨ l = 46 then s.resetCores
  else s

/-- The cluster of a line of scope CLc (R369). -/
def lineCluster (l : Nat) : Option Nat := if l < 32 then some (l % 8) else none

/-- The reaction of a line at a level (R374, R375). -/
def State.reaction (s : State) (l lvl : Nat) : Nat :=
  let lv := if s.mode = .update then min lvl 1 else lvl
  if lv = 0 then s.lcfg l FCO_LCFG_B_NOTE else if lv = 1 then s.lcfg l FCO_LCFG_B_MINOR
  else if lv = 2 then s.lcfg l FCO_LCFG_B_MAJOR else if lv = 3 then s.lcfg l FCO_LCFG_B_SEVERE else 4

/-- Carry out the reaction of a line at a level (R374, R375). -/
def State.react (s : State) (e : FaultEvent) (lvl : Nat) : State :=
  let l := e.line
  let lv := if s.mode = .update then min lvl 1 else lvl
  let code := s.reaction l lvl
  let s1 := if code != 0 then s.event (64 + l) else s
  -- an UNFENCE of the line's cluster ends at level SEVERE or above (R386)
  let s2 := match s1.unfencing, lineCluster l with
    | some c, some c' => if c = c' && decide (3 ≤ lv) then s1.abortUnfence else s1
    | _, _ => s1
  match s.mode with
  -- a SAFE-level event ends a safe-state exit in progress (R389)
  | .safe => if lv = 4 && s2.moving = some .safeExit then s2.abortMove else s2
  | .update => s2
  | _ =>
    if code = 4 then s2.enterSafe
    else if code = 3 then
      match lineCluster l with
      | some c =>
        if s2.mode = .run || s2.mode = .degraded then
          let s3 := s2.fenceCluster c
          if s3.rd devPg DEV_CLUSTERS_FENCED = 255 then s3.enterSafe else s3.moveCheck
        else s2.resetBlock e
      | none => s2
    else if code = 2 then s2.resetBlock e
    else s2

/-- The level that FCO_INJECT asks for; none: the event was not injected (R372). -/
def FaultEvent.forced (e : FaultEvent) : Option Nat :=
  match e.src with
  | .inject f => some (f.getD 0)
  | _ => none

/-- The collector accepts an event (R368, R372, R375). -/
def State.accepts (s : State) (e : FaultEvent) : Bool :=
  s.collects && (e.forced.isSome || (!s.masked e && (e.line == 58 || s.lcfg e.line FCO_LCFG_A_EN != 0)))

/-- Window count, window start and level of an event's line once the event is handled (R371, R372). -/
def State.eventLevel (s : State) (e : FaultEvent) : Nat × Nat × Nat :=
  let l := e.line
  let x := s.line l
  let now := s.windowNow l
  let w := s.lcfg l FCO_LCFG_A_W
  let base := s.lcfg l FCO_LCFG_A_BASE
  let c0 := if w != 0 && x.count != 0 && decide (w ≤ now - x.wstart) then 0 else x.count
  let ws := if c0 = 0 then now else x.wstart
  let c1 := min (c0 + 1) 255
  let l1 := if s.lcfg l FCO_LCFG_A_N ≤ c1 then max base (s.lcfg l FCO_LCFG_A_CNT) else base
  let l2 := if x.sticky then max (max l1 (min (x.level + 1) (s.lcfg l FCO_LCFG_A_CAP))) x.level else l1
  (c1, ws, max l2 (e.forced.getD 0))

/-- The collector takes one event (R368, R371, R372). -/
def State.takeEvent (s : State) (e : FaultEvent) : State :=
  let l := e.line
  if !s.accepts e then
    if s.collects && e.forced.isNone && s.masked e then (s.bump fcoPg FCO_MASKED_COUNT).tally 0xA8 else s
  else
    let x := s.line l
    let (c1, ws, lvl) := s.eventLevel e
    let s0 := s.modLine l fun y =>
      { y with sticky := true, level := lvl, count := c1, wstart := ws, total := (y.total + 1) % 65536 }
    let s1 := if s.mode = .update then { s0 with carried := mapPut s0.carried l lvl } else s0
    let s2 := (s1.bump fcoPg FCO_EVENTS_COUNT).tally 0xA4
    let s3 := if x.sticky then s2 else s2.irq fcoPg 4
    s3.react e lvl

/-- The reaction an event would have if it were taken now; 0 when it is not accepted. -/
def State.reactionTo (s : State) (e : FaultEvent) : Nat :=
  if s.accepts e then s.reaction e.line (s.eventLevel e).2.2 else 0

/-- The events of one moment that may be taken next: the first of each line (R373). -/
def firstOfLines : List FaultEvent → List FaultEvent
  | [] => []
  | e :: t => e :: (firstOfLines t).filter fun f => f.line != e.line

/-- The event that is taken next (R373): entry to SAFE comes before a fence, and a fence before the events that it masks. -/
def State.nextEvent (s : State) (e : FaultEvent) (t : List FaultEvent) : FaultEvent :=
  let ready := firstOfLines (e :: t)
  if t.isEmpty then e
  else if (e :: t).any fun f => s.reactionTo f == 4 then (ready.find? fun f => s.reactionTo f != 3).getD e
  else (ready.find? fun f => s.reactionTo f == 3).getD e

/-- Take events until none is left, at most `fuel` of them. -/
def State.drain : Nat → State → State
  | 0, s => s
  | fuel + 1, s =>
    match s.faults with
    | [] => s
    | e :: t =>
      let f := s.nextEvent e t
      State.drain fuel (({ s with faults := (e :: t).erase f }).takeEvent f)

/-- What a command raised reaches the collector, its reactions are carried out (R375), and its moment is noted. -/
def State.done (s : State) : State := (State.drain 1024 s).noteMoment

/-- FAULT_N is driven low (R380). -/
def State.faultN (s : State) : Bool :=
  s.inReset ||
  match s.mode with
  | .loader => s.loaderFault
  | .dormant => false
  | _ => s.anySticky

end Sys2Proof.Machine
end

