-- ==== Sys2Proof/Machine/Frames.lean ====
section
/-!
DEFINITION. Frames bit for bit (R72, R77-R103): heads, stuffing, the three CRCs, LOW and SYNC frames, the symbols of a tail,
and the lengths that follow from LEN and RUNG.
-/
set_option Elab.async false

namespace Sys2Proof.Machine

/-! ### CRCs (R85, R88, R97) -/

/-- One bit of an unreflected CRC of width `w` with polynomial `poly`. -/
def crcBit (w poly crc : Nat) (b : Bool) : Nat :=
  let sh := crc * 2 % 2 ^ w
  if crc.testBit (w - 1) != b then sh ^^^ poly else sh

/-- HCRC over the bits from SOF through FLG (R85). -/
def hcrc (l : List Bool) : Nat := l.foldl (crcBit 15 0x2F15) 0x7FFF

/-- LCRC over the bits from SOF through the last data bit (R88). -/
def lcrc (l : List Bool) : Nat := l.foldl (crcBit 17 0x1B5D3) 0x1FFFF

/-- One shift of the reflected CRC-32C (R97). -/
def tcrcShift (c : Nat) : Nat := if c.testBit 0 then (c / 2) ^^^ 0x82F63B78 else c / 2

/-- One payload byte. -/
def tcrcByte (c : Nat) (x : Byte) : Nat := (List.range 8).foldl (fun c _ => tcrcShift c) (c ^^^ x.toNat)

/-- TCRC over the payload bytes (R97). -/
def tcrc (l : List Byte) : Nat := (l.foldl tcrcByte 0xFFFFFFFF) ^^^ 0xFFFFFFFF

/-! ### Heads and LOW frames (R80-R89) -/

/-- The bits of a number, most significant first (R5). -/
def msb (w v : Nat) : List Bool := (List.range w).map fun i => v.testBit (w - 1 - i)

/-- The bits from SOF through FLG: true is recessive (R69, R80, R84). -/
def headBody (h : Head) : List Bool :=
  let id := h.id.toNat
  [false] ++ msb 11 (idA id h.long) ++ [h.long] ++ (if h.long then msb 18 (id % 2 ^ 18) else []) ++ msb 6 h.snd.toNat ++
    msb 2 h.kind.code ++ msb 2 (if h.kind = .comet then h.rung.val else 0) ++ msb 14 h.len.toNat ++ [true, h.aud, h.epi]

/-- The head with its HCRC (R80, R85). -/
def headBits (h : Head) : List Bool := headBody h ++ msb 15 (hcrc (headBody h))

/-- The bits of a LOW or SYNC frame from SOF through LCRC (R87-R89). -/
def lowBits (h : Head) (data : List Byte) : List Bool :=
  let b := headBits h ++ data.flatMap fun x => msb 8 x.toNat
  b ++ msb 17 (lcrc b)

/-- The 64 data bits of a SYNC frame, byte 0 first (R89). -/
def syncBytes (frame line sub code flags : Nat) : List Byte :=
  let v := frame * 2 ^ 32 + line * 2 ^ 20 + sub * 2 ^ 12 + code * 2 ^ 8 + flags
  (List.range 8).map fun i => BitVec.ofNat 8 (v / 2 ^ (8 * (7 - i)))

/-- A head that R81-R83 let on a bus: a short identifier has 11 bits, and LEN suits the kind. -/
def headValid (h : Head) : Bool := (h.long || decide (h.id.toNat < 2 ^ 11)) && lenValid h.kind h.len.toNat

/-! ### Stuffing (R77, R78) -/

/-- The sender's stuffing, after a run of `run` bits of value `last`. -/
def stuffFrom (last : Option Bool) (run : Nat) : List Bool → List Bool
  | [] => []
  | b :: t =>
    let run := if last = some b then run + 1 else 1
    if run = 5 then b :: (!b) :: stuffFrom (some !b) 1 t else b :: stuffFrom (some b) run t

/-- A stuffed region. -/
def stuff (l : List Bool) : List Bool := stuffFrom none 0 l

/-- The number a run of bits spells, most significant first. -/
def numOf (l : List Bool) : Nat := l.foldl (fun v b => 2 * v + b.toNat) 0

/-- Bits of a head before stuffing (R80). -/
def headLength (long : Bool) : Nat := if long then 73 else 55

/-- Bits of the stuffed region before stuffing, known from XID, KIND and LEN as soon as LEN is in (R77, R78): the head of a
COMET frame, head, DATA and LCRC of every other. -/
def regionLength (got : List Bool) : Option Nat :=
  let long := got.getD 12 false
  let kindAt := if long then 37 else 19
  if got.length < kindAt + 18 then none
  else if numOf ((got.drop kindAt).take 2) = 1 then some (headLength long)
  else some (headLength long + 8 * numOf ((got.drop (kindAt + 4)).take 14) + 17)

/-- What a receiver has made of the bits it sampled from SOF on (R78). -/
inductive Destuffed
  /-- A stuff bit had the value of the five bits before it. -/
  | stuffError
  /-- The region, or the stuff bit that is due after it, is not yet complete. -/
  | incomplete
  /-- The region without its stuff bits, and the bits of the next field on. -/
  | region (bits rest : List Bool)
  deriving DecidableEq, Repr

/-- R78's receiver with `got` delivered, after a run of `run` bits of value `last`; `want`: the next bit is a stuff bit. -/
def destuffFrom (got : List Bool) (last : Option Bool) (run : Nat) (want : Bool) (l : List Bool) : Destuffed :=
  let done := regionLength got == some got.length
  match l with
  | [] => if done && !want then .region got [] else .incomplete
  | b :: t =>
    if want then
      if last = some b then .stuffError
      else if done then .region got t else destuffFrom got (some b) 1 false t
    else if done then .region got (b :: t)
    else
      let run := if last = some b then run + 1 else 1
      destuffFrom (got ++ [b]) (some b) run (run = 5) t

/-- The stuffed region at the front of the sampled bits (R78). -/
def destuff (l : List Bool) : Destuffed := destuffFrom [] none 0 false l

/-- Stuff bits that a region of `n` bits can carry at most (R79): the bound for a head, and the general one. -/
def maxHeadStuff (long : Bool) : Nat := if long then 15 else 12
def maxStuff (n : Nat) : Nat := (n - 1) / 4

/-! ### Tails (R72, R93-R99) -/

/-- Blocks of a tail. -/
def tailBlocks (len : Nat) : Nat := (len + 2 + 3) / 4

/-- Symbols of a tail. -/
def tailLength (len : Nat) : Nat := 544 + 66 * tailBlocks len

/-- The tail window W in A-band bits (R99). -/
def tailWindow (len rung nq : Nat) : Nat :=
  (tailLength len + (10 * 2 ^ rung * nq - 1)) / (10 * 2 ^ rung * nq)

/-- The longest interval without an edge after which a node that counts recessive bits only has integrated (R105). -/
def integrationBits (nq : Nat) : Nat := (270946 + (10 * nq - 1)) / (10 * nq) + 11

/-- Gray coding of two bits, first `a` (R72). -/
def gray (a b : Bool) : Int := if a then (if b then 1 else 3) else (if b then -1 else -3)

/-- The two bits of a level. -/
def ungray (v : Int) : Bool × Bool := (decide (0 < v), v == -1 || v == 1)

/-- A shift register that feeds back the XOR of its taps: the output bit and the next value (R93, R96). -/
def lfsr (w t u s : Nat) : Bool × Nat :=
  let o := s.testBit t != s.testBit u
  (o, (2 * s + if o then 1 else 0) % 2 ^ w)

/-- `n` bits of a shift register from `s`, and its value after them. -/
def lfsrBits (w t u : Nat) : Nat → Nat → List Bool × Nat
  | 0, s => ([], s)
  | n + 1, s =>
    let (o, s1) := lfsr w t u s
    let (l, s2) := lfsrBits w t u n s1
    (o :: l, s2)

/-- Pairs of bits as symbols. -/
def symbols : List Bool → List Int
  | a :: b :: t => gray a b :: symbols t
  | _ => []

/-- TRN (R93). -/
def trn : List Int :=
  (List.range 32).flatMap (fun _ => [3, -3]) ++ symbols (lfsrBits 15 14 13 768 0x7FFF).1 ++
    (List.range 8).flatMap fun _ => [3, 1, -1, -3, -3, -1, 1, 3]

/-- END. -/
def tailEndSymbols : List Int := (List.range 4).flatMap fun _ => [3, 3, 3, 3, -3, -3, -3, -3]

/-- Positive minus negative symbols (R95). -/
def disparity (l : List Int) : Int := l.foldl (fun a v => if 0 < v then a + 1 else a - 1) 0

/-- One half of a block under running disparity `rd`: inverted or not, the symbols, the new disparity (R95). -/
def halfBlock (rd : Int) (l : List Int) : Bool × List Int × Int :=
  let d := disparity l
  if (0 < rd ∧ 0 < d) ∨ (rd < 0 ∧ d < 0) then (true, l.map (- ·), rd - d) else (false, l, rd + d)

/-- One block of sixteen bytes: its 66 symbols, with the scrambler and the disparity after it (R95, R96). -/
def block (last : Bool) (scr : Nat) (rd : Int) (bytes : List Byte) : List Int × Nat × Int :=
  let raw := bytes.flatMap fun x => msb 8 x.toNat
  let (key, scr1) := lfsrBits 31 30 27 128 scr
  let sym := symbols (raw.zipWith (fun a b => a != b) key)
  let (i0, s0, r0) := halfBlock rd (sym.take 32)
  let (i1, s1, r1) := halfBlock r0 (sym.drop 32)
  let h0 := gray i0 i1
  let h1 : Int := (if 0 < h0 then -1 else 1) * (if last then 3 else 1)
  (h0 :: h1 :: (s0 ++ s1), scr1, r1)

/-- The blocks of a list of bytes whose length is a multiple of 16. -/
def blocksFrom (scr : Nat) (rd : Int) : Nat → List Byte → List Int
  | 0, _ => []
  | n + 1, l =>
    let (s, scr1, r1) := block (n = 0) scr rd (l.take 16)
    s ++ blocksFrom scr1 r1 n (l.drop 16)

/-- The tail of a payload of 4 (LEN + 1) bytes (R91-R97). -/
def tailSymbols (payload : List Byte) : List Int :=
  let b := tailBlocks (payload.length / 4 - 1)
  let bytes := payload ++ bytesOf (tcrc payload)
  trn ++ blocksFrom 0x7FFFFFFF 0 b (bytes ++ List.replicate (16 * b - bytes.length) 0) ++ tailEndSymbols

/-- The lead-in (R92): +3 and -3 in turn for half an A-band bit, of 10 * 2^g symbols a quantum, before TRN symbol 0. -/
def leadIn (rung nq : Nat) : List Int := (List.range (5 * 2 ^ rung * nq)).map fun i => if i % 2 = 0 then 3 else -3

/-- All that the sender of a COMET frame drives on the D-band, from the middle of BSW bit 1 without a gap; before, after and
in every other frame it drives nothing there (R70, R92). -/
def dBand (rung nq : Nat) (payload : List Byte) : List Int := leadIn rung nq ++ tailSymbols payload

/-- One block as a receiver takes it (R96): its sixteen bytes and the scrambler after it; none when h1 does not have the sign
opposite to h0, or its magnitude is 3 in another block than the last. -/
def unblock (last : Bool) (scr : Nat) (sym : List Int) : Option (List Byte × Nat) :=
  let h0 := sym.getD 0 0
  let h1 := sym.getD 1 0
  let undo := fun (negated : Bool) (l : List Int) => if negated then l.map (- ·) else l
  if h0 * h1 < 0 ∧ (h1.natAbs = 3 ↔ last = true) then
    let (i0, i1) := ungray h0
    let half0 := undo i0 ((sym.drop 2).take 32)
    let half1 := undo i1 ((sym.drop 34).take 32)
    let (key, scr1) := lfsrBits 31 30 27 128 scr
    let raw := (half0 ++ half1).flatMap fun v => [(ungray v).1, (ungray v).2]
    let bits := raw.zipWith (fun a b => a != b) key
    some ((List.range 16).map fun i => BitVec.ofNat 8 (numOf ((bits.drop (8 * i)).take 8)), scr1)
  else none

/-- The bytes of the blocks of a tail (R96). -/
def unblocksFrom (scr : Nat) : Nat → List Int → Option (List Byte)
  | 0, _ => some []
  | n + 1, l =>
    match unblock (n = 0) scr (l.take 66) with
    | none => none
    | some (bytes, scr1) => (unblocksFrom scr1 n (l.drop 66)).map (bytes ++ ·)

/-- At least 28 of the 32 END symbols have the sign they should have (R98). -/
def endGood (l : List Int) : Bool :=
  decide (28 ≤ (l.zipWith (fun a b => decide (0 < a * b)) tailEndSymbols).countP id)

/-- A tail's payload as a full-band receiver that kept its lock finds it in the symbols from TRN symbol 0 on; none when a
check of R98 fails. The rows TAIL_END and LOSS_OF_LOCK give what this comes to: `intact` stands for the header and END checks,
LOSS_OF_LOCK for the lock, and TCRC is compared there. -/
def tailPayload (len : Nat) (sym : List Int) : Option (List Byte) :=
  let b := tailBlocks len
  match unblocksFrom 0x7FFFFFFF b (sym.drop 512) with
  | none => none
  | some bytes =>
    let payload := bytes.take (4 * (len + 1))
    if endGood ((sym.drop (512 + 66 * b)).take 32) && (bytes.drop (4 * (len + 1))).take 4 == bytesOf (tcrc payload)
    then some payload else none

/-! ### What follows the head, and how long a frame takes (R82, R87, R91, R99-R103) -/

/-- The fields of a frame after its head. -/
inductive FrameField
  | data | lcrc
  /-- Two recessive bits; a dominant one is a form error (R92). -/
  | bsw
  /-- The tail window with the next-up head that may outlast it (R100, R101). -/
  | window
  | ackSlot | ackDelimiter | eof | intermission
  deriving DecidableEq, Repr

/-- The fields that follow a head of each kind, with their lengths in A-band bits before stuffing, `next` bits of a next-up
head (0: none) running from the first bit of the window. -/
def frameFields (k : FKind) (len rung nq next : Nat) : List (FrameField × Nat) :=
  match k with
  | .comet => [(.bsw, 2), (.window, max (tailWindow len rung nq) next), (.ackSlot, 1), (.ackDelimiter, 1), (.eof, 3),
      (.intermission, 2)]
  | .low | .sync => [(.data, 8 * len), (.lcrc, 17), (.ackSlot, 1), (.ackDelimiter, 1), (.eof, 7), (.intermission, 3)]

/-- A-band bits of some fields. -/
def fieldBits (l : List (FrameField × Nat)) : Nat := (l.map Prod.snd).foldl (· + ·) 0

/-- A-band bits from the end of the head to the ACK slot, without stuff bits (R101). -/
def ackAfter (k : FKind) (len rung nq next : Nat) : Nat :=
  fieldBits ((frameFields k len rung nq next).takeWhile fun f => f.1 != .ackSlot)

/-- Length of a LOW or SYNC frame without stuff bits, its intermission with it: 84 + 8 N or 102 + 8 N (R87, R103). -/
def lowLength (long : Bool) (n : Nat) : Nat := headLength long + fieldBits (frameFields .low n 0 0 0)

/-- What a COMET frame adds on the A-band after its head, next-up head included: 2 + max(W, H_next) + 7 bits (R103). -/
def cometAdds (len rung nq next : Nat) : Nat := fieldBits (frameFields .comet len rung nq next)

/-- Bits a frame occupies as it is sent, its stuff bits and its intermission with it; H + 2 + W + 7 for a COMET frame with no
next-up head (R103). -/
def occupancy (h : Head) (data : List Byte) (nq : Nat) : Nat :=
  if h.kind = .comet then (stuff (headBits h)).length + cometAdds h.len.toNat h.rung.val nq 0
  else (stuff (lowBits h data)).length + fieldBits ((frameFields h.kind h.len.toNat 0 nq 0).drop 2)

end Sys2Proof.Machine
end

