-- ==== Sys2Proof/Machine/Bus.lean ====
section
/-!
DEFINITION. The bus as a port sees it (R109-R171): candidates, arbitration, heads, tails, commits, errors and confinement,
ends of frames, rate detection, and wake frames.
-/
set_option Elab.async false

namespace Sys2Proof.Machine

/-! ### What a port may do now -/

/-- The port runs: its cluster is in service and the main domain is powered. -/
def State.portRuns (s : State) (n : Nat) : Bool := !s.down && !s.fencedCl (n / 16)

/-- The port takes part in the bus as a sender and receiver, or as a receiver that is not counted (R154, R166). -/
def State.onBus (s : State) (n : Nat) : Bool :=
  s.portRuns n && !(s.port n).reint && (s.estate n == 2 || s.estate n == 3 || s.estate n == 6)

/-- The port offers frames now: its mode, the device mode (R548), no disable in progress (R161), no PATTERN scan (R202). -/
def State.offers (s : State) (n : Nat) : Bool :=
  let m := s.pmode n
  s.onBus n && (s.port n).move.isNone &&
  (match (s.port n).eye with | some (_, tails, _, _, _) => tails | none => true) &&
  ((m == 2 && (s.mode == .run || s.mode == .degraded)) || ((m == 5 || m == 6) && s.mode == .test))

/-- The raster frame, or 20 ms step, in which ALONE may not offer again (R153). -/
def State.aloneHolds (s : State) (n : Nat) : Bool :=
  s.flag (portPg n) PORT_ESTATE_ALONE && (s.port n).aloneAt == some s.frameTicks

/-! ### Candidates (R126, R133, R189, R260, R331) -/

/-- The rank of the SYNC frame in a port's slot: after objects and forwards of equal key and age (R331). -/
def State.syncRank (s : State) (n : Nat) (y : SyncSlot) : List Nat :=
  [arbKey y.id y.long (s.rd (portPg n) PORT_SND_SND), y.elig, 2, 0, 0]

/-- The SYNC frame that the port may offer (R331, R133). -/
def State.syncReady (s : State) (n : Nat) : Option SyncSlot :=
  match (s.port n).sync with
  | some y => if y.won || (s.eclipseOpen n && !s.isControl n .sync y.id y.long) then none else some y
  | none => none

/-- The candidate that ranks first (R126). -/
def State.bestCand (s : State) (n : Nat) : Option Cand :=
  match s.topJob n, s.syncReady n with
  | none, none => none
  | some (uid, _), none => some (.job uid)
  | none, some _ => some .sync
  | some (uid, j), some y => if rankLt (s.syncRank n y) (s.rankOf n j) then some .sync else some (.job uid)

/-- CANDIDATE_FIX (R126): a candidate fixed before lapses; the one that ranks first is offered, its rung fixed (R189). -/
def State.candidateFix (s : State) (n : Nat) (nextUp : Bool) : State :=
  let s1 := s.lapse n
  let place := if nextUp then
      (match (s1.port n).cur with | some f => f.head.kind == .comet && !f.failed | none => false) && (s1.port n).nxt.isNone
    else true
  if !s1.offers n || s1.aloneHolds n || !place then s1
  else
    match s1.bestCand n with
    | none => s1
    | some c =>
      let rung := match c with
        | .job uid => (match s1.job? uid with
          | some j => min j.rung (s1.rd (phyPg n) PHY_RUNG_CEIL)
          | none => 0)
        | .sync => 0
      let s2 := s1.modPort n fun x => { x with cand := some c, candNext := nextUp, candRung := rung }
      match c with
      | .job uid => s2.modJobPort uid n fun x => { x with stage := .offered }
      | .sync => s2

/-! ### Sending -/

/-- The data of a SYNC frame whose SOF lies `e` into the line of a moment (R332-R334). -/
def State.syncData (s : State) (n : Nat) (y : SyncSlot) (m : Moment) (e : Nat) : List Byte :=
  let flag (b : Bool) (i : Nat) : Nat := if b then 2 ^ i else 0
  let st := m.stamp e
  match y.ann with
  | none => syncBytes st.frame st.line st.sub m.code
      (st.tb * 2 ^ 5 + flag (decide ((s.port n).discSeen < m.discs)) 4 + flag (m.eclipseOpen n) 3)
  | some (f, l, sub, ecl) => syncBytes f l sub m.code (2 ^ 7 + st.tb * 2 ^ 5 + flag ecl 3)

/-- The frame that the port sends with its candidate (R80, R84, R189, R332). -/
def State.ownFrame (s : State) (n : Nat) (c : Cand) (rung : Nat) (m : Moment) (e : Nat) : Option BusFrame :=
  let snd : BitVec 6 := BitVec.ofNat 6 (s.rd (portPg n) PORT_SND_SND)
  let epi := s.estate n == esPassive
  match c with
  | .job uid => (s.job? uid).map fun j =>
      { head := { id := BitVec.ofNat 29 j.id, long := j.long, snd := snd, kind := j.kind, rung := Fin.ofNat 4 rung
                  len := BitVec.ofNat 14 j.len, epi := epi, aud := j.aud }
        own := some c, data := j.data }
  | .sync => (s.port n).sync.map fun y =>
      { head := { id := BitVec.ofNat 29 y.id, long := y.long, snd := snd, kind := .sync, rung := 0, len := 8
                  epi := epi, aud := y.aud }
        own := some c, data := s.syncData n y m e, syncNo := y.elig, discs := m.discs }

/-- An identifier-sharing event (R117). -/
def State.idShare (s : State) (n id : Nat) (long case2 : Bool) (first second : Nat) : State :=
  let p := portPg n
  let s1 := (((s.bump p PORT_IDSHARE_CNT_COUNT).wr p PORT_IDSHARE_ID_ID id).wrB p PORT_IDSHARE_ID_LONG long).wrB
    p PORT_IDSHARE_ID_CASE case2
  ((s1.wr p PORT_IDSHARE_SND_FIRST first).wr p PORT_IDSHARE_SND_SECOND second).irq p (bit 12)

/-- Identifier, length and key of a candidate. -/
def State.candId (s : State) (n : Nat) (c : Cand) : Option (Nat × Bool) :=
  match c with
  | .job uid => (s.job? uid).map fun j => (j.id, j.long)
  | .sync => (s.port n).sync.map fun y => (y.id, y.long)

/-- Which frame a candidate is: a job, or the SYNC frame with its number. -/
def State.frameId (s : State) (n : Nat) (c : Cand) : Cand × Nat :=
  match c with
  | .job _ => (c, 0)
  | .sync => (c, match (s.port n).sync with | some y => y.elig | none => 0)

/-- ARBITRATION_END (R112, R117, R128, R130): the port has lost, in SND to sender `lostIn` or before, or it has won. A candidate
that no control frame is has no SOF in a window that was open at the moment `m`: it is withdrawn (R133, R134). -/
def State.arbitrationEnd (s : State) (n : Nat) (won : Bool) (lostIn : Option (BitVec 6)) (m : Moment) (e : Nat) : State :=
  let x := s.port n
  let p := portPg n
  match x.cand with
  | none => s
  | some c =>
    if !s.onBus n || (if x.candNext then x.nxt.isSome || x.cur.isNone else x.cur.isSome) then s
    else if m.eclipseOpen n && !s.candControl n then s.lapse n
    else
      let s0 := s.modPort n fun y => { y with cand := none, aloneAt := some s.frameTicks }
      if !won then
        let s1 := ((s0.bump p PORT_ARB_LOST_COUNT).tallyPort n 0x2C).modPort n fun y =>
          { y with lostInSnd := lostIn.map fun _ => s.frameId n c }
        let s2 := match lostIn, s.candId n c with
          | some w, some (id, long) => s1.idShare n id long false w.toNat (s.rd p PORT_SND_SND)
          | _, _ => s1
        s2.returnCand n (some c)
      else
        match s.ownFrame n c x.candRung m e with
        | none => s0
        | some f =>
          let s1 := match c with
            | .job uid => s0.wonArb uid n
            | .sync => s0.modPort n fun y => { y with sync := y.sync.map fun (z : SyncSlot) => { z with won := true } }
          if x.candNext then (s1.modPort n fun y => { y with nxt := some { f with nextUp := true } }).bump p PORT_NU_WON_COUNT
          else s1.modPort n fun y => { y with cur := some f, heard := true }

/-! ### Confinement (R148-R153) -/

/-- Bus-off (R151): everything offered or won is pending again; with AUTO the recovery starts (R152). -/
def State.busOff (s : State) (n : Nat) : State :=
  let p := portPg n
  let s1 := ((s.dropFrames n).wr p PORT_ESTATE_ALONE 0).wr p PORT_ESTATE_ACKRUN 0
  let s2 := (((s1.setEstate n esBusOff).bump p PORT_CNT_BUSOFF_COUNT).tallyPort n 0x28).irq p 8
  let s3 := s2.err p 0
  if s3.flag p PORT_ERRCFG_AUTO then (s3.wr p PORT_RECOV_SEQ 0).setEstate n esRecovering else s3

/-- The state follows the counters (R150). -/
def State.evalState (s : State) (n : Nat) : State :=
  let p := portPg n
  let tec := s.rd p PORT_ECNT_TEC
  let passive := decide (128 ≤ tec) || decide (128 ≤ s.rd p PORT_ECNT_REC)
  if s.estate n = esActive || s.estate n = esPassive then
    if tec = 256 then s.busOff n else s.setEstate n (if passive then esPassive else esActive)
  else s

/-- The counters of a port in NORMAL or a loop mode move by what an error adds (R149): `tx` as transmitter, `stay` for the
unanswered ACK error of a passive node. TEC is frozen in ALONE (R153). -/
def State.countError (s : State) (n : Nat) (tx stay first : Bool) (runs : Nat) : State :=
  let p := portPg n
  let tec := s.rd p PORT_ECNT_TEC
  let rec_ := s.rd p PORT_ECNT_REC
  if tx then
    if s.flag p PORT_ESTATE_ALONE then s
    else s.setCounters n (min 256 (tec + (if stay then 0 else 8) + 8 * runs)) rec_
  else s.setCounters n tec (min 511 (rec_ + (if first then 8 else 1) + 8 * runs))

/-- The ACK errors in a row, and entry to ALONE at the 16th, once TEC has moved (R153). -/
def State.ackRun (s : State) (n : Nat) (ack : Bool) : State :=
  let p := portPg n
  if !ack then s.wr p PORT_ESTATE_ACKRUN 0
  else
    let run := min 16 (s.rd p PORT_ESTATE_ACKRUN + 1)
    let s1 := s.wr p PORT_ESTATE_ACKRUN run
    if run = 16 && s.rd p PORT_ECNT_TEC != 256 && !s.flag p PORT_ESTATE_ALONE then
      (((s1.wr p PORT_ESTATE_ALONE 1).modPort n fun x => { x with aloneAt := some s.frameTicks }).irq p (bit 5)).err p 2
    else s1

/-- The counter register, LEC and telemetry of an error (R142, R168, R397). An eclipse violation is a form error (R136). -/
def State.logError (s : State) (n : Nat) (e : BusErr) : State :=
  let p := portPg n
  let s1 := match e with
    | .bit => s.bump p PORT_CNT_BIT_COUNT
    | .stuff => s.bump p PORT_CNT_STUFF_COUNT
    | .form => s.bump p PORT_CNT_FORM_COUNT
    | .ack => s.bump p PORT_CNT_ACK_COUNT
    | .hcrc => s.bump p PORT_CNT_HCRC_COUNT
    | .lcrc => s.bump p PORT_CNT_LCRC_COUNT
    | .tail => s.bump p PORT_CNT_TAIL_COUNT
    | .eclipse => ((s.bump p PORT_CNT_FORM_COUNT).bump p PORT_ECL_VIOL_COUNT).irq p (bit 14)
  let lec := match e with
    | .bit => 1 | .stuff => 2 | .form => 3 | .ack => 4 | .hcrc => 5 | .lcrc => 6 | .tail => 7 | .eclipse => 8
  (s1.wr p PORT_ESTATE_LEC lec).tallyPort n (if e = .tail then 0x24 else 0x20)

/-! ### Ends of frames -/

/-- A frame that the port sent has failed (R262): a failed attempt of its object, or the SYNC frame is pending again. -/
def State.ownFailed (s : State) (n : Nat) (c : Option Cand) : State :=
  match c with
  | some (.job uid) => s.failAttempt uid n
  | some .sync => s.syncBack n
  | none => s

/-- A frame in progress has failed for the port: its claim is undone unless it was committed. -/
def State.frameFailed (s : State) (n : Nat) (f : BusFrame) : State :=
  (if f.committed then s else s.undoClaim n f.claim).ownFailed n f.own

/-- A next-up result ends with the frame before it (R122, R124): failed in its own head, or void. -/
def State.nextEnds (s : State) (n : Nat) (ownHead : Bool) : State :=
  match (s.port n).nxt with
  | none => s
  | some f =>
    let s1 := if f.committed then s else s.undoClaim n f.claim
    if f.own.isNone then s1
    else if ownHead then s1.ownFailed n f.own
    else (s1.bump (portPg n) PORT_NU_VOID_COUNT).returnCand n f.own

/-- The standard rate that suits a shortest dominant pulse of `t` quanta (R157): its index. -/
def rateFor (t : Nat) : Option Nat :=
  (List.range 6).find? fun i =>
    let b := (stdRates.getD i (0, 0)).1
    decide (4 * b ≤ 5 * t) && decide (4 * t ≤ 5 * b)

/-- LISTEN selects a standard rate: its recommended timing is loaded (R157). -/
def State.listenTry (s : State) (n i : Nat) : State :=
  let p := portPg n
  let (nq, abt) := stdRates.getD i (0, 0)
  (((s.modPort n fun x => { x with listenRate := true }).wr p PORT_LISTEN_RATE i).wr p PORT_ABT_ACT_VALUE abt).wr
    p PORT_BITLEN_NQ nq

/-- An error before a first intact head: which rate the port was trying, if it had measured one, no row tells (log 65). -/
def State.listenGuess (s : State) (n : Nat) : State :=
  if (s.port n).listenRate then s
  else
    let (k, s1) := s.drawOpen 3
    if k < 6 then s1.listenTry n k else s1

/-- LISTEN: detection restarts at step 1 (R157), and fails at the eighth restart. -/
def State.listenFail (s : State) (n : Nat) : State :=
  let p := portPg n
  ((s.wr p PORT_LISTEN_RESULT 3).irq p (bit 7)).setEstate n esNone
def State.listenRestart (s : State) (n : Nat) : State :=
  let p := portPg n
  let r := s.rd p PORT_LISTEN_RESTARTS + 1
  let s1 := (s.wr p PORT_LISTEN_RESTARTS r).modPort n fun x => { x with listenHeads := 0, listenRate := false }
  if 8 ≤ r then s1.listenFail n else s1

/-- The frames of a port end in error for everyone (R121, R122). -/
def State.framesEnd (s : State) (n : Nat) (inNextUp ownHead ownArb : Bool) : State :=
  let x := s.port n
  let s1 := match x.cur with
    | some f => s.frameFailed n f
    | none => s
  let s2 := s1.nextEnds n ownHead
  let s3 := if ownArb && x.candNext == inNextUp then
      (s2.modPort n fun y => { y with cand := none }).ownFailed n x.cand
    else s2.lapse n
  s3.modPort n fun y => { y with cur := none, nxt := none, lostInSnd := none }

/-- The current frame fails for this port alone (R123, R145): it follows the bus, or, having lost its place, integrates. A bit
error in the port's own arbitration field is a failed attempt (R262). -/
def State.frameMissed (s : State) (n : Nat) (late inNextUp ownHead ownArb : Bool) : State :=
  let x := s.port n
  let s1 := match x.cur with
    | some f => (s.frameFailed n f).modPort n fun y =>
        { y with cur := some { f with failed := true, own := none, claim := {} } }
    | none => s
  if late && !inNextUp then s1
  else
    let s2 := s1.nextEnds n ownHead
    let s3 := if ownArb then (s2.modPort n fun y => { y with cand := none }).ownFailed n x.cand else s2.lapse n
    s3.modPort n fun y => { y with cur := none, nxt := none, reint := true, lostInSnd := none }

/-- The passive flag of an error begins at or after the ACK delimiter of the current frame (R145): always for the errors that are
flagged there, else when the frame has passed its ACK delimiter. A bit or form error of a frame that has not may lie in the
delimiter itself: which, no row tells (log 46). -/
def State.flagsLate (s : State) (n : Nat) (e : BusErr) (inNextUp : Bool) : Bool × State :=
  match (s.port n).cur with
  | none => (false, s)
  | some f =>
    if inNextUp then (false, s)
    else if e == .lcrc || e == .tail || e == .ack || f.committed then (true, s)
    else if e == .bit || e == .form then
      let (b, s1) := s.drawOpen 1
      (b == 1, s1)
    else (false, s)

/-- BUS_ERROR (R142-R153): `inNextUp`, the first error flag lies in a next-up head; `first`, the port was the first to flag;
`runs` of dominant bits of R149; `overloads` sent; `dominant`, a dominant bit was read during a passive flag. -/
def State.busError (s : State) (n : Nat) (e : BusErr) (inNextUp first : Bool) (runs overloads : Nat) (dominant : Bool) :
    State :=
  let p := portPg n
  let x := s.port n
  let tail := match x.cur with
    | some f => f.recv && !f.failed
    | none => false
  if s.portRuns n && s.estate n == esDetecting then ((s.logError n e).listenGuess n).listenRestart n
  -- a port flags no tail that it does not receive (R102)
  else if !s.onBus n || (e == .tail && !tail) then s
  else
    let counts := offersMode (s.pmode n)
    let passive := s.estate n == esPassive || !counts
    -- a bit error of a contender lies in the frame it is offering (R115)
    let ownArb := e == .bit && x.cand.isSome &&
      (if x.candNext then inNextUp && x.nxt.isNone else !inNextUp && x.cur.isNone)
    let ownHead := inNextUp && (ownArb || (match x.nxt with | some f => f.own.isSome | none => false))
    let ownCur := ownArb || (match x.cur with | some f => f.own.isSome | none => false)
    let tx := if inNextUp then ownHead else ownCur
    let s1 := ((s.coldCut n).logError n e).bump p PORT_CNT_OVLD_COUNT overloads
    let s2 := if counts then
        (s1.countError n tx (e == .ack && passive && !dominant) first runs).ackRun n (tx && e == .ack)
      else s1
    let s3 := if !passive || dominant then s2.framesEnd n inNextUp ownHead ownArb
      else
        let (late, s3) := s2.flagsLate n e inNextUp
        s3.frameMissed n late inNextUp ownHead ownArb
    if counts then s3.evalState n else s3

/-! ### Heads (R117, R118, R136, R157, R213-R223) -/

/-- A head of a frame that is not a control frame, whose SOF lies at moment `m` in an enforced open window (R134, R136). -/
def State.violates (s : State) (n : Nat) (h : Head) (m : Moment) : Bool :=
  s.flag (portPg n) PORT_ECL_ENFORCE && m.eclipseOpen n && !s.isControl n h.kind h.id.toNat h.long

/-- An intact head while LISTEN detects the rate (R157). DESIGN CHOICE, unsafe: the second intact head, at which detection ends, is
not itself received (log 47). -/
def State.listenHead (s : State) (n pulse : Nat) : State :=
  let p := portPg n
  let step (s : State) : State :=
    let s1 := s.modPort n fun x => { x with listenHeads := x.listenHeads + 1 }
    if 2 ≤ (s1.port n).listenHeads then
      (((s1.wr p PORT_LISTEN_RESULT 2).irq p (bit 7)).setEstate n esReceiving).windowSync n
    else s1
  if (s.port n).listenRate then step s
  else match rateFor pulse with
    | none => s.listenRestart n
    | some i => step (s.listenTry n i)

/-- A received head: the frame with its claim, and whether the port receives its tail, and from a valid entry (R193). -/
def State.receive (s : State) (n : Nat) (f : BusFrame) (st : Stamp) (hit : List Nat) : BusFrame × State :=
  let h := f.head
  let (k, s1) := s.claimHead n h st hit
  ({ f with
     claim := k, cold := s.startsCold n h
     recv := h.kind == .comet && (s1.rd (phyPg n) PHY_RUNG_RX_EN).testBit h.rung.val }, s1)

/-- HEAD_RECEIVED (R216): an intact head on the port. -/
def State.headReceived (s : State) (n : Nat) (h : Head) (nextUp : Bool) (m : Moment) (e pulse : Nat) (hit : List Nat) :
    State :=
  let p := portPg n
  let st := m.stamp e
  if s.portRuns n && s.estate n == esDetecting then s.listenHead n pulse
  else if !s.onBus n || !headValid h then s
  else
    let x := s.port n
    let slot := if nextUp then x.nxt else x.cur
    let put (f : BusFrame) (s : State) : State :=
      s.modPort n fun y => if nextUp then { y with nxt := some f, heard := true } else { y with cur := some f, heard := true }
    match slot with
    | some f =>
      -- a loop mode receives its own frames (R158)
      if (s.pmode n == pmLoopInt || s.pmode n == pmLoopExt) && f.own.isSome && f.claim.uid == 0 then
        let (g, s1) := s.receive n f st hit
        put g s1
      else s
    | none =>
      if s.pmode n == pmLoopInt then s
      else if nextUp && (match x.cur with | some f => f.head.kind != .comet | none => true) then s
      else
        let s1 := s.lapse n
        let s2 := if h.snd.toNat = s1.rd p PORT_SND_SND then (s1.bump p PORT_SNDCLASH_COUNT).irq p (bit 13) else s1
        if s2.violates n h m then s2.busError n .eclipse nextUp true 0 0 false
        else
          let (f, s3) := s2.receive n { head := h, own := none, nextUp := nextUp, case1 := x.lostInSnd } st hit
          put f (s3.modPort n fun y => { y with lostInSnd := none })

/-! ### Tails, commit, end -/

/-- Change the current frame. -/
def State.modCur (s : State) (n : Nat) (f : BusFrame → BusFrame) : State :=
  s.modPort n fun x => { x with cur := x.cur.map f }

/-- A tail that the port sends or receives adds to its occupancy (R426): its symbols (R99) take 2^(3 - g) symbol times of rung 3. -/
def State.occupy (s : State) (n : Nat) (f : BusFrame) : State :=
  let g := f.head.rung.val
  if f.own.isSome || f.recv then
    s.modPort n fun x =>
      { x with tailTime := mapSet 0 x.tailTime g (mapGet 0 x.tailTime g + tailLength f.head.len.toNat * 2 ^ (3 - g)) }
  else s

/-- The tail of an own frame ends: where its object was lost, an inverted TCRC has gone out (R263). -/
def State.ownTail (s : State) (n : Nat) (c : Cand) : State :=
  match c with
  | .job uid => match (s.job? uid).bind (·.on n) with
    | some x => if x.doom = some .dataLost then s.err (portPg n) 6 else s
    | none => s
  | .sync => s

/-- TAIL_END (R98, R193): the last END symbol passes. A port that receives the rung checks the tail (`tailPayload`); the payload has
entered the claim's block (R216). -/
def State.tailEnd (s : State) (n : Nat) (payload : List Byte) (crc : Nat) (intact : Bool) (c : Option TailCoef) : State :=
  match (s.port n).cur with
  | none => s
  | some f =>
    if !s.onBus n || f.head.kind != .comet || f.tailOver then s
    else
      let s1 := ((s.countCold n).occupy n f).modCur n fun f => { f with tailOver := true }
      let s2 := match f.own with
        | some c => s1.ownTail n c
        | none => s1
      if !f.recv || f.failed then s2
      else
        let ok := intact && !f.lockLost && payload.length == payloadBytes .comet f.head.len.toNat && crc == tcrc payload
        (((s2.fillBlock f.claim payload).modCur n fun f =>
          { f with data := payload, tailOk := ok, claim := { f.claim with tcrc := crc } }).contribute n f.head ok c)

/-- LOSS_OF_LOCK (R192). -/
def State.lossOfLock (s : State) (n : Nat) : State :=
  match (s.port n).cur with
  | none => s
  | some f =>
    if !s.onBus n || f.head.kind != .comet || !f.recv || f.tailOver then s
    else (((s.countCold n).modCur n fun f => { f with lockLost := true }).bump (phyPg n) PHY_CNT_LOCKLOSS_COUNT).tallyPort n 0x38

/-- What the port does in the ACK slot of a frame that it has received without error up to there (R94, R101, R102, R154, R158,
R216, R217, R222): in LISTEN nothing; its own frames it acknowledges in the loop modes only, and there always (DEDUCED, log
70); a tail that it does not receive it does not acknowledge; with AUD it acknowledges only what it has claimed. -/
def State.drivesAck (s : State) (n : Nat) (f : BusFrame) : Bool :=
  s.pmode n != pmListen && !f.failed && (f.head.kind != .comet || (f.recv && f.tailOk)) &&
  if f.own.isSome then s.pmode n == pmLoopInt || s.pmode n == pmLoopExt
  else !f.head.aud || f.claim.verdict == .claimed

/-- FRAME_COMMIT (R219): the ACK delimiter without error. A receiver's REC falls by 1 (R149). A frame that the port itself has sent
was acknowledged: ALONE clears (R153, R166). -/
def State.frameCommit (s : State) (n : Nat) (data : List Byte) : State :=
  match (s.port n).cur with
  | none => s
  | some f =>
    let comet := f.head.kind == .comet
    let mine := f.own.isSome
    let loop := s.pmode n == pmLoopInt || s.pmode n == pmLoopExt
    let whole := (mine && !loop) || (if comet then !f.recv || f.tailOk else data.length == f.head.len.toNat)
    if !s.onBus n || f.failed || f.committed || !whole then s
    else
      let s0 := s.emit (.ackSlot n (s.drivesAck n f))
      let s1 := (if mine && !loop then s0 else s0.commit n f (if comet then f.data else data)).modCur n fun f =>
        { f with committed := true }
      if mine then (s1.wr (portPg n) PORT_ESTATE_ALONE 0).wr (portPg n) PORT_ESTATE_ACKRUN 0
      else
      if offersMode (s.pmode n) && !mine then
        (s1.setCounters n (s1.rd (portPg n) PORT_ECNT_TEC) (s1.rd (portPg n) PORT_ECNT_REC - 1)).evalState n
      else s1

/-- A frame that the port sent ended without error: SENT, TEC - 1, and ALONE clears (R149, R153, R262, R331, R333). -/
def State.ownEnded (s : State) (n : Nat) (f : BusFrame) : State :=
  let p := portPg n
  let s1 := (s.wr p PORT_ESTATE_ALONE 0).wr p PORT_ESTATE_ACKRUN 0
  let s2 := (s1.setCounters n (s1.rd p PORT_ECNT_TEC - 1) (s1.rd p PORT_ECNT_REC)).evalState n
  match f.own with
  | some (.job uid) => s2.sentOk uid n
  | some .sync =>
    let flags := (f.data.getD 7 0).toNat
    let s3 := if flags.testBit 7 then s2 else s2.modPort n fun x => { x with discSeen := max x.discSeen f.discs }
    s3.syncSent n
  | none => s2

/-- Which own frame it is. -/
def BusFrame.ownId (f : BusFrame) : Option (Cand × Nat) := f.own.map fun c => (c, f.syncNo)

/-- The identifier-sharing event of case 2, and the frame as the latest that ended without error (R117). -/
def State.noteGood (s : State) (n : Nat) (f : BusFrame) : State :=
  let h := f.head
  let s1 := match (s.port n).prevGood with
    | some (id, long, snd, case1) =>
      if id = h.id.toNat && long = h.long && snd != h.snd.toNat && !(case1.isSome && case1 == f.ownId) then
        s.idShare n id long true snd h.snd.toNat
      else s
    | none => s
  s1.modPort n fun x => { x with prevGood := some (h.id.toNat, h.long, h.snd.toNat, f.case1) }

/-- A change from RESTRICTED or LISTEN to NORMAL takes effect where the bus pauses (R164). -/
def State.settleDirect (s : State) (n : Nat) : State :=
  match (s.port n).move with
  | some (.direct _) =>
    let s1 := ((s.dropSlot n pmNormal).setMode n pmNormal).setCounters n 0 0
    (if s1.estate n = esIntegrating then s1 else s1.setEstate n esActive).endMove n stOk
  | _ => s

/-- FRAME_END (R262): the last intermission bit of a frame that ended without error; a next-up frame continues (R101). -/
def State.frameEnd (s : State) (n : Nat) : State :=
  match (s.port n).cur with
  | none => s
  | some f =>
    if !s.onBus n then s
    else
      let good := !f.failed && (f.own.isSome || f.committed || (f.head.kind == .comet && !f.recv))
      let s1 := if f.failed then s
        else if f.own.isSome then s.ownEnded n f
        else if f.committed then s else s.undoClaim n f.claim
      let s2 := if good then s1.noteGood n f else s1
      let nx := (s2.port n).nxt
      s2.modPort n fun x => { x with cur := nx, nxt := none }

/-- INTEGRATION_DONE (R105, R156, R166). -/
def State.integrationDone (s : State) (n : Nat) : State :=
  if !s.portRuns n then s
  else
    let s1 := s.modPort n fun x => { x with reint := false }
    if s1.estate n = esIntegrating then
      (s1.setEstate n (if s1.pmode n = pmRestricted then esReceiving else esActive)).evalState n
    else s1

/-- BUS_OFF_RECOVERY_DONE (R152). -/
def State.recoveryDone (s : State) (n : Nat) : State :=
  let p := portPg n
  if !s.portRuns n || s.estate n != esRecovering then s
  else
    (((s.setCounters n 0 0).setEstate n esIntegrating).wr p PORT_RECOV_SEQ (s.recoverySeq n)).irq p (bit 4)

/-! ### Wake (R90, R159, R160, R167) -/

/-- A data mask selects the bytes up to the highest with a non-zero mask: how many (R168). -/
def maskBytes (m : List Nat) : Nat :=
  ((List.range 8).foldl (fun a i => if bits (m.getD (i / 4) 0) (8 * (i % 4)) 8 != 0 then i + 1 else a) 0)

/-- A frame meets R90 under wake registers as `State.wakeRegs` lists them. -/
def wakeMatches (r : List Nat) (h : Head) (data : List Byte) : Bool :=
  let g (i : Nat) : Nat := r.getD i 0
  let id := if h.long then h.id.toNat else h.id.toNat * 2 ^ 18
  let byte (w i : Nat) : Nat := bits (g (w + i / 4)) (8 * (i % 4)) 8
  h.kind == .low && headValid h && data.length == h.len.toNat &&
  (id ^^^ g 1) &&& g 3 == 0 && ((if h.long then 1 else 0) ^^^ g 2) &&& g 4 == 0 &&
  decide (maskBytes [g 7, g 8] ≤ h.len.toNat) &&
  (List.range 8).all fun i => ((data.getD i 0).toNat ^^^ byte 5 i) &&& byte 7 i == 0

/-- The device mode limits sleeping ports to wake frames (R159). -/
def State.frameOnly (s : State) : Bool := s.mode == .test || s.mode == .degraded

/-- What the detector of a port sees is a wake condition under registers `r`. -/
def State.isWake (s : State) (r : List Nat) (w : WakeSeen) : Bool :=
  match w with
  | .edge => r.getD 0 0 == 1 && !s.frameOnly
  | .frame h d => wakeMatches r h d

/-- PORT_WAKE_SEEN and WAKE (R160, R168). -/
def State.noteWake (s : State) (n : Nat) (w : WakeSeen) : State :=
  let p := portPg n
  let (id, long, edge) := match w with
    | .edge => (0, false, true)
    | .frame h _ => (if h.long then h.id.toNat else h.id.toNat * 2 ^ 18, h.long, false)
  ((((s.wr p PORT_WAKE_SEEN_ID id).wrB p PORT_WAKE_SEEN_LONG long).wrB p PORT_WAKE_SEEN_EDGE edge).wr
    p PORT_WAKE_SEEN_VALID 1).irq p (bit 6)

/-- SET_PMODE accepts a target in the current device mode (R155). -/
def State.targetOk (s : State) (t : Nat) : Bool :=
  match s.mode with
  | .configure => t == 0 || t == 1 || t == 4 || t == 7
  | .run | .degraded => t == 0 || t == 1 || t == 2 || t == 3 || t == 4 || t == 7
  | .test => t == 0 || t == 1 || t == 4 || t == 5 || t == 6 || t == 7
  | _ => false

/-- A change from mode `m` to mode `t` loads PORT_ABT, and its N_q is out of range (R108). -/
def State.badTiming (s : State) (n m t : Nat) : Bool :=
  (t == 2 || t == 3 || t == 5 || t == 6 || (t == 7 && decide (m < 2))) && !s.abtOk n

/-- A port that had stopped driving before its sleep was aborted integrates anew before it takes part again (R167). -/
def State.rejoin (s : State) (n : Nat) : State :=
  let e := s.estate n
  if e = esActive ∨ e = esPassive ∨ e = esReceiving then s.modPort n fun x => { x with reint := true } else s

/-- A sleep that has not been entered is aborted: the port stays in the mode it is in (R167). A power-up calibration for it is
given up with it (log 72). -/
def State.abortSleep (s : State) (n : Nat) : State :=
  let x := s.port n
  let s1 := if x.cur.isNone && x.nxt.isNone && x.cand.isNone then s.rejoin n else s
  let s2 := match x.move with
    | some (.calibrate _ _) => s1.wr (phyPg n) PHY_CAL_RUNNING 0
    | _ => s1
  s2.endMove n 0x81

/-- PORT_WAKE_CONDITION: a sleeping port wakes (R160), or a sleep that has not been entered is aborted (R167). A port that would
have to load a PORT_ABT out of range stays in SLEEP with the wake recorded (R108, log 73). -/
def State.portWake (s : State) (n : Nat) (w : WakeSeen) : State :=
  let x := s.port n
  if !s.portRuns n then s
  else if s.pmode n = pmSleep then
    if !s.isWake x.sleepCopy w then s
    else
      let after := if s.targetOk (x.sleepCopy.getD 9 0) then x.sleepCopy.getD 9 0 else pmConfig
      let s1 := s.noteWake n w
      if s.badTiming n pmSleep after then s1 else s1.enterMode n after
  else
    let target := match x.move with
      | some (.drain t _) => some t
      | some (.calibrate t _) => some t
      | some (.hold t _) => some t
      | _ => none
    if target = some pmSleep && s.isWake (s.wakeRegs n) w then (s.noteWake n w).abortSleep n else s

end Sys2Proof.Machine
end

