-- ==== Sys2Proof/Machine/Modes.lean ====
section
/-!
DEFINITION. Changes of the port modes (R155-R167) and of the device mode (R24, R25, R62, R165, R417, R419, R548), and power-up
calibration, which some of them wait for (R200, R201).
-/
set_option Elab.async false

namespace Sys2Proof.Machine

/-! ### The change of a port's mode -/

/-- A port begins a change that does not end at once. -/
def State.beginMove (s : State) (n : Nat) (mv : PortMove) : State :=
  (s.modPort n fun x => { x with move := some mv }).wr (portPg n) PORT_MODE_MOVING 1

/-- Nothing is in progress on the port's bus as far as it takes part. -/
def PortState.quiet (x : PortState) : Bool := x.cur.isNone && x.nxt.isNone && x.cand.isNone

/-- No port leaves CONFIG or OFF while the core PLL free-runs (R412). -/
def State.freeRuns (s : State) : Bool := s.flag crpPg CRP_CLK_FREERUN

/-- A change of mode ends: with a command, the PORT page reports it (R161). -/
def State.changed (s : State) (n status : Nat) (cmd : Bool) : State :=
  let s1 := (s.modPort n fun x => { x with move := none }).wr (portPg n) PORT_MODE_MOVING 0
  if cmd then s1.cmdEnd (portPg n) status (s1.pmode n) else s1

/-- A port in OFF, CONFIG or SLEEP goes to mode `t` (R108, R154, R161, R200, R412). -/
def State.leaveRest (s : State) (n t : Nat) (cmd : Bool) : State :=
  let m := s.pmode n
  if m = t then s.changed n stOk cmd
  else if s.badTiming n m t then s.changed n stBadArg cmd
  else if m = pmOff then (s.beginMove n (.calibrate t cmd)).wr (phyPg n) PHY_CAL_RUNNING 1
  else if m = pmConfig && t != pmOff && s.freeRuns then s.beginMove n (.hold t cmd)
  else (s.enterMode n t).changed n stOk cmd

/-- A port that has stopped and drained takes mode `t`: a bus mode it reaches through CONFIG (R161, R164). -/
def State.stopped (s : State) (n t status : Nat) (cmd : Bool) : State :=
  let s1 := (s.lapse n).dropFrames n
  if busMode t then
    let s2 := s1.enterMode n pmConfig
    if status = stOk then s2.leaveRest n t cmd
    else if s2.badTiming n pmConfig t then s2.changed n stBadArg cmd
    else (s2.enterMode n t).changed n status cmd
  else (s1.enterMode n t).changed n status cmd

/-- A port in a mode that takes part in the bus changes to mode `t` (R161, R164). -/
def State.leaveBus (s : State) (n t : Nat) (cmd : Bool) : State :=
  let m := s.pmode n
  let x := s.port n
  let found := s.rd (portPg n) PORT_LISTEN_RESULT == 2
  if m = t then
    if m = pmListen && s.rd (portPg n) PORT_LISTEN_RESULT == 3 then (s.enterMode n t).changed n stOk cmd
    else s.changed n stOk cmd
  else if t = pmNormal && (m = pmRestricted || (m = pmListen && found)) then
    let s1 := s.beginMove n (.direct cmd)
    if x.quiet && !x.reint then s1.settleDirect n else s1
  else if s.badTiming n pmConfig t && t != pmSleep then s.changed n stBadArg cmd
  else
    let silent := (s.mode == .configure || s.mode == .test) && (m == pmListen || m == pmLoopInt) && t != pmLoopExt
    if silent && x.quiet then s.stopped n t stOk cmd else s.beginMove n (.drain t cmd)

/-- A port changes to mode `t`, by command or by a device transition. -/
def State.goMode (s : State) (n t : Nat) (cmd : Bool) : State :=
  if busMode (s.pmode n) then s.leaveBus n t cmd else s.leaveRest n t cmd

/-- A port's change has ended: a device transition takes it on, or may end itself (R165, R548). -/
def State.afterMove (s : State) (n : Nat) : State :=
  if (s.port n).move.isSome then s
  else match (s.port n).moveNext with
    | some t => ((s.modPort n fun x => { x with moveNext := none }).goMode n t false).moveCheck
    | none => s.moveCheck

/-- The bus pauses for the port: the end of an intermission or of an error delimiter, or an idle bit (R164). -/
def State.busPauses (s : State) (n : Nat) : State :=
  if (s.port n).move.isSome && (s.port n).cur.isNone && !(s.port n).reint then (s.settleDirect n).afterMove n else s

/-- SET_PMODE, accepted (R155, R170). -/
def State.setPmode (s : State) (n : Nat) : State :=
  let t := bits (s.arg0 (portPg n)) 0 4
  if 8 ≤ t then s.cmdEnd (portPg n) stBadArg (s.pmode n) else s.goMode n t true

/-- SET_PMODE may be written now (R155). -/
def State.pmodeOk (s : State) (n : Nat) : Bool :=
  let t := bits (s.arg0 (portPg n)) 0 4
  s.moving.isNone && !s.fencedCl (n / 16) &&
  (s.targetOk t || (decide (8 ≤ t) && s.targetOk pmOff))

/-- RECOVER, accepted (R152, R170); the manual states no DETAIL, so it is a free value (log 8). -/
def State.recover (s : State) (n : Nat) : State :=
  ((s.wr (portPg n) PORT_RECOV_SEQ 0).setEstate n esRecovering).cmdStop (portPg n) stOk

/-- PORT_DRAIN_DONE (R161): the port has no further part in a frame and has drained. -/
def State.drainDone (s : State) (n : Nat) : State :=
  let x := s.port n
  match x.move with
  | some (.drain t cmd) =>
    if !s.portRuns n || s.stalled || x.cur.isSome || x.nxt.isSome then s else (s.stopped n t stOk cmd).afterMove n
  | _ => s

/-- FORCED_STOP (R162). -/
def State.forceStop (s : State) (n : Nat) : State :=
  match (s.port n).move with
  | some (.drain t cmd) => if !s.portRuns n || s.stalled then s else ((s.err (portPg n) 3).stopped n t 0x80 cmd).afterMove n
  | _ => s

/-- A change that waited enters its mode; PORT_ABT is loaded now, and an N_q out of range then ends it (R108). -/
def State.enterWaited (s : State) (n t : Nat) (cmd : Bool) : State :=
  (if s.badTiming n (s.pmode n) t then s.changed n stBadArg cmd else (s.enterMode n t).changed n stOk cmd).afterMove n

/-- POWER_UP_CALIBRATION_DONE (R200, R201): a change out of OFF goes on or fails; CALIBRATE ends. DONE stays 0 in a port that
stays in OFF (R205). -/
def State.calibrated (s : State) (n : Nat) (ok : Bool) (trim : Nat) : State :=
  let p := phyPg n
  if !s.portRuns n || s.stalled || !s.flag p PHY_CAL_RUNNING then s
  else
    let good (s : State) : State := ((s.wr p PHY_CAL_RUNNING 0).wr p PHY_CAL_DONE 1).setTrim n (min trim 100)
    let bad (s : State) : State := (s.wr p PHY_CAL_RUNNING 0).err p 0
    match (s.port n).move with
    | some (.calibrate t cmd) =>
      if s.freeRuns || !(s.rd crpPg CRP_CLK_CL_LOCK).testBit (n / 16) then s
      else if ok then
        let s1 := (good s).enterWaited n t cmd
        if s1.pmode n = pmOff then s1.wr p PHY_CAL_DONE 0 else s1
      else ((bad s).changed n stFault cmd).afterMove n
    | _ =>
      if !s.flag p PAGE_STAT_BUSY then s
      else if ok then (good s).cmdEnd p stOk 0 else (bad s).cmdStop p stFault

/-- The core PLL has locked again: ports that waited leave CONFIG (R412). -/
def State.releaseHolds (s : State) : State :=
  s.each (List.range 128) fun s n =>
    match (s.port n).move with
    | some (.hold t cmd) => s.enterWaited n t cmd
    | _ => s

/-! ### The device mode (R24, R62) -/

/-- A device transition takes a port to mode `t` (R165), after the change that it may be making. -/
def State.devicePort (s : State) (n t : Nat) : State :=
  if s.fencedCl (n / 16) then s
  else if (s.port n).move.isSome then s.modPort n fun x => { x with moveNext := some t }
  else s.goMode n t false

/-- A transition begins that lasts (R548). -/
def State.beginTransition (s : State) (mv : Moving) : State := ({ s with moving := some mv }).wr devPg DEV_MODE_MOVING 1

/-- CONFIGURE to RUN: each port enters PORT_MODE.CFG; one whose CFG is OFF or CONFIG stays (R165). An autonomous start keeps the
DEV page BUSY like a command (R415). -/
def State.startRun (s : State) (auto : Bool) : State :=
  (((if auto then s.wr devPg PAGE_STAT_BUSY 1 else s).beginTransition (.toRun auto)).each (List.range 128) fun s n =>
    let t := s.rd (portPg n) PORT_MODE_CFG
    if t < 2 then s else s.devicePort n t).moveCheck

/-- Every port that is not in OFF or CONFIG goes to CONFIG (R165). -/
def State.allToConfig (s : State) : State :=
  s.each (List.range 128) fun s n =>
    if s.pmode n < 2 && (s.port n).move.isNone then s else s.devicePort n pmConfig

/-- Entry to TEST: every port goes to OFF (R24, R165). -/
def State.enterTest (s : State) : State :=
  (s.each (List.range 128) fun s n =>
    if s.pmode n = pmOff then s.endMove n stAborted
    else ((s.endMove n stAborted).abortCancel n).stopPort n pmOff).enterDeviceMode .test

/-- An armed detector of the Moon domain: wake registers, then PRESC, PH1, PH2, SJW of PORT_ABT (R417). -/
def State.moonCopy (s : State) (n : Nat) : List Nat :=
  let p := portPg n
  (s.wakeRegs n).take 9 ++ [s.rd p PORT_ABT_PRESC, s.rd p PORT_ABT_PH1, s.rd p PORT_ABT_PH2, s.rd p PORT_ABT_SJW]

/-- The Moon detector can find frames with this timing: N_m is a whole number of at least 8 (R418). -/
def moonFrames (r : List Nat) : Bool :=
  let nq := (r.getD 9 0 + 1) * (1 + (r.getD 10 0 + 1) + (r.getD 11 0 + 1))
  nq % 10 == 0 && decide (8 ≤ nq / 10)

/-- Steps 1 and 2 of the entry to DORMANT begin (R417, R418): the Moon domain copies and arms. -/
def State.startDormant (s : State) : State :=
  let s0 := (s.beginTransition .toDormant).each (List.range 4) fun s j => s.wr aonPg AON_FALLBACK_PORTS 0 j
  let arm := (List.range 128).filter fun n => (s.rd aonPg AON_WAKE_EN_PORTS (n / 32)).testBit (n % 32)
  s0.each arm fun s n =>
    let r := s.moonCopy n
    let falls := r.getD 0 0 == 0 && !moonFrames r
    let r1 := if falls then 1 :: r.drop 1 else r
    let s1 := { s with chip := { s.chip with moon := mapPut s.chip.moon n r1 } }
    if falls then (s1.orBits aonPg AON_FALLBACK_PORTS (bit (n % 32)) (n / 32)).err aonPg 0 else s1

/-- Step 3 of the entry to DORMANT (R24, R30, R417, R509): the command has ended with OK, the ports are OFF, the links stop,
the main domain powers down and what it held is lost. -/
def State.finishDormant (s : State) : State :=
  match s.moving with
  | some .toDormant =>
    let s2 := (s.wr aonPg AON_STAT_ARMED 1).each (List.range 4) fun s n => s.modPp n fun x => { x with moonWake := false }
    let s3 := { s2.afterReset keptKey with
      mode := s.mode
      inReset := false }
    { s3.enterDeviceMode .dormant with tap := { s3.tap with ir := .idcode } }
  | _ => s

/-- What the block does by itself while no command waits: an entry to DORMANT that nothing has aborted goes on to its end
(R417), where the cores are not stalled (R22). -/
def State.idle (s : State) : State := s.byCores State.finishDormant

/-- SET_MODE may be written now: R24 permits the transition (R62, R389). While another transition is in progress only entry to
SAFE, which precedes it, is accepted (R25). -/
def State.setModeOk (s : State) (t : Nat) : Bool :=
  (s.moving.isNone || t == 5) &&
  match s.mode, t with
  | .configure, 3 => true
  | .configure, 7 => true
  | .test, 2 => true
  | .run, 2 => true
  | .degraded, 2 => true
  | .safe, 2 => !(s.lines.any fun e => e.2.sticky && e.2.level == 4)
  | .configure, 0 => true
  | .safe, 0 => true
  | .configure, 5 => true
  | .run, 5 => true
  | .degraded, 5 => true
  | .test, 5 => true
  | _, _ => false

/-- SET_MODE, accepted (R24, R62). TEST to CONFIGURE leaves the port modes as they are: no rule moves a port out of LOOP_INT or
LOOP_EXT there (log 71). -/
def State.setModeCmd (s : State) : State :=
  let p := devPg
  match s.mode, bits (s.arg0 p) 0 4 with
  | .configure, 3 =>
    if s.rd p DEV_CLUSTERS_FENCED != 0 then s.cmdEnd p stBadState s.mode.code else s.startRun false
  | .configure, 7 => s.enterTest.cmdEnd p stOk Mode.test.code
  | .test, 2 => (s.forget 0 0x4000000).enterDeviceMode .configure |>.cmdEnd p stOk Mode.configure.code
  | .safe, 2 => s.beginTransition .safeExit
  | _, 2 => (s.beginTransition .toConfigure).allToConfig.moveCheck
  | _, 5 =>
    -- the command ends with OK; line 59 takes its event (R369)
    (s.enterSafe.cmdEnd p stOk Mode.safe.code).fault 59 .dev
  | _, 0 => s.startDormant
  | _, _ => s

/-- SAFE_EXIT_DONE (R389): every mover burst begun before SAFE has completed. -/
def State.safeExitDone (s : State) : State :=
  match s.moving with
  | some .safeExit =>
    if s.stalled || s.chans.any fun e => !e.2.outst.isEmpty then s
    else (s.enterDeviceMode .configure).cmdEnd devPg stOk Mode.configure.code
  | _ => s

/-! ### The rest of the Moon domain's wake (R419-R424) -/

/-- A wake is recorded (R419, R423): AON_WAKE_SEEN and AON_WAKE_ID. `first`: the source is recorded, not only counted. -/
def State.recordWake (s : State) (first : Bool) (port source : Nat) (noPort : Bool) (id : Nat) : State :=
  let p := aonPg
  let s1 := (s.adv p AON_WAKE_SEEN_COUNT).wr p AON_WAKE_SEEN_VALID 1
  if first then
    (((s1.wr p AON_WAKE_SEEN_PORT port).wrB p AON_WAKE_SEEN_NOPORT noPort).wr p AON_WAKE_SEEN_SOURCE source).wr
      p AON_WAKE_ID_VALUE id
  else s1

/-- WAKEn_N is driven on the partner ports of a mask; `down`: only on those whose link is not in L0. -/
def State.driveWake (s : State) (mask : Nat) (down : Bool) : State :=
  s.each [0, 1, 2, 3] fun s n =>
    if mask.testBit n && !(down && s.linkUp n && s.rd (ppPg n) PP_LINK_PM == 0) then
      s.modPp n fun x => { x with moonWake := true }
    else s

/-- A wake condition of the Moon domain (R419, R423, R424): in DORMANT it is the wake, before DORMANT it aborts the entry, and
in LOADER it is recorded and pulses the pins. -/
def State.moonWake (s : State) (port source : Nat) (noPort : Bool) (id mask : Nat) : State :=
  if s.chip.aonDown then s
  else if s.moving = some .toDormant then
    let s1 := { s with moving := none }.wr devPg DEV_MODE_MOVING 0
    let s2 := (s1.disarmMoon.wr aonPg AON_STAT_SLEEP_ABORTED 1).irq aonPg 8
    (((s2.recordWake true port source noPort id).irq aonPg 4).driveWake mask true).cmdEnd devPg stBadState s.mode.code
  else if s.mode = .dormant then
    let first := s.chip.wake.isNone
    let m := if first then mask else mask &&& s.chip.driven
    let s1 := (s.recordWake first port source noPort id).driveWake m false
    { s1 with chip := { s1.chip with wake := some .wake, driven := if first then mask else s.chip.driven } }
  else if s.mode = .loader && source = 2 then
    (s.recordWake true port source noPort id).driveWake mask false
  else s

/-- MOON_WAKE_CONDITION (R418, R423, R424): an armed detector sees an edge, or a frame that meets R90. -/
def State.moonSees (s : State) (n : Nat) (w : WakeSeen) : State :=
  match mapGet? s.chip.moon n with
  | none => s
  | some r =>
    let mask := bits (s.rd aonPg AON_WAKE_PP_PPS) (4 * (n / 16)) 4
    match w with
    | .edge => if r.getD 0 0 = 1 then s.moonWake n 1 false 0 mask else s
    | .frame h d =>
      -- the identifier stands as in PORT_WAKE_SEEN, with ID_A in [28:18] (R168)
      let id := (if h.long then h.id.toNat + 2 ^ 29 else h.id.toNat * 2 ^ 18)
      if moonFrames r && wakeMatches r h d && (r.getD 0 0 = 0 || s.mode = .loader) then s.moonWake n 2 false id mask else s

/-- WAKE_TIMER_EXPIRY (R420): the timer counts only in DORMANT, and on the way there. -/
def State.timerWake (s : State) : State :=
  if s.rd aonPg AON_TIMER_SECONDS = 0 || !(s.mode == .dormant || s.moving == some .toDormant) then s
  else s.moonWake 0 3 true 0 (s.rd aonPg AON_TIMER_PP)

/-- WAKE_LIMIT (R67, R423): 500 ms after it was driven, WAKEn_N is released. -/
def State.wakeLimit (s : State) (n : Nat) : State :=
  if (s.pp n).moonWake then (s.modPp n fun x => { x with moonWake := false }).err aonPg 1 else s

end Sys2Proof.Machine
end

