-- ==== Sys2Proof/Machine/Mram.lean ====
section
/-!
DEFINITION. MRAM (R431-R434): its bytes, the manifest of an image and its checks (R439, R440), staging (R436-R438), and the
slots of the settings store (R447).
-/
set_option Elab.async false

namespace Sys2Proof.Machine

/-! ### Bytes -/

/-- Word `i` (32 bits) of the manifest that lies in the code region of a new device (DESIGN CHOICE, log entry 13): the
smallest one that meets R439. -/
def factoryWord (a : Nat) : Nat :=
  if a = 0x000 then 0x464D5847
  else if a = 0x004 then 1
  else if a = 0x00C then 4
  else if a = 0x018 then 0x00B00128
  else if a = 0x01C then 3
  else if 0x040 ≤ a ∧ a < 0x100 then
    let p := (a - 0x40) / 0x40
    match (a - 0x40) % 0x40 with
    | 0 => p + 1
    | 4 => 0x1000 * (p + 1)
    | 8 => 1
    | 12 => 0x1000 * (p + 1)
    | _ => 0
  else 0

/-- What an unlisted byte of MRAM reads as. -/
def mramDefault (a : Nat) : Nat := if a < 0x1000 then factoryWord (a / 4 * 4) / 256 ^ (a % 4) % 256 else 0

/-- Read a byte and a little-endian word of MRAM. -/
def State.mramByte (s : State) (a : Nat) : Nat := mapGet (mramDefault a) s.mram a
def State.mramWord (s : State) (a : Nat) : Nat :=
  s.mramByte a + 256 * s.mramByte (a + 1) + 65536 * s.mramByte (a + 2) + 16777216 * s.mramByte (a + 3)

/-- Write bytes of MRAM; the 64-bit words they lie in are written anew (R432). -/
def State.mramPuts (s : State) (a : Nat) (bs : List Nat) : State :=
  let m := bs.foldl (fun p b => (mapSet (mramDefault p.2) p.1 p.2 (b % 256), p.2 + 1)) (s.mram, a)
  { s with
    mram := m.1
    mramBad := s.mramBad.filter fun w => !(decide (w < a + bs.length) && decide (a < w + 8)) }

/-- Some word of a range is known uncorrectable. -/
def State.mramBroken (s : State) (a n : Nat) : Bool :=
  s.mramBad.any fun w => decide (w < a + n) && decide (a < w + 8)

/-- The bytes of a range. -/
def State.mramBytes (s : State) (a n : Nat) : List Nat := (List.range n).map fun i => s.mramByte (a + i)

/-- The number of blocks of 4 KiB that `n` bytes take. -/
def chunksOf (n : Nat) : Nat := (n + 4095) / 4096

def codeBase : Nat := 0
def stageBase : Nat := 0x600000

/-! ### Manifests (R439, R440) -/

/-- A part descriptor. -/
structure Part where
  ty : Nat
  off : Nat
  len : Nat
  dest : Nat
  deriving DecidableEq, Repr

/-- Part `p` of the manifest at `base`. -/
def State.mfPart (s : State) (base p : Nat) : Part :=
  let a := base + 0x40 + 64 * p
  ⟨s.mramByte a, s.mramWord (a + 4), s.mramWord (a + 8), s.mramWord (a + 12)⟩

/-- The parts of the manifest at `base`. -/
def State.mfParts (s : State) (base : Nat) : List Part :=
  (List.range (s.mramByte (base + 0x1C) % 16)).map (s.mfPart base)

def State.mfKey (s : State) (base : Nat) : Nat := bits (s.mramWord (base + 4)) 16 2
def State.mfFw (s : State) (base : Nat) : Nat := s.mramWord (base + 0x10)
def State.mfSchema (s : State) (base : Nat) : Nat := bits (s.mramWord (base + 0x14)) 0 16
def State.mfRollback (s : State) (base : Nat) : Nat := bits (s.mramWord (base + 0x14)) 16 7

/-- Chunks of an image, the manifest included (R444). -/
def State.mfChunks (s : State) (base : Nat) : Nat := (s.mfParts base).foldl (fun n p => n + chunksOf p.len) 1

/-- A part descriptor meets R439 for an image of `n` pieces. -/
def Part.ok (p : Part) (n : Nat) : Bool :=
  decide (1 ≤ p.ty) && decide (p.ty ≤ 4) && p.off % 4096 == 0 && decide (4096 ≤ p.off) && p.dest % 4096 == 0 &&
    decide (4096 ≤ p.dest) && decide (1 ≤ p.len) && decide (p.off + p.len ≤ n * 4096) && decide (p.dest + p.len ≤ 0x600000)

/-- No two parts overlap in the code region. -/
def partsApart : List Part → Bool
  | [] => true
  | p :: t => (t.all fun q => decide (p.dest + p.len ≤ q.dest) || decide (q.dest + q.len ≤ p.dest)) && partsApart t

/-- Check 2 of R440: the rules of R439 on the manifest at `base`, for an image with a tag and `n` pieces. -/
def State.manifestGood (s : State) (base tag n : Nat) : Bool :=
  let w (o : Nat) : Nat := s.mramWord (base + o)
  let ps := s.mfParts base
  let cnt (t : Nat) : Nat := (ps.filter fun p => p.ty == t).length
  w 0 == 0x464D5847 && bits (w 4) 0 16 == 1 && bits (w 4) 18 14 == 0 && w 8 == tag && bits (w 0xC) 0 11 == n &&
    bits (w 0x14) 23 9 == 0 && decide (3 ≤ ps.length) && decide (ps.length ≤ 8) && ps.all (Part.ok · n) &&
    cnt 1 == 1 && cnt 2 == 1 && cnt 3 == 1 && partsApart ps &&
    (List.range 856).all fun i => w (0x240 + 4 * i) == 0

/-- Checks 2 to 7 of R440 on the image whose manifest stands at `base` and whose part bytes stand where `at_` says: the STATUS
of the first failure, 0 when all pass. The outcomes of the signature and of the digests come with the command; a word that
is known uncorrectable fails them. -/
def State.checkImage (s : State) (base tag n : Nat) (at_ : Part → Nat) (sigOk partsOk : Bool) : Nat :=
  if !s.manifestGood base tag n then 0x85
  else if bits (s.mramWord (base + 0x18)) 0 16 != 0x128 ||
      !(bits (s.mramWord (base + 0x18)) 16 8 == 0xB0 || bits (s.mramWord (base + 0x18)) 16 8 == 0xFF) then 0x86
  else if s.fuses.keyrev.testBit (s.mfKey base) then 0x87
  else if !sigOk || s.mramBroken base 4096 then 0x88
  else if s.mfRollback base < s.fuses.rollback then 0x89
  else if !partsOk || (s.mfParts base).any (fun p => s.mramBroken (at_ p) p.len) then 0x8A
  else 0

/-- The staged image passes checks 2 to 7 of R440 (0), or the STATUS of the first that fails. -/
def State.checkStaged (s : State) (sigOk partsOk : Bool) : Nat :=
  s.checkImage stageBase (s.rd updPg UPD_TAG_TAG) (s.rd updPg UPD_COUNT_N) (fun p => stageBase + p.off) sigOk partsOk

/-- The code region passes them, with the manifest's own tag and count (R433). -/
def State.checkCode (s : State) (sigOk partsOk : Bool) : Nat :=
  s.checkImage codeBase (s.mramWord 8) (bits (s.mramWord 0xC) 0 11) (fun p => p.dest) sigOk partsOk

/-! ### Staging (R436-R438) -/

def stEmpty : Nat := 0
def stReceiving : Nat := 1
def stComplete : Nat := 2
def stVerified : Nat := 3
def stActive : Nat := 4

/-- Piece `i` is held. -/
def State.held (s : State) (i : Nat) : Bool := (s.rd updPg UPD_BITMAP_HELD (i / 32)).testBit (i % 32)

/-- The bitmap is cleared. -/
def State.clearHeld (s : State) : State :=
  ((List.range 48).foldl (fun s j => s.wr updPg UPD_BITMAP_HELD 0 j) s).wr updPg UPD_STAGE_HELD 0

/-- Set the bit of piece `i`. -/
def State.markHeld (s : State) (i : Nat) : State :=
  if s.held i then s else (s.orBits updPg UPD_BITMAP_HELD (bit (i % 32)) (i / 32)).adv updPg UPD_STAGE_HELD

/-- Clear the bit of piece `i`; the staging state falls to RECEIVING (R434). -/
def State.dropPiece (s : State) (i : Nat) : State :=
  if s.held i then
    ((s.wr updPg UPD_BITMAP_HELD (clearBits (s.rd updPg UPD_BITMAP_HELD (i / 32)) (bit (i % 32))) (i / 32)).wr
      updPg UPD_STAGE_HELD (s.rd updPg UPD_STAGE_HELD - 1)).wr updPg UPD_STAGE_STATE stReceiving
  else s

/-! ### The settings store (R447, R448) -/

def slotBase (i : Nat) : Nat := 0xC00000 + i * 0x40000

def settingsMagic : Nat := 0x54535847

/-- A settings image has an intact header length: a multiple of 4 from 64 to 262,144 (R448). -/
def lengthOk (n : Nat) : Bool := n % 4 == 0 && decide (64 ≤ n) && decide (n ≤ 262144)

/-- The CRC over bytes 0x14 to LENGTH - 1 of an image. -/
def imageCrc (bs : List Byte) : Nat := tcrc (bs.drop 0x14)

/-- The image in slot `i`, LENGTH bytes. -/
def State.slotImage (s : State) (i : Nat) : List Byte :=
  (s.mramBytes (slotBase i) (s.mramWord (slotBase i + 8))).map (BitVec.ofNat 8)

/-- Slot `i` holds an image, valid or not (DEDUCED): its MAGIC is intact, or a word of it is uncorrectable. -/
def State.slotUsed (s : State) (i : Nat) : Bool :=
  s.mramWord (slotBase i) == settingsMagic || s.mramBroken (slotBase i) 0x40000

/-- The image of slot `i` is valid (R447). -/
def State.slotValid (s : State) (i : Nat) : Bool :=
  s.mramWord (slotBase i) == settingsMagic && lengthOk (s.mramWord (slotBase i + 8)) &&
    !s.mramBroken (slotBase i) 0x40000 && imageCrc (s.slotImage i) == s.mramWord (slotBase i + 0x10)

/-- Generation of slot `i`; 0 when it is not used. -/
def State.slotGen (s : State) (i : Nat) : Nat := if s.slotUsed i then s.mramWord (slotBase i + 0xC) else 0

/-- The used slot with the higher generation (R447). -/
def State.topSlot (s : State) : Option Nat :=
  match s.slotUsed 0, s.slotUsed 1 with
  | false, false => none
  | true, false => some 0
  | false, true => some 1
  | true, true => some (if s.slotGen 0 < s.slotGen 1 then 1 else 0)

/-- The current slot (R447): the top one, when it is valid. -/
def State.currentSlot (s : State) : Option Nat :=
  match s.topSlot with
  | some i => if s.slotValid i then some i else none
  | none => none

/-- UPD_SET_STAT and UPD_SET_GEN follow the slots (R447, R462); SETTINGS_CORRUPT is set when the settings become corrupt
(R464). -/
def State.settingsShow (s : State) : State :=
  let i := s.currentSlot
  let corrupt := s.topSlot.isSome && i.isNone
  let s1 := (((s.wr updPg UPD_SET_STAT_SLOT (i.getD 0)).wrB updPg UPD_SET_STAT_VALID i.isSome).wrB updPg
    UPD_SET_STAT_CORRUPT corrupt).wr updPg UPD_SET_GEN_GEN (match i with | some j => s.slotGen j | none => 0)
  if corrupt && !s.flag updPg UPD_SET_STAT_CORRUPT then s1.err updPg 3 else s1

/-- Subsystem ID that configuration space reports (R33). -/
def State.subsystemId (s : State) : Nat :=
  match s.currentSlot with
  | some i => bits (s.mramWord (slotBase i + 0x14)) 0 16
  | none => 0x0128

/-- Both slots are invalidated (R450, R452). -/
def State.eraseSlots (s : State) : State :=
  let m := s.mram.filter fun e => !(decide (slotBase 0 ≤ e.1) && decide (e.1 < slotBase 2))
  ({ s with
    mram := m
    mramBad := s.mramBad.filter fun w => !(decide (slotBase 0 < w + 8) && decide (w < slotBase 2)) }).settingsShow

/-- The slot that SET_SAVE writes (R447): the one that is not current; where none is current the spec names none, and the
choice is a free value. -/
def State.saveSlot (s : State) : Nat × State :=
  match s.currentSlot with
  | some i => (1 - i, s)
  | none => s.drawOpen 1

/-- The generation that SET_SAVE writes (R447). -/
def State.saveGen (s : State) : Nat := (max (s.slotGen 0) (s.slotGen 1) + 1) % 2 ^ 32

end Sys2Proof.Machine
end

