-- ==== Sys2Proof/Machine/Icu.lean ====
section
/-!
DEFINITION. The interrupt controller's commands and steps (R342-R363): delivery decisions and messages, claims and their
ends, masks, configurations, rings, mailboxes, timers, hold-offs and delays.
-/
set_option Elab.async false

namespace Sys2Proof.Machine

/-! ### Delivery -/

/-- The outstanding mark and the message of a class. -/
def TgtState.setOut (t : TgtState) (fast out msg : Bool) : TgtState :=
  if fast then { t with outF := out, msgF := msg } else { t with outN := out, msgN := msg }

/-- The hold-off of a data-class group starts or restarts (R356). -/
def State.startHoldOff (s : State) (g : Nat) : State :=
  if !s.flag icuPg ICU_GRP_CLASS g && s.rd icuPg ICU_GRP_VALUE g != 0 && !s.holdOff.contains g then
    { s with holdOff := g :: s.holdOff }
  else s

/-- DELIVERY_DECISION (R349): pin the first eligible source of the class, clear IDLE, mark the message outstanding. -/
def State.deliver (s : State) (k : Nat) (fast : Bool) : State :=
  let t := s.tgt k
  let free := !(if fast then t.outF else t.outN) && (fast || s.stackMode k || s.activeClaims k (some true) == 0)
  match (if s.icuRuns && free then s.decisionTop k fast else none) with
  | none => s
  | some (key, x) =>
    let s1 := (s.modSrc key fun y => { y with pin := true }).wr (tnPg k) T_IDLE_IDLE 0
    (s1.modTgt k fun t => t.setOut fast true true).startHoldOff x.group

/-- Vector control word of an MSI-X entry: bit 0 masks it; an unlisted word reads 1 (R544). -/
def PpState.vecMasked (x : PpState) (v : Nat) : Bool := (mapGet 1 x.msix (4 * v + 3)).testBit 0

/-- Deliveries of the function of PPn are not held back (R42). -/
def State.delivers (s : State) (n : Nat) : Bool :=
  let x := s.pp n
  x.msixEn && !x.fmask && x.masters && s.linkUp n

/-- A claim of a class would return 0 whatever happens before it: its stack is full (R352). -/
def State.stackFull (s : State) (k : Nat) : Bool := s.stackMode k && decide (8 ≤ (s.tgt k).stack.length)

/-- A decided message may not be sent now (R350, R351): while a claim of the class would certainly return 0, and a normal one
while a fast claim is active. -/
def State.msgWaits (s : State) (k : Nat) (fast : Bool) : Bool :=
  s.stackFull k || (!fast && !s.stackMode k && s.activeClaims k (some true) != 0)

/-- The message of a class leaves (R350); when no source is left that a claim could return, it is withdrawn instead, so that a
later source leads to a fresh decision (log 75). -/
def State.classSend (s : State) (n v k : Nat) (fast : Bool) : State :=
  if !(if fast then (s.tgt k).msgF else (s.tgt k).msgN) || s.msgWaits k fast then s
  else if (s.claimTop k fast).isNone then s.modTgt k fun t => t.setOut fast false false
  else
    let s1 := s.modTgt k fun t => t.setOut fast (if fast then t.outF else t.outN) false
    (s1.bump (if fast then tfPg k else tnPg k) (if fast then F_MSG_CNT_COUNT else T_MSG_CNT_COUNT)).emit (.msix n v)

/-- MSI_X_SEND (R41, R350): a message of the function of PPn that nothing holds back leaves. -/
def State.msixSend (s : State) (n v : Nat) : State :=
  if !s.delivers n || (s.pp n).vecMasked v then s
  else if v = 8 then
    if (s.pp n).vec8 then (s.modPp n fun x => { x with vec8 := false }).emit (.msix n 8) else s
  else s.classSend n v (4 * n + v / 2) (v % 2 == 1)

/-! ### Claims and their ends -/

/-- The word that a claim register reads (R354). -/
def claimWord (key count level : Nat) : Nat := srcNum key + count * 2 ^ 12 + level * 2 ^ 20

/-- A claim read of a class by `pp` (R352, R354): the word it returns and its effect. -/
def State.claim (s : State) (pp k : Nat) (fast : Bool) : Nat × State :=
  if s.down || !s.icuRuns || pp != k / 4 || (fast && s.stackMode k) then (0, s)
  else
    let s1 := s.modTgt k fun t => t.setOut fast false false
    if s.stackMode k && (s.tgt k).stack.length == 8 then (0, s1.err (tnPg k) 1)
    else match s.claimTop k fast with
      | none => (0, s1)
      | some (key, x) =>
        let s2 := s1.modSrc key fun y =>
          { y with count := 0, active := true, atgt := k, afast := fast, alevel := x.level, pin := false, delay := false }
        let s3 := if x.pin then s2 else s2.startHoldOff x.group
        let s4 := if s.stackMode k then s3.modTgt k fun t => { t with stack := (x.level, key) :: t.stack } else s3
        (claimWord key x.count x.level, s4)

/-- The key that a source number names on the pages of target `k` (R344). -/
def keyOn (k n : Nat) : Nat := if n < 4080 then n else privKey k (n - 4080)

/-- T_COMPLETE and F_COMPLETE (R351, R352). -/
def State.complete (s : State) (pp k : Nat) (fast : Bool) (n : Nat) : State :=
  let p := if fast then tfPg k else tnPg k
  s.guarded pp p none fun s =>
    let x := s.src (keyOn k n)
    if !s.stackMode k && x.active && x.atgt == k && x.afast == fast then s.endClaim (keyOn k n) else s.err p 0

/-- T_EOI (R352). -/
def State.eoi (s : State) (pp k : Nat) : State :=
  s.guarded pp (tnPg k) none fun s =>
    match (s.tgt k).stack with
    | [] => s.err (tnPg k) 2
    | (_, key) :: t => (s.modTgt k fun x => { x with stack := t }).endClaim key

/-- A source number names a source routed to target `k` (R347). -/
def State.routedTo (s : State) (k n : Nat) : Bool :=
  if n < 4080 then sharedExists n && (s.src n).tgt == k else decide (n < 4088)

/-- T_MASK (R347, R348). -/
def State.maskWrite (s : State) (pp k n : Nat) (m : Bool) : State :=
  s.guarded pp (tnPg k) none fun s =>
    if s.routedTo k n then s.modSrc (keyOn k n) fun x => { x with mask := m } else s.err (tnPg k) 3

/-! ### Configuration -/

/-- The new configuration of a source (R345): disabling clears count and pin; a change of target clears the pin; enabling
a level source whose condition holds counts one event (R342). -/
def State.configure (s : State) (key : Nat) (en : Bool) (tgt group level : Nat) (page : Option Nat) : State :=
  let x := s.src key
  let s1 := s.modSrc key fun y =>
    { y with
      en := en, tgt := tgt, group := group, level := level
      count := if en then y.count else 0
      pin := y.pin && en && y.tgt == tgt
      delay := y.delay && en }
  if en && !x.en then
    match page with
    | some p => if s1.pageCond p then s1.event key else s1
    | none => s1
  else s1

/-- ICU_SRC_CFG (R345, R364): a reserved number ignores the write; LEVEL 0 is refused under R10. -/
def State.srcCfgWrite (s : State) (pp v : Nat) : State :=
  let n := s.rd icuPg ICU_SRC_SEL_SRC
  let exists_ := sharedExists n
  s.guarded pp icuPg (if exists_ && bits v 16 4 == 0 then some .badValue else none) fun s =>
    if exists_ then s.configure n (v.testBit 0) (bits v 4 4) (bits v 8 6) (bits v 16 4) (sourcePage n) else s

/-- T_PRIVi (R344, R345, R365). -/
def State.privCfgWrite (s : State) (pp k i v : Nat) : State :=
  s.guarded pp (tnPg k) (if decide (i < 8) && bits v 16 4 == 0 then some .badValue else none) fun s =>
    if i < 8 then
      s.configure (privKey k i) (v.testBit 0) 0 (bits v 8 6) (bits v 16 4) (if i = 7 then some (tnPg k) else none)
    else s

/-- T_CFG (R353): a change ends every active claim of the target, empties the stack and withdraws messages. -/
def State.tCfgWrite (s : State) (pp k v : Nat) : State :=
  let p := tnPg k
  let mode := bits v 0 1
  let fast := bits v 4 4
  let changes := s.rd p T_CFG_MODE != mode || s.rd p T_CFG_FAST != fast
  s.guarded pp p (if changes && s.mode != .configure then some .rwc else none) fun s =>
    if !changes then s
    else
      let mine := s.srcs.filter fun e => e.2.active && e.2.atgt == k
      let s1 := s.modTgt k fun t => { t with stack := [], outN := false, outF := false, msgN := false, msgF := false }
      ((s1.wr p T_CFG_MODE mode).wr p T_CFG_FAST fast).each mine fun s e => s.endClaim e.1

/-! ### Rings, mailbox, timer -/

/-- T_RING_CFG (R360). -/
def State.ringCfgWrite (s : State) (pp k v : Nat) : State :=
  let p := tnPg k
  let log2 := bits v 0 4
  let en := v.testBit 8
  s.guarded pp p (if log2 < 4 then some .badValue else none) fun s =>
    if s.flag p T_RING_CFG_EN && (log2 != s.rd p T_RING_CFG_LOG2 || (!en && s.rd p T_RING_RSV_SLOTS != 0)) then s.err p 4
    else
      let s1 := (s.wr p T_RING_CFG_LOG2 log2).wrB p T_RING_CFG_EN en
      if en then (s1.wr p T_RING_PUT_PUT 0).wr p T_RING_GET_GET 0 else s1

/-- T_RING_BASE_LO and T_RING_BASE_HI: fixed while the ring is enabled (R360). -/
def State.ringBaseWrite (s : State) (pp k : Nat) (f : Field) (v : Nat) : State :=
  let p := tnPg k
  s.guarded pp p none fun s =>
    if s.flag p T_RING_CFG_EN && s.rd p f != v then s.err p 4 else s.wr p f v

/-- T_RING_GET (R361). -/
def State.ringGetWrite (s : State) (pp k v : Nat) : State :=
  let p := tnPg k
  let g := bits v 0 16
  s.guarded pp p none fun s =>
    if (g + 65536 - s.rd p T_RING_GET_GET) % 65536 > s.ringFill k then s.err p 5 else s.wr p T_RING_GET_GET g

/-- T_MAIL_OUT (R362). -/
def State.mailOut (s : State) (pp k v : Nat) : State :=
  s.guarded pp (tnPg k) none fun s =>
    let p := tnPg (bits v 0 4)
    let s1 := if s.flag p T_MAIL_IN_VALID then s.bump p T_MAIL_IN_LOST else s
    (((s1.wr p T_MAIL_IN_FROM k).wr p T_MAIL_IN_VALID 1).wr p T_MAIL_IN_VALUE (bits v 16 16)).event
      (privKey (bits v 0 4) 3)

/-- A read of T_MAIL_IN: the word, and VALID and LOST cleared (R362). -/
def State.mailIn (s : State) (k : Nat) : Nat × State :=
  let p := tnPg k
  (s.rd p T_MAIL_IN_FROM + s.rd p T_MAIL_IN_VALID * 2 ^ 7 + s.rd p T_MAIL_IN_LOST * 2 ^ 8 + s.rd p T_MAIL_IN_VALUE * 2 ^ 16,
   (s.wr p T_MAIL_IN_VALID 0).wr p T_MAIL_IN_LOST 0)

/-- Fire private source `i` of every target of a partner port (R344). -/
def State.eventAll (s : State) (pp i : Nat) : State :=
  s.each [4 * pp, 4 * pp + 1, 4 * pp + 2, 4 * pp + 3] fun s k => s.event (privKey k i)

/-- TIMER_EXPIRY (R363): a timer whose PERIOD is not 0 fires TIMER. -/
def State.timerExpires (s : State) (k : Nat) : State :=
  if s.down || s.rd (tnPg k) T_TIMER_PERIOD = 0 then s else s.event (privKey k 4)

/-- HOLD_OFF_EXPIRY (R356): the group's sources are eligible again. -/
def State.holdOffEnds (s : State) (g : Nat) : State := { s with holdOff := s.holdOff.filter (· != g) }

/-- COALESCING_DELAY_EXPIRY (R357): the source, by its key, is eligible. -/
def State.delayEnds (s : State) (key : Nat) : State :=
  if (s.src key).delay then s.modSrc key fun x => { x with delay := false } else s

/-- A read of T_CLAIM or F_CLAIM by `pp` (R354), and of T_MAIL_IN (R362): the word leaves in the completion. -/
def State.claimRead (s : State) (pp k : Nat) (fast : Bool) : State :=
  if s.down then s
  else
    let (v, s1) := s.claim pp k fast
    s1.emit (.regData pp ((if fast then tfPg k * 4096 + 0x040 else tnPg k * 4096 + 0x048)) v)
def State.mailRead (s : State) (pp k : Nat) : State :=
  if s.down then s
  else
    let (v, s1) := s.mailIn k
    s1.emit (.regData pp (tnPg k * 4096 + 0x084) v)

/-- PAGE_FENCE (R54): its value is read from now on, and FENCE_DONE of every target of the partner port fires. -/
def State.fenceWrite (s : State) (pp p v : Nat) : State :=
  s.guarded pp p none fun s => (s.wr p PAGE_FENCE_VALUE v).eventAll pp 5

end Sys2Proof.Machine
end

