-- ==== Sys2Proof/Machine/Channel.lean ====
section
/-!
DEFINITION. The slice mover at work (R257, R280-R302): the grant of the link, bursts, completions and their errors, the ends of
fetches, pushes and transfers, and the commands of the MOV page.
-/
set_option Elab.async false

namespace Sys2Proof.Machine

/-! ### The head of the queue and the grant (R280, R288) -/

/-- The channels serve requests in the device mode (R299). -/
def State.moverRuns (s : State) : Bool :=
  !s.down &&
  match s.mode with
  | .configure | .run | .degraded | .test => true
  | _ => false

/-- Elements that a request takes from the descriptor. -/
def ChanCfg.needs (g : ChanCfg) (r : Req) : Nat := if r.useDesc then g.elems r.len else 0

/-- The next burst of a request whose first element lies at position `start`: partner address and length (R283, R287). -/
def ChanCfg.burstOf (g : ChanCfg) (r : Req) (start : Nat) : Nat × Nat :=
  let w := if r.useDesc then r.issued % g.elem else r.issued
  let a := ((if r.useDesc then g.addr (g.after start (r.issued / g.elem)) else r.paddr) + w) % 2 ^ 64
  let room := if r.useDesc then min (g.elem - w) (r.len - r.issued) else r.len - r.issued
  (a, min (2 ^ g.burst) (min room (4096 - a % 4096)))

/-- The requests of a burst, each of at most `m` bytes (R287). -/
def chunks (a n m : Nat) : List (Nat × Nat) :=
  (List.range ((n + (m - 1)) / m)).map fun i => ((a + i * m) % 2 ^ 64, min m (n - i * m))

/-- Non-posted requests outstanding on a partner port (R288). -/
def State.nonPosted (s : State) (pp : Nat) : Nat :=
  s.chans.foldl (fun n e => match e.2.cfg with
    | some g => if g.pp = pp then e.2.outst.foldl (fun n b => n + (chunks b.paddr b.len (s.pp pp).mrrs).length) n else n
    | none => n) 0

/-- The request starts, or goes on: its block is there (R257), its elements (R284) and its credits (R286). -/
def State.ready (s : State) (m : Nat) (g : ChanCfg) (r : Req) : Bool :=
  (match r.kind with
    | .fetch uid => (match s.job? uid with | some j => j.res == .fetching | none => false)
    | _ => true) &&
  (r.start.isSome || !r.useDesc ||
    ((g.wrap || decide ((s.chan m).pos + g.needs r ≤ g.total)) &&
     (!g.credit || decide (g.needs r ≤ s.rd (movPg m) MOV_CREDIT_ELEMS))))

/-- The burst that the channel would begin now: partner address, length, and whether it reads. -/
def State.nextBurst (s : State) (m : Nat) : Option (Nat × Nat × Bool) :=
  let x := s.chan m
  match x.cfg with
  | none => none
  | some g =>
    match x.failed with
    | b :: _ => some (b.paddr, b.len, true)
    | [] => match x.head with
      | some r => if s.ready m g r then
            let b := g.burstOf r (r.start.getD x.pos)
            some (b.1, b.2, !g.push)
          else none
      | none => none

/-- The channel can begin a burst on its partner port (R288, R299). -/
def State.canBurst (s : State) (m pp : Nat) : Bool :=
  let x := s.chan m
  s.moverRuns && x.mode == .enabled && s.boundPp m == some pp && s.serves pp &&
  match s.nextBurst m with
  | none => false
  | some (a, n, rd) => !rd ||
      (decide (x.outst.length < 16) &&
       decide (s.nonPosted pp + (chunks a n (s.pp pp).mrrs).length ≤ 1024))

/-- The channel is urgent (R288). -/
def State.urgent (s : State) (m : Nat) : Bool :=
  let x := s.chan m
  match x.failed.head?.map Burst.req, x.head with
  | some (.fetch uid), _ => inPanic uid
  | none, some r => (match r.kind with | .fetch uid => inPanic uid | _ => false)
  | _, _ => false
where
  inPanic (uid : Nat) : Bool := match s.job? uid with
    | some j => j.ports.any fun x => s.flag (portPg x.port) PORT_MV_ATT_IN_PANIC
    | none => false

/-- Rank of a channel for the grant of its partner port: urgent first, then round robin (R288). -/
def State.grantRank (s : State) (m pp : Nat) : Nat :=
  (if s.urgent m then 0 else 256) + (m + 255 - mapGet 255 s.granted pp) % 256

/-- The channel is the one that the partner port grants next. -/
def State.granted? (s : State) (m pp : Nat) : Bool :=
  s.canBurst m pp && s.chans.all fun e => e.1 == m || !s.canBurst e.1 pp || decide (s.grantRank m pp < s.grantRank e.1 pp)

/-! ### Bursts (R283-R288, R297, R298) -/

/-- A channel halts, and the demand of the ports follows (R290, R292). -/
def State.haltOn (s : State) (m : Nat) (k : ReqKind) (cause addr store : Nat) (write : Bool) (failed : List Burst) : State :=
  (s.halt m k cause addr store write failed).panic (List.range 128)

/-- A read burst begins: its requests leave. -/
def State.sendRead (s : State) (m : Nat) (g : ChanCfg) (b : Burst) : State :=
  let x := s.pp g.pp
  (s.modChan m fun c => { c with outst := c.outst ++ [b] }).each (chunks b.paddr b.len x.mrrs) fun s q =>
    s.emit (.read g.pp q.1 q.2 (g.noSnoop && x.noSnoop))

/-- A write burst leaves: the store is read, and each write that carries an uncorrectable word is poisoned (R297). -/
def State.sendWrite (s : State) (m : Nat) (g : ChanCfg) (r : Req) (a n : Nat) (finds : List (Nat × Find)) : State :=
  let x := s.pp g.pp
  let st := r.store + r.issued
  let bad := s.badRead st n finds
  let s1 := (s.found st n finds).each (chunks a n x.mps) fun t q =>
    let o := st + (q.1 + 2 ^ 64 - a) % 2 ^ 64
    t.emit (.write g.pp q.1 x.ro (g.noSnoop && x.noSnoop) (s.badRead o q.2 finds) (s.mbs o q.2))
  let s2 := if !bad then s1
    else match r.kind with
      | .push uid => (match mapGet? s1.pushes uid with
        | some j => { s1 with pushes := mapPut s1.pushes uid { j with lost := true } }
        | none => s1)
      | _ => s1.modReq m r.kind fun r => { r with lost := true }
  s2.moved m n

/-- The first burst of a request takes its elements' credits and fixes where it starts (R283, R286). -/
def State.startReq (s : State) (m : Nat) (g : ChanCfg) (r : Req) : State :=
  let p := (s.chan m).pos
  let s1 := (s.modReq m r.kind fun r =>
    { r with start := some p, paddr := if r.useDesc then g.addr p else r.paddr }).modChan m fun x => { x with waiting := false }
  if r.useDesc && g.credit then
    s1.wr (movPg m) MOV_CREDIT_ELEMS (s.rd (movPg m) MOV_CREDIT_ELEMS - g.needs r)
  else s1

/-- A fetch whose tail has no block yet issues no burst (R257). -/
def State.unfetched (s : State) (r : Req) : Bool :=
  match r.kind with
  | .fetch uid => (match s.job? uid with | some j => j.res != .fetching | none => true)
  | _ => false

/-- The next burst of request `r`, at the head of the channel's queue, is issued (R287, R289). -/
def State.issueBurst (s : State) (m : Nat) (g : ChanCfg) (r : Req) (finds : List (Nat × Find)) : State :=
  let x := s.chan m
  let p := r.start.getD x.pos
  let (a, n) := g.burstOf r p
  let s1 := { s with granted := mapSet 255 s.granted g.pp m }
  let s2 := if r.start.isNone then s1.startReq m g r else s1
  let s3 := if r.useDesc then s2.setPos m (g.after p ((r.issued + n + (g.elem - 1)) / g.elem)) else s2
  let s4 := (s3.modReq m r.kind fun r => { r with issued := r.issued + n }).modChan m fun x =>
    { x with bursts := x.bursts + 1 }
  if g.push then s4.sendWrite m g r a n finds
  else s4.sendRead m g
    { num := x.bursts, req := r.kind, paddr := a, store := r.store + r.issued, off := r.issued, len := n }

/-- BURST_ISSUE (R284, R286-R288): the channel halts exhausted, waits for credits, or, granted the link, begins a burst. -/
def State.burstIssue (s : State) (m : Nat) (finds : List (Nat × Find)) : State :=
  let x := s.chan m
  match x.cfg with
  | none => s
  | some g =>
    if !s.moverRuns || x.mode != .enabled then s
    else match x.failed with
    | b :: t =>
      if !s.granted? m g.pp then s
      else ({ s with granted := mapSet 255 s.granted g.pp m }.modChan m fun x => { x with failed := t }).sendRead m g b
    | [] =>
      match x.head with
      | none => s
      | some r =>
        let first := r.start.isNone && r.useDesc
        if s.unfetched r then s
        else if first && !g.wrap && decide (g.total < x.pos + g.needs r) then
          s.haltOn m r.kind 6 (if x.pos < g.total then g.addr x.pos else 0) r.store g.push []
        else if first && g.credit && decide (s.rd (movPg m) MOV_CREDIT_ELEMS < g.needs r) then
          if x.waiting then s else (s.modChan m fun x => { x with waiting := true }).irq (movPg m) 16
        else if !s.granted? m g.pp then s
        else s.issueBurst m g r finds

/-! ### Completions (R287, R292, R293) -/

/-- The last read of a withdrawn request is over: the request ends, and what waited for it goes on (R259, R266, R289). -/
def State.readOver (s : State) (m : Nat) (k : ReqKind) : State :=
  if s.reading m k then s
  else match s.reqOf m k with
  | some r => if r.withdrawn then
        (match k with
          | .fetch uid => (s.endReq m k).tryComplete uid
          | _ => s.endReq m k)
      else s
  | none => match k with
    | .fetch uid => s.tryComplete uid
    | _ => s

/-- A burst leaves the list of those outstanding. -/
def State.burstOver (s : State) (m num : Nat) : State :=
  s.modChan m fun x => { x with outst := x.outst.filter fun b => b.num != num }

/-- READ_COMPLETION (R257, R287): the data of one burst has arrived, `ns` after its first request. -/
def State.readDone (s : State) (m num : Nat) (data : List Byte) (ns : Nat) : State :=
  match (s.chan m).outst.find? fun b => b.num == num with
  | none => s
  | some b =>
    if s.down || data.length != b.len then s
    else
      let p := movPg m
      let s1 := (s.burstOver m num).wr p MOV_LAT_MAX_NS (max (s.rd p MOV_LAT_MAX_NS) (min ns (2 ^ 32 - 1)))
      if b.discard then s1.readOver m b.req
      else ((s1.writeWords b.store data).moved m b.len).modReq m b.req fun r => { r with got := r.got + b.len }

/-- Bits of AER Uncorrectable Error Status, as the PCI Express specification numbers them (log 76). -/
def aerSurpriseDown : Nat := 5
def aerPoisoned : Nat := 12
def aerFlowControl : Nat := 13
def aerTimeout : Nat := 14
def aerAbort : Nat := 15
def aerOverflow : Nat := 17
def aerMalformed : Nat := 18
def aerUnsupported : Nat := 20

/-- The function of PPn logs an error (R43). -/
def State.aer (s : State) (n bit_ : Nat) : State := s.modPp n fun x => { x with aerStatus := x.aerStatus ||| bit bit_ }

/-- The AER error of a device read that has failed, by its cause (R43). -/
def aerOfCause (cause : Nat) : Nat :=
  if cause = 1 then aerPoisoned else if cause = 2 then aerUnsupported else if cause = 3 then aerAbort else aerTimeout

/-- An error counter of the PPn page advances: an event on line 36 + n (R43, R64, R369, R396). -/
def State.ppError (s : State) (n : Nat) (f : Field) : State :=
  ((s.bump (ppPg n) f).tally (0x60 + 16 * n + 12)).fault (36 + n) .dev

/-- A device read on PPn has failed with a cause (R43): counted, and logged. -/
def State.readError (s : State) (n cause : Nat) : State :=
  (s.ppError n (if cause = 1 then PP_ERR_POISON_COUNT else PP_ERR_CTO_COUNT)).aer n (aerOfCause cause)

/-- A read of a channel has failed with a cause (R43, R292, R293): counted, and the channel halts at the first. -/
def State.readFailed (s : State) (m num cause : Nat) : State :=
  match (s.chan m).outst.find? fun b => b.num == num with
  | none => s
  | some b =>
    if s.down then s
    else
      let pp := (s.boundPp m).getD 0
      let s1 := (s.burstOver m num).readError pp cause
      let again := if b.discard then [] else [b]
      let s2 := if (s1.chan m).mode = .halted then
          s1.modChan m fun x => { x with failed := x.failed ++ again }
        else s1.haltOn m b.req cause b.paddr b.store false again
      if b.discard then s2.readOver m b.req else s2

/-! ### Ends of requests -/

/-- A port holds a transmit block that one of its objects needs (R257). -/
def State.heldFor (s : State) (lead : Nat) (b : Block) : Bool :=
  b.kind == .tx && b.users.any fun u => match u with
    | .job v => (match s.job? v with | some k => !k.fwd && k.lead == lead | none => false)
    | _ => false

/-- A block for `len` bytes fits the quota of port `lead` (R257). -/
def State.quotaFits (s : State) (lead len : Nat) : Bool :=
  let quota := s.rd (portPg lead) PORT_TX_QUOTA_UNITS
  let held := (s.blocks.filter (s.heldFor lead)).foldl (fun n b => n + b.len) 0
  quota == 0 || decide (128 < quota) || decide ((held + 256 * 2 ^ orderFor len + 65535) / 65536 ≤ quota)

/-- FETCH_BLOCK_RESERVE (R257): the fetch at the head of the queue gets its block, or waits for one; the wait of an object is
counted once. -/
def State.fetchReserve (s : State) (m : Nat) : State :=
  let x := s.chan m
  let len := (x.head.map Req.len).getD 0
  match x.head.map Req.kind with
  | some (.fetch uid) =>
    match s.job? uid with
    | none => s
    | some j =>
      if !s.moverRuns || x.mode != .enabled || !(j.res == .waitFetch || j.res == .waitBlock) then s
      else
        match (if s.quotaFits j.lead len then s.takeTx j.cl len (.job uid) else none) with
        | some (a, s1) =>
          (s1.modReq m (.fetch uid) fun r => { r with store := a }).modJob uid fun j =>
            { j with store := some a, res := .fetching }
        | none =>
          let s1 := s.modJob uid fun j => { j with res := .waitBlock, waited := true }
          if j.waited then s1 else (s1.bump (clPg j.cl) CL_TX_WAIT_COUNT).irq (clPg j.cl) 8
  | _ => s

/-- The first request of a kind in the queue that is not withdrawn. -/
def ChanState.firstOf (x : ChanState) (f : ReqKind → Bool) : Option Req := x.queue.find? fun r => f r.kind && !r.withdrawn

/-- A fetch is under way: its object has a block and does not wait for its channel (R257, R294). -/
def State.fetching (s : State) (uid : Nat) : Bool :=
  match s.job? uid with
  | some j => j.res == .fetching
  | none => false

/-- TAIL_RESIDENT (R257, R280): the first fetch of the queue has all its data, and does not wait for a halted channel (R294). -/
def State.tailResident (s : State) (m : Nat) : State :=
  match (s.chan m).firstOf fun k => match k with | .fetch _ => true | _ => false with
  | some r =>
    (match r.kind with
      | .fetch uid => if s.down || !s.fetching uid || decide (r.got < r.len) then s else (s.endReq m r.kind).makeEligible uid
      | _ => s)
  | none => s

/-- A push has ended: its block is freed and its record follows (R234, R235, R241); `drop`: its writes were discarded, and
its record with them (R299). -/
def State.pushEnd (s : State) (m uid paddr : Nat) (drop : Bool) : State :=
  match mapGet? s.pushes uid with
  | none => s
  | some j =>
    let s1 := { s with
      pushes := mapDel s.pushes uid
      blocks := s.blocks.filter fun b => !(b.addr == j.blk && b.users.contains (.push uid)) }
    (s1.endReq m (.push uid)).queueRec j.tgt
      { slot := true, words := pushWords j.words (if j.lost then 2 else 0) paddr false, drop := drop }

/-- PUSH_DONE (R234): the last write of the push at the head of the queue has been sent. -/
def State.pushDone (s : State) (m : Nat) : State :=
  match (s.chan m).firstOf fun k => match k with | .push _ => true | _ => false with
  | some r =>
    (match r.kind with
      | .push uid => if s.down || decide (r.issued < r.len) then s else s.pushEnd m uid r.paddr false
      | _ => s)
  | none => s

/-- A transfer has ended with a state (R296, R301). -/
def State.xferEnd (s : State) (m st : Nat) : State :=
  (((s.dropUser (.xfer m)).endReq m .xfer).wr (movPg m) MOV_XFER_STATE st).irq (movPg m) 8

/-- XFER_DONE (R296, R297). -/
def State.xferDone (s : State) (m : Nat) : State :=
  match s.reqOf m .xfer, (s.chan m).cfg with
  | some r, some g =>
    if s.down || r.withdrawn || decide ((if g.push then r.issued else r.got) < r.len) then s
    else s.xferEnd m (if r.lost then 3 else 2)
  | _, _ => s

/-! ### Links (R44, R299) -/

/-- Device writes to PPn that were not sent are discarded, and reads outstanding have failed (R44, R292, R299): a channel of
PPn halts with CAUSE = LINK, and a push that has begun ends as if sent. -/
def State.linkChan (s : State) (m : Nat) : State :=
  let x := s.chan m
  match x.cfg with
  | none => s
  | some _ =>
    match x.outst with
    | b :: _ =>
      let s1 := s.modChan m fun x => { x with outst := [] }
      let again := x.outst.filter fun b => !b.discard
      let s2 := if x.mode = .halted then s1.modChan m fun x => { x with failed := x.failed ++ again }
        else s1.haltOn m b.req 5 b.paddr b.store false again
      s2.each (x.queue.filter (·.withdrawn)) fun s r => s.readOver m r.kind
    | [] =>
      s.each x.queue fun s r =>
        match r.kind with
        | .push uid =>
          if r.issued = 0 then s else (s.skipElems m r).pushEnd m uid r.paddr true
        | _ => s

/-- Every channel bound to PPn. -/
def State.linkChans (s : State) (n : Nat) : State :=
  s.each ((s.chans.filter fun e => (e.2.cfg.map (·.pp)) == some n).map (·.1)) State.linkChan

/-! ### Commands of the MOV page (R281, R294-R296, R302) -/

/-- The configuration in the registers. -/
def State.chanCfg (s : State) (m : Nat) : ChanCfg :=
  let p := movPg m
  let step (f : Field) : Int := let v := s.rd p f; if v < 2 ^ 31 then (v : Int) else (v : Int) - 2 ^ 32
  { pp := s.rd p MOV_CFG_PP, push := s.rd p MOV_CFG_MODE == 2, noSnoop := s.flag p MOV_CFG_NOSNOOP
    wrap := s.flag p MOV_CFG_WRAP, credit := s.flag p MOV_CFG_CREDIT, burst := s.rd p MOV_CFG_BURST
    elem := 64 * s.rd p MOV_ELEM_ELEM64, base := s.rd p MOV_BASE_LO_ADDR + s.rd p MOV_BASE_HI_ADDR * 2 ^ 32
    c0 := s.rd p MOV_CNT01_C0M1 + 1, c1 := s.rd p MOV_CNT01_C1M1 + 1, c2 := s.rd p MOV_CNT2_C2M1 + 1
    s0 := step MOV_STEP0_STEP, s1 := step MOV_STEP1_STEP, s2 := step MOV_STEP2_STEP }

/-- The descriptor checks of ENABLE and SET_DESC. -/
def ChanCfg.descBad (g : ChanCfg) : Bool :=
  g.elem == 0 || decide (65536 < g.elem) || g.base % 4 != 0 || g.s0 % 4 != 0 || g.s1 % 4 != 0 || g.s2 % 4 != 0

/-- ENABLE, accepted. -/
def State.chanEnable (s : State) (m : Nat) : State :=
  let p := movPg m
  let g := s.chanCfg m
  let md := s.rd p MOV_CFG_MODE
  if md = 0 || md = 3 || g.burst < 6 || 12 < g.burst || g.descBad then s.cmdEnd p stBadArg 0
  else
    let s1 := s.modChan m fun x =>
      { mode := .enabled, cfg := some g, rem := x.rem, bursts := x.bursts }
    ((((s1.setPos m 0).wr p MOV_CREDIT_ELEMS 0).wr p MOV_STATE_CAUSE 0).wr p MOV_XFER_STATE 0).cmdEnd p stOk 0

/-- A filter element of an active list or an accepted object names the channel (R302). -/
def State.chanUsed (s : State) (m : Nat) : Bool :=
  let c := m / 32
  (s.jobs.any fun e => !e.2.fwd && e.2.src != 2 && e.2.chan == m) ||
  (clusterPorts c).any fun n =>
    (List.range (s.rd (portPg n) PORT_FLT_LIST_COUNT)).any fun i =>
      let e := s.elem c (s.rd (portPg n) PORT_FLT_LIST_FIRST + i)
      e.ty != 0 && e.push && 32 * c + e.chan == m

/-- DISABLE, RESUME, SET_DESC, ABORT and XFER may be written now (R302). -/
def State.disableOk (s : State) (m : Nat) : Bool := s.chanState m == 1 && !s.chanUsed m
def State.resumeOk (s : State) (m : Nat) : Bool :=
  let x := s.chan m
  x.mode == .halted && (s.rd (movPg m) MOV_STATE_CAUSE != 6 || x.setDesc)
def State.setDescOk (s : State) (m : Nat) : Bool :=
  let x := s.chan m
  x.mode == .disabled || (x.mode == .halted && s.rd (movPg m) MOV_STATE_CAUSE == 6)
def State.abortOk (s : State) (m : Nat) : Bool :=
  let x := s.chan m
  x.mode == .halted && x.queue.all fun r => match r.kind with | .fetch _ => false | _ => true
def State.xferOk (s : State) (m : Nat) : Bool := (s.chan m).mode != .disabled && s.rd (movPg m) MOV_XFER_STATE != 1

/-- RESUME, accepted (R294): the fetches stop waiting for their channel. -/
def State.chanResume (s : State) (m : Nat) : State :=
  let x := s.chan m
  let s1 := (s.modChan m fun x => { x with mode := .enabled, setDesc := false }).each x.queue fun s r =>
    match r.kind with
    | .fetch uid => s.modJob uid fun j =>
        if j.res = .waitChan then { j with res := if j.store.isSome then .fetching else .waitFetch } else j
    | _ => s
  (s1.panic (List.range 128)).cmdEnd (movPg m) stOk (s.rd (movPg m) MOV_STATE_CAUSE)

/-- SET_DESC, accepted. -/
def State.chanSetDesc (s : State) (m : Nat) : State :=
  let g := s.chanCfg m
  if g.descBad then s.cmdEnd (movPg m) stBadArg 0
  else
    let s1 := s.modChan m fun x =>
      { x with setDesc := true
               cfg := x.cfg.map fun (h : ChanCfg) =>
                 { h with elem := g.elem, base := g.base, c0 := g.c0, c1 := g.c1, c2 := g.c2, s0 := g.s0, s1 := g.s1, s2 := g.s2 } }
    (s1.setPos m 0).cmdEnd (movPg m) stOk 0

/-- A push ends without its data in partner memory (R234, R295, R299): its record says so, and its block stays held. -/
def State.pushFail (s : State) (m uid paddr : Nat) : State :=
  match mapGet? s.pushes uid with
  | none => s
  | some j =>
    let s1 := s.swapUser j.blk (.push uid) (if j.direct then [.direct (j.words.getD 3 0) (j.words.getD 15 0 % 128)] else [])
    ({ s1 with pushes := mapDel s1.pushes uid }.endReq m (.push uid)).queueRec j.tgt
      { slot := true, words := pushWords j.words 1 paddr true }

/-- ABORT, accepted (R295). -/
def State.chanAbort (s : State) (m : Nat) : State :=
  let x := s.chan m
  let s1 := s.each x.queue fun s r =>
    match r.kind with
    | .push uid => s.pushFail m uid r.paddr
    | .xfer => s.xferEnd m 4
    | .fetch _ => s
  let n := (x.queue.filter fun r => match r.kind with | .push _ => true | _ => false).length
  (s1.modChan m fun x => { x with mode := .disabled, queue := [], outst := [], failed := [], waiting := false }).cmdEnd
    (movPg m) stOk n

/-- XFER, accepted (R296). -/
def State.chanXfer (s : State) (m : Nat) : State :=
  let p := movPg m
  let c := m / 32
  let a := s.arg0 p
  let n := s.arg1 p
  match (s.chan m).cfg with
  | none => s.cmdStop p stBadArg
  | some g =>
    if a % 64 != 0 || n % 4 != 0 || n < 4 || 0x800000 < n || a < sliceBase c || sliceBase (c + 1) < a + n ||
        (!g.push && (!s.softRange c a n || s.heldIn (a / 64 * 64) ((a + n + 63) / 64 * 64 - a / 64 * 64))) then
      s.cmdStop p stBadArg
    else
      let s1 := (s.holdRange a n (.xfer m)).raise m { kind := .xfer, len := n, store := a, useDesc := true }
      (s1.wr p MOV_XFER_STATE 1).cmdEnd p stOk (g.elems n)

/-- MOV_CREDIT_ADD (R286, R300). -/
def State.creditAdd (s : State) (m v : Nat) : State :=
  let p := movPg m
  let s1 := s.bump p MOV_CREDIT_ELEMS v
  let x := s1.chan m
  match x.cfg, x.head with
  | some g, some r =>
    if x.waiting && decide (g.needs r ≤ s1.rd p MOV_CREDIT_ELEMS) then s1.modChan m fun x => { x with waiting := false } else s1
  | _, _ => s1

end Sys2Proof.Machine
end

