-- ==== Sys2Proof/Machine/Pcie.lean ====
section
/-!
DEFINITION. The partner links (R1, R31, R33, R34, R42-R44, R64, R67): configuration space, resets of a function, links going down
and up, and requests that are not accepted.
-/
set_option Elab.async false

namespace Sys2Proof.Machine

/-! ### Configuration space (R1, R31, R33, R34) -/

/-- Identity of every function: Vendor ID and Device ID (R1), Revision ID, Class Code and Subsystem Vendor ID (R33). -/
def pciVendor : Nat := 0x1DF7
def pciDevice : Nat := 0x0128
def pciRevision : Nat := 0xB0
def pciClass : Nat := 0x028000
def pciSubsystemVendor : Nat := 0x1DF7

/-- What BAR register `i` keeps of a value written to it (R34): BAR0 of 4 MiB, not prefetchable, and BAR2 of 128 MiB,
prefetchable, have 64 bits; BAR4 and BAR5 are not implemented. -/
def barValue (i v : Nat) : Nat :=
  if i = 0 then v / 0x400000 * 0x400000 + 0x4
  else if i = 2 then v / 0x8000000 * 0x8000000 + 0xC
  else if i = 1 ∨ i = 3 then v
  else 0

/-- BAR register `i` of a function. -/
def PpState.bar (x : PpState) (i : Nat) : Nat := mapGet (barValue i 0) x.bars i

/-- The bus address of an offset in BAR0 or BAR2 (`i`) of the function of PPn. -/
def State.barAddr (s : State) (n i off : Nat) : Nat :=
  (((s.pp n).bar i / 64 * 64) + (s.pp n).bar (i + 1) * 2 ^ 32 + off) % 2 ^ 64

/-- Dword `i` of the configuration header of PPn, where a rule states all of it (R1, R33, R34): no row of the table reads
configuration space (log 76). -/
def State.configWord (s : State) (n i : Nat) : Option Nat :=
  if i = 0 then some (pciVendor + pciDevice * 2 ^ 16)
  else if i = 2 then some (pciRevision + pciClass * 2 ^ 8)
  else if 4 ≤ i ∧ i < 10 then some ((s.pp n).bar (i - 4))
  else if i = 11 then some (pciSubsystemVendor + s.subsystemId * 2 ^ 16)
  else if i = 12 then some 0
  else none

/-- Header Type of every function: a single function (R33). -/
def pciHeaderType : Nat := 0

/-! ### Resets and links -/

/-- The PCI Express state of the function of PPn is reset (R44): what was not sent to it is discarded, channels with reads
outstanding halt; page owners and pending interrupts are kept, and so is the AER status, which such a reset does not clear
(log 76). -/
def State.functionReset (s : State) (n : Nat) : State :=
  let s1 := ((s.linkChans n).discardRecs n).scansLose n
  let s2 := match s1.snap with
    | some x => if x.pp = n then { s1 with snap := none } else s1
    | none => s1
  s2.modPp n fun x =>
    { vec8 := x.vec8, syncCount := x.syncCount, perst := x.perst, moonWake := x.moonWake, aerStatus := x.aerStatus }

/-- The registers of a link that is down (R64). -/
def State.linkOff (s : State) (n : Nat) : State :=
  let p := ppPg n
  ((((s.wr p PP_LINK_SPEED 0).wr p PP_LINK_FLIT 0).wr p PP_LINK_WIDTH 0).wr p PP_LINK_L0P_WIDTH 0).wr p PP_LINK_PM 0

/-- The link of PPn is lost (R43, R44, R369). -/
def State.linkLost (s : State) (n : Nat) : State :=
  if s.down then s
  else ((((s.linkOff n).functionReset n).aer n aerSurpriseDown).irq (ppPg n) 4).fault (32 + n) .dev

/-- A Function Level Reset or hot reset on PPn (R44, R369). -/
def State.flr (s : State) (n : Nat) : State :=
  if s.down then s else ((s.functionReset n).irq (ppPg n) 16).fault (32 + n) .dev

/-- PPn reaches L0 with a width of 2^`width` lanes (R64, R67): a WAKEn_N that the Moon domain drives is released (R423). -/
def State.linkReaches (s : State) (n speed : Nat) (flit : Bool) (width : Nat) : State :=
  let p := ppPg n
  if s.down || speed = 0 then s
  else
    let s1 := ((s.wr p PP_LINK_SPEED speed).wrB p PP_LINK_FLIT flit).wr p PP_LINK_WIDTH (2 ^ width)
    (((s1.wr p PP_LINK_L0P_WIDTH (2 ^ width)).wr p PP_LINK_PM 0).modPp n fun x =>
      { x with moonWake := false, perst := true }).irq p 4

/-- The partner asks for an L0p width of `w` lanes (R31, R64): x8, x4 or x2, no more than the link has, in RUN and DEGRADED. -/
def State.l0pWidth (s : State) (n w : Nat) : State :=
  let p := ppPg n
  if (s.mode == .run || s.mode == .degraded) && s.linkUp n && s.rd p PP_LINK_PM == 0 && decide (2 ≤ w) &&
      decide (w ≤ s.rd p PP_LINK_WIDTH)
  then s.wr p PP_LINK_L0P_WIDTH w
  else s

/-- The link of PPn takes a link power state, when it is up (R31, R64). -/
def State.linkPower (s : State) (n pm : Nat) : State := if s.linkUp n then s.wr (ppPg n) PP_LINK_PM pm else s

/-- A write of configuration space (R31, R34, R42, R299). -/
def State.configWrite (s : State) (n : Nat) (w : CfgWrite) : State :=
  if s.down then s
  else match w with
  | .bme on =>
    let s1 := if on then s else s.linkChans n
    s1.modPp n fun x => { x with bme := on }
  | .msix en fmask => s.modPp n fun x => { x with msixEn := en, fmask := fmask }
  | .devCtl ro ns mps mrrs =>
    s.modPp n fun x => { x with ro := ro, noSnoop := ns, mps := 128 * 2 ^ mps.val, mrrs := 128 * 2 ^ mrrs.val }
  | .devCtl2 cto => s.modPp n fun x => { x with cto := cto.val }
  | .l0p width => s.l0pWidth n (2 ^ width.val)
  | .linkPm pm => s.linkPower n pm.val
  | .power d3 =>
    -- in D3hot the function issues no request, and its link is in L1 (log 77)
    let s1 := (if d3 then s.linkChans n else s).modPp n fun x => { x with d3 := d3 }
    s1.linkPower n (if d3 then 1 else 0)
  | .bar i v => s.modPp n fun x => { x with bars := mapSet (barValue i.val 0) x.bars i.val (barValue i.val v.toNat) }
  | .aerClear v => s.modPp n fun x => { x with aerStatus := clearBits x.aerStatus v.toNat }

/-! ### Requests that are not accepted -/

/-- A posted write with EP set (R43). -/
def State.poisoned (s : State) (n : Nat) : State :=
  if s.down then s else (s.ppError n PP_ERR_POISON_COUNT).aer n aerPoisoned

/-- An unsupported request (R43, R64): counted, its address latched, and UR returned to a read. -/
def State.unsupported (s : State) (n : Nat) (read : Bool) (addr : Nat) : State :=
  if s.down then s
  else
    let p := ppPg n
    let s1 := ((s.ppError n PP_ERR_UR_COUNT).wr p PP_UR_ADDR_LO_ADDR addr).wr p PP_UR_ADDR_HI_ADDR (addr / 2 ^ 32)
    let s2 := (s1.aer n aerUnsupported).irq p 32
    if read then s2.emit (.ur n addr) else s2

/-- A memory request to the function of PPn is served: it is not in D3hot (log 77). -/
def State.barServes (s : State) (n : Nat) : Bool := !(s.pp n).d3

/-- The AER error of a link error. -/
def linkAer : LinkErr → Nat
  | .malformed => aerMalformed
  | .overflow => aerOverflow
  | .flowControl => aerFlowControl

end Sys2Proof.Machine
end

