-- ==== Sys2Proof/Machine/Chip.lean ====
section
/-!
DEFINITION. Power, resets, clocks and the start of the device (R402-R416, R421-R429, R433, R442-R447, R451, R452, R515).
-/
set_option Elab.async false

namespace Sys2Proof.Machine

/-! ### Reset (R30, R405, R406, R429, R462) -/

def RstCause.code : RstCause → Nat
  | .powerOn => 1 | .supply => 2 | .resetN => 3 | .perst => 4 | .devReset => 5 | .update => 6 | .wake => 7

/-- The assertion of a device reset (R405, R406): its source is latched, and resets are counted (R429). An entry to DORMANT
in progress is over, and its detectors with it. -/
def State.deviceReset (s : State) (c : RstCause) : State :=
  if s.chip.aonDown then s
  else
    let s0 := if s.moving = some .toDormant then s.disarmMoon else s
    ((s0.afterReset keptKey).wr aonPg AON_RST_CAUSE_CAUSE c.code).adv aonPg AON_RST_CAUSE_COUNT

/-- A power-on reset (R405): the Moon domain and the test access port are reset too. -/
def State.powerOn (s : State) : State :=
  let s1 := s.afterReset fun key => keptUpd (key / 131072) (key / 32 % 4096)
  { s1 with
    pps := s.pps.foldl (fun m e => mapSet {} m e.1 { perst := e.2.perst }) []
    chip := { s1.chip with moon := [] }
    tap := { s1.tap with ir := .idcode } }

/-- VDDAON rises through 80 % of nominal (R405). -/
def State.powerUp (s : State) : State :=
  ({ s with chip := { s.chip with aonDown := false, low := clearBits s.chip.low 16 } }).powerOn

/-- VDDAON falls below 80 % of nominal (R404). -/
def State.vddaonDrop (s : State) : State :=
  ({ s with chip := { s.chip with aonDown := true, low := s.chip.low ||| 16, outRange := s.chip.outRange ||| 16 } }).powerOn

/-! ### Supplies (R402, R404, R427) -/

/-- The numbers of R427 that belong to groups B and C: VDD, VDDPHY, VDDIO, VDDNV. -/
def groupBC (i : Nat) : Bool := i == 0 || i == 1 || i == 3 || i == 5

/-- A supply leaves its operating range (R404, R428): line 52 takes an event, and SUPPLY is set. -/
def State.supplyOut (s : State) (i : Nat) : State :=
  if s.chip.outRange.testBit i then s
  else
    let s1 := { s with chip := { s.chip with outRange := s.chip.outRange ||| bit i } }
    if s.down then s1 else (s1.irq crpPg 8).fault 52 .dev

/-- A supply falls below 80 % of nominal (R404): in groups B and C, outside DORMANT, a device reset. -/
def State.supplyDrop (s : State) (i : Nat) : State :=
  if groupBC i then
    let s1 := { s with chip := { s.chip with low := s.chip.low ||| bit i, outRange := s.chip.outRange ||| bit i } }
    if s.mode = .dormant then s1 else s1.deviceReset .supply
  else s.supplyOut i

/-- A supply is back in its range (R427, R428). -/
def State.supplyReturn (s : State) (i : Nat) : State :=
  let was := s.chip.outRange.testBit i
  let s1 := { s with chip := { s.chip with low := clearBits s.chip.low (bit i), outRange := clearBits s.chip.outRange (bit i) } }
  if s.down || !was then s1 else s1.irq crpPg 8

/-! ### Reset pins (R405, R421) -/

/-- RESET_N is low for 1 µs. -/
def State.resetPin (s : State) : State :=
  ({ s with chip := { s.chip with resetN := false } }).deviceReset .resetN

/-- PERSTn_N goes low. -/
def State.perstLow (s : State) (n : Nat) : State :=
  let s1 := s.modPp n fun x => { x with perst := false }
  if s.mode = .dormant then s1
  else if n = s.chip.primary then s1.deviceReset .perst
  else s1.linkLost n

/-- The primary PERSTn_N rises in DORMANT: a wake, unless one has been recorded. -/
def State.perstRise (s : State) : State :=
  if s.mode != .dormant || s.chip.aonDown then s
  else
    let s1 := s.modPp s.chip.primary fun x => { x with perst := true }
    if s.chip.wake.isSome then s1
    else
      let s2 := s1.recordWake true 0 4 true 0
      { s2 with chip := { s2.chip with wake := some .perst } }

/-! ### Release of device reset (R407-R410, R421, R424, R433, R443, R460) -/

/-- The first present input from `i` on, counted modulo 4. -/
def nextRef (present i : Nat) : Option Nat :=
  ([0, 1, 2, 3].map fun k => (i + k) % 4).find? fun k => present.testBit k

/-- The active reference at release (R410): none, when the reset is not released. -/
def releaseRef (straps present : Nat) : Option Nat :=
  let sel := bits straps 2 2
  if present.testBit sel then some sel else if straps.testBit 4 then nextRef present sel else none

/-- Draw a new unlock challenge (R459). -/
def State.newChallenge (s : State) : State :=
  s.each [0, 1, 2, 3] fun s k =>
    let (w, s1) := s.drawRandom
    s1.wr secPg SEC_CHAL_BYTES w k

/-- Chunks that the journal says are copied: those of the parts before PART, and CHUNK. -/
def State.chunksDone (s : State) : Nat :=
  let ps := s.mfParts stageBase
  let p := s.rd updPg UPD_JOURNAL_PART
  (if p = 15 then ps else ps.take p).foldl (fun n p => n + chunksOf p.len) (s.rd updPg UPD_JOURNAL_CHUNK)

/-- The loader stays in LOADER with a cause, FAULT_N low (R380, R433). -/
def State.loaderStays (s : State) (cause : Nat) : State :=
  { s.wr updPg UPD_LOADER_CAUSE cause with loaderFault := true }

/-- What the loader does first (R433): an interrupted unlock is completed, an interrupted copy resumes in UPDATE, and after
three unconfirmed starts the device stays in LOADER (R445). -/
def State.loaderStarts (s : State) : State :=
  let s1 := if s.fuses.unlockPend && !s.fuses.debugOpen then
      { s with fuses := { s.fuses with keyDead := true, idkeyBlown := true, debugOpen := true } }
    else s
  if s1.rd updPg UPD_JOURNAL_PHASE = 1 then
    ((s1.wr updPg UPD_PROGRESS_TOTAL (s1.mfChunks stageBase)).wr updPg UPD_PROGRESS_DONE s1.chunksDone).enterDeviceMode .update
  else if s1.rd updPg UPD_JOURNAL_PHASE = 2 && s1.rd updPg UPD_JOURNAL_ATTEMPTS == 3 then s1.loaderStays 0x90
  else s1

/-- The straps are latched, and the clocks chosen (R408, R410, R427). -/
def State.latchStraps (s : State) (straps present ref : Nat) : State :=
  let p := crpPg
  let s1 := (((s.wr p CRP_STRAP_PRIMPP straps).wr p CRP_STRAP_REFSEL (straps / 4)).wr p CRP_STRAP_REFAUTO (straps / 16)).wr
    p CRP_STRAP_AUTOSTART (straps / 32)
  let s2 := (s1.wr p CRP_CLK_ACTIVE ref).wr p CRP_CLK_FAILOVER (straps / 16)
  ({ s2 with
    inReset := false
    chip := { s2.chip with primary := straps % 4, refs := present, resetN := true } }).modPp (straps % 4)
      fun x => { x with perst := true }

/-- RESET_RELEASE (R407). In DORMANT, with a wake, it ends DORMANT (R421, R423). -/
def State.release (s : State) (straps present : Nat) : State :=
  let waked := s.mode == .dormant && s.chip.wake.isSome
  if s.chip.aonDown || s.chip.low != 0 || s.chip.outRange != 0 || !(s.inReset || waked) then s
  else match releaseRef straps present with
    | none => s
    | some ref =>
      let s1 := if waked then s.deviceReset (s.chip.wake.getD .wake) else s
      let s2 := (s1.latchStraps straps present ref).newChallenge
      let s3 := if s2.flag aonPg AON_STAT_ARMED then s2.wr aonPg AON_STAT_FORCED_FRAME 1 else s2
      s3.loaderStarts

/-! ### The start of the firmware (R433, R380, R424, R451, R452) -/

/-- The settings at entry to CONFIGURE (R447, R451, R452). -/
def State.bootSettings (s : State) : State :=
  let s1 := s.settingsShow
  match s1.currentSlot with
  | none => s1
  | some i =>
    let schema := bits (s1.mramWord (slotBase i + 4)) 0 16
    if schema != s1.rd updPg UPD_RUN_INFO_SCHEMA then
      (((s1.eraseSlots.wr updPg UPD_SET_STAT_RESET 1).wr updPg UPD_SET_STAT_OLD_SCHEMA schema).err updPg 2).irq updPg 8
    else
      let b := s1.slotImage i
      { s1 with load := some { image := (List.range (b.length / 4)).map (wordOf b), boot := true } }

/-- Sticky bits that the journal carries over are set again, without a reaction (R26, R380). -/
def State.carryOver (s : State) : State :=
  let s1 := s.each s.carried fun s e => s.modLine e.1 fun x => { x with sticky := true, level := e.2 }
  let s2 := { s1 with carried := [] }
  if s.carried.isEmpty then s2 else s2.irq fcoPg 4

/-- What the firmware publishes of the running image (R61, R456, R462). -/
def State.runningImage (s : State) : State :=
  let fw := s.mfFw codeBase
  let s1 := ((s.wr devPg DEV_FW_BUILD fw).wr devPg DEV_FW_MINOR (fw / 2 ^ 16)).wr devPg DEV_FW_MAJOR (fw / 2 ^ 24)
  let s2 := (s1.wr updPg UPD_RUN_INFO_SCHEMA (s1.mfSchema codeBase)).wr updPg UPD_RUN_INFO_MIN_ROLLBACK (s1.mfRollback codeBase)
  ({ s2 with runDigest := [] }).each (List.range 12) fun s _ =>
    let (w, s1) := s.drawCrypto
    { s1 with runDigest := s1.runDigest ++ [w] }

/-- LOADER to CONFIGURE (R424, R433 step 4, R464): the telemetry counters, SEQ and the core time of a snapshot start at 0 (R395, R396). -/
def State.enterConfigure (s : State) : State :=
  let repeated := s.restored || (s.rd updPg UPD_JOURNAL_PHASE == 2 && s.rd updPg UPD_JOURNAL_ATTEMPTS != 0)
  let s0 := { s with restored := false, tel := [], telNext := 0, coreUs := 0 }
  let s1 := (s0.wr updPg UPD_LOADER_CAUSE 0).enterDeviceMode .configure
  let s2 := (s1.disarmMoon.runningImage).carryOver
  let s3 := if s2.flag aonPg AON_WAKE_SEEN_VALID then s2.irq aonPg 4 else s2
  let s4 := if repeated then s3.err updPg 5 else s3
  s4.bootSettings

/-- CODE_VERIFY_DONE (R433 steps 3 to 6). -/
def State.codeVerified (s : State) (sigOk partsOk : Bool) : State :=
  if s.inReset || s.mode != .loader || s.loaderFault then s
  else
    let st := s.checkCode sigOk partsOk
    if st = 0 then s.enterConfigure
    else if s.rd updPg UPD_STAGE_STATE = stActive then
      let s1 := ((s.wr updPg UPD_JOURNAL_PHASE 1).wr updPg UPD_JOURNAL_PART 0).wr updPg UPD_JOURNAL_CHUNK 0
      ({ s1 with restored := true }).deviceReset .update
    else s.loaderStays st

/-! ### Trial and the activation copy (R442, R443, R445) -/

/-- TRIAL_CONFIRM (R445): the firmware has entered CONFIGURE and every cluster PLL has locked. -/
def State.trialConfirm (s : State) : State :=
  if s.down || s.mode == .loader || s.mode == .update || s.rd updPg UPD_JOURNAL_PHASE != 2 ||
      s.rd crpPg CRP_CLK_CL_LOCK != 255 then s
  else
    let s1 := (s.wr updPg UPD_JOURNAL_PHASE 3).wr updPg UPD_STAGE_STATE stActive
    { s1 with fuses := { s1.fuses with rollback := max s1.fuses.rollback (s1.mfRollback codeBase) } }

/-- CONFIRM_TIMEOUT (R445). -/
def State.confirmTimeout (s : State) : State :=
  if s.down || s.loaderFault || s.rd updPg UPD_JOURNAL_PHASE != 2 || s.rd updPg UPD_JOURNAL_ATTEMPTS == 3 then s
  else (s.adv updPg UPD_JOURNAL_ATTEMPTS).deviceReset .update

/-- Copy bytes inside MRAM. -/
def State.mramCopy (s : State) (src dst n : Nat) : State := s.mramPuts dst (s.mramBytes src n)

/-- The journal names the chunk after the current one (R442 step 4): the manifest is the last. -/
def State.journalNext (s : State) (p : Part) : State :=
  let part := s.rd updPg UPD_JOURNAL_PART
  let chunk := s.rd updPg UPD_JOURNAL_CHUNK
  if chunk + 1 < chunksOf p.len then s.wr updPg UPD_JOURNAL_CHUNK (chunk + 1)
  else if part + 1 < (s.mfParts stageBase).length then
    (s.wr updPg UPD_JOURNAL_PART (part + 1)).wr updPg UPD_JOURNAL_CHUNK 0
  else (s.wr updPg UPD_JOURNAL_PART 15).wr updPg UPD_JOURNAL_CHUNK 0

/-- The interrupt controller is reset, as it is in LOADER (R359): the ICU page, the pages of its targets and all its state. -/
def State.icuReset (s : State) : State :=
  { s with
    regs := s.regs.filter fun e => !(decide (4 ≤ e.1 / 131072) && decide (e.1 / 131072 < 37))
    srcs := []
    tgts := []
    holdOff := [] }

/-- A staging word of the chunk is uncorrectable (R443). -/
def State.stagingLost (s : State) (src n : Nat) : State :=
  let hit := s.mramBad.filter fun w => decide (w < src + n) && decide (src < w + 8)
  let s1 := s.each hit fun s w => s.dropPiece ((w - stageBase) / 4096)
  ((s1.wr updPg UPD_STAGE_STATE stReceiving).loaderStays 0x91).icuReset.enterDeviceMode .loader

/-- ACTIVATION_CHUNK_DONE (R442 steps 4 to 6). -/
def State.chunkDone (s : State) : State :=
  if s.mode != .update || s.rd updPg UPD_JOURNAL_PHASE != 1 then s
  else if s.rd updPg UPD_JOURNAL_PART = 15 then
    if s.mramBroken stageBase 4096 then s.stagingLost stageBase 4096
    else
      let s1 := (s.mramCopy stageBase codeBase 4096).adv updPg UPD_PROGRESS_DONE
      ((s1.wr updPg UPD_JOURNAL_PHASE 2).wr updPg UPD_JOURNAL_ATTEMPTS 0).deviceReset .update
  else
    let p := s.mfPart stageBase (s.rd updPg UPD_JOURNAL_PART)
    let o := s.rd updPg UPD_JOURNAL_CHUNK * 4096
    let n := min 4096 (p.len - o)
    if s.mramBroken (stageBase + p.off + o) n then s.stagingLost (stageBase + p.off + o) n
    else ((s.mramCopy (stageBase + p.off + o) (p.dest + o) n).journalNext p).adv updPg UPD_PROGRESS_DONE

/-! ### Clocks (R410-R414, R428) -/

/-- The core PLL is in holdover or free-runs. -/
def State.unlocked (s : State) : Bool := s.flag crpPg CRP_CLK_HOLDOVER || s.flag crpPg CRP_CLK_FREERUN

/-- The core PLL locks to the active reference: holdover and free running end, and ports that waited go on (R412). -/
def State.coreLocks (s : State) : State :=
  (((s.wr crpPg CRP_CLK_HOLDOVER 0).wr crpPg CRP_CLK_FREERUN 0).wr crpPg CRP_CLK_CORE_LOCK 1).releaseHolds

/-- REFERENCE_LOSS (R412 steps 1 and 2). The partner link that runs from this input goes down. -/
def State.referenceLoss (s : State) : State :=
  let a := s.rd crpPg CRP_CLK_ACTIVE
  if s.down || !s.chip.refs.testBit a then s
  else
    let refs := clearBits s.chip.refs (bit a)
    let s1 := ((s.wr crpPg CRP_CLK_HOLDOVER 1).wr crpPg CRP_CLK_CORE_LOCK 0).fault 49 .dev
    let next := if s.flag crpPg CRP_CLK_FAILOVER && s.chip.relock.isNone then nextRef refs (a + 1) else none
    let s2 := if s.linkUp a then s1.linkLost a else s1
    { s2 with chip := { s2.chip with
        refs := refs
        relock := match next with | some r => some ⟨r, false⟩ | none => s2.chip.relock } }

/-- HOLDOVER_EXPIRY (R412 step 3). -/
def State.holdoverEnds (s : State) : State :=
  if s.down || !s.flag crpPg CRP_CLK_HOLDOVER || s.chip.relock.isSome then s
  else (s.wr crpPg CRP_CLK_HOLDOVER 0).wr crpPg CRP_CLK_FREERUN 1

/-- REFERENCE_RETURN (R412 step 3). -/
def State.referenceReturn (s : State) (i : Nat) : State :=
  if s.down then s
  else
    let s1 := { s with chip := { s.chip with refs := s.chip.refs ||| bit i } }
    if i = s1.rd crpPg CRP_CLK_ACTIVE && s1.unlocked && s1.chip.relock.isNone then s1.coreLocks else s1

/-- SET_REF may be written now (R428). -/
def State.setRefOk (s : State) : Bool :=
  (s.mode == .configure || s.mode == .safe) && (List.range 128).all fun n => decide (s.pmode n < 2)

/-- SET_REF, accepted (R428). -/
def State.setRef (s : State) : State :=
  let r := bits (s.arg0 crpPg) 0 2
  if s.chip.refs.testBit r then
    let s1 := (s.wr crpPg CRP_CLK_HOLDOVER 1).wr crpPg CRP_CLK_CORE_LOCK 0
    { s1 with chip := { s1.chip with relock := some ⟨r, true⟩ } }
  else (s.err crpPg 1).cmdStop crpPg stFault

/-- CORE_PLL_RELOCK (R412 step 2, R428). A SET_REF does not end while the cores are stalled (R22). -/
def State.relocked (s : State) (locked : Bool) : State :=
  if s.down then s
  else match s.chip.relock with
  | none => if locked && !s.unlocked then s.wr crpPg CRP_CLK_CORE_LOCK 1 else s
  | some r =>
    if r.cmd && s.stalled then s else
    let s1 := { s with chip := { s.chip with relock := none } }
    let busy := r.cmd && s.flag crpPg PAGE_STAT_BUSY
    if locked && s.chip.refs.testBit r.ref then
      let s2 := ((s1.wr crpPg CRP_CLK_ACTIVE r.ref).coreLocks).irq crpPg 4
      if busy then s2.cmdEnd crpPg stOk r.ref else if r.cmd then s2 else s2.err crpPg 0
    else
      let s2 := if r.cmd && s.chip.refs.testBit (s.rd crpPg CRP_CLK_ACTIVE) then s1.coreLocks else s1
      if busy then (s2.err crpPg 1).cmdStop crpPg stFault else s2

/-- DEV_RESET, accepted (R428). -/
def State.devReset (s : State) : State :=
  if s.arg0 crpPg = 0x47580128 then s.deviceReset .devReset else s.cmdStop crpPg stBadArg

/-- PLL_LOCK_LOSS (R413): of the core PLL, or of a cluster's. -/
def State.lockLoss (s : State) (cluster : Option Nat) : State :=
  if s.down then s
  else match cluster with
  | none => (s.wr crpPg CRP_CLK_CORE_LOCK 0).fault 49 .dev
  | some c =>
    let s1 := s.wr crpPg CRP_CLK_CL_LOCK (clearBits (s.rd crpPg CRP_CLK_CL_LOCK) (bit c))
    if s.fencedCl c then s1 else s1.fault c (.cl c)

/-- CLUSTER_PLL_LOCK (R200): after the entry to CONFIGURE, and in an UNFENCE. -/
def State.clusterLocks (s : State) (c : Nat) : State :=
  if s.down || s.mode == .loader || (s.fencedCl c && s.unfencing != some c) then s
  else s.orBits crpPg CRP_CLK_CL_LOCK (bit c)

/-- MOON_RETRIM (R414): the deviation in 0.01 %, two's complement. -/
def State.moonRetrim (s : State) (dev : Nat) : State :=
  if s.down || !s.chip.refs.testBit (s.rd crpPg CRP_CLK_ACTIVE) then s
  else
    let s1 := (s.wr crpPg CRP_MOON_DEV dev).wr crpPg CRP_MOON_TRIMMED 1
    if 100 < (signed 16 dev).natAbs then s1.fault 49 .dev else s1

/-! ### Power (R425, R426) -/

/-- Power of a port active at rung `g`, in mW (R426). -/
def activeMw (g : Nat) : Nat := [90, 120, 160, 220].getD g 0

/-- Symbol times of rung 3, at 12.8 GBd, in the millisecond between two samples (R99, R515). -/
def sampleTime : Nat := 12800000

/-- Tails at rung `g` have occupied most of the port's wire time since the latest sample: more than half of it (log 80). -/
def PortState.activeAt (x : PortState) (g : Nat) : Bool := decide (sampleTime < 2 * mapGet 0 x.tailTime g)

/-- The power of a port in mW (R426). Below the occupancy at which it is active, it lies between its A-band figure and its active
figure in proportion to its tail occupancy; with tails at several rungs each adds its part, and a port in a loop mode counts
like one in NORMAL (log 80). -/
def State.portMw (s : State) (n : Nat) : Nat :=
  let x := s.port n
  let m := s.pmode n
  if m = pmOff then 0
  else if m = pmConfig || m = pmListen || m = pmSleep || (!x.heard && x.tailTime.isEmpty) then 25
  else [0, 1, 2, 3].foldl (fun a g => a + (activeMw g - 40) * min sampleTime (2 * mapGet 0 x.tailTime g) / sampleTime) 40

/-- The activity term in mW (R425): 4.3 W times the rung rates, of 3.2 Gbit/s x 2^g, of the active ports over 3.2768 Tbit/s. -/
def State.activityMw (s : State) : Nat :=
  let units := (List.range 128).foldl (fun a n =>
    [0, 1, 2, 3].foldl (fun a g => if (s.port n).activeAt g then a + 2 ^ g else a) a) 0
  4300 * units / 1024

/-- What the link of PPn draws, in mW: 1.1 W of the base in L0 at x8 and 64 GT/s, 0.05 W in L1.2 (R425); of every other state the
manual states no figure. -/
def State.linkMw (s : State) (n : Nat) : Nat × State :=
  let p := ppPg n
  let full := s.rd p PP_LINK_SPEED == 6 && s.rd p PP_LINK_WIDTH == 8 && s.rd p PP_LINK_L0P_WIDTH == 8
  if full && s.rd p PP_LINK_PM == 0 then (1100, s)
  else if s.linkUp n && s.rd p PP_LINK_PM == 3 then (50, s)
  else s.drawOpen 12

/-- The typical power of the device in mW by the figures of R425 and R426. -/
def State.typicalMw (s : State) : Nat × State :=
  if s.mode = .loader then (6000, s)
  else
    let links := [0, 1, 2, 3].foldl (fun (x : Nat × State) n =>
      let (w, t) := x.2.linkMw n
      (x.1 + w, t)) (0, s)
    let ports := (List.range 128).foldl (fun a n => a + s.portMw n) 0
    (5100 + links.1 + ports + s.activityMw, links.2)

/-- What the ports have carried is counted anew. -/
def State.newSample (s : State) : State :=
  s.each (List.range 128) fun s n => s.modPort n fun x => { x with heard := false, tailTime := [] }

/-- THERMAL_SAMPLE (R369, R425-R427, R515): Tj in °C, and the correction in mW, two's complement, that the measured supplies and Tj
make to the typical power: R425 names it and states no formula. -/
def State.thermal (s : State) (tj corr : Nat) : State :=
  if s.down then s
  else
    let (typ, sa) := s.typicalMw
    let mw := ((typ : Int) + signed 16 corr).toNat
    let s := sa.newSample
    let t := signed 8 tj
    let hot (a : Nat) : Nat := if signed 8 a < t then tj else a
    let was := signed 8 (s.rd crpPg CRP_THERM_TJ)
    let (q, s0) := s.divOpen mw 4
    let top := (mapGet? s.sinceRead 16).getD (s.rd crpPg CRP_THERM_TJ_MAX)
    let s1 := ((s0.wr crpPg CRP_THERM_TJ tj).wr crpPg CRP_THERM_TJ_MAX (hot top)).wr
      crpPg CRP_PWR_MW q.toNat
    let s2 := { s1 with sinceRead := mapDel s1.sinceRead 16, chip := { s1.chip with
      tjMax := hot s1.chip.tjMax
      power := mw
      cool := if t < 103 then true else if 105 ≤ t then false else s1.chip.cool } }
    let s3 := if 105 ≤ t && s.chip.cool then s2.fault 50 .dev else s2
    if 115 ≤ t && was < 115 then s3.fault 51 .dev else s3

/-! ### Lines of kind L (R368, R369, R381, R412) -/

/-- The condition of a line of kind L holds: the fuses fail their check, no reference to lock to, Tj at 115 °C or above, a supply
outside its range. -/
def State.lineCond (s : State) (l : Nat) : Bool :=
  if l = 49 then s.unlocked && s.chip.relock.isNone && !s.chip.refs.testBit (s.rd crpPg CRP_CLK_ACTIVE)
  else if l = 48 then s.fuses.mismatch
  else if l = 51 then decide (115 ≤ signed 8 (s.rd crpPg CRP_THERM_TJ))
  else if l = 52 then s.chip.outRange != 0
  else false

/-- LEVEL_LINE_TICK. -/
def State.levelTick (s : State) (l : Nat) : State := if s.down || !s.lineCond l then s else s.fault l .dev

end Sys2Proof.Machine
end

