-- ==== Sys2Proof/Machine/Bar2.lean ====
section
/-!
DEFINITION. BAR2 accesses (R38-R40, R54, R194, R195, R208, R215, R248, R321, R323) and the completions of device reads that
fail (R43).
-/
set_option Elab.async false

namespace Sys2Proof.Machine

/-! ### Parts of a write -/

/-- The parts of a range by the cluster they belong to, rising: cluster, start, length (R40). -/
def clusterParts (off n : Nat) : List (Nat × Nat × Nat) :=
  (List.range 8).filterMap fun c =>
    let lo := max off (sliceBase c)
    let hi := min (off + n) (sliceBase (c + 1))
    if lo < hi then some (c, lo, hi - lo) else none

/-- A partner write of some bytes of the store takes effect in one cluster's part: refused by the gate or because a block is
held (R40, R47). DESIGN CHOICE: a part without an enabled byte is no write to that cluster, so it is not refused (log 78). -/
def State.storePart (s : State) (pp off : Nat) (bytes : List (Option Byte)) (part : Nat × Nat × Nat) : State :=
  let mine := (bytes.drop (part.2.1 - off)).take part.2.2
  if mine.all Option.isNone then s
  else
    let lo := part.2.1 / 64 * 64
    let hi := (part.2.1 + part.2.2 + 63) / 64 * 64
    s.guarded pp (clPg part.1) (if s.heldIn lo (hi - lo) then some .held else none) fun s =>
      (mine.foldl (fun (x : State × Nat) b =>
        (match b with | some v => x.1.writeWords x.2 [v] | none => x.1, x.2 + 1)) (s, part.2.1)).1

/-- A write of the store: each cluster's part by itself, rising. -/
def State.storePut (s : State) (pp off : Nat) (bytes : List (Option Byte)) : State :=
  s.each (clusterParts off bytes.length) fun s part => s.storePart pp off bytes part

/-- BAR2_STORE_WRITE (R40): bytes without their enable are `none`. A write that leaves the store is an unsupported request. -/
def State.storeWrite (s : State) (pp off : Nat) (bytes : List (Option Byte)) : State :=
  if s.barServes pp && decide (off + bytes.length ≤ 0x4000000) then s.storePut pp off bytes
  else s.unsupported pp false (s.barAddr pp 2 off)

/-! ### Tables -/

/-- The bits of word `i` of an entry that software can write (R194, R208, R248, R321); 1 on every other bit of the word reads
as 0 or is RO. -/
def Region.writable : Region → Nat → Nat
  | .filters _, 0 => 0x3F3F3F7F
  | .filters _, 3 => 0x1F3F1FFF
  | .filters _, _ => 0x1FFFFFFF
  | .objects _, i => objectBits i
  | .ephemeris _, 0 => 0x001FFFFF
  | .ephemeris _, 2 => 0x000FFFFF
  | .ephemeris _, 3 => 0x0000FFFF
  | .ephemeris _, 6 => 0x00000FFF
  | .ephemeris _, 7 => 0
  | .ephemeris _, _ => 0xFFFFFFFF
  | .last _, 0 => 3
  | .last _, 1 => 0x00FF3F1F
  | .last _, 2 => 0xFFFFFFFF
  | .last _, 3 => 0xFFFFFFFF
  | .last _, 4 => 0x3FFFFFFF
  | .last _, _ => 0
  | .store _, _ => 0xFFFFFFFF
  | .ring _, _ => 0xFFFFFFFF

/-- What a word of a table becomes: reserved bits are 0, RO fields of a last-table entry stay. -/
def Region.newWord (r : Region) (i old v : Nat) : Nat :=
  let m := r.writable i
  match r with
  | .last _ => clearBits old m ||| (v &&& m)
  | _ => v &&& m

/-- After a write to entry `e` of the region, at `b`: what a whole-entry or a partial write starts (R195, R323). -/
def State.entryWritten (s : State) (r : Region) (e b : Nat) (whole : Bool) : State :=
  match r with
  | .ephemeris c => if whole then s.armEntry c e else s
  | .last n =>
    let s1 := if whole then
        let w := s.mw b
        s.mputw b (clearBits w 0xFF0C ||| (if w.testBit 0 then 0xC else 0))
      else s
    -- also before the port joins the window that runs (R195)
    s1.modPort n fun x => { x with writtenInWindow := if x.writtenInWindow.contains e then x.writtenInWindow else x.writtenInWindow ++ [e] }
  | _ => s

/-- The words of a write that fall into the entry at `b` (of `z` bytes) are written. -/
def State.writeEntry (s : State) (r : Region) (off : Nat) (words : List Nat) (e b z : Nat) : State :=
  let lo := max off b
  let hi := min (off + 4 * words.length) (b + z)
  let is := (List.range ((hi - lo) / 4)).map fun i => lo + 4 * i
  let s1 := s.each is fun s a =>
    s.writeWords a (bytesOf (r.newWord ((a - b) / 4) (s.mw a) (words.getD ((a - off) / 4) 0)))
  s1.entryWritten r e b (decide (off ≤ b) && decide (b + z ≤ off + 4 * words.length))

/-- First byte of the table of one cluster or port, for a region; and the size of an entry as written (R38, R39). -/
def Region.base : Region → Nat
  | .store c => sliceBase c | .filters c => filterBase c | .objects c => objectBase c | .ephemeris c => ephBase c
  | .last n => lastBase n | .ring c => ringBase c

/-- The entries that a write touches: region, index, address. -/
def touchedEntries (off n : Nat) : List (Region × Nat × Nat) :=
  match regionAt off with
  | none => []
  | some r0 =>
    let z := r0.entry
    let first := off / z * z
    (List.range ((off + n - first + z - 1) / z)).filterMap fun i =>
      let a := first + i * z
      (regionAt a).map fun r => (r, (a - r.base) / z, a)

/-- Both ends of a range lie in tables of one kind (R40). DESIGN CHOICE: the table region that an access may not leave is the
range of the kind, of all clusters or ports, as R38 lists it (log 79). -/
def sameTable (off n : Nat) : Bool :=
  match regionAt off, regionAt (off + n - 1) with
  | some (.filters _), some (.filters _) => true
  | some (.objects _), some (.objects _) => true
  | some (.ephemeris _), some (.ephemeris _) => true
  | some (.last _), some (.last _) => true
  | some (.ring _), some (.ring _) => true
  | _, _ => false

/-- A write of tables: each cluster's part under its CL page. -/
def State.tablePut (s : State) (pp off : Nat) (words : List Nat) : State :=
  let es := touchedEntries off (4 * words.length)
  s.each ((es.map fun x => x.1.cluster).eraseDups) fun s c =>
    s.guarded pp (clPg c) none fun s =>
      s.each (es.filter fun x => x.1.cluster == c) fun s x => s.writeEntry x.1 off words x.2.1 x.2.2 x.1.entry

/-- Whole, aligned doublewords in one table region (R40). -/
def tableOk (off : Nat) (words : List Nat) : Bool :=
  !words.isEmpty && off % 4 == 0 && sameTable off (4 * words.length)

/-- BAR2_TABLE_WRITE (R39, R40); any other write is an unsupported request. -/
def State.tableWrite (s : State) (pp off : Nat) (words : List Nat) : State :=
  if s.barServes pp && tableOk off words then s.tablePut pp off words
  else s.unsupported pp false (s.barAddr pp 2 off)

/-- A read that R40 allows. -/
def bar2ReadOk (off n : Nat) : Bool :=
  decide (1 ≤ n) && decide (n ≤ 4096) && (decide (off + n ≤ 0x4000000) || sameTable off n)

/-- BAR2_READ (R40, R243, R392): the data, or a poisoned completion when a word is uncorrectable; any other read is an unsupported
request. -/
def State.bar2Read (s : State) (pp off n : Nat) (finds : List (Nat × Find)) : State :=
  if s.down then s
  else if !s.barServes pp || !bar2ReadOk off n then s.unsupported pp true (s.barAddr pp 2 off)
  else
    let bad := s.badRead off n finds
    (s.found off n finds).emit (.bar2Data pp off bad (if bad then [] else s.mbs off n))

/-! ### Device reads that fail (R43) -/

/-- CAUSE of a halted channel, and the counter (R64, R292). -/
def CplErr.cause : CplErr → Nat
  | .poison => 1 | .ur => 2 | .ca => 3

/-- A read of a scan or of PIECE has failed: counted; the scan's first failing address is kept, PIECE ends with FAULT (R437). -/
def State.deviceReadFails (s : State) (r : DevRead) (cause : Nat) : State :=
  if s.down then s
  else match r with
  | .mover m b => s.readFailed m.val b cause
  | .scan u a =>
    match s.scanPp u.val with
    | some pp => (s.readError pp cause).scanFails u.val a.toNat
    | none => s
  | .piece =>
    if s.flag updPg PAGE_STAT_BUSY && s.rd updPg PAGE_CMD_CODE == 2 then
      (s.readError (s.owner updPg) cause).cmdStop updPg stFault
    else s

end Sys2Proof.Machine
end

