-- ==== Sys2Proof/Machine/Fco.lean ====
section
/-!
DEFINITION. The fault collector's registers and commands, the ends of resets and of an UNFENCE, the parity scan (R371, R372,
R376-R379, R382-R386, R400), the detectors of a port that only count and report (R157, R171, R185, R201), and FLT_COMMIT
(R214).
-/
set_option Elab.async false

namespace Sys2Proof.Machine

/-! ### Resets (R376, R377, R379) -/

/-- The job that a row names. -/
def resetJobOf : ResetWhat → ResetJob
  | .port n => .port n.val
  | .ports c => .ports c.val
  | .cores => .cores
  | .fence c => .fence c.val
  | .safe => .safe

/-- RESET_DONE: the masks of a reset lift, and its ports enter their modes (R377). -/
def State.resetOver (s : State) (w : ResetWhat) : State :=
  let j := resetJobOf w
  if s.down || !s.resets.contains j then s
  else
    let s1 := { s with resets := s.resets.filter (· != j) }
    match j with
    | .port n => s1.portRestart n
    | .ports c => s1.each (clusterPorts c) State.portRestart
    | _ => s1

/-- REACT_FAIL: a block reset, a fence or an UNFENCE has taken more than twice its bound (R369, R379, R386); an entry to SAFE is
none of these. -/
def State.reactFail (s : State) (w : ResetWhat) : State :=
  let late := (match w with
    | .safe => false
    | .fence c => s.resets.contains (resetJobOf w) || s.unfencing == some c.val
    | _ => s.resets.contains (resetJobOf w))
  if s.down || !late then s else s.fault 61 .dev

/-! ### Internal detectors (R369, R382, R383) -/

/-- MC_WATCHDOG: the cores have stalled, until a reset restarts them (R22). -/
def State.watchdog (s : State) : State := if s.down then s else ({ s with stalled := true }).fault 45 .dev

/-- INTERNAL_CHECK_FAILURE, and the other inputs of R369 that no other row brings (log 74): the fuse check, whose condition lasts,
and the link errors of R43 that only the PCI Express specification defines. -/
def State.checkFails (s : State) (b : CheckBlock) : State :=
  if s.down then s
  else match b with
  | .crossbar => s.fault 41 .dev
  | .cluster c => s.fault c.val (.cl c.val)
  | .coreMemory => s.fault 46 .dev
  | .fuses bad =>
    let s1 := { s with fuses := { s.fuses with mismatch := bad } }
    if bad then s1.fault 48 .dev else s1
  | .link pp e => (s.aer pp (linkAer e)).fault (32 + pp.val) .dev

/-- A word of the collector's configuration fails its parity check (R383). -/
def State.parityFails (s : State) (i : Nat) : State :=
  (((s.wr fcoPg FCO_STAT_PIDX i).err fcoPg 0).irq fcoPg 16)

/-- PARITY_SCAN (R382, R383): 100 µs of core time have passed, and PANICn was high in them or not (R64); each word that fails,
newly or still, takes its event. The collector does not run in LOADER (R375). -/
def State.parityScan (s : State) (bad : List Nat) : State :=
  if s.down then s
  else
    let s1 := (s.each [0, 1, 2, 3] fun s n =>
      if s.flag (ppPg n) PP_PANIC_STATE then
        (s.bump (ppPg n) PP_PANIC_TIME_MICROS 100).tally (0x60 + 16 * n + 4) 100
      else s)
    if s.mode = .loader then s1
    else
    let all := (List.range 128).filter fun i => bad.contains i || s.parityBad.contains i
    let us := s1.coreUs + 100
    -- 20 ms of core time count as a raster frame while the time base is FREE (R371)
    let step := if s.rt.tb = .free && us % 20000 == 0 then 1 else 0
    ({ s1 with coreUs := us, frameTicks := s1.frameTicks + step, parityBad := all }).each all State.parityFails

/-! ### Detectors of a port (R157, R171, R185, R201) -/

/-- STUCK_DOMINANT. -/
def State.stuck (s : State) (n : Nat) : State :=
  if !s.portRuns n || s.pmode n < 2 then s else s.err (portPg n) 1

/-- LISTEN_TIMEOUT. -/
def State.listenLate (s : State) (n : Nat) : State :=
  if s.portRuns n && s.pmode n == pmListen && s.rd (portPg n) PORT_LISTEN_RESULT == 1 &&
      s.rd (portPg n) PORT_LISTEN_TIMEOUT != 0
  then s.listenFail n else s

/-- SURGE. -/
def State.surgeSeen (s : State) (n : Nat) : State :=
  if s.down then s else ((s.bump (phyPg n) PHY_CNT_SURGE_COUNT).err (phyPg n) 2).irq (phyPg n) 16

/-- CM_RANGE. -/
def State.cmRangeSeen (s : State) (n : Nat) : State := if s.down then s else s.err (phyPg n) 3

/-! ### Registers (R371, R372, R399) -/

/-- FCO_INJECT. -/
def State.inject (s : State) (pp v : Nat) : State :=
  let l := bits v 0 6
  let lvl := bits v 8 3
  s.guarded pp fcoPg (if l = 58 || 4 < lvl then some .badValue else none) fun s =>
    s.fault l (.inject (if v.testBit 11 then some lvl else none))

/-- A line is acknowledged (R371): its sticky bit and its level end; what the journal would carry over ends with them. -/
def State.ackLine (s : State) (l : Nat) : State :=
  let s1 := s.modLine l fun x => { x with sticky := false, level := 0 }
  { s1 with carried := mapDel s1.carried l }

/-- FCO_STICKY_LO and FCO_STICKY_HI: each 1 written acknowledges its line. -/
def State.stickyClear (s : State) (pp : Nat) (hi : Bool) (v : Nat) : State :=
  s.guarded pp fcoPg none fun s =>
    s.each ((List.range 32).filter fun i => v.testBit i) fun s i => s.ackLine (i + if hi then 32 else 0)

/-! ### UNFENCE (R385, R386) and DEFAULTS (R400) -/

/-- UNFENCE may be written now. -/
def State.unfenceOk (s : State) : Bool :=
  let c := bits (s.arg0 fcoPg) 0 3
  (s.mode == .degraded || s.mode == .configure || s.mode == .safe) && s.fencedCl c &&
    [c, 8 + c, 16 + c, 24 + c].all fun l => !(s.line l).sticky

/-- Steps 1 and 2 of UNFENCE, and the start of step 3 (R385): the slice and the tables are cleared, the receive pool is freed
(R230), FIFOs, update counts and armed entries are reset (R231, R339), and the cluster's PLL starts to lock. -/
def State.clearCluster (s : State) (c : Nat) : State :=
  let s0 := { s with blocks := s.blocks.filter fun b =>
    !(b.kind == BlockKind.rx && decide (sliceBase c ≤ b.addr) && decide (b.addr < sliceBase (c + 1))) }
  let s1 := (s0.each (List.range 64) fun s f => (s.fifoReset c f).2)
  let s2 := (((s1.wipe (sliceBase c) 0x800000).wipe (filterBase c) 0x8000).wipe (ephBase c) 0x8000).each
    (clusterPorts c) fun s n => s.wipe (lastBase n) 0x4000
  ({ s2 with
    bufCount := s2.bufCount.filter fun e => e.1 / 1024 != c
    armed := s2.armed.filter fun e => e.1 / 1024 != c }).wr crpPg CRP_CLK_CL_LOCK
      (clearBits (s2.rd crpPg CRP_CLK_CL_LOCK) (bit c))

/-- UNFENCE, accepted. -/
def State.startUnfence (s : State) : State :=
  let c := bits (s.arg0 fcoPg) 0 3
  { s.clearCluster c with unfencing := some c }

/-- UNFENCE_DONE (R386): step 4 with OK, or FAULT when the PLL has not locked. -/
def State.unfenceOver (s : State) (locked : Bool) : State :=
  match (if s.stalled then none else s.unfencing) with
  | none => s
  | some c =>
    let s0 := { s with unfencing := none }
    if locked then
      let left := clearBits (s.rd devPg DEV_CLUSTERS_FENCED) (bit c)
      let s1 := (s0.orBits crpPg CRP_CLK_CL_LOCK (bit c)).wr devPg DEV_CLUSTERS_FENCED left
      let s2 := if s1.mode = .degraded then s1.changeMode (if left = 0 then .run else .degraded) else s1
      (s2.ephResume [c]).cmdEnd fcoPg stOk left
    else (s0.cmdEnd fcoPg stFault (s0.rd devPg DEV_CLUSTERS_FENCED)).fault c .unmasked

/-- DEFAULTS may be written now. -/
def State.defaultsOk (s : State) : Bool := s.mode == .configure || s.mode == .safe

/-- DEFAULTS, accepted: every configuration word takes its reset value, with good parity. -/
def State.lineDefaults (s : State) : State :=
  ({ s with
    regs := s.regs.filter fun e =>
      !(e.1 / 131072 == fcoPg && decide (0x80 ≤ e.1 / 32 % 4096) && decide (e.1 / 32 % 4096 < 0x280))
    parityBad := [] }).cmdEnd fcoPg stOk 0

/-! ### FLT_COMMIT (R214) -/

/-- FLT_COMMIT may be written now. -/
def State.fltOk (s : State) (n : Nat) : Bool :=
  (s.mode == .configure || s.mode == .run || s.mode == .degraded || s.mode == .test) && !s.fencedCl (n / 16)

/-- FLT_COMMIT, accepted. An element with an uncorrectable word counts as invalid (R392). -/
def State.fltCommit (s : State) (n : Nat) : State :=
  let p := portPg n
  let c := n / 16
  let first := s.rd p PORT_FLT_STAGE_FIRST
  let count := s.rd p PORT_FLT_STAGE_COUNT
  if 2048 < first + count then s.cmdEnd p stBadArg 0xFFFF
  else
    match (List.range count).find? fun i =>
        s.brokenIn (filterBase c + 16 * (first + i)) 16 || !s.elemValid c (s.elem c (first + i)) with
    | some i => s.cmdEnd p stBadArg (first + i)
    | none => ((s.wr p PORT_FLT_LIST_FIRST first).wr p PORT_FLT_LIST_COUNT count).cmdEnd p stOk count

end Sys2Proof.Machine
end

