-- ==== Sys2Proof/Machine/View.lean ====
section
/-!
DEFINITION. What registers read as (R8, R35, R45 and the register tables): fields that follow from other state, words, and the
effect of a read on RC fields.
-/
set_option Elab.async false

namespace Sys2Proof.Machine

/-- A truth value as a bit. -/
def b01 (b : Bool) : Nat := if b then 1 else 0

/-- A number with bit `i` set where `f i` holds, for `i` below `n`. -/
def bitsOf (n : Nat) (f : Nat → Bool) : Nat := (List.range n).foldl (fun a i => if f i then a + 2 ^ i else a) 0

/-- A number of `w` bits that no rule of the spec determines, the `i`-th at this point of the run. -/
def State.openBits (s : State) (i w : Nat) : Nat := (Config.measured (s.freeCtr + i)).toNat % 2 ^ w

/-- How many open numbers one read may show. -/
def openPerRead : Nat := 64

/-! ### Interrupts (R349, R350, R364-R366) -/

/-- A message that has been decided is held back (R42, R350). -/
def State.msgHeld (s : State) (k : Nat) (fast : Bool) : Bool :=
  (if fast then (s.tgt k).msgF else (s.tgt k).msgN) &&
    (!s.delivers (k / 4) || (s.pp (k / 4)).vecMasked (2 * (k % 4) + b01 fast))

/-- The source that ICU_SRC_SEL names for ICU_SRC_STATE, and the target it is routed to. -/
def State.selected (s : State) : Option (Nat × Nat) :=
  let n := s.rd icuPg ICU_SRC_SEL_SRC
  let t := s.rd icuPg ICU_SRC_SEL_PTGT
  if sharedExists n then some (n, (s.src n).tgt)
  else if 4080 ≤ n ∧ n < 4088 then some (privKey t (n - 4080), t) else none

/-- ICU page. -/
def State.icuView (s : State) (f : Field) : Option Nat :=
  let n := s.rd icuPg ICU_SRC_SEL_SRC
  let cfg (v : IntSrc → Nat) : Option Nat := some (if sharedExists n then v (s.src n) else 0)
  let st (v : Nat → IntSrc → Nat) : Option Nat := some (match s.selected with | some (key, k) => v k (s.src key) | none => 0)
  if f = ICU_SRC_CFG_EN then cfg fun x => b01 x.en
  else if f = ICU_SRC_CFG_TGT then cfg fun x => x.tgt
  else if f = ICU_SRC_CFG_GROUP then cfg fun x => x.group
  else if f = ICU_SRC_CFG_LEVEL then cfg fun x => x.level
  else if f = ICU_SRC_STATE_COUNT then st fun _ x => x.count
  else if f = ICU_SRC_STATE_ACTIVE then st fun _ x => b01 x.active
  else if f = ICU_SRC_STATE_MASKED then st fun _ x => b01 x.mask
  else if f = ICU_SRC_STATE_PINNED then st fun _ x => b01 x.pin
  else if f = ICU_SRC_STATE_ELIGIBLE then st fun k x => b01 (s.eligible k x)
  else if f = ICU_SRC_STATE_WAITING then st fun k x => b01 (x.pending && !s.groupLets k x)
  else if f = ICU_SRC_STATE_ATGT then st fun _ x => if x.active then x.atgt else 0
  else if f = ICU_SUMMARY_NORMAL then some (bitsOf 16 fun k => (s.decisionTop k false).isSome)
  else if f = ICU_SUMMARY_FAST then some (bitsOf 16 fun k => (s.decisionTop k true).isSome)
  else if f = ICU_MSG_HELD_NORMAL then some (bitsOf 16 fun k => s.msgHeld k false)
  else if f = ICU_MSG_HELD_FAST then some (bitsOf 16 fun k => s.msgHeld k true)
  else none

/-- Eligible sources of a class on a target. -/
def State.eligibleNum (s : State) (k : Nat) (fast : Bool) : Nat :=
  ((s.targetSources k).filter fun e => s.eligible k e.2 && s.isFast k e.2.level == fast).length

/-- Normal page of Tk. -/
def State.tView (s : State) (k : Nat) (f : Field) (i : Nat) : Option Nat :=
  let top := if s.stackFull k then none else s.claimTop k false
  if f = T_PENDING_SRC then some (match top with | some x => srcNum x.1 | none => 0)
  else if f = T_PENDING_NUM then some (min 255 (s.eligibleNum k false))
  else if f = T_PENDING_LEVEL then some (match top with | some x => x.2.level | none => 0)
  else if f = T_STACK_DEPTH then some (s.tgt k).stack.length
  else if f = T_STACK_RP then some (s.runPrio k)
  else if f = T_STACK_TOP then some (match (s.tgt k).stack with | (_, key) :: _ => srcNum key | [] => 0)
  else if f = T_ACTIVE_NORMAL then some (s.activeClaims k (some false))
  else if f = T_ACTIVE_FAST then some (s.activeClaims k (some true))
  else if f = T_RING_RSV_WAIT then some (min 65535 ((s.tgt k).recs.filter (·.waiting)).length)
  else if f = T_PRIV_EN then some (if i < 8 then b01 (s.src (privKey k i)).en else 0)
  else if f = T_PRIV_GROUP then some (if i < 8 then (s.src (privKey k i)).group else 0)
  else if f = T_PRIV_LEVEL then some (if i < 8 then (s.src (privKey k i)).level else 0)
  else none

/-- Fast page of Tk. -/
def State.fView (s : State) (k : Nat) (f : Field) : Option Nat :=
  let top := s.claimTop k true
  if f = F_PENDING_SRC then some (match top with | some x => srcNum x.1 | none => 0)
  else if f = F_PENDING_NUM then some (min 255 (s.eligibleNum k true))
  else if f = F_PENDING_LEVEL then some (match top with | some x => x.2.level | none => 0)
  else none

/-! ### Fault collector (R383, R399) -/

/-- An input of line `l` is 1: a PAGE_ERRSRC bit that drives it is set, or its condition holds. -/
def State.lineIn (s : State) (l : Nat) : Bool :=
  s.lineCond l || s.regs.any fun e =>
    e.1 / 32 % 4096 == 0x01C &&
    match pageAt (e.1 / 131072) with
    | some pg => (List.range 16).any fun b => e.2.testBit b && ((s.errLine pg b).map (·.1)) == some l
    | none => false

/-- A word of FCO_LCFG that fails its parity check does not hold what was written: what it reads as is open. -/
def State.lcfgView (s : State) (f : Field) (i : Nat) : Option Nat :=
  if s.parityBad.contains (2 * i + b01 (f.off == 0x084)) then some (s.openBits f.lo f.w) else none

/-- FCO page. -/
def State.fcoView (s : State) (f : Field) (i : Nat) : Option Nat :=
  if f = FCO_STICKY_LO_LINES then some (bitsOf 32 fun l => (s.line l).sticky)
  else if f = FCO_STICKY_HI_LINES then some (bitsOf 32 fun l => (s.line (32 + l)).sticky)
  else if f = FCO_IN_LO_LINES then some (bitsOf 32 s.lineIn)
  else if f = FCO_IN_HI_LINES then some (bitsOf 32 fun l => s.lineIn (32 + l))
  else if f = FCO_STAT_TOP then some s.topLevel
  else if f = FCO_STAT_ANY then some (b01 s.anySticky)
  else if f = FCO_STAT_FAULT then some (b01 s.faultN)
  else if f = FCO_STAT_PARITY_ERR then some (b01 (!s.parityBad.isEmpty))
  else if f = FCO_LSTAT_LEVEL then some (s.line i).level
  else if f = FCO_LSTAT_STICKY then some (b01 (s.line i).sticky)
  else if f = FCO_LSTAT_COUNT then some (s.line i).count
  else if f = FCO_LSTAT_TOTAL then some (s.line i).total
  else if f.off = 0x080 || f.off = 0x084 then s.lcfgView f i
  else none

/-! ### Ports, transceivers, clusters, channels -/

/-- What the port has fixed or offers (R126): its candidate, or the frame that it has won and that has not ended. -/
def PortState.candidate (x : PortState) : Option Cand :=
  match x.cand with
  | some c => some c
  | none => match x.nxt.bind BusFrame.own with
    | some c => some c
    | none => x.cur.bind BusFrame.own

/-- PORT page of port `n` (R138, R168, R277). The SYNC frame has no index: what INDEX reads for it is open. How many sequences a
recovery has counted no row tells (log 64). -/
def State.portView (s : State) (n : Nat) (f : Field) : Option Nat :=
  let cand := (s.port n).candidate
  let job : Option Job := match cand with
    | some (.job uid) => s.job? uid
    | _ => none
  let syncCand := cand == some .sync
  if f = PORT_ECL_OPEN then some (b01 (s.eclipseOpen n))
  else if f = PORT_WAKE_CFG_FORCED then some (b01 s.frameOnly)
  else if f = PORT_TX_PEND_COUNT then
    some ((s.jobs.filter fun e => e.2.res != .reserved && (match e.2.on n with | some x => !x.stage.isFinal | none => false)).length)
  else if f = PORT_TX_BACKLOG_BYTES then some (s.backlog n)
  else if f = PORT_TX_CAND_INDEX then
    some (match job with | some j => if j.fwd then j.ctx else j.idx | none => if syncCand then s.openBits 0 13 else 0)
  else if f = PORT_TX_CAND_CL then some (match job with | some j => j.cl | none => if syncCand then n / 16 else 0)
  else if f = PORT_TX_CAND_FWD then some (match job with | some j => b01 j.fwd | none => 0)
  else if f = PORT_TX_CAND_VALID then some (b01 cand.isSome)
  else if f = PORT_RECOV_SEQ && s.estate n == esRecovering then some (s.openBits 1 7 % s.recoverySeq n)
  else none

/-- Valid entries of a port's last table. -/
def State.ltEntries (s : State) (n : Nat) : List Nat := (List.range 256).filter fun i => s.ltValid (lastBase n + 64 * i)

/-- What the D-band activity detector of port `n` shows (R182): nothing in OFF, the PATTERN signal of an eye scan, nothing while the
port follows the bus and no comet is on it; else when a tail begins and ends in its frame no row tells. -/
def State.dActive (s : State) (n : Nat) : Nat :=
  let x := s.port n
  let e := s.estate n
  let follows := (e == esActive || e == esPassive || e == esReceiving) && !x.reint
  if s.pmode n = pmOff then 0
  else match x.eye with
    | some (_, false, _, _, _) => 1
    | _ => if follows && !(x.cur.any fun f => f.head.kind == .comet) then 0 else s.openBits 0 1

/-- Whether the receiver of port `n` is locked to a tail (R192, R205): only within a tail that it receives, until it loses lock. -/
def State.dLocked (s : State) (n : Nat) : Nat :=
  match (s.port n).cur with
  | some f => if f.head.kind == .comet && f.recv && !f.tailOver && !f.lockLost then s.openBits 1 1 else 0
  | none => 0

/-- PHY page of port `n`. How far a running eye scan is no row tells (R202). -/
def State.phyView (s : State) (n : Nat) (f : Field) : Option Nat :=
  if f = PHY_LT_VALID_COUNT then some (s.ltEntries n).length
  else if f = PHY_DSTAT_ACTIVE then some (s.dActive n)
  else if f = PHY_DSTAT_LOCKED then some (s.dLocked n)
  else if f = PHY_EYE_PROG_POINTS && (s.port n).eye.isSome then some (s.openBits 2 13 % 8129)
  else none

/-- Objects of a cluster in use (R275). -/
def State.objectsInUse (s : State) (c : Nat) : Nat := (s.jobs.filter fun e => !e.2.fwd && e.2.cl == c).length

/-- Receive blocks of a cluster that are held. -/
def State.rxHeld (s : State) (c : Nat) : Nat :=
  (s.blocks.filter fun b => b.kind == .rx && decide (sliceBase c ≤ b.addr) && decide (b.addr < sliceBase (c + 1))).length

/-- CL page of CLc. -/
def State.clView (s : State) (c : Nat) (f : Field) : Option Nat :=
  if f = CL_POOL_FREE_COMMON then some (freeSum (s.freeOf c (s.commonUnits c)))
  else if f = CL_POOL_FREE_ESS then some (freeSum (s.freeOf c (s.essUnits c)))
  else if f = CL_POOL_BIG_COMMON_K then some (freeBig (s.freeOf c (s.commonUnits c)))
  else if f = CL_POOL_BIG_ESS_K then some (freeBig (s.freeOf c (s.essUnits c)))
  else if f = CL_RX_HELD_BLOCKS then some (s.rxHeld c)
  else if f = CL_TXPOOL_FREE_FREE then some (freeSum (s.freeOf c (s.txUnits c)))
  else if f = CL_TX_INUSE_OBJECTS then some (s.objectsInUse c)
  else if f = CL_FWD_INUSE_CONTEXTS then some (s.forwards c).length
  else none

/-- MOV page of MOVm. -/
def State.movView (s : State) (m : Nat) (f : Field) : Option Nat :=
  if f = MOV_STATE_STATE then some (s.chanState m)
  else if f = MOV_STATE_URGENT then some (b01 (s.urgent m))
  else if f = MOV_STATE_QUEUED then some (min 65535 (s.chan m).queue.length)
  else none

/-- EPH page of CLc (R338, R339); SUBLINE and FINE as the read has looked at them (`State.readTime`). -/
def State.ephView (s : State) (c : Nat) (f : Field) (i : Nat) : Option Nat :=
  if f = RT_NOW_FRAME_FRAME then some s.rt.frame
  else if f = RT_NOW_LINE_LINE then some s.rt.line
  else if f = RT_NOW_LINE_SUBLINE then some s.rt.sub
  else if f = RT_NOW_LINE_FINE then some s.rt.fine
  else if f = RT_NOW_LINE_TB then some s.rt.tb.code
  else if f = RT_STAT_TB then some s.rt.tb.code
  else if f = RT_STAT_CODE then some s.rateCode
  else if f = RT_STAT_ACQ then some (b01 (s.rt.tb == .free && s.rtSrc == 1 && s.rt.edgeSeen))
  else if f = EPH_ARMED_CNT_COUNT then some (s.armedOf c).length
  else if f = EPH_ARMED_ARMED then some (bitsOf 32 fun b => (mapGet? s.armed (1024 * c + 32 * i + b)).isSome)
  else if f.off < 0x080 ∧ 0x040 ≤ f.off then some (s.rd (ephPg 0) f i)
  else none

/-! ### The device, its partners, clocks, security -/

/-- DEV page. -/
def State.devView (s : State) (f : Field) : Option Nat :=
  if f = DEV_PARTNERS_PRIMARY then some (s.rd crpPg CRP_STRAP_PRIMPP)
  else if f = DEV_PARTNERS_LINK_UP then some (bitsOf 4 s.linkUp)
  else if f = DEV_PARTNERS_BME then some (bitsOf 4 fun n => (s.pp n).bme)
  else none

/-- PP page of PPn (R64, R67). -/
def State.ppView (s : State) (n : Nat) (f : Field) : Option Nat :=
  if f = PP_WAKE_STATE then some (b01 (s.flag (ppPg n) PP_WAKE_FORCE || (s.pp n).moonWake)) else none

/-- CRP page. -/
def State.crpView (s : State) (f : Field) : Option Nat :=
  if f = CRP_CLK_PRESENT then some s.chip.refs
  else if f = CRP_SUPPLY_IN_RANGE then some (clearBits 63 s.chip.outRange)
  else none

/-- SEC page: what the fuses and MRAM hold. -/
def State.secView (s : State) (f : Field) (i : Nat) : Option Nat :=
  if f = SEC_UID_LO_UID then some (Config.uid.toNat % 2 ^ 32)
  else if f = SEC_UID_HI_UID then some (Config.uid.toNat / 2 ^ 32)
  else if f = SEC_STATE_KEY then some (b01 (!s.fuses.keyDead))
  else if f = SEC_STATE_OPEN then some (b01 s.fuses.debugOpen)
  else if f = SEC_STATE_ROLLBACK then some s.fuses.rollback
  else if f = SEC_STATE_KEYREV then some s.fuses.keyrev
  else if f = SEC_PUB_BYTES then some (Config.pubKey i).toNat
  else none

/-! ### Words -/

/-- The header fields that follow from the page itself (R45, R46, R51). -/
def State.headView (s : State) (p : Nat) (pg : Page) (f : Field) : Option Nat :=
  if f = PAGE_ID_INSTANCE then some pg.typeInst.2
  else if f = PAGE_ID_TYPE then some pg.typeInst.1
  else if f = PAGE_STAT_OWNER then some (s.owner p)
  else none

/-- The field's value where it follows from other state. -/
def State.derived (s : State) (p : Nat) (pg : Page) (f : Field) (i : Nat) : Option Nat :=
  if f.off < 0x040 then s.headView p pg f
  else match pg with
  | .dev => s.devView f
  | .crp => s.crpView f
  | .fco => s.fcoView f i
  | .icu => s.icuView f
  | .tn k => s.tView k f i
  | .tf k => s.fView k f
  | .sec => s.secView f i
  | .pp n => s.ppView n f
  | .cl c => s.clView c f
  | .eph c => s.ephView c f i
  | .port n => s.portView n f
  | .phy n => s.phyView n f
  | .mov m => s.movView m f
  | .aon | .upd | .tel | .cv _ => none

/-- What field `f`, index `i`, of page `p` reads as: WO and W1S fields read 0 (R8). -/
def State.fieldView (s : State) (p : Nat) (pg : Page) (f : Field) (i : Nat) : Nat :=
  match f.ty with
  | .wo | .w1s => 0
  | _ => ((s.derived p pg f i).getD (s.rd p f i)) % 2 ^ f.w

/-- The index of the register of an array that lies at offset `o`; none where the field is not at that offset. -/
def Field.indexAt (f : Field) (o : Nat) : Option Nat :=
  if f.cnt ≤ 1 then (if f.off = o then some 0 else none)
  else if f.off ≤ o ∧ (o - f.off) % f.stride = 0 ∧ (o - f.off) / f.stride < f.cnt then some ((o - f.off) / f.stride)
  else none

/-- The fields of the register at offset `o` of a page, with their index; none at a reserved offset (R37). -/
def fieldsAt (pg : Page) (o : Nat) : List (Field × Nat) :=
  ((if o < 0x040 then fieldsHDR else pg.fields)).filterMap fun f => (f.indexAt o).map fun i => (f, i)

/-- The word that the register at offset `o` of page `p` reads as; reserved bits are 0 (R9). -/
def State.wordView (s : State) (p o : Nat) : Nat :=
  match pageAt p with
  | none => 0
  | some pg => (fieldsAt pg o).foldl (fun a x => a + s.fieldView p pg x.1 x.2 * 2 ^ x.1.lo) 0

/-! ### MSI-X structures (R35, R41, R544) -/

/-- The Pending Bit Array of the function of PPn: messages that wait behind a mask (R42, R350). -/
def State.pba (s : State) (n : Nat) : Nat :=
  let x := s.pp n
  bitsOf 9 fun v =>
    (x.fmask || x.vecMasked v) &&
    (if v = 8 then x.vec8
     else if v % 2 = 1 then (s.tgt (4 * n + v / 2)).msgF else (s.tgt (4 * n + v / 2)).msgN)

/-- Word at BAR0 offset `a` of the MSI-X structures, for the function of PPn. -/
def State.msixWord (s : State) (n a : Nat) : Nat :=
  if 0x3FE000 ≤ a ∧ a < 0x3FE200 then
    let w := (a - 0x3FE000) / 4
    mapGet (b01 (w % 4 == 3)) (s.pp n).msix w
  else if a = 0x3FF000 then s.pba n
  else 0

/-- A BAR0 offset belongs to the MSI-X table or to the Pending Bit Array. -/
def isMsix (a : Nat) : Bool :=
  (decide (0x3FE000 ≤ a) && decide (a < 0x3FE200)) || (decide (0x3FF000 ≤ a) && decide (a < 0x3FF008))

/-! ### Reads (R8, R37, R55) -/

/-- An RC field is cleared by its read (R8). One that shows the lowest or highest value since the last read goes on from the value
at this read when it next records one (R244, R275, R427, log 12). -/
def State.rcClear (s : State) (p : Nat) (f : Field) (i : Nat) : State :=
  let c := p - 0x30
  let from_ (k v : Nat) : State := { s with sinceRead := mapPut s.sinceRead k v }
  (if f = CL_POOL_MIN_COMMON then from_ c (freeSum (s.freeOf c (s.commonUnits c)))
   else if f = CL_TXPOOL_MIN_FREE then from_ (8 + c) (freeSum (s.freeOf c (s.txUnits c)))
   else if f = CRP_THERM_TJ_MAX then from_ 16 (s.rd crpPg CRP_THERM_TJ)
   else s).wr p f 0 i

/-- The RC fields of a register that is read are cleared; in EPH1-EPH7 the time base's counters are RO (R338). -/
def State.clearRc (s : State) (p o : Nat) : State :=
  match pageAt p with
  | none => s
  | some pg =>
    let fs := (fieldsAt pg o).filter fun x => x.1.ty == .rc
    let own := match pg with
      | .eph c => c == 0 || !(decide (0x040 ≤ o) && decide (o < 0x080))
      | _ => true
    if own then s.each fs fun s x => s.rcClear p x.1 x.2 else s

/-- DEV_FENCE_SYNC (R55, R61): the count of reads served for the reading partner port, this one included. -/
def State.fenceSync (s : State) (pp : Nat) : Nat × State :=
  let n := ((s.pp pp).syncCount + 1) % 2 ^ 32
  (n, s.modPp pp fun x => { x with syncCount := n })

/-- DEV_FENCE_SYNC_READ: the count leaves in the completion. -/
def State.syncRead (s : State) (pp : Nat) : State :=
  if s.down then s
  else
    let (v, s1) := s.fenceSync pp
    s1.emit (.regData pp 0x050 v)

/-- A read of RT_NOW_LINE looks at raster time (R309, R338), where the time base runs (R320). -/
def State.readTime (s : State) (a : Nat) : State :=
  match pageAt (a / 4096) with
  | some (.eph _) => if a % 4096 = RT_NOW_LINE_LINE.off && s.tbRuns then s.lookAtTime else s
  | _ => s

/-- A 4-byte read at BAR0 offset `a` by `pp`: its word and its effect. -/
def State.readWord (s : State) (pp a : Nat) : Nat × State :=
  let p := a / 4096
  let o := a % 4096
  if isMsix a then (s.msixWord pp a, s)
  else match pageAt p, o with
  | some .dev, 0x050 => s.fenceSync pp
  | some (.tn k), 0x048 => s.claim pp k false
  | some (.tn k), 0x084 => s.mailIn k
  | some (.tf k), 0x040 => s.claim pp k true
  | _, _ => (s.wordView p o, { s.clearRc p o with freeCtr := s.freeCtr + openPerRead })

/-- The address is one that a 4-byte, or with `wide` an 8-byte, access of BAR0 may have (R36, R37, R544). -/
def barOk (a : Nat) (wide : Bool) : Bool :=
  a % (if wide then 8 else 4) == 0 && (isMsix a || (pageAt (a / 4096)).isSome)

/-- A read of BAR0 by `pp` (R37): the halves of an 8-byte read are sampled together. A read at an address without a page, or of
wrong alignment, is an unsupported request (R43). -/
def State.regRead (s : State) (pp a : Nat) (wide : Bool) : State :=
  if s.down then s
  else if !s.barServes pp || !barOk a wide then s.unsupported pp true (s.barAddr pp 0 a)
  else
    let s0 := if wide then (s.readTime a).readTime (a + 4) else s.readTime a
    let (v, s1) := s0.readWord pp a
    if wide then
      (s1.readWord pp (a + 4)).2.emit (.regData pp a (v + (s0.readWord pp (a + 4)).1 * 2 ^ 32))
    else s1.emit (.regData pp a v)

end Sys2Proof.Machine
end

