-- ==== Sys2Proof/Machine/Tel.lean ====
section
/-!
DEFINITION. Telemetry snapshots (R394-R398, R401, R457): what one holds, when one is taken or skipped, and its write.
-/
set_option Elab.async false

namespace Sys2Proof.Machine

/-- Bytes of a snapshot. -/
def snapshotBytes : Nat := 9216

/-- A telemetry counter by its offset in the snapshot. -/
def State.telCount (s : State) (o : Nat) : Nat := mapGet 0 s.tel o

/-- Word `w` of the block of CLc (R397). -/
def State.clusterWord (s : State) (c w : Nat) : Nat :=
  let p := clPg c
  if w = 0x00 then s.wordView p 0x04C
  else if w = 0x04 then s.wordView p 0x904
  else if w = 0x08 then s.objectsInUse c + (s.forwards c).length * 2 ^ 16
  else if w = 0x0C then s.wordView p 0x058
  else if w = 0x38 then b01 (s.fencedCl c) + s.telCount (0x100 + 64 * c + 0x3A) % 2 ^ 16 * 2 ^ 16
  else if w = 0x3C then 0
  else s.telCount (0x100 + 64 * c + w)

/-- The smallest value of a byte of LT_MARGIN among valid entries; with no valid entry the spec states none (R397). -/
def State.smallest (s : State) (es : List Nat) (n byte k : Nat) : Nat :=
  match es.map fun i => (s.mb (lastBase n + 64 * i + 0x14 + byte)).toNat with
  | [] => s.openBits k 8
  | x :: t => t.foldl min x

/-- Word `w` of the block of port `n` (R397). -/
def State.portWord (s : State) (n w : Nat) : Nat :=
  let p := portPg n
  let at_ := 0x300 + 64 * n
  if w = 0x30 then
    s.rd p PORT_ECNT_TEC + s.estate n * 2 ^ 9 + s.pmode n * 2 ^ 12 + s.rd p PORT_ECNT_REC * 2 ^ 16 +
      s.rd p PORT_ESTATE_ALONE * 2 ^ 25 + s.rd p PORT_ESTATE_WARN * 2 ^ 26 + s.rd p PORT_MV_ATT_IN_PANIC * 2 ^ 27
  else if w = 0x34 then s.backlog n
  else if w = 0x38 then s.telCount (at_ + 0x38) % 2 ^ 16 + s.telCount (at_ + 0x3A) % 2 ^ 16 * 2 ^ 16
  else if w = 0x3C then
    let es := s.ltEntries n
    s.smallest es n 0 (8 + 2 * n) + s.smallest es n 2 (9 + 2 * n) * 2 ^ 8 + es.length * 2 ^ 16
  else s.telCount (at_ + w)

/-- The word at offset `o` of a snapshot, below the signature block (R396). The core clock's microseconds between two parity
scans no rule of the model's rows tells; raster time was last looked at when the snapshot was taken, unless it falls on a frame
boundary. -/
def State.snapWord (s : State) (extra : Bool) (volts : List Nat) (o : Nat) : Nat :=
  if 0x300 ≤ o then s.portWord ((o - 0x300) / 64) ((o - 0x300) % 64)
  else if 0x100 ≤ o then s.clusterWord ((o - 0x100) / 64) ((o - 0x100) % 64)
  else if 0x60 ≤ o ∧ o < 0xA0 then
    let n := (o - 0x60) / 16
    if o % 16 = 0 then s.wordView (ppPg n) 0x040 else s.telCount o
  else if 0x44 ≤ o ∧ o < 0x5C then volts.getD ((o - 0x44) / 4) 0
  else match o with
  | 0x00 => s.telNext
  | 0x04 => s.rt.frame
  | 0x08 => s.rt.line + (if !extra && s.rt.tb != .free then 0 else s.rt.sub) * 2 ^ 12 + s.rt.tb.code * 2 ^ 28 +
      b01 extra * 2 ^ 31
  | 0x0C => s.mode.code + s.rd devPg DEV_CLUSTERS_FENCED * 2 ^ 8 + s.topLevel * 2 ^ 16 + b01 s.anySticky * 2 ^ 19
  | 0x10 => s.wordView fcoPg 0x040
  | 0x14 => s.wordView fcoPg 0x044
  | 0x18 => (s.coreUs + s.openBits 1 32 % 100) % 2 ^ 32
  | 0x1C => 0x2400
  | 0x20 => s.wordView devPg 0x044
  | 0x40 => s.rd crpPg CRP_THERM_TJ + s.chip.tjMax % 2 ^ 8 * 2 ^ 8
  | 0x5C => s.chip.power
  | 0xA0 => s.telCount 0xA0
  | 0xA4 => s.telCount 0xA4
  | 0xA8 => s.telCount 0xA8
  | _ => 0

/-- The signature block (R457): the words r and s come from the identity key; without it, or when the engine withholds a signature
that fails its check (R455; whether it does is a free value), SIGNED is 0. -/
def State.signature (s : State) : List Nat × State :=
  if !s.flag telPg TEL_CFG_SIGN then (List.replicate 64 0, s)
  else
    let uid := [Config.uid.toNat % 2 ^ 32, Config.uid.toNat / 2 ^ 32, 0]
    let (withheld, s0) := s.drawOpen 1
    if s.fuses.keyDead || withheld == 1 then (1 :: uid ++ List.replicate 60 0, s0)
    else
      let (rs, s1) := (List.range 16).foldl (fun (x : List Nat × State) _ =>
        let (w, s1) := x.2.drawCrypto
        (x.1 ++ [w], s1)) ([], s0)
      (0x101 :: uid ++ rs ++ List.replicate 44 0, s1)

/-- A snapshot that falls due is skipped (R394). -/
def State.skipSnapshot (s : State) : State := (s.bump telPg TEL_SKIPPED_COUNT).err telPg 0

/-- A snapshot is sampled (R394, R396). -/
def State.sample (was : State) (extra : Bool) (volts : List Nat) : State :=
  let s := if !extra && was.rt.tb != .free then was else was.lookAtTime
  let body := (List.range 0x8C0).map fun i => s.snapWord extra volts (4 * i)
  let (sig, s1) := ({ s with freeCtr := s.freeCtr + 512 }).signature
  let base := s.rd telPg TEL_BASE_LO_ADDR * 4096 + s.rd telPg TEL_BASE_HI_ADDR * 2 ^ 32
  { s1 with
    snap := some
      { seq := s.telNext, pp := s.rd telPg TEL_CFG_PP
        addr := (base + s.telNext % 2 ^ s.rd telPg TEL_CFG_LOG2 * 12288) % 2 ^ 64
        data := (body ++ sig).flatMap bytesOf }
    telNext := (s.telNext + 1) % 2 ^ 32
    chip := { s1.chip with tjMax := s.rd crpPg CRP_THERM_TJ } }

/-- SNAPSHOT_DUE (R23, R394): the oldest that a SNAPSHOT action or SNAP_NOW asked for, when there is one, else the periodic one. -/
def State.snapshotDue (s : State) (volts : List Nat) : State :=
  if !s.telRuns then s
  else
    let s1 := { s with telExtra := s.telExtra - 1 }
    if s.snap.isSome || !s.linkUp (s.rd telPg TEL_CFG_PP) then s1.skipSnapshot else s1.sample (s.telExtra != 0) volts

/-- SNAPSHOT_WRITTEN (R398): the writes, each of at most Max Payload Size (R31), have been sent; without Bus Master Enable none is (R299). -/
def State.snapshotWritten (s : State) : State :=
  match s.snap with
  | none => s
  | some x =>
    if s.down || !s.serves x.pp then s
    else
      let y := s.pp x.pp
      let s1 := ({ s with snap := none }).each (chunks x.addr x.data.length y.mps) fun s q =>
        s.emit (.write x.pp q.1 y.ro false false ((x.data.drop ((q.1 + 2 ^ 64 - x.addr) % 2 ^ 64)).take q.2))
      (s1.wr telPg TEL_SEQ_SEQ x.seq).irq telPg 4

/-- SNAP_NOW, accepted (R401). -/
def State.snapNow (s : State) : State := s.wantSnapshot.cmdEnd telPg stOk 0

end Sys2Proof.Machine
end

