-- ==== Sys2Proof/Machine/Upd.lean ====
section
/-!
DEFINITION. Update and the settings store (R434-R450, R462-R464): the commands of the UPD page and the rows that end them, and
the refresh check of MRAM.
-/
set_option Elab.async false

namespace Sys2Proof.Machine

/-- BEGIN, PIECE, VERIFY and DISCARD may be written now (R463). -/
def State.updOk (s : State) : Bool := s.mode != .test && s.mode != .update

/-- The code of the command that runs on a page (R49). -/
def State.runningCode (s : State) (p : Nat) : Option Nat :=
  if s.flag p PAGE_STAT_BUSY then some (s.rd p PAGE_CMD_CODE) else none

/-! ### Staging (R436-R438, R463) -/

/-- BEGIN, accepted (R436). -/
def State.beginStage (s : State) : State :=
  let p := updPg
  let n := bits (s.arg1 p) 0 11
  if n = 0 || 1536 < n then s.cmdStop p stBadArg
  else if s.rd p UPD_STAGE_STATE != stEmpty && s.rd p UPD_TAG_TAG == s.arg0 p && s.rd p UPD_COUNT_N == n then
    s.cmdEnd p stOk (s.rd p UPD_STAGE_HELD)
  else
    (((s.clearHeld.wr p UPD_TAG_TAG (s.arg0 p)).wr p UPD_COUNT_N n).wr p UPD_STAGE_STATE stReceiving).cmdEnd p stOk 0

/-- The address that PIECE names. -/
def State.pieceAddr (s : State) : Nat := s.arg0 updPg + s.arg1 updPg * 2 ^ 32

/-- PIECE, accepted (R437): the read of one piece leaves through the partner port that owns the page. A piece starts at a
multiple of 64 B (R435). -/
def State.startPiece (s : State) : State :=
  if s.pieceAddr % 64 != 0 then s.cmdStop updPg stBadArg
  else s.emitReads (s.owner updPg) s.pieceAddr 4160

/-- A piece fails a check (R437). -/
def State.pieceFails (s : State) (status : Nat) : State := (s.err updPg 0).cmdStop updPg status

/-- A piece that passed is written to staging, then its bit is set; the piece that completes the bitmap makes the state
COMPLETE (R437, R438, R464). -/
def State.storePiece (s : State) (i : Nat) (data : List Nat) : State :=
  let s1 := (s.mramPuts (stageBase + 4096 * i) data).markHeld i
  if s1.rd updPg UPD_STAGE_HELD = s1.rd updPg UPD_COUNT_N then
    (s1.wr updPg UPD_STAGE_STATE stComplete).irq updPg 4
  else s1

/-- PIECE_DONE (R437): the 4,160 bytes have arrived. Where nothing is staged, no tag equals the staged one. -/
def State.pieceDone (s : State) (data : List Byte) (digestOk : Bool) : State :=
  if s.down || s.runningCode updPg != some 2 || data.length != 4160 then s
  else
    let i := wordOf data 2
    if wordOf data 0 != 0x43505847 then s.pieceFails 0x80
    else if s.rd updPg UPD_STAGE_STATE == stEmpty || wordOf data 1 != s.rd updPg UPD_TAG_TAG then s.pieceFails 0x81
    else if wordOf data 3 != s.rd updPg UPD_COUNT_N || decide (s.rd updPg UPD_COUNT_N ≤ i) then s.pieceFails 0x82
    else if !digestOk then s.pieceFails 0x83
    else if s.held i then s.cmdEnd updPg stOk (i + 2 ^ 15)
    else (s.storePiece i ((data.drop 0x40).map BitVec.toNat)).cmdEnd updPg stOk i

/-- DISCARD, accepted (R463). -/
def State.discardStage (s : State) : State := (s.clearHeld.wr updPg UPD_STAGE_STATE stEmpty).cmdStop updPg stOk

/-! ### VERIFY and ACTIVATE (R440, R442, R446) -/

/-- While a check or a copy runs, UPD_PROGRESS stands somewhere on its way (R462). -/
def State.progressOpen (s : State) : State :=
  let (a, s1) := s.drawOpen 12
  let (b, s2) := s1.drawOpen 12
  (s2.wr updPg UPD_PROGRESS_DONE a).wr updPg UPD_PROGRESS_TOTAL b

/-- Check 1 of R440. -/
def State.stagedWhole (s : State) : Bool :=
  let st := s.rd updPg UPD_STAGE_STATE
  st == stComplete || st == stVerified || st == stActive

/-- A check of the staged image fails: VERIFIED falls to COMPLETE (R440, R442). -/
def State.verifyFails (s : State) (status : Nat) : State :=
  let s1 := if s.rd updPg UPD_STAGE_STATE = stVerified then s.wr updPg UPD_STAGE_STATE stComplete else s
  (s1.err updPg 1).cmdStop updPg status

/-- The staged image passes: VERIFIED, with what its manifest says (R440, R462). -/
def State.verified (s : State) : State :=
  let p := updPg
  let c := s.mfChunks stageBase
  let s1 := (((s.wr p UPD_STAGE_STATE stVerified).wr p UPD_MF_FW_FW (s.mfFw stageBase)).wr p UPD_MF_INFO_SCHEMA
    (s.mfSchema stageBase)).wr p UPD_MF_INFO_MIN_ROLLBACK (s.mfRollback stageBase)
  (((s1.wr p UPD_MF_INFO_KEYID (s.mfKey stageBase)).wr p UPD_PROGRESS_TOTAL c).wr p UPD_PROGRESS_DONE c).cmdStop p stOk

/-- VERIFY_DONE (R440). -/
def State.verifyDone (s : State) (sigOk partsOk : Bool) : State :=
  if s.down || s.runningCode updPg != some 3 then s
  else if !s.stagedWhole then s.progressOpen.verifyFails 0x84
  else
    let st := s.checkStaged sigOk partsOk
    if st = 0 then s.verified else s.progressOpen.verifyFails st

/-- ACTIVATE may be written now (R442). -/
def State.activateOk (s : State) : Bool :=
  match s.mode with
  | .loader | .configure | .run | .degraded | .safe => true
  | _ => false

/-- ACTIVATE, accepted (R442). In LOADER it writes the journal and restarts the device. -/
def State.activateCmd (s : State) : State :=
  let p := updPg
  if s.rd p UPD_STAGE_STATE != stVerified then s.cmdStop p 0x8B
  else if s.mode = .loader then
    (((s.wr p UPD_JOURNAL_PHASE 1).wr p UPD_JOURNAL_PART 0).wr p UPD_JOURNAL_CHUNK 0).deviceReset .update
  else s.progressOpen

/-- REVERIFY_DONE (R442 step 1): the port drain of step 2 begins, or the command ends. The outcomes of the signature and of the
digests come in one operand. -/
def State.reverified (s : State) (ok : Bool) : State :=
  if s.down || s.runningCode updPg != some 4 || s.moving.isSome || !s.activateOk then s
  else
    let st := s.checkStaged ok ok
    if st = 0 then
      (((s.wr updPg UPD_PROGRESS_TOTAL (s.mfChunks stageBase)).beginTransition .toUpdate).allToConfig).moveCheck
    else s.verifyFails st

/-! ### Settings images (R447-R450) -/

/-- A BAR0 offset that a REG or CMD record may address (R449): not UPD, SEC or MSI-X, nor DEV. -/
def recordAddr (a : Nat) : Bool :=
  a % 4 == 0 &&
  match pageAt (a / 4096) with
  | none => false
  | some .dev | some .upd | some .sec => false
  | some _ => true

/-- A REG pair is allowed: it does not issue DEV_RESET either. -/
def regPairOk (off v : Nat) : Bool :=
  decide (off < 2 ^ 22) && recordAddr off && !(off == crpPg * 4096 + 8 && v % 256 == 2)

/-- A CMD record is allowed. -/
def cmdRecordOk (addr count code : Nat) : Bool :=
  count == 3 && addr % 4096 == 0 && decide (addr < 2 ^ 22) &&
  if addr = 0 then code % 256 == 2
  else recordAddr addr && !(addr == crpPg * 4096 && code % 256 == 2)

/-- Words of payload of a record (R449). -/
def payloadWords (ty count : Nat) : Nat := if ty = 1 then 2 * count else count

/-- Every pair of a REG payload is allowed. -/
def regPairsOk : List Nat → Bool
  | a :: v :: t => regPairOk a v && regPairsOk t
  | _ => true

/-- A record with its payload meets R449. -/
def recordOk (ty count addr : Nat) (pay : List Nat) : Bool :=
  pay.length == payloadWords ty count &&
  if ty = 1 then addr == 0 && regPairsOk pay
  else if ty = 2 then addr % 4 == 0 && decide (0x4000000 ≤ addr) && sameTable addr (4 * max count 1)
  else if ty = 3 then addr % 64 == 0 && decide (addr + 4 * count ≤ 0x4000000)
  else if ty = 4 then cmdRecordOk addr count (pay.headD 0)
  else false

/-- The index of the first bad record among `n`, which start with record `i` of a list of words; 0xFFFF when words are left
over. -/
def badRecord : (n i : Nat) → List Nat → Option Nat
  | 0, _, ws => if ws.isEmpty then none else some 0xFFFF
  | n + 1, i, ws =>
    match ws with
    | h :: a :: t =>
      let k := payloadWords (h % 256) (h / 256)
      if recordOk (h % 256) (h / 256) a (t.take k) then badRecord n (i + 1) (t.drop k) else some i
    | _ => some i

/-- The header of an image of `len` bytes, and its CRC, meet R448. -/
def headerOk (ws : List Nat) (bs : List Byte) (len : Nat) : Bool :=
  let w (i : Nat) : Nat := ws.getD i 0
  w 0 == settingsMagic && w 1 / 2 ^ 17 == 0 && lengthOk len && w 2 == len && w 4 == imageCrc bs &&
    (List.range 9).all fun i => w (7 + i) == 0

/-- The first fault of an image in the order of R450: the DETAIL of BAD_IMAGE. -/
def imageFault (bs : List Byte) : Option Nat :=
  let ws := (List.range (bs.length / 4)).map (wordOf bs)
  if headerOk ws bs bs.length then badRecord (ws.getD 6 0) 0 (ws.drop 16) else some 0xFFFF

/-- SET_SAVE, accepted (R450). -/
def State.setSave (s : State) : State :=
  let p := updPg
  let a := s.arg0 p
  let n := s.arg1 p
  if a % 64 != 0 || !lengthOk n || 0x4000000 < a + n then s.cmdStop p stBadArg
  else if s.badRead a n [] then s.cmdStop p stFault
  else
    let bs := s.mbs a n
    match imageFault bs with
    | some i => s.cmdEnd p 0x8C i
    | none =>
      if wordOf bs 1 % 2 ^ 16 != s.rd p UPD_RUN_INFO_SCHEMA then s.cmdStop p 0x8D
      else { s with saving := bs }

/-- SET_SAVE_DONE (R447, R450): the slot that is not current holds the image under its new generation, and is current. -/
def State.saveDone (s : State) : State :=
  if s.down || s.runningCode updPg != some 6 || s.saving.isEmpty then s
  else
    let (i, s1) := s.saveSlot
    let g := s1.saveGen
    let img := s1.saving.map BitVec.toNat
    let bs := img.take 12 ++ (bytesOf g).map BitVec.toNat ++ img.drop 16 ++ List.replicate (0x40000 - img.length) 0
    ((({ s1 with saving := [] }).mramPuts (slotBase i) bs).settingsShow).cmdEnd updPg stOk (g % 65536)

/-- SET_LOAD, accepted (R450, R463): the current image, if there is one, begins to be applied. -/
def State.setLoad (s : State) : State :=
  match s.currentSlot with
  | none => s.cmdStop updPg stOk
  | some i =>
    if bits (s.mramWord (slotBase i + 4)) 0 16 != s.rd updPg UPD_RUN_INFO_SCHEMA then s.cmdStop updPg 0x8D
    else
      let b := s.slotImage i
      { s with load := some { image := (List.range (b.length / 4)).map (wordOf b), boot := false } }

/-- SET_ERASE may be written now (R463). -/
def State.eraseOk (s : State) : Bool := s.mode == .loader || s.mode == .configure

/-- SET_ERASE, accepted (R450). -/
def State.setErase (s : State) : State := s.eraseSlots.cmdStop updPg stOk

/-! ### The refresh check (R434) -/

/-- The modes in which MRAM is checked (R23). -/
def State.refreshes (s : State) : Bool :=
  match s.mode with
  | .configure | .run | .degraded | .safe | .test => !s.down
  | _ => false

/-- An uncorrectable word of MRAM, by its region (R434). The journal region is held twice (R432). -/
def State.mramLost (s : State) (w : Nat) : State :=
  let s1 := if s.mramBad.contains w then s else { s with mramBad := s.mramBad ++ [w] }
  if w < 0x600000 then s1.fault 46 .dev
  else if w < 0xC00000 then (s1.dropPiece ((w - stageBase) / 4096)).fault 47 .dev
  else if w < 0xC80000 then s1.settingsShow.fault 47 .dev
  else s

/-- MRAM_REFRESH_CHECK: one word is read. The last word of the regions ends a pass. -/
def State.mramCheck (s : State) (a : Nat) (f : Option Find) : State :=
  let w := a / 8 * 8
  if !s.refreshes || 0xC90000 ≤ w then s
  else
    let s1 := match f with
      | none => s
      | some .corrected => ((s.adv updPg UPD_MRAM_REWRITES).tally 0xA0).fault 47 .dev
      | some .uncorrectable => s.mramLost w
    if w = 0xC8FFF8 then s1.adv updPg UPD_MRAM_PASSES else s1

end Sys2Proof.Machine
end

