-- ==== Sys2Proof/Machine/Sec.lean ====
section
/-!
DEFINITION. Attestation and the debug lock (R454-R460, R465, R466).
-/
set_option Elab.async false

namespace Sys2Proof.Machine

/-! ### ATTEST (R456) -/

/-- The 32 words of the quote. -/
def State.quote (s : State) : List Nat :=
  [0x54415847, 1, Config.uid.toNat % 2 ^ 32, Config.uid.toNat / 2 ^ 32, s.wordView devPg 0x044, s.wordView devPg 0x040,
    s.wordView secPg 0x048, s.bootGen] ++
  (List.range 12).map (fun i => s.runDigest.getD i 0) ++ (List.range 8).map (s.rd secPg SEC_NONCE_BYTES ·) ++
  [s.wordView devPg 0x048, s.wordView aonPg 0x040, 0, 0]

/-- Write a list of words to a window of the SEC page. -/
def State.window (s : State) (f : Field) (ws : List Nat) : State :=
  s.each (List.range ws.length) fun s i => s.wr secPg f (ws.getD i 0) i

/-- Sixteen words of a signature by the identity key. -/
def State.sign (s : State) : State :=
  s.each (List.range 16) fun s i =>
    let (w, s1) := s.drawCrypto
    s1.wr secPg SEC_SIG_BYTES w i

/-- ATTEST, accepted. A signature that the engine's own check withholds (R455; whether it does is a free value) ends the command
as without a key. -/
def State.attest (s : State) : State :=
  let (withheld, s0) := s.drawOpen 1
  let s1 := s0.window SEC_QUOTE_BYTES s0.quote
  if s1.fuses.keyDead || withheld == 1 then (s1.window SEC_SIG_BYTES (List.replicate 16 0)).cmdStop secPg 0x80
  else (s1.sign.adv secPg SEC_CNT_ATTESTS).cmdStop secPg stOk

/-! ### UNLOCK (R458-R460) -/

/-- UNLOCK may start now: the mode, and fewer than four failures since device reset. -/
def State.unlockOk (s : State) : Bool :=
  (s.mode == .loader || s.mode == .configure || s.mode == .safe) && decide (s.rd secPg SEC_STATE_FAILS < 4)

/-- A token carries the magic, the format, the device's UID and its current challenge (R459). -/
def State.tokenMatches (s : State) (t : Nat → Nat) : Bool :=
  t 0 == 0x4C555847 && t 1 == 1 && t 2 == Config.uid.toNat % 2 ^ 32 && t 3 == Config.uid.toNat / 2 ^ 32 &&
    (List.range 4).all fun k => t (4 + k) == s.rd secPg SEC_CHAL_BYTES k

/-- The latest UNLOCK's STATUS, as a capture of TOKEN loads it (R512). -/
def State.unlockStatus (s : State) (st : Nat) : State := { s with tap := { s.tap with status := st } }

/-- An UNLOCK fails: flagged, counted, and a new challenge is drawn. -/
def State.unlockFails (s : State) (st : Nat) : State :=
  ((((s.err secPg 0).adv secPg SEC_STATE_FAILS).newChallenge).unlockStatus st).cmdStop secPg st

/-- UNLOCK, accepted, with a token. A token that passes blows UNLOCK_PEND first; the other fuses follow until UNLOCK_DONE. -/
def State.unlockWith (s : State) (t : Nat → Nat) (sigOk : Bool) : State :=
  if !s.tokenMatches t then s.unlockFails 0x81
  else if !sigOk then s.unlockFails 0x82
  else { s.unlockStatus stRunning with fuses := { s.fuses with unlockPend := true } }

/-- UNLOCK from the SEC page, accepted. -/
def State.unlockCmd (s : State) (sigOk : Bool) : State := s.unlockWith (s.rd secPg SEC_TOKEN_BYTES ·) sigOk

/-- UNLOCK_DONE: KEY_DEAD, every bit of IDKEY and DEBUG_OPEN have been blown, in this order. -/
def State.unlockDone (s : State) : State :=
  if s.down || s.runningCode secPg != some 2 || !s.fuses.unlockPend then s
  else
    let s1 := { s with fuses := { s.fuses with keyDead := true, idkeyBlown := true, debugOpen := true } }
    ((s1.err secPg 1).unlockStatus stOk).cmdStop secPg stOk

end Sys2Proof.Machine
end

