-- ==== Sys2Proof/Machine/Commands.lean ====
section
/-!
DEFINITION. The commands of PAGE_CMD (R45, R49): for each page and code of the chapters' tables, when it may be written and
what it does. `State.cmdOn` finds the command of a code written to a page.
-/
set_option Elab.async false

namespace Sys2Proof.Machine

/-! ### DEV and CRP (R62, R428) -/

/-- SET_MODE. Entry to SAFE is the collector's (R388), and needs no core. -/
def State.cmdSetMode (s : State) (pp : Nat) : State :=
  let t := bits (s.arg0 devPg) 0 4
  if t = 5 then s.command pp devPg 1 (s.setModeOk t) State.setModeCmd
  else s.longCommand pp devPg 1 (s.setModeOk t) State.setModeCmd

/-- A page changes its owner, where there is one to change (R51, R52). -/
def State.giveOwner (s : State) (p owner : Nat) : State :=
  match pageAt p with
  | none => s
  | some pg =>
    if pg.fixedOwner.isSome then s
    else { s with owners := if owner = s.rd crpPg CRP_STRAP_PRIMPP then mapDel s.owners p else mapPut s.owners p owner }

/-- SET_OWNER, accepted (R52, R62): DETAIL is the number of pages whose owner changed. -/
def State.setOwner (s : State) : State :=
  let first := bits (s.arg0 devPg) 0 10
  let last := bits (s.arg0 devPg) 16 10
  let owner := bits (s.arg1 devPg) 0 2
  if last < first || 0x27F < last then s.cmdStop devPg stBadArg
  else
    let ps := (List.range (last + 1 - first)).map (first + ·)
    let s1 := s.each ps fun s p => s.giveOwner p owner
    s1.cmdEnd devPg stOk (ps.filter fun p => (pageAt p).isSome && s1.owner p != s.owner p).length

def State.cmdSetOwner (s : State) (pp : Nat) : State := s.command pp devPg 2 true State.setOwner
def State.cmdSetRef (s : State) (pp : Nat) : State := s.command pp crpPg 1 s.setRefOk State.setRef
def State.cmdDevReset (s : State) (pp : Nat) : State := s.command pp crpPg 2 true State.devReset

/-! ### UPD and SEC (R463, R466) -/

def State.cmdBegin (s : State) (pp : Nat) : State := s.longCommand pp updPg 1 s.updOk State.beginStage
def State.cmdPiece (s : State) (pp : Nat) : State := s.longCommand pp updPg 2 s.updOk State.startPiece
def State.cmdVerify (s : State) (pp : Nat) : State := s.longCommand pp updPg 3 s.updOk State.progressOpen
def State.cmdActivate (s : State) (pp : Nat) : State := s.longCommand pp updPg 4 s.activateOk State.activateCmd
def State.cmdDiscard (s : State) (pp : Nat) : State := s.longCommand pp updPg 5 s.updOk State.discardStage
def State.cmdSetSave (s : State) (pp : Nat) : State := s.longCommand pp updPg 6 (s.mode == .configure) State.setSave
def State.cmdSetLoad (s : State) (pp : Nat) : State := s.longCommand pp updPg 7 (s.mode == .configure) State.setLoad
def State.cmdSetErase (s : State) (pp : Nat) : State := s.longCommand pp updPg 8 s.eraseOk State.setErase
def State.cmdAttest (s : State) (pp : Nat) : State := s.longCommand pp secPg 1 true State.attest
def State.cmdUnlock (s : State) (pp : Nat) (sigOk : Bool) : State :=
  s.longCommand pp secPg 2 s.unlockOk (·.unlockCmd sigOk)

/-! ### TEL and FCO (R400, R401) -/

def State.cmdSnapNow (s : State) (pp : Nat) : State := s.command pp telPg 1 true State.snapNow
def State.cmdUnfence (s : State) (pp : Nat) : State := s.command pp fcoPg 1 s.unfenceOk State.startUnfence
def State.cmdDefaults (s : State) (pp : Nat) : State := s.command pp fcoPg 2 s.defaultsOk State.lineDefaults

/-! ### CL and EPH (R230, R245, R276, R340) -/

/-- RXF_RESET, accepted: DETAIL is the number of entries released. -/
def State.rxfResetCmd (s : State) (c : Nat) : State :=
  let (n, s1) := s.fifoReset c (bits (s.arg0 (clPg c)) 0 6)
  s1.cmdEnd (clPg c) stOk n

def State.cmdRxfReset (s : State) (pp c : Nat) : State :=
  s.command pp (clPg c) 0x10 (s.mode == .configure) (·.rxfResetCmd c)
def State.cmdRxRelease (s : State) (pp c : Nat) : State :=
  s.command pp (clPg c) 0x11 true fun s => s.rxRelease c (s.arg0 (clPg c))
def State.cmdTxQuery (s : State) (pp c : Nat) : State :=
  s.command pp (clPg c) 0x20 true fun s => s.cmdEnd (clPg c) stOk (s.txQuery c (bits (s.arg0 (clPg c)) 0 13))
/-- SET_FRAME exists on EPH0 only. -/
def State.cmdSetFrame (s : State) (pp : Nat) : State := s.command pp (ephPg 0) 1 true State.setFrameCmd
def State.cmdArm (s : State) (pp c : Nat) : State := s.command pp (ephPg c) 2 true (·.armCmd c)
def State.cmdDisarm (s : State) (pp c : Nat) : State := s.command pp (ephPg c) 3 true (·.disarmCmd c)

/-! ### CV, PORT and PHY (R170, R206, R214, R278, R472) -/

def State.cmdCvStart (s : State) (pp u : Nat) : State := s.command pp (cvPg u) 1 true (·.scanStart u)
def State.cmdSetPmode (s : State) (pp n : Nat) : State := s.command pp (portPg n) 1 (s.pmodeOk n) (·.setPmode n)
def State.cmdRecover (s : State) (pp n : Nat) : State := s.command pp (portPg n) 2 (s.estate n == esBusOff) (·.recover n)
def State.cmdFltCommit (s : State) (pp n : Nat) : State :=
  s.longCommand pp (portPg n) 0x10 (s.fltOk n) (·.fltCommit n)
def State.cmdTxCancel (s : State) (pp n : Nat) : State := s.command pp (portPg n) 0x20 true (·.txCancel n)
def State.cmdTxFlush (s : State) (pp n : Nat) : State := s.command pp (portPg n) 0x21 true (·.txFlush n)
def State.cmdSetRung (s : State) (pp n : Nat) : State :=
  s.command pp (phyPg n) 1 (s.rungOk n) fun s => s.setRung n (bits (s.arg0 (phyPg n)) 0 2) (bits (s.arg0 (phyPg n)) 4 4)
/-- CALIBRATE starts power-up calibration of a port in CONFIG. -/
def State.cmdCalibrate (s : State) (pp n : Nat) : State :=
  s.command pp (phyPg n) 2 (s.pmode n == pmConfig) fun s => s.wr (phyPg n) PHY_CAL_RUNNING 1
/-- EYE_SCAN; a candidate that is fixed lapses when a PATTERN scan starts, since the port then offers nothing (R202). -/
def State.cmdEyeScan (s : State) (pp n : Nat) : State :=
  s.command pp (phyPg n) 3 (s.eyeOk n) fun s =>
    let s1 := s.eyeStart n
    if (s1.port n).eye.any fun x => !x.2.1 then s1.lapse n else s1
def State.cmdLtClear (s : State) (pp n : Nat) : State := s.command pp (phyPg n) 4 true (·.ltClear n)

/-! ### MOV (R302) -/

/-- DISABLE, accepted. -/
def State.chanDisable (s : State) (m : Nat) : State :=
  (s.modChan m fun x => { x with mode := .disabled }).cmdEnd (movPg m) stOk 0

def State.cmdEnable (s : State) (pp m : Nat) : State :=
  s.command pp (movPg m) 1 ((s.chan m).mode == .disabled) (·.chanEnable m)
def State.cmdDisable (s : State) (pp m : Nat) : State := s.command pp (movPg m) 2 (s.disableOk m) (·.chanDisable m)
def State.cmdResume (s : State) (pp m : Nat) : State := s.command pp (movPg m) 3 (s.resumeOk m) (·.chanResume m)
def State.cmdSetDesc (s : State) (pp m : Nat) : State := s.command pp (movPg m) 4 (s.setDescOk m) (·.chanSetDesc m)
def State.cmdAbort (s : State) (pp m : Nat) : State := s.command pp (movPg m) 5 (s.abortOk m) (·.chanAbort m)
def State.cmdXfer (s : State) (pp m : Nat) : State := s.command pp (movPg m) 6 (s.xferOk m) (·.chanXfer m)

/-! ### Codes (R49) -/

/-- Commands of the single pages. -/
def State.cmdSingle (s : State) (pp p : Nat) (pg : Page) (code : Nat) (sigOk : Bool) : State :=
  match pg, code with
  | .dev, 1 => s.cmdSetMode pp
  | .dev, 2 => s.cmdSetOwner pp
  | .crp, 1 => s.cmdSetRef pp
  | .crp, 2 => s.cmdDevReset pp
  | .upd, 1 => s.cmdBegin pp
  | .upd, 2 => s.cmdPiece pp
  | .upd, 3 => s.cmdVerify pp
  | .upd, 4 => s.cmdActivate pp
  | .upd, 5 => s.cmdDiscard pp
  | .upd, 6 => s.cmdSetSave pp
  | .upd, 7 => s.cmdSetLoad pp
  | .upd, 8 => s.cmdSetErase pp
  | .sec, 1 => s.cmdAttest pp
  | .sec, 2 => s.cmdUnlock pp sigOk
  | .tel, 1 => s.cmdSnapNow pp
  | .fco, 1 => s.cmdUnfence pp
  | .fco, 2 => s.cmdDefaults pp
  | _, c => s.command pp p c false id

/-- A code written to PAGE_CMD of page `p`; a code that the page's chapter does not define is refused (R47, R49). `sigOk`: the
outcome of the signature check, should it be an UNLOCK. -/
def State.cmdOn (s : State) (pp p code : Nat) (sigOk : Bool) : State :=
  match pageAt p with
  | none => s
  | some (.cl c) =>
    if code = 0x10 then s.cmdRxfReset pp c else if code = 0x11 then s.cmdRxRelease pp c
    else if code = 0x20 then s.cmdTxQuery pp c else s.command pp p code false id
  | some (.eph c) =>
    if code = 1 && c == 0 then s.cmdSetFrame pp else if code = 2 then s.cmdArm pp c
    else if code = 3 then s.cmdDisarm pp c else s.command pp p code false id
  | some (.cv u) => if code = 1 then s.cmdCvStart pp u else s.command pp p code false id
  | some (.port n) =>
    if code = 1 then s.cmdSetPmode pp n else if code = 2 then s.cmdRecover pp n
    else if code = 0x10 then s.cmdFltCommit pp n else if code = 0x20 then s.cmdTxCancel pp n
    else if code = 0x21 then s.cmdTxFlush pp n else s.command pp p code false id
  | some (.phy n) =>
    if code = 1 then s.cmdSetRung pp n else if code = 2 then s.cmdCalibrate pp n
    else if code = 3 then s.cmdEyeScan pp n else if code = 4 then s.cmdLtClear pp n else s.command pp p code false id
  | some (.mov m) =>
    if code = 1 then s.cmdEnable pp m else if code = 2 then s.cmdDisable pp m else if code = 3 then s.cmdResume pp m
    else if code = 4 then s.cmdSetDesc pp m else if code = 5 then s.cmdAbort pp m else if code = 6 then s.cmdXfer pp m
    else s.command pp p code false id
  | some pg => s.cmdSingle pp p pg code sigOk

end Sys2Proof.Machine
end

