-- ==== Sys2Proof/Machine/Register.lean ====
section
/-!
DEFINITION. Writes of BAR0 (R8, R10, R37, R45, R50, R63): the page header, the registers with an effect of their own, every
other register field by field, and the MSI-X table.
-/
set_option Elab.async false

namespace Sys2Proof.Machine

/-! ### Fields of a register (R8, R10) -/

/-- A field takes its part of a written word by its access type. -/
def State.putField (s : State) (p v : Nat) (x : Field × Nat) : State :=
  let w := bits v x.1.lo x.1.w
  match x.1.ty with
  | .rw | .rwc | .wo => s.wr p x.1 w x.2
  | .w1c => s.wr p x.1 (clearBits (s.rd p x.1 x.2) w) x.2
  | .w1s | .ro | .rc => s

/-- A write would change an RWC field of the register outside CONFIGURE. -/
def State.rwcBroken (s : State) (p v : Nat) (fs : List (Field × Nat)) : Bool :=
  fs.any fun x => x.1.ty == .rwc && s.rwcLocked p x.1 (bits v x.1.lo x.1.w) x.2

/-- A write of a register's fields: refused by the gate, for an RWC field, or for its value (`bad`); else the fields take their
parts, and `after` is what follows from their new values. -/
def State.setFields (s : State) (pp p v : Nat) (fs : List (Field × Nat)) (bad : Bool) (after : State → State) : State :=
  s.guarded pp p (if s.rwcBroken p v fs then some .rwc else if bad then some .badValue else none) fun s =>
    after (s.each fs fun s x => s.putField p v x)

/-! ### Registers with rows of their own: pools and FIFOs (R226, R227, R275) -/

def State.rxPoolWrite (s : State) (pp c v : Nat) : State :=
  s.setFields pp (clPg c) v [(CL_RXPOOL_BASE, 0), (CL_RXPOOL_SIZE, 0), (CL_RXPOOL_ESS, 0)] (s.rxPoolBad c v) (·.poolMin c)
def State.bufAreaWrite (s : State) (pp c v : Nat) : State :=
  s.setFields pp (clPg c) v [(CL_BUFAREA_EN, 0)] (s.bufAreaBad c v) (·.poolMin c)
def State.txSoftWrite (s : State) (pp c v : Nat) : State :=
  s.setFields pp (clPg c) v [(CL_TXSOFT_BASE, 0), (CL_TXSOFT_SIZE, 0)] (s.txSoftBad c v) (·.poolMin c)
def State.rxfCfgWrite (s : State) (pp c f v : Nat) : State :=
  s.setFields pp (clPg c) v [(RXF_CFG_EN, f), (RXF_CFG_LOG2, f), (RXF_CFG_BASE, f), (RXF_CFG_TGT, f)] (s.rxfCfgBad c f v) id

/-- PORT_TX_DB (R50, R251, R344): the run of objects, then DOORBELL_DONE of every target of the partner port. -/
def State.txDoorbell (s : State) (pp n v : Nat) (finds : List (Nat × Find)) : State :=
  s.guarded pp (portPg n) none fun s => (s.doorbell n (bits v 0 13) (bits v 16 8) finds).eventAll pp 0

/-- MOV_CREDIT_ADD (R286). -/
def State.creditWrite (s : State) (pp m v : Nat) : State :=
  s.guarded pp (movPg m) none fun s => s.creditAdd m (bits v 0 17)

/-- T_SELF (R363). -/
def State.selfFire (s : State) (pp k v : Nat) : State :=
  s.guarded pp (tnPg k) none fun s => if v.testBit 0 then s.event (privKey k 6) else s

/-! ### The fault collector's configuration words (R370, R374, R383, R399) -/

/-- Word A of a line: no reserved level, N not 0. -/
def lcfgABad (v : Nat) : Bool :=
  decide (4 < bits v 1 3) || decide (4 < bits v 4 3) || decide (4 < bits v 7 3) || bits v 12 8 == 0

/-- Word B of line `l`: no reserved reaction, none lower than that of the level below, FENCE only where there is a cluster. -/
def lcfgBBad (l v : Nat) : Bool :=
  let c (i : Nat) : Nat := bits v (4 * i) 4
  decide (3 < c 3) || decide (c 1 < c 0) || decide (c 2 < c 1) || decide (c 3 < c 2) || (decide (32 ≤ l) && c 3 == 3)

/-- The fields of word A, or B, of line `l`. -/
def lcfgFields (l : Nat) (b : Bool) : List (Field × Nat) :=
  if b then [(FCO_LCFG_B_NOTE, l), (FCO_LCFG_B_MINOR, l), (FCO_LCFG_B_MAJOR, l), (FCO_LCFG_B_SEVERE, l)]
  else [(FCO_LCFG_A_EN, l), (FCO_LCFG_A_BASE, l), (FCO_LCFG_A_CNT, l), (FCO_LCFG_A_CAP, l), (FCO_LCFG_A_UNIT, l),
    (FCO_LCFG_A_N, l), (FCO_LCFG_A_W, l)]

/-- FCO_LCFG: a write restores the word's parity (R383); line 58's words are RO. -/
def State.lcfgWrite (s : State) (pp l : Nat) (b : Bool) (v : Nat) : State :=
  if l = 58 then s.guarded pp fcoPg none id
  else s.setFields pp fcoPg v (lcfgFields l b) (if b then lcfgBBad l v else lcfgABad v) fun s =>
    { s with parityBad := s.parityBad.filter (· != 2 * l + b01 b) }

/-! ### Every other register -/

/-- The value is reserved or out of range in a field of the register at offset `o` (R10, R107, R168, R205, R338, R401). -/
def badValue (pg : Page) (o v : Nat) : Bool :=
  match pg with
  | .port _ =>
    if o = 0x040 then bits v 8 7 == 0 || bits v 16 6 == 0
    else if o = 0x050 then bits v 4 4 == 5 || bits v 4 4 == 6 || decide (8 ≤ bits v 4 4)
    else if o = 0x090 then bits v 4 4 == 0 || decide (4 < bits v 4 4)
    else false
  | .phy _ => if o = 0x040 then decide (2 ≤ bits v 0 2) else if o = 0x048 then bits v 0 2 == 3 else false
  | .eph _ =>
    if o = 0x044 then decide (bits v 0 13 < 2) || decide (4096 < bits v 0 13) || decide (10 ≤ bits v 16 4)
    else if o = 0x048 then decide (bits v 0 22 < 81920) || decide (4096000 < bits v 0 22)
    else false
  | .tel => if o = 0x040 then decide (8 < bits v 4 4) else false
  | _ => false

/-- A port's attachment to a partner port has changed: in panic, it leaves it on the old one, and enters it anew where its condition
holds (R304). -/
def State.reattached (was s : State) (n : Nat) : State :=
  let moved := was.rd (portPg n) PORT_MV_ATT_PP != s.rd (portPg n) PORT_MV_ATT_PP
  (if moved then (s.wr (portPg n) PORT_MV_ATT_IN_PANIC 0) else s).panic [n]

/-- What follows from the new value of a register: the Moon domain's termination (R416), training (R196), panic (R65, R290, R304),
an eclipse window that opens (R134), a rate that changes (R314) and a resumed ephemeris (R327). -/
def State.afterWrite (was : State) (pg : Page) (o : Nat) (s : State) : State :=
  match pg with
  | .phy n =>
    if o = 0x040 then
      let old := s.rd aonPg AON_TERM_END (n / 32)
      s.wr aonPg AON_TERM_END (if s.rd (phyPg n) PHY_TERM_MODE = 1 then old ||| bit (n % 32) else clearBits old (bit (n % 32)))
        (n / 32)
    else if o = 0x05C then s.windowSync n else s
  | .pp _ => if o = 0x044 then s.panicPins else s
  | .port n =>
    if o = 0x180 || o = 0x184 then was.reattached s n
    else if o = 0x0C0 && !was.eclipseOpen n then s.windowOpened n none else s
  | .eph c =>
    if o = 0x080 && !was.flag (ephPg c) EPH_CFG_EN && s.flag (ephPg c) EPH_CFG_EN then s.ephResume [c]
    else if c = 0 && (o = 0x044 || o = 0x048) then was.noteRates s else s
  | _ => s

/-- A register without an effect of its own: its fields, by their access types. -/
def State.plainWrite (s : State) (pp p : Nat) (pg : Page) (o v : Nat) : State :=
  s.setFields pp p v (fieldsAt pg o) (badValue pg o v) (s.afterWrite pg o)

/-- Registers of a target's normal page. -/
def State.targetWrite (s : State) (pp k o v : Nat) : State :=
  if o = 0x040 then s.tCfgWrite pp k v
  else if o = 0x04C then s.complete pp k false (bits v 0 12)
  else if o = 0x050 then s.eoi pp k
  else if o = 0x05C then s.maskWrite pp k (bits v 0 12) (v.testBit 31)
  else if o = 0x068 then s.ringBaseWrite pp k T_RING_BASE_LO_ADDR (bits v 6 26)
  else if o = 0x06C then s.ringBaseWrite pp k T_RING_BASE_HI_ADDR v
  else if o = 0x070 then s.ringCfgWrite pp k v
  else if o = 0x078 then s.ringGetWrite pp k v
  else if o = 0x080 then s.mailOut pp k v
  else if o = 0x08C then s.selfFire pp k v
  else if 0x0C0 ≤ o ∧ o < 0x100 then s.privCfgWrite pp k ((o - 0x0C0) / 4) v
  else s.plainWrite pp (tnPg k) (.tn k) o v

/-- Registers of a cluster's page. -/
def State.clusterWrite (s : State) (pp c o v : Nat) : State :=
  if o = 0x040 then s.rxPoolWrite pp c v
  else if o = 0x044 then s.bufAreaWrite pp c v
  else if o = 0x900 then s.txSoftWrite pp c v
  else if 0x100 ≤ o ∧ o < 0x900 ∧ o % 32 = 0 then s.rxfCfgWrite pp c ((o - 0x100) / 32) v
  else if 0x100 ≤ o ∧ o < 0x900 ∧ o % 32 = 0xC then s.rxfGet pp c ((o - 0x100) / 32) v
  else s.plainWrite pp (clPg c) (.cl c) o v

/-- Registers of the fault collector. -/
def State.fcoWrite (s : State) (pp o v : Nat) : State :=
  if o = 0x040 then s.stickyClear pp false v
  else if o = 0x044 then s.stickyClear pp true v
  else if o = 0x054 then s.inject pp v
  else if 0x080 ≤ o ∧ o < 0x280 then s.lcfgWrite pp ((o - 0x080) / 8) (o % 8 == 4) v
  else s.plainWrite pp fcoPg .fco o v

/-- Registers of an ephemeris page: EPH1-EPH7 show the time base's RO (R338). `e`: the time in the line, for a mark. -/
def State.ephWrite (s : State) (pp c o v e : Nat) : State :=
  if 0x040 ≤ o ∧ o < 0x080 then
    if c != 0 then s.guarded pp (ephPg c) none id
    else if o = 0x040 then s.rtCfgWrite pp v
    else if o = 0x074 then s.markWrite pp v e
    else s.plainWrite pp (ephPg 0) (.eph 0) o v
  else s.plainWrite pp (ephPg c) (.eph c) o v

/-- A register beyond the header of page `p`. -/
def State.ownWrite (s : State) (pp p : Nat) (pg : Page) (o v e : Nat) : State :=
  match pg with
  | .tn k => s.targetWrite pp k o v
  | .tf k => if o = 0x044 then s.complete pp k true (bits v 0 12) else s.plainWrite pp p pg o v
  | .cl c => s.clusterWrite pp c o v
  | .fco => s.fcoWrite pp o v
  | .eph c => s.ephWrite pp c o v e
  | .icu => if o = 0x044 then s.srcCfgWrite pp v else s.plainWrite pp p pg o v
  | .port n => if o = 0x140 then s.txDoorbell pp n v [] else s.plainWrite pp p pg o v
  | .mov m => if o = 0x064 then s.creditWrite pp m v else s.plainWrite pp p pg o v
  | .dev | .crp | .aon | .upd | .sec | .tel | .pp _ | .cv _ | .phy _ => s.plainWrite pp p pg o v

/-! ### The page header (R45) -/

/-- PAGE_STAT: writing 1 to ERR clears ERR, REFCAUSE and REFUSALS together. -/
def State.statWrite (s : State) (pp p v : Nat) : State :=
  s.guarded pp p none fun s =>
    if v.testBit 1 then ((s.wr p PAGE_STAT_ERR 0).wr p PAGE_STAT_REFCAUSE 0).wr p PAGE_STAT_REFUSALS 0 else s

/-- PAGE_IRQ_EN: the page's condition may become true. -/
def State.irqEnWrite (s : State) (pp p v : Nat) : State :=
  s.guarded pp p none fun s => (s.wr p PAGE_IRQ_EN_EN (bits v 0 16)).pageRise p (s.pageCond p)

/-- A register of the header. -/
def State.headWrite (s : State) (pp p : Nat) (pg : Page) (o v : Nat) (sigOk : Bool) : State :=
  if o = 0x004 then s.statWrite pp p v
  else if o = 0x008 then s.cmdOn pp p (bits v 0 8) sigOk
  else if o = 0x018 then s.fenceWrite pp p v
  else if o = 0x024 then s.irqEnWrite pp p v
  else s.plainWrite pp p pg o v

/-! ### Accesses -/

/-- A word of the MSI-X table of the writing port's function (R35, R544): the vector control word keeps its mask bit only; the
Pending Bit Array is RO. -/
def State.msixWrite (s : State) (pp a v : Nat) : State :=
  if s.deaf || 0x3FE200 ≤ a then s
  else
    let w := (a - 0x3FE000) / 4
    s.modPp pp fun x => { x with msix := mapSet (b01 (w % 4 == 3)) x.msix w (if w % 4 = 3 then v % 2 else v) }

/-- A write that may leave a value open: a mark, or a command of the SEC page. -/
def opensValue (a : Nat) : Bool := a == ephPg 0 * 4096 + 0x074 || a == secPg * 4096 + 0x008

/-- A 4-byte write at BAR0 offset `a` by `pp`. What a write leaves open is drawn: the time in the line of a mark, and the outcome
of an UNLOCK's signature check. -/
def State.writeWord (s : State) (pp a v : Nat) : State :=
  let p := a / 4096
  let o := a % 4096
  if isMsix a then s.msixWrite pp a v
  else match pageAt p with
  | none => s
  | some pg =>
    let e := s.openBits 0 22
    let s1 := if opensValue a then { s with freeCtr := s.freeCtr + 1 } else s
    if o < 0x040 then s1.headWrite pp p pg o v (e % 2 == 1) else s1.ownWrite pp p pg o v e

/-- A write of BAR0 by `pp` (R37): the halves of an 8-byte write one after the other, the lower address first. A write at an address
without a page, or of wrong alignment, is an unsupported request (R43). -/
def State.regWrite (s : State) (pp a : Nat) (wide : Bool) (v : Nat) : State :=
  if s.down then s
  else if !s.barServes pp || !barOk a wide then s.unsupported pp false (s.barAddr pp 0 a)
  else if s.deaf then s
  else
    let s1 := s.writeWord pp a (v % 2 ^ 32)
    if wide then s1.writeWord pp (a + 4) (v / 2 ^ 32 % 2 ^ 32) else s1

end Sys2Proof.Machine
end

