-- ==== Sys2Proof/Machine/Load.lean ====
section
/-!
DEFINITION. The settings load (R449-R453): the records of the current image are applied in order, as writes and commands from
the primary partner port; a write to a BUSY page waits, and so does a command's end.
-/
set_option Elab.async false

namespace Sys2Proof.Machine

/-- What one step of a load comes to. -/
inductive LoadOut
  | ok (s : State)
  | wait (page : Nat)
  /-- A write was refused (STATUS 0, with its REFCAUSE), or a command ended with another STATUS than OK. -/
  | fail (s : State) (status refcause : Nat)
  deriving DecidableEq, Repr

/-- Go on with the next write when the first one has been accepted. -/
def LoadOut.andThen (o : LoadOut) (f : State → LoadOut) : LoadOut :=
  match o with
  | .ok s => f s
  | .wait p => .wait p
  | .fail s st rc => .fail s st rc

/-- Make a write to some pages: it waits while one of them is BUSY, and fails when one of them refuses it. -/
def State.attempt (s : State) (pages : List Nat) (f : State → State) : LoadOut :=
  match pages.find? fun p => s.flag p PAGE_STAT_BUSY with
  | some p => .wait p
  | none =>
    let probe := f (s.each pages fun s p => s.wr p PAGE_STAT_REFUSALS 0)
    match pages.find? fun p => probe.rd p PAGE_STAT_REFUSALS != 0 with
    | some p => .fail (f s) 0 ((f s).rd p PAGE_STAT_REFCAUSE)
    | none => .ok (f s)

/-- A 4-byte write of BAR0 as part of a load. -/
def State.loadWord (s : State) (pp a v : Nat) : LoadOut := s.attempt [a / 4096] (·.writeWord pp a v)

/-- The CL pages that govern a range of BAR2. -/
def rangePages (a n : Nat) : List Nat :=
  (List.range 8).filterMap fun c =>
    if n = 0 then none
    else match regionAt a, regionAt (a + n - 1) with
      | some r, some q => if r.cluster ≤ c ∧ c ≤ q.cluster then some (clPg c) else none
      | _, _ => none

/-- The next step of the record that begins at word `at_` of the image; `done` counts the pairs of a REG record that are written,
and is 1 once a CMD record's command runs. -/
def State.loadStep (s : State) (pp : Nat) (ld : SetLoad) : LoadOut :=
  let w (i : Nat) : Nat := ld.image.getD (ld.at_ + i) 0
  let ty := w 0 % 256
  let count := w 0 / 256
  if ty = 1 then
    if ld.done < count then s.loadWord pp (w (2 + 2 * ld.done)) (w (3 + 2 * ld.done)) else .ok s
  else if ty = 2 then
    s.attempt (rangePages (w 1) (4 * count)) (·.tablePut pp (w 1) ((List.range count).map fun i => w (2 + i)))
  else if ty = 3 then
    s.attempt (rangePages (w 1) (4 * count))
      (·.storePut pp (w 1) (((List.range count).flatMap fun i => bytesOf (w (2 + i))).map some))
  else if ty = 4 then
    if ld.done = 0 then
      ((s.loadWord pp (w 1 + 0x00C) (w 3)).andThen fun s => s.loadWord pp (w 1 + 0x010) (w 4)).andThen
        fun s => s.loadWord pp (w 1 + 0x008) (w 2)
    else if s.flag (w 1 / 4096) PAGE_STAT_BUSY then .wait (w 1 / 4096)
    else if s.rd (w 1 / 4096) PAGE_RESULT_STATUS = stOk then .ok s
    else .fail s (s.rd (w 1 / 4096) PAGE_RESULT_STATUS) 0
  else .ok s

/-- Where a load stands after a step: in the same record, or at the next one. -/
def SetLoad.after (ld : SetLoad) : SetLoad :=
  let h := ld.image.getD ld.at_ 0
  let ty := h % 256
  let more := (ty == 1 && decide (ld.done + 1 < h / 256)) || (ty == 4 && ld.done == 0)
  if more then { ld with done := ld.done + 1 }
  else { ld with record := ld.record + 1, at_ := ld.at_ + 2 + payloadWords ty (h / 256), done := 0 }

/-- A load has failed (R453, R463, R464). -/
def State.loadFails (s : State) (ld : SetLoad) (status refcause : Nat) : State :=
  let p := updPg
  let s1 := ((((s.wr p UPD_SET_STAT_FAILED 1).wr p UPD_SET_FAIL_RECORD ld.record).wr p UPD_SET_FAIL_STATUS status).wr
    p UPD_SET_FAIL_REFCAUSE refcause).err p 4
  if ld.boot then s1.irq p 8 else s1.cmdStop p stFault

/-- A load has succeeded (R451, R456, R463, R464). After a boot the device may go on to RUN by itself. -/
def State.loadSucceeds (s : State) (ld : SetLoad) : State :=
  let p := updPg
  let s1 := s.wr p UPD_SET_STAT_LOADED 1
  if ld.boot then
    let s2 := { s1.irq p 8 with bootGen := s1.rd p UPD_SET_GEN_GEN }
    if s2.flag crpPg CRP_STRAP_AUTOSTART && (ld.image.getD 1 0).testBit 16 && s2.mode == .configure && s2.moving.isNone then
      s2.startRun true
    else s2
  else s1.cmdStop p stOk

/-- Apply records until the image is done, one fails, or one waits; at most `fuel` steps. -/
def State.loadRun : Nat → State → SetLoad → State
  | 0, s, ld => { s with load := some ld }
  | fuel + 1, s, ld =>
    if ld.image.getD 6 0 ≤ ld.record then s.loadSucceeds ld
    else match s.loadStep (s.rd crpPg CRP_STRAP_PRIMPP) ld with
      | .ok s1 => State.loadRun fuel s1 ld.after
      | .wait p => { s with load := some { ld with wait := some p } }
      | .fail s1 st rc => s1.loadFails ld st rc

/-- SETTINGS_LOAD_DONE (R451): the load that runs goes on to its end, or to a page that it waits for. -/
def State.settingsLoad (s : State) : State :=
  match s.load with
  | none => s
  | some ld =>
    if s.down then s
    else State.loadRun (2 * ld.image.length + 2) { s with load := none } { ld with wait := none }

end Sys2Proof.Machine
end

