-- ==== Sys2Proof/Machine/Tap.lean ====
section
/-!
DEFINITION. The test access port (R458, R509-R514).
-/
set_option Elab.async false

namespace Sys2Proof.Machine

/-- An instruction is current, with what its data register captures. -/
def State.tapTo (s : State) (ir : TapIr) (dr : Nat) : State :=
  if s.chip.aonDown then s else { s with tap := { s.tap with ir := ir, dr := dr } }

/-- TAP_RESET (R509): Test-Logic-Reset selects IDCODE and leaves the boundary cells (R513). -/
def State.tapReset (s : State) : State := if s.chip.aonDown then s else { s with tap := { s.tap with ir := .idcode } }

/-- The identification register (R511). -/
def idcodeWord : Nat := 0x1012876F

/-- SAMPLE/PRELOAD (R510, R513): the 35 cells take the pins, and keep them for EXTEST and CLAMP. -/
def State.tapSample (s : State) (pins : Nat) : State :=
  if s.chip.aonDown then s
  else { s with tap := { s.tap with ir := .samplePreload, dr := pins, boundary := pins } }

/-- EXTEST and CLAMP drive the pins from the boundary cells; HIGHZ drives none (R514). -/
def State.tapExtest (s : State) : State := s.tapTo .extest s.tap.boundary
def State.tapClamp (s : State) : State := s.tapTo .clamp 0
def State.tapHighz (s : State) : State := s.tapTo .highz 0
def State.tapIdcode (s : State) : State := s.tapTo .idcode idcodeWord
def State.tapBypass (s : State) : State := s.tapTo .bypass 0

/-- CHAL (R512): Capture-DR loads SEC_CHAL. -/
def State.tapChal (s : State) : State :=
  s.tapTo .chal ((List.range 4).foldl (fun a k => a + s.rd secPg SEC_CHAL_BYTES k * 2 ^ (32 * k)) 0)

/-- The UNLOCK that an Update-DR of TOKEN starts (R512): as a command of the SEC page, whoever owns it; refused, it starts
nothing, and the next capture reads 0x00. -/
def State.tokenUnlock (s : State) (t : Nat → Nat) (sigOk : Bool) : State :=
  if s.flag secPg PAGE_STAT_BUSY then (if s.runningCode secPg = some 2 then s.unlockStatus stRunning else s)
  else if s.down || !s.unlockOk then s.unlockStatus 0
  else (s.cmdStart secPg 2).byCores (·.unlockWith t sigOk)

/-- TOKEN (R512), up to its Update-DR with 128 bytes. -/
def State.tapToken (s : State) (ws : List Nat) (sigOk : Bool) : State :=
  if s.chip.aonDown || ws.length != 32 then s
  else
    let dr := (List.range 32).foldl (fun a k => a + ws.getD k 0 * 2 ^ (32 * k)) 0
    (s.tapTo .token dr).tokenUnlock (ws.getD · 0) sigOk

/-- DBG_PAGE (R510): with debug open, one access of BAR0 on behalf of the page's owner; else it selects BYPASS (R458). The data
register holds what a read returns. -/
def State.tapDbgPage (s : State) (write : Bool) (off v : Nat) : State :=
  if !s.fuses.debugOpen then s.tapBypass
  else if s.chip.aonDown then s
  else if s.down || !barOk off false then s.tapTo .dbgPage 0
  else
    let pp := s.owner (off / 4096)
    if write then (s.regWrite pp off false v).tapTo .dbgPage (v * 2 ^ 32)
    else
      let (x, s1) := (s.readTime off).readWord pp off
      s1.tapTo .dbgPage (x * 2 ^ 32)

/-- DBG_CORE (R510): with debug open, the debug port of the management cores, of which no rule says what it shows or does; else
BYPASS. -/
def State.tapDbgCore (s : State) : State :=
  if !s.fuses.debugOpen then s.tapBypass
  else if s.chip.aonDown then s
  else
    let (a, s1) := s.drawOpen 32
    let (b, s2) := s1.drawOpen 32
    s2.tapTo .dbgCore (a + b * 2 ^ 32)

end Sys2Proof.Machine
end

