-- ==== Sys2Proof/Machine/ExecBus.lean ====
section
/-!
DEFINITION. The commands of a bus port: arbitration, frames, errors and modes (R105-R171, R189-R201).
-/
set_option Elab.async false

namespace Sys2Proof.Machine

/-- CANDIDATE_FIX (R126). -/
def execCandidateFix (n : Port) (nextUp : Bool) (s : State) : Host.Outcome State Fault Refusal :=
  .next (s.candidateFix n nextUp).done

/-- ARBITRATION_END (R112). -/
def execArbitrationEnd (n : Port) (won : Bool) (lostInSnd : Option (BitVec 6)) (back e : Nat)
    (s : State) : Host.Outcome State Fault Refusal :=
  .next (s.arbitrationEnd n won lostInSnd (s.momentOf back) e).done

/-- HEAD_RECEIVED (R216). -/
def execHeadReceived (n : Port) (head : Head) (nextUp : Bool) (back e pulse : Nat) (hit : List Nat)
    (s : State) : Host.Outcome State Fault Refusal :=
  .next (s.headReceived n head nextUp (s.momentOf back) e pulse hit).done

/-- TAIL_END (R98). -/
def execTailEnd (n : Port) (payload : List Byte) (tcrc : Word) (intact : Bool) (coef : Option TailCoef)
    (s : State) : Host.Outcome State Fault Refusal :=
  .next (s.tailEnd n payload tcrc.toNat intact coef).done

/-- FRAME_COMMIT (R219). -/
def execFrameCommit (n : Port) (data : List Byte) (s : State) : Host.Outcome State Fault Refusal :=
  .next (s.frameCommit n data).done

/-- BUS_ERROR (R142). -/
def execBusError (n : Port) (e : BusErr) (inNextUp first : Bool) (runs overloads : Nat) (dominant : Bool)
    (s : State) : Host.Outcome State Fault Refusal :=
  .next ((s.busError n e inNextUp first runs overloads dominant).busPauses n).done

/-- FRAME_END (R262). -/
def execFrameEnd (n : Port) (s : State) : Host.Outcome State Fault Refusal :=
  .next ((s.frameEnd n).busPauses n).done

/-- INTEGRATION_DONE (R105). -/
def execIntegrationDone (n : Port) (s : State) : Host.Outcome State Fault Refusal :=
  .next ((s.integrationDone n).busPauses n).done

/-- BUS_OFF_RECOVERY_DONE (R152). -/
def execBusOffRecoveryDone (n : Port) (s : State) : Host.Outcome State Fault Refusal :=
  .next (s.recoveryDone n).done

/-- LOSS_OF_LOCK (R192). -/
def execLossOfLock (n : Port) (s : State) : Host.Outcome State Fault Refusal :=
  .next (s.lossOfLock n).done

/-- STUCK_DOMINANT (R171). -/
def execStuckDominant (n : Port) (s : State) : Host.Outcome State Fault Refusal :=
  .next (s.stuck n).done

/-- LISTEN_TIMEOUT (R157). -/
def execListenTimeout (n : Port) (s : State) : Host.Outcome State Fault Refusal :=
  .next (s.listenLate n).done

/-- PORT_WAKE_CONDITION (R160, R167). -/
def execPortWakeCondition (n : Port) (w : WakeSeen) (s : State) : Host.Outcome State Fault Refusal :=
  .next ((s.portWake n w).afterMove n).done

/-- SURGE (R185). -/
def execSurge (n : Port) (s : State) : Host.Outcome State Fault Refusal :=
  .next (s.surgeSeen n).done

/-- CM_RANGE (R201). -/
def execCmRange (n : Port) (s : State) : Host.Outcome State Fault Refusal :=
  .next (s.cmRangeSeen n).done

/-- SET_PMODE (R155, R170). -/
def execSetPmode (pp : PPort) (n : Port) (s : State) : Host.Outcome State Fault Refusal :=
  .next (s.cmdSetPmode pp n).done

/-- RECOVER (R152, R170). -/
def execRecover (pp : PPort) (n : Port) (s : State) : Host.Outcome State Fault Refusal :=
  .next (s.cmdRecover pp n).done

/-- PORT_DRAIN_DONE (R161). -/
def execPortDrainDone (n : Port) (s : State) : Host.Outcome State Fault Refusal :=
  .next (s.drainDone n).done

/-- FORCED_STOP (R162). -/
def execForcedStop (n : Port) (s : State) : Host.Outcome State Fault Refusal :=
  .next (s.forceStop n).done

/-- FLT_COMMIT (R214). -/
def execFltCommit (pp : PPort) (n : Port) (s : State) : Host.Outcome State Fault Refusal :=
  .next (s.cmdFltCommit pp n).done

end Sys2Proof.Machine
end

