-- ==== Sys2Proof/Machine/ExecCv.lean ====
section
/-!
DEFINITION. The commands of the check-value units (R467-R477).
-/
set_option Elab.async false

namespace Sys2Proof.Machine

/-- CV_START (R472). -/
def execCvStart (pp : PPort) (u : Unit16) (s : State) : Host.Outcome State Fault Refusal :=
  .next (s.cmdCvStart pp u).done

/-- SCAN_DONE (R474). -/
def execScanDone (u : Unit16) (data : List Byte) (finds : List (Nat × Find)) (us : Nat)
    (s : State) : Host.Outcome State Fault Refusal :=
  .next (s.byCores (·.scanOver u data finds us false)).done

/-- CV_LIMIT_EXPIRY (R474). -/
def execCvLimitExpiry (u : Unit16) (data : List Byte) (us : Nat) (s : State) : Host.Outcome State Fault Refusal :=
  .next (s.byCores (·.scanOver u data [] us true)).done

end Sys2Proof.Machine
end

