-- ==== Sys2Proof/Machine/ExecFault.lean ====
section
/-!
DEFINITION. The commands of the fault collector, of SAFE, and of the background services (R368-R401).
-/
set_option Elab.async false

namespace Sys2Proof.Machine

/-- RESET_DONE (R379). -/
def execResetDone (w : ResetWhat) (s : State) : Host.Outcome State Fault Refusal :=
  .next (s.resetOver w).done

/-- REACT_FAIL (R379). -/
def execReactFail (w : ResetWhat) (s : State) : Host.Outcome State Fault Refusal :=
  .next (s.reactFail w).done

/-- LEVEL_LINE_TICK (R368). -/
def execLevelLineTick (l : Line) (s : State) : Host.Outcome State Fault Refusal :=
  .next (s.levelTick l).done

/-- MC_WATCHDOG (R369). -/
def execMcWatchdog (s : State) : Host.Outcome State Fault Refusal :=
  .next (s.watchdog).done

/-- INTERNAL_CHECK_FAILURE (R369). -/
def execInternalCheckFailure (b : CheckBlock) (s : State) : Host.Outcome State Fault Refusal :=
  .next (s.checkFails b).done

/-- PARITY_SCAN (R382, R383). -/
def execParityScan (bad : List (Fin 128)) (s : State) : Host.Outcome State Fault Refusal :=
  .next (s.parityScan (bad.map Fin.val)).done

/-- FCO_INJECT (R372). -/
def execFcoInject (pp : PPort) (val : Word) (s : State) : Host.Outcome State Fault Refusal :=
  .next (s.inject pp val.toNat).done

/-- FCO_STICKY_CLEAR (R371). -/
def execFcoStickyClear (pp : PPort) (hi : Bool) (val : Word) (s : State) : Host.Outcome State Fault Refusal :=
  .next (s.stickyClear pp hi val.toNat).done

/-- UNFENCE (R385). -/
def execUnfence (pp : PPort) (s : State) : Host.Outcome State Fault Refusal :=
  .next (s.cmdUnfence pp).done

/-- UNFENCE_DONE (R386). -/
def execUnfenceDone (locked : Bool) (s : State) : Host.Outcome State Fault Refusal :=
  .next (s.unfenceOver locked).done

/-- DEFAULTS (R400). -/
def execDefaults (pp : PPort) (s : State) : Host.Outcome State Fault Refusal :=
  .next (s.cmdDefaults pp).done

/-- SAFE_EXIT_DONE (R389). -/
def execSafeExitDone (s : State) : Host.Outcome State Fault Refusal :=
  .next (s.safeExitDone).done

/-- SCRUB_ACCESS (R391). -/
def execScrubAccess (addr : BitVec 27) (find : Option Find) (s : State) : Host.Outcome State Fault Refusal :=
  .next (s.scrub addr.toNat find).done

/-- WRITE_BACK (R391). -/
def execWriteBack (c : Cl) (s : State) : Host.Outcome State Fault Refusal :=
  .next (s.writeBack c).done

/-- SNAPSHOT_DUE (R394). -/
def execSnapshotDue (volts : List (BitVec 16)) (s : State) : Host.Outcome State Fault Refusal :=
  .next (s.snapshotDue (volts.map BitVec.toNat)).done

/-- SNAPSHOT_WRITTEN (R398). -/
def execSnapshotWritten (s : State) : Host.Outcome State Fault Refusal :=
  .next (s.snapshotWritten).done

/-- SNAP_NOW (R401). -/
def execSnapNow (pp : PPort) (s : State) : Host.Outcome State Fault Refusal :=
  .next (s.cmdSnapNow pp).done

end Sys2Proof.Machine
end

