-- ==== Sys2Proof/Machine/ExecIcu.lean ====
section
/-!
DEFINITION. The commands of the interrupt controller (R342-R367).
-/
set_option Elab.async false

namespace Sys2Proof.Machine

/-- DELIVERY_DECISION (R349). -/
def execDeliveryDecision (k : Tgt) (fast : Bool) (s : State) : Host.Outcome State Fault Refusal :=
  .next (s.deliver k fast).done

/-- MSI_X_SEND (R41, R350). -/
def execMsiXSend (pp : PPort) (vector : Fin 9) (s : State) : Host.Outcome State Fault Refusal :=
  .next (s.msixSend pp vector).done

/-- T_CLAIM (R354). -/
def execTClaim (pp : PPort) (k : Tgt) (s : State) : Host.Outcome State Fault Refusal :=
  .next (s.claimRead pp k false).done

/-- F_CLAIM (R354). -/
def execFClaim (pp : PPort) (k : Tgt) (s : State) : Host.Outcome State Fault Refusal :=
  .next (s.claimRead pp k true).done

/-- T_COMPLETE (R351). -/
def execTComplete (pp : PPort) (k : Tgt) (val : Word) (s : State) : Host.Outcome State Fault Refusal :=
  .next (s.complete pp k false (bits val.toNat 0 12)).done

/-- F_COMPLETE (R351). -/
def execFComplete (pp : PPort) (k : Tgt) (val : Word) (s : State) : Host.Outcome State Fault Refusal :=
  .next (s.complete pp k true (bits val.toNat 0 12)).done

/-- T_EOI (R352). -/
def execTEoi (pp : PPort) (k : Tgt) (s : State) : Host.Outcome State Fault Refusal :=
  .next (s.eoi pp k).done

/-- T_MASK (R347). -/
def execTMask (pp : PPort) (k : Tgt) (val : Word) (s : State) : Host.Outcome State Fault Refusal :=
  .next (s.maskWrite pp k (bits val.toNat 0 12) (val.toNat.testBit 31)).done

/-- T_CFG_WRITE (R353). -/
def execTCfgWrite (pp : PPort) (k : Tgt) (val : Word) (s : State) : Host.Outcome State Fault Refusal :=
  .next (s.tCfgWrite pp k val.toNat).done

/-- ICU_SRC_CFG_WRITE (R345). -/
def execIcuSrcCfgWrite (pp : PPort) (val : Word) (s : State) : Host.Outcome State Fault Refusal :=
  .next (s.srcCfgWrite pp val.toNat).done

/-- T_RING_CFG_WRITE (R360). -/
def execTRingCfgWrite (pp : PPort) (k : Tgt) (val : Word) (s : State) : Host.Outcome State Fault Refusal :=
  .next (s.ringCfgWrite pp k val.toNat).done

/-- T_RING_GET_WRITE (R361). -/
def execTRingGetWrite (pp : PPort) (k : Tgt) (val : Word) (s : State) : Host.Outcome State Fault Refusal :=
  .next (s.ringGetWrite pp k val.toNat).done

/-- T_MAIL_OUT (R362). -/
def execTMailOut (pp : PPort) (k : Tgt) (val : Word) (s : State) : Host.Outcome State Fault Refusal :=
  .next (s.mailOut pp k val.toNat).done

/-- T_MAIL_IN_READ (R362). -/
def execTMailInRead (pp : PPort) (k : Tgt) (s : State) : Host.Outcome State Fault Refusal :=
  .next (s.mailRead pp k).done

/-- TIMER_EXPIRY (R363). -/
def execTimerExpiry (k : Tgt) (s : State) : Host.Outcome State Fault Refusal :=
  .next (s.timerExpires k).done

/-- T_SELF_FIRE (R363). -/
def execTSelfFire (pp : PPort) (k : Tgt) (s : State) : Host.Outcome State Fault Refusal :=
  .next (s.selfFire pp k 1).done

/-- HOLD_OFF_EXPIRY (R356). -/
def execHoldOffExpiry (g : Group) (s : State) : Host.Outcome State Fault Refusal :=
  .next (s.holdOffEnds g).done

/-- COALESCING_DELAY_EXPIRY (R357). -/
def execCoalescingDelayExpiry (src : Fin 4352) (s : State) : Host.Outcome State Fault Refusal :=
  .next (s.delayEnds src).done

end Sys2Proof.Machine
end

