-- ==== Sys2Proof/Machine/ExecLink.lean ====
section
/-!
DEFINITION. The commands of the partner links, of BAR0 and BAR2, and of the DEV page (R8, R31-R68).
-/
set_option Elab.async false

namespace Sys2Proof.Machine

/-- FUNCTION_LEVEL_RESET (R44). -/
def execFunctionLevelReset (pp : PPort) (s : State) : Host.Outcome State Fault Refusal :=
  .next (s.flr pp).done

/-- HOT_RESET (R44). -/
def execHotReset (pp : PPort) (s : State) : Host.Outcome State Fault Refusal :=
  .next (s.flr pp).done

/-- LINK_DOWN (R44). -/
def execLinkDown (pp : PPort) (s : State) : Host.Outcome State Fault Refusal :=
  .next (s.linkLost pp).done

/-- LINK_UP (R64, R67). -/
def execLinkUp (pp : PPort) (speed : Fin 7) (flit : Bool) (width : Fin 4)
    (s : State) : Host.Outcome State Fault Refusal :=
  .next (s.linkReaches pp speed flit width).done

/-- CONFIGURATION_WRITE (R31, R42). -/
def execConfigurationWrite (pp : PPort) (w : CfgWrite) (s : State) : Host.Outcome State Fault Refusal :=
  .next (s.configWrite pp w).done

/-- REGISTER_WRITE (R8, R37). -/
def execRegisterWrite (pp : PPort) (off : BitVec 22) (wide : Bool) (val : BitVec 64)
    (s : State) : Host.Outcome State Fault Refusal :=
  .next (s.regWrite pp off.toNat wide val.toNat).done

/-- RC_READ (R8, R37). -/
def execRcRead (pp : PPort) (off : BitVec 22) (wide : Bool) (s : State) : Host.Outcome State Fault Refusal :=
  .next (s.regRead pp off.toNat wide).done

/-- DEV_FENCE_SYNC_READ (R55). -/
def execDevFenceSyncRead (pp : PPort) (s : State) : Host.Outcome State Fault Refusal :=
  .next (s.syncRead pp).done

/-- PAGE_FENCE_WRITE (R54). -/
def execPageFenceWrite (pp : PPort) (page : Fin 640) (val : Word) (s : State) : Host.Outcome State Fault Refusal :=
  .next (s.fenceWrite pp page val.toNat).done

/-- POISONED_WRITE (R43). -/
def execPoisonedWrite (pp : PPort) (s : State) : Host.Outcome State Fault Refusal :=
  .next (s.poisoned pp).done

/-- UNSUPPORTED_REQUEST (R43). -/
def execUnsupportedRequest (pp : PPort) (read : Bool) (addr : BitVec 64)
    (s : State) : Host.Outcome State Fault Refusal :=
  .next (s.unsupported pp read addr.toNat).done

/-- BAR2_STORE_WRITE (R40). -/
def execBar2StoreWrite (pp : PPort) (off : BitVec 27) (bytes : List (Option Byte))
    (s : State) : Host.Outcome State Fault Refusal :=
  .next (s.storeWrite pp off.toNat bytes).done

/-- BAR2_TABLE_WRITE (R39, R40). -/
def execBar2TableWrite (pp : PPort) (off : BitVec 27) (words : List Word)
    (s : State) : Host.Outcome State Fault Refusal :=
  .next (s.tableWrite pp off.toNat (words.map BitVec.toNat)).done

/-- BAR2_READ (R40, R43). -/
def execBar2Read (pp : PPort) (off : BitVec 27) (len : Nat) (finds : List (Nat × Find))
    (s : State) : Host.Outcome State Fault Refusal :=
  .next (s.bar2Read pp off.toNat len finds).done

/-- ERROR_COMPLETION (R43). -/
def execErrorCompletion (r : DevRead) (e : CplErr) (s : State) : Host.Outcome State Fault Refusal :=
  .next (s.deviceReadFails r (CplErr.cause e)).done

/-- COMPLETION_TIMEOUT (R43). -/
def execCompletionTimeout (r : DevRead) (s : State) : Host.Outcome State Fault Refusal :=
  .next (s.deviceReadFails r 4).done

/-- SET_MODE (R24, R62). -/
def execSetMode (pp : PPort) (s : State) : Host.Outcome State Fault Refusal :=
  .next (s.cmdSetMode pp).done

/-- SET_OWNER (R52, R62). -/
def execSetOwner (pp : PPort) (s : State) : Host.Outcome State Fault Refusal :=
  .next (s.cmdSetOwner pp).done

end Sys2Proof.Machine
end

