-- ==== Sys2Proof/Machine/ExecMoon.lean ====
section
/-!
DEFINITION. The commands of the Moon domain (R418-R424).
-/
set_option Elab.async false

namespace Sys2Proof.Machine

/-- MOON_WAKE_CONDITION (R423). -/
def execMoonWakeCondition (n : Port) (w : WakeSeen) (s : State) : Host.Outcome State Fault Refusal :=
  .next (s.moonSees n w).done

/-- WAKE_TIMER_EXPIRY (R420). -/
def execWakeTimerExpiry (s : State) : Host.Outcome State Fault Refusal :=
  .next (s.timerWake).done

/-- WAKE_LIMIT (R67, R423). -/
def execWakeLimit (pp : PPort) (s : State) : Host.Outcome State Fault Refusal :=
  .next (s.wakeLimit pp).done

end Sys2Proof.Machine
end

