-- ==== Sys2Proof/Machine/ExecMover.lean ====
section
/-!
DEFINITION. The commands of the slice mover (R234, R279-R304).
-/
set_option Elab.async false

namespace Sys2Proof.Machine

/-- PUSH_DONE (R234). -/
def execPushDone (m : Chan) (s : State) : Host.Outcome State Fault Refusal :=
  .next (s.pushDone m).done

/-- BURST_ISSUE (R287). -/
def execBurstIssue (m : Chan) (finds : List (Nat × Find)) (s : State) : Host.Outcome State Fault Refusal :=
  .next (s.burstIssue m finds).done

/-- READ_COMPLETION (R287). -/
def execReadCompletion (m : Chan) (burst : Nat) (data : List Byte) (ns : Nat)
    (s : State) : Host.Outcome State Fault Refusal :=
  .next (s.readDone m burst data ns).done

/-- XFER_DONE (R296). -/
def execXferDone (m : Chan) (s : State) : Host.Outcome State Fault Refusal :=
  .next (s.xferDone m).done

/-- ENABLE (R302). -/
def execEnable (pp : PPort) (m : Chan) (s : State) : Host.Outcome State Fault Refusal :=
  .next (s.cmdEnable pp m).done

/-- DISABLE (R302). -/
def execDisable (pp : PPort) (m : Chan) (s : State) : Host.Outcome State Fault Refusal :=
  .next (s.cmdDisable pp m).done

/-- RESUME (R294). -/
def execResume (pp : PPort) (m : Chan) (s : State) : Host.Outcome State Fault Refusal :=
  .next (s.cmdResume pp m).done

/-- SET_DESC (R302). -/
def execSetDesc (pp : PPort) (m : Chan) (s : State) : Host.Outcome State Fault Refusal :=
  .next (s.cmdSetDesc pp m).done

/-- ABORT (R295). -/
def execAbort (pp : PPort) (m : Chan) (s : State) : Host.Outcome State Fault Refusal :=
  .next (s.cmdAbort pp m).done

/-- XFER (R296). -/
def execXfer (pp : PPort) (m : Chan) (s : State) : Host.Outcome State Fault Refusal :=
  .next (s.cmdXfer pp m).done

/-- MOV_CREDIT_ADD (R286). -/
def execMovCreditAdd (pp : PPort) (m : Chan) (val : Word) (s : State) : Host.Outcome State Fault Refusal :=
  .next (s.creditWrite pp m val.toNat).done

end Sys2Proof.Machine
end

