-- ==== Sys2Proof/Machine/ExecPhy.lean ====
section
/-!
DEFINITION. The commands of the transceivers (R194-R207).
-/
set_option Elab.async false

namespace Sys2Proof.Machine

/-- SET_RUNG (R199). -/
def execSetRung (pp : PPort) (n : Port) (s : State) : Host.Outcome State Fault Refusal :=
  .next (s.cmdSetRung pp n).done

/-- CALIBRATE (R206). -/
def execCalibrate (pp : PPort) (n : Port) (s : State) : Host.Outcome State Fault Refusal :=
  .next (s.cmdCalibrate pp n).done

/-- EYE_SCAN (R202). -/
def execEyeScan (pp : PPort) (n : Port) (s : State) : Host.Outcome State Fault Refusal :=
  .next (s.cmdEyeScan pp n).done

/-- EYE_SCAN_DONE (R203). -/
def execEyeScanDone (n : Port) (counts : List Byte) (s : State) : Host.Outcome State Fault Refusal :=
  .next (s.eyeDone n counts).done

/-- EYE_SCAN_TIMEOUT (R202). -/
def execEyeScanTimeout (n : Port) (counts : List Byte) (s : State) : Host.Outcome State Fault Refusal :=
  .next (s.eyeLate n counts).done

/-- LT_CLEAR (R206). -/
def execLtClear (pp : PPort) (n : Port) (s : State) : Host.Outcome State Fault Refusal :=
  .next (s.cmdLtClear pp n).done

/-- POWER_UP_CALIBRATION_DONE (R200, R201). -/
def execPowerUpCalibrationDone (n : Port) (ok : Bool) (trim : Fin 128) (s : State) : Host.Outcome State Fault Refusal :=
  .next (s.calibrated n ok trim).done

/-- TERMINATION_TRIM (R200). -/
def execTerminationTrim (n : Port) (up ok : Bool) (s : State) : Host.Outcome State Fault Refusal :=
  .next (s.trimStep n up ok).done

/-- DBAND_TX_CALIBRATION (R200). -/
def execDbandTxCalibration (n : Port) (ok : Bool) (s : State) : Host.Outcome State Fault Refusal :=
  .next (s.calStep n ok).done

/-- SAMPLER_CALIBRATION (R200). -/
def execSamplerCalibration (n : Port) (ok : Bool) (s : State) : Host.Outcome State Fault Refusal :=
  .next (s.calStep n ok).done

/-- TRAINING_WINDOW_END (R197). -/
def execTrainingWindowEnd (n : Port) (s : State) : Host.Outcome State Fault Refusal :=
  .next (s.windowTimeout n).done

/-- HELD_RUNG_START (R330). -/
def execHeldRungStart (n : Port) (s : State) : Host.Outcome State Fault Refusal :=
  .next (s.heldRungStart n).done

end Sys2Proof.Machine
end

