-- ==== Sys2Proof/Machine/ExecPower.lean ====
section
/-!
DEFINITION. The commands of supplies, resets, clocks and the start of the device (R402-R416, R427, R428, R433, R442-R445, R515).
-/
set_option Elab.async false

namespace Sys2Proof.Machine

/-- POWER_ON_RESET (R405). -/
def execPowerOnReset (s : State) : Host.Outcome State Fault Refusal :=
  .next (s.powerUp).done

/-- VDDAON_DROP (R404). -/
def execVddaonDrop (s : State) : Host.Outcome State Fault Refusal :=
  .next (s.vddaonDrop).done

/-- SUPPLY_DROP (R404). -/
def execSupplyDrop (i : Fin 6) (s : State) : Host.Outcome State Fault Refusal :=
  .next (s.supplyDrop i).done

/-- SUPPLY_OUT_OF_RANGE (R404, R427). -/
def execSupplyOutOfRange (i : Fin 6) (s : State) : Host.Outcome State Fault Refusal :=
  .next (s.supplyOut i).done

/-- SUPPLY_RETURN (R427, R428). -/
def execSupplyReturn (i : Fin 6) (s : State) : Host.Outcome State Fault Refusal :=
  .next (s.supplyReturn i).done

/-- RESET_N_ASSERT (R405, R406). -/
def execResetNAssert (s : State) : Host.Outcome State Fault Refusal :=
  .next (s.resetPin).done

/-- PERST_ASSERT (R405). -/
def execPerstAssert (pp : PPort) (s : State) : Host.Outcome State Fault Refusal :=
  .next (s.perstLow pp).done

/-- PERST_RISE_IN_DORMANT (R421). -/
def execPerstRiseInDormant (s : State) : Host.Outcome State Fault Refusal :=
  .next (s.perstRise).done

/-- RESET_RELEASE (R407-R410, R421). -/
def execResetRelease (straps : BitVec 6) (present : BitVec 4) (s : State) : Host.Outcome State Fault Refusal :=
  .next (s.release straps.toNat present.toNat).done

/-- CODE_VERIFY_DONE (R433). -/
def execCodeVerifyDone (sigOk partsOk : Bool) (s : State) : Host.Outcome State Fault Refusal :=
  .next (s.codeVerified sigOk partsOk).done

/-- TRIAL_CONFIRM (R445). -/
def execTrialConfirm (s : State) : Host.Outcome State Fault Refusal :=
  .next (s.byCores State.trialConfirm).done

/-- CONFIRM_TIMEOUT (R445). -/
def execConfirmTimeout (s : State) : Host.Outcome State Fault Refusal :=
  .next (s.confirmTimeout).done

/-- ACTIVATION_CHUNK_DONE (R442, R443). -/
def execActivationChunkDone (s : State) : Host.Outcome State Fault Refusal :=
  .next (s.byCores State.chunkDone).done

/-- SET_REF (R428). -/
def execSetRef (pp : PPort) (s : State) : Host.Outcome State Fault Refusal :=
  .next (s.cmdSetRef pp).done

/-- DEV_RESET (R428). -/
def execDevReset (pp : PPort) (s : State) : Host.Outcome State Fault Refusal :=
  .next (s.cmdDevReset pp).done

/-- REFERENCE_LOSS (R412). -/
def execReferenceLoss (s : State) : Host.Outcome State Fault Refusal :=
  .next (s.referenceLoss).done

/-- HOLDOVER_EXPIRY (R412). -/
def execHoldoverExpiry (s : State) : Host.Outcome State Fault Refusal :=
  .next (s.holdoverEnds).done

/-- REFERENCE_RETURN (R412). -/
def execReferenceReturn (i : Fin 4) (s : State) : Host.Outcome State Fault Refusal :=
  .next (s.referenceReturn i).done

/-- PLL_LOCK_LOSS (R413). -/
def execPllLockLoss (cluster : Option Cl) (s : State) : Host.Outcome State Fault Refusal :=
  .next (s.lockLoss (cluster.map Fin.val)).done

/-- CORE_PLL_RELOCK (R412, R428). -/
def execCorePllRelock (locked : Bool) (s : State) : Host.Outcome State Fault Refusal :=
  .next (s.relocked locked).done

/-- CLUSTER_PLL_LOCK (R200). -/
def execClusterPllLock (c : Cl) (s : State) : Host.Outcome State Fault Refusal :=
  .next (s.clusterLocks c).done

/-- MOON_RETRIM (R414). -/
def execMoonRetrim (dev : BitVec 16) (s : State) : Host.Outcome State Fault Refusal :=
  .next (s.moonRetrim dev.toNat).done

/-- THERMAL_SAMPLE (R425-R427, R515). -/
def execThermalSample (tj : Byte) (mw : BitVec 16) (s : State) : Host.Outcome State Fault Refusal :=
  .next (s.thermal tj.toNat mw.toNat).done

end Sys2Proof.Machine
end

