-- ==== Sys2Proof/Machine/ExecRaster.lean ====
section
/-!
DEFINITION. The commands of raster time and of the ephemeris (R305-R341).
-/
set_option Elab.async false

namespace Sys2Proof.Machine

/-- LINE_EDGE (R311-R313). -/
def execLineEdge (e : Nat) (s : State) : Host.Outcome State Fault Refusal :=
  .next (s.rasterEdge e false).done

/-- FRAME_PULSE (R311-R315). -/
def execFramePulse (e : Nat) (s : State) : Host.Outcome State Fault Refusal :=
  .next (s.rasterEdge e true).done

/-- MISSING_LINE_EDGE (R312). -/
def execMissingLineEdge (s : State) : Host.Outcome State Fault Refusal :=
  .next (s.missingEdge).done

/-- LINE_END (R309). -/
def execLineEnd (s : State) : Host.Outcome State Fault Refusal :=
  .next (s.lineEnd).done

/-- RT_MARK_LINE_WRITE (R317). -/
def execRtMarkLineWrite (pp : PPort) (val : Word) (e : Nat) (s : State) : Host.Outcome State Fault Refusal :=
  .next (s.markWrite pp val.toNat e).done

/-- RT_CFG_WRITE (R307). -/
def execRtCfgWrite (pp : PPort) (val : Word) (s : State) : Host.Outcome State Fault Refusal :=
  .next (s.rtCfgWrite pp val.toNat).done

/-- SET_FRAME (R318). -/
def execSetFrame (pp : PPort) (s : State) : Host.Outcome State Fault Refusal :=
  .next (s.cmdSetFrame pp).done

/-- ENTRY_FIRE (R325). -/
def execEntryFire (c : Cl) (i : Fin 1024) (e : Nat) (find : Option Find) (begun : List Port)
    (s : State) : Host.Outcome State Fault Refusal :=
  .next (s.entryFire c i e find (begun.map Fin.val)).done

/-- ARM (R340). -/
def execArm (pp : PPort) (c : Cl) (s : State) : Host.Outcome State Fault Refusal :=
  .next (s.cmdArm pp c).done

/-- DISARM (R340). -/
def execDisarm (pp : PPort) (c : Cl) (s : State) : Host.Outcome State Fault Refusal :=
  .next (s.cmdDisarm pp c).done

end Sys2Proof.Machine
end

