-- ==== Sys2Proof/Machine/ExecRx.lean ====
section
/-!
DEFINITION. The commands of the receive path (R226-R230, R245).
-/
set_option Elab.async false

namespace Sys2Proof.Machine

/-- RXF_RESET (R230). -/
def execRxfReset (pp : PPort) (c : Cl) (s : State) : Host.Outcome State Fault Refusal :=
  .next (s.cmdRxfReset pp c).done

/-- RX_RELEASE (R245). -/
def execRxRelease (pp : PPort) (c : Cl) (s : State) : Host.Outcome State Fault Refusal :=
  .next (s.cmdRxRelease pp c).done

/-- RXF_GET_WRITE (R228). -/
def execRxfGetWrite (pp : PPort) (c : Cl) (f : Fin 64) (val : Word) (s : State) : Host.Outcome State Fault Refusal :=
  .next (s.rxfGet pp c f val.toNat).done

/-- RXF_CFG_WRITE (R227). -/
def execRxfCfgWrite (pp : PPort) (c : Cl) (f : Fin 64) (val : Word) (s : State) : Host.Outcome State Fault Refusal :=
  .next (s.rxfCfgWrite pp c f val.toNat).done

/-- CL_RXPOOL_WRITE (R226). -/
def execClRxpoolWrite (pp : PPort) (c : Cl) (val : Word) (s : State) : Host.Outcome State Fault Refusal :=
  .next (s.rxPoolWrite pp c val.toNat).done

/-- CL_BUFAREA_WRITE (R226). -/
def execClBufareaWrite (pp : PPort) (c : Cl) (val : Word) (s : State) : Host.Outcome State Fault Refusal :=
  .next (s.bufAreaWrite pp c val.toNat).done

end Sys2Proof.Machine
end

