-- ==== Sys2Proof/Machine/ExecTap.lean ====
section
/-!
DEFINITION. The commands of the test access port (R509-R514).
-/
set_option Elab.async false

namespace Sys2Proof.Machine

/-- TAP_RESET (R509). -/
def execTapReset (s : State) : Host.Outcome State Fault Refusal :=
  .next (s.tapReset).done

/-- EXTEST (R510, R514). -/
def execExtest (s : State) : Host.Outcome State Fault Refusal :=
  .next (s.tapExtest).done

/-- SAMPLE_PRELOAD (R510). -/
def execSamplePreload (pins : BitVec 35) (s : State) : Host.Outcome State Fault Refusal :=
  .next (s.tapSample pins.toNat).done

/-- IDCODE (R511). -/
def execIdcode (s : State) : Host.Outcome State Fault Refusal :=
  .next (s.tapIdcode).done

/-- CLAMP (R510, R514). -/
def execClamp (s : State) : Host.Outcome State Fault Refusal :=
  .next (s.tapClamp).done

/-- HIGHZ (R510, R514). -/
def execHighz (s : State) : Host.Outcome State Fault Refusal :=
  .next (s.tapHighz).done

/-- BYPASS (R510). -/
def execBypass (s : State) : Host.Outcome State Fault Refusal :=
  .next (s.tapBypass).done

/-- CHAL (R512). -/
def execChal (s : State) : Host.Outcome State Fault Refusal :=
  .next (s.tapChal).done

/-- TOKEN (R512). -/
def execToken (bits : List Word) (sigOk : Bool) (s : State) : Host.Outcome State Fault Refusal :=
  .next (s.tapToken (bits.map BitVec.toNat) sigOk).done

/-- DBG_PAGE (R510). -/
def execDbgPage (write : Bool) (off : BitVec 22) (val : Word) (s : State) : Host.Outcome State Fault Refusal :=
  .next (s.tapDbgPage write off.toNat val.toNat).done

/-- DBG_CORE (R510). -/
def execDbgCore (s : State) : Host.Outcome State Fault Refusal :=
  .next (s.tapDbgCore).done

end Sys2Proof.Machine
end

