-- ==== Sys2Proof/Machine/ExecTx.lean ====
section
/-!
DEFINITION. The commands of the transmit path (R248-R278).
-/
set_option Elab.async false

namespace Sys2Proof.Machine

/-- PORT_TX_DB (R251). -/
def execPortTxDb (pp : PPort) (n : Port) (val : Word) (finds : List (Nat × Find))
    (s : State) : Host.Outcome State Fault Refusal :=
  .next (s.txDoorbell pp n val.toNat finds).done

/-- TX_CANCEL (R266). -/
def execTxCancel (pp : PPort) (n : Port) (s : State) : Host.Outcome State Fault Refusal :=
  .next (s.cmdTxCancel pp n).done

/-- TX_FLUSH (R268). -/
def execTxFlush (pp : PPort) (n : Port) (s : State) : Host.Outcome State Fault Refusal :=
  .next (s.cmdTxFlush pp n).done

/-- CANCEL_SETTLED (R266). -/
def execCancelSettled (n : Port) (s : State) : Host.Outcome State Fault Refusal :=
  .next (s.settleCancel n).done

/-- CL_TXSOFT_WRITE (R275). -/
def execClTxsoftWrite (pp : PPort) (c : Cl) (val : Word) (s : State) : Host.Outcome State Fault Refusal :=
  .next (s.txSoftWrite pp c val.toNat).done

/-- TX_QUERY (R276). -/
def execTxQuery (pp : PPort) (c : Cl) (s : State) : Host.Outcome State Fault Refusal :=
  .next (s.cmdTxQuery pp c).done

/-- FETCH_BLOCK_RESERVE (R257). -/
def execFetchBlockReserve (m : Chan) (s : State) : Host.Outcome State Fault Refusal :=
  .next (s.fetchReserve m).done

/-- TAIL_RESIDENT (R257). -/
def execTailResident (m : Chan) (s : State) : Host.Outcome State Fault Refusal :=
  .next (s.tailResident m).done

/-- COMPLETION_RECORD_WRITE (R274). -/
def execCompletionRecordWrite (k : Tgt) (s : State) : Host.Outcome State Fault Refusal :=
  .next (s.writeRec k).done

end Sys2Proof.Machine
end

