-- ==== Sys2Proof/Machine/ExecUpdate.lean ====
section
/-!
DEFINITION. The commands of update, settings and security (R431-R466).
-/
set_option Elab.async false

namespace Sys2Proof.Machine

/-- SETTINGS_LOAD_DONE (R451-R453). -/
def execSettingsLoadDone (s : State) : Host.Outcome State Fault Refusal :=
  .next (s.byCores State.settingsLoad).done

/-- MRAM_REFRESH_CHECK (R434). -/
def execMramRefreshCheck (addr : BitVec 24) (find : Option Find) (s : State) : Host.Outcome State Fault Refusal :=
  .next (s.mramCheck addr.toNat find).done

/-- BEGIN (R436). -/
def execBegin (pp : PPort) (s : State) : Host.Outcome State Fault Refusal :=
  .next (s.cmdBegin pp).done

/-- PIECE (R437). -/
def execPiece (pp : PPort) (s : State) : Host.Outcome State Fault Refusal :=
  .next (s.cmdPiece pp).done

/-- PIECE_DONE (R437, R438). -/
def execPieceDone (data : List Byte) (digestOk : Bool) (s : State) : Host.Outcome State Fault Refusal :=
  .next (s.byCores (·.pieceDone data digestOk)).done

/-- VERIFY (R440). -/
def execVerify (pp : PPort) (s : State) : Host.Outcome State Fault Refusal :=
  .next (s.cmdVerify pp).done

/-- VERIFY_DONE (R440). -/
def execVerifyDone (sigOk partsOk : Bool) (s : State) : Host.Outcome State Fault Refusal :=
  .next (s.byCores (·.verifyDone sigOk partsOk)).done

/-- ACTIVATE (R442). -/
def execActivate (pp : PPort) (s : State) : Host.Outcome State Fault Refusal :=
  .next (s.cmdActivate pp).done

/-- REVERIFY_DONE (R442). -/
def execReverifyDone (ok : Bool) (s : State) : Host.Outcome State Fault Refusal :=
  .next (s.byCores (·.reverified ok)).done

/-- DISCARD (R463). -/
def execDiscard (pp : PPort) (s : State) : Host.Outcome State Fault Refusal :=
  .next (s.cmdDiscard pp).done

/-- SET_SAVE (R450). -/
def execSetSave (pp : PPort) (s : State) : Host.Outcome State Fault Refusal :=
  .next (s.cmdSetSave pp).done

/-- SET_SAVE_DONE (R447, R450). -/
def execSetSaveDone (s : State) : Host.Outcome State Fault Refusal :=
  .next (s.byCores State.saveDone).done

/-- SET_LOAD (R450, R463). -/
def execSetLoad (pp : PPort) (s : State) : Host.Outcome State Fault Refusal :=
  .next (s.cmdSetLoad pp).done

/-- SET_ERASE (R450). -/
def execSetErase (pp : PPort) (s : State) : Host.Outcome State Fault Refusal :=
  .next (s.cmdSetErase pp).done

/-- ATTEST (R456). -/
def execAttest (pp : PPort) (s : State) : Host.Outcome State Fault Refusal :=
  .next (s.cmdAttest pp).done

/-- UNLOCK (R460). -/
def execUnlock (pp : PPort) (sigOk : Bool) (s : State) : Host.Outcome State Fault Refusal :=
  .next (s.cmdUnlock pp sigOk).done

/-- UNLOCK_DONE (R460). -/
def execUnlockDone (s : State) : Host.Outcome State Fault Refusal :=
  .next (s.byCores State.unlockDone).done

end Sys2Proof.Machine
end

