-- ==== Sys2Proof/Machine/Dispatch.lean ====
section
/-!
DEFINITION. The effect of a command: one arm per constructor of `Instr`, in the order of the opcode table.
-/
namespace Sys2Proof.Machine

def exec (i : Instr) (s : State) : Host.Outcome State Fault Refusal :=
  match i with
  | .powerOnReset => Sys2Proof.Machine.execPowerOnReset s
  | .supplyDrop j => Sys2Proof.Machine.execSupplyDrop j s
  | .supplyOutOfRange j => Sys2Proof.Machine.execSupplyOutOfRange j s
  | .resetNAssert => Sys2Proof.Machine.execResetNAssert s
  | .perstAssert pp => Sys2Proof.Machine.execPerstAssert pp s
  | .perstRiseInDormant => Sys2Proof.Machine.execPerstRiseInDormant s
  | .resetRelease straps present => Sys2Proof.Machine.execResetRelease straps present s
  | .codeVerifyDone sigOk partsOk => Sys2Proof.Machine.execCodeVerifyDone sigOk partsOk s
  | .settingsLoadDone => Sys2Proof.Machine.execSettingsLoadDone s
  | .trialConfirm => Sys2Proof.Machine.execTrialConfirm s
  | .confirmTimeout => Sys2Proof.Machine.execConfirmTimeout s
  | .activationChunkDone => Sys2Proof.Machine.execActivationChunkDone s
  | .functionLevelReset pp => Sys2Proof.Machine.execFunctionLevelReset pp s
  | .hotReset pp => Sys2Proof.Machine.execHotReset pp s
  | .linkDown pp => Sys2Proof.Machine.execLinkDown pp s
  | .linkUp pp speed flit width => Sys2Proof.Machine.execLinkUp pp speed flit width s
  | .registerWrite pp off wide val => Sys2Proof.Machine.execRegisterWrite pp off wide val s
  | .rcRead pp off wide => Sys2Proof.Machine.execRcRead pp off wide s
  | .devFenceSyncRead pp => Sys2Proof.Machine.execDevFenceSyncRead pp s
  | .pageFenceWrite pp page val => Sys2Proof.Machine.execPageFenceWrite pp page val s
  | .poisonedWrite pp => Sys2Proof.Machine.execPoisonedWrite pp s
  | .unsupportedRequest pp read addr => Sys2Proof.Machine.execUnsupportedRequest pp read addr s
  | .bar2StoreWrite pp off bytes => Sys2Proof.Machine.execBar2StoreWrite pp off bytes s
  | .bar2TableWrite pp off words => Sys2Proof.Machine.execBar2TableWrite pp off words s
  | .bar2Read pp off len finds => Sys2Proof.Machine.execBar2Read pp off len finds s
  | .errorCompletion r e => Sys2Proof.Machine.execErrorCompletion r e s
  | .completionTimeout r => Sys2Proof.Machine.execCompletionTimeout r s
  | .setMode pp => Sys2Proof.Machine.execSetMode pp s
  | .setOwner pp => Sys2Proof.Machine.execSetOwner pp s
  | .setRef pp => Sys2Proof.Machine.execSetRef pp s
  | .devReset pp => Sys2Proof.Machine.execDevReset pp s
  | .referenceLoss => Sys2Proof.Machine.execReferenceLoss s
  | .holdoverExpiry => Sys2Proof.Machine.execHoldoverExpiry s
  | .referenceReturn j => Sys2Proof.Machine.execReferenceReturn j s
  | .pllLockLoss cluster => Sys2Proof.Machine.execPllLockLoss cluster s
  | .moonRetrim dev => Sys2Proof.Machine.execMoonRetrim dev s
  | .thermalSample tj mw => Sys2Proof.Machine.execThermalSample tj mw s
  | .moonWakeCondition n w => Sys2Proof.Machine.execMoonWakeCondition n w s
  | .wakeTimerExpiry => Sys2Proof.Machine.execWakeTimerExpiry s
  | .wakeLimit pp => Sys2Proof.Machine.execWakeLimit pp s
  | .candidateFix n nextUp => Sys2Proof.Machine.execCandidateFix n nextUp s
  | .arbitrationEnd n won lostInSnd back e => Sys2Proof.Machine.execArbitrationEnd n won lostInSnd back e s
  | .headReceived n head nextUp back e pulse hit => Sys2Proof.Machine.execHeadReceived n head nextUp back e pulse hit s
  | .tailEnd n payload tcrc intact coef => Sys2Proof.Machine.execTailEnd n payload tcrc intact coef s
  | .frameCommit n data => Sys2Proof.Machine.execFrameCommit n data s
  | .busError n e inNextUp first runs overloads dominant => Sys2Proof.Machine.execBusError n e inNextUp first runs overloads dominant s
  | .frameEnd n => Sys2Proof.Machine.execFrameEnd n s
  | .integrationDone n => Sys2Proof.Machine.execIntegrationDone n s
  | .busOffRecoveryDone n => Sys2Proof.Machine.execBusOffRecoveryDone n s
  | .stuckDominant n => Sys2Proof.Machine.execStuckDominant n s
  | .listenTimeout n => Sys2Proof.Machine.execListenTimeout n s
  | .portWakeCondition n w => Sys2Proof.Machine.execPortWakeCondition n w s
  | .surge n => Sys2Proof.Machine.execSurge n s
  | .cmRange n => Sys2Proof.Machine.execCmRange n s
  | .setPmode pp n => Sys2Proof.Machine.execSetPmode pp n s
  | .recover pp n => Sys2Proof.Machine.execRecover pp n s
  | .portDrainDone n => Sys2Proof.Machine.execPortDrainDone n s
  | .forcedStop n => Sys2Proof.Machine.execForcedStop n s
  | .fltCommit pp n => Sys2Proof.Machine.execFltCommit pp n s
  | .portTxDb pp n val finds => Sys2Proof.Machine.execPortTxDb pp n val finds s
  | .txCancel pp n => Sys2Proof.Machine.execTxCancel pp n s
  | .txFlush pp n => Sys2Proof.Machine.execTxFlush pp n s
  | .cancelSettled n => Sys2Proof.Machine.execCancelSettled n s
  | .setRung pp n => Sys2Proof.Machine.execSetRung pp n s
  | .calibrate pp n => Sys2Proof.Machine.execCalibrate pp n s
  | .eyeScan pp n => Sys2Proof.Machine.execEyeScan pp n s
  | .eyeScanDone n counts => Sys2Proof.Machine.execEyeScanDone n counts s
  | .eyeScanTimeout n counts => Sys2Proof.Machine.execEyeScanTimeout n counts s
  | .ltClear pp n => Sys2Proof.Machine.execLtClear pp n s
  | .powerUpCalibrationDone n ok trim => Sys2Proof.Machine.execPowerUpCalibrationDone n ok trim s
  | .terminationTrim n up ok => Sys2Proof.Machine.execTerminationTrim n up ok s
  | .dbandTxCalibration n ok => Sys2Proof.Machine.execDbandTxCalibration n ok s
  | .samplerCalibration n ok => Sys2Proof.Machine.execSamplerCalibration n ok s
  | .clusterPllLock c => Sys2Proof.Machine.execClusterPllLock c s
  | .trainingWindowEnd n => Sys2Proof.Machine.execTrainingWindowEnd n s
  | .rxfReset pp c => Sys2Proof.Machine.execRxfReset pp c s
  | .rxRelease pp c => Sys2Proof.Machine.execRxRelease pp c s
  | .rxfGetWrite pp c f val => Sys2Proof.Machine.execRxfGetWrite pp c f val s
  | .rxfCfgWrite pp c f val => Sys2Proof.Machine.execRxfCfgWrite pp c f val s
  | .clRxpoolWrite pp c val => Sys2Proof.Machine.execClRxpoolWrite pp c val s
  | .clBufareaWrite pp c val => Sys2Proof.Machine.execClBufareaWrite pp c val s
  | .clTxsoftWrite pp c val => Sys2Proof.Machine.execClTxsoftWrite pp c val s
  | .txQuery pp c => Sys2Proof.Machine.execTxQuery pp c s
  | .fetchBlockReserve m => Sys2Proof.Machine.execFetchBlockReserve m s
  | .tailResident m => Sys2Proof.Machine.execTailResident m s
  | .completionRecordWrite k => Sys2Proof.Machine.execCompletionRecordWrite k s
  | .pushDone m => Sys2Proof.Machine.execPushDone m s
  | .burstIssue m finds => Sys2Proof.Machine.execBurstIssue m finds s
  | .readCompletion m burst data ns => Sys2Proof.Machine.execReadCompletion m burst data ns s
  | .xferDone m => Sys2Proof.Machine.execXferDone m s
  | .enable pp m => Sys2Proof.Machine.execEnable pp m s
  | .disable pp m => Sys2Proof.Machine.execDisable pp m s
  | .resume pp m => Sys2Proof.Machine.execResume pp m s
  | .setDesc pp m => Sys2Proof.Machine.execSetDesc pp m s
  | .abort pp m => Sys2Proof.Machine.execAbort pp m s
  | .xfer pp m => Sys2Proof.Machine.execXfer pp m s
  | .movCreditAdd pp m val => Sys2Proof.Machine.execMovCreditAdd pp m val s
  | .lineEdge e => Sys2Proof.Machine.execLineEdge e s
  | .framePulse e => Sys2Proof.Machine.execFramePulse e s
  | .missingLineEdge => Sys2Proof.Machine.execMissingLineEdge s
  | .lineEnd => Sys2Proof.Machine.execLineEnd s
  | .rtMarkLineWrite pp val e => Sys2Proof.Machine.execRtMarkLineWrite pp val e s
  | .rtCfgWrite pp val => Sys2Proof.Machine.execRtCfgWrite pp val s
  | .setFrame pp => Sys2Proof.Machine.execSetFrame pp s
  | .entryFire c j e find begun => Sys2Proof.Machine.execEntryFire c j e find begun s
  | .heldRungStart n => Sys2Proof.Machine.execHeldRungStart n s
  | .arm pp c => Sys2Proof.Machine.execArm pp c s
  | .disarm pp c => Sys2Proof.Machine.execDisarm pp c s
  | .deliveryDecision k fast => Sys2Proof.Machine.execDeliveryDecision k fast s
  | .msiXSend pp vector => Sys2Proof.Machine.execMsiXSend pp vector s
  | .tClaim pp k => Sys2Proof.Machine.execTClaim pp k s
  | .fClaim pp k => Sys2Proof.Machine.execFClaim pp k s
  | .tComplete pp k val => Sys2Proof.Machine.execTComplete pp k val s
  | .fComplete pp k val => Sys2Proof.Machine.execFComplete pp k val s
  | .tEoi pp k => Sys2Proof.Machine.execTEoi pp k s
  | .tMask pp k val => Sys2Proof.Machine.execTMask pp k val s
  | .tCfgWrite pp k val => Sys2Proof.Machine.execTCfgWrite pp k val s
  | .icuSrcCfgWrite pp val => Sys2Proof.Machine.execIcuSrcCfgWrite pp val s
  | .tRingCfgWrite pp k val => Sys2Proof.Machine.execTRingCfgWrite pp k val s
  | .tRingGetWrite pp k val => Sys2Proof.Machine.execTRingGetWrite pp k val s
  | .tMailOut pp k val => Sys2Proof.Machine.execTMailOut pp k val s
  | .tMailInRead pp k => Sys2Proof.Machine.execTMailInRead pp k s
  | .timerExpiry k => Sys2Proof.Machine.execTimerExpiry k s
  | .tSelfFire pp k => Sys2Proof.Machine.execTSelfFire pp k s
  | .holdOffExpiry g => Sys2Proof.Machine.execHoldOffExpiry g s
  | .coalescingDelayExpiry src => Sys2Proof.Machine.execCoalescingDelayExpiry src s
  | .resetDone w => Sys2Proof.Machine.execResetDone w s
  | .reactFail w => Sys2Proof.Machine.execReactFail w s
  | .levelLineTick l => Sys2Proof.Machine.execLevelLineTick l s
  | .mcWatchdog => Sys2Proof.Machine.execMcWatchdog s
  | .parityScan bad => Sys2Proof.Machine.execParityScan bad s
  | .fcoInject pp val => Sys2Proof.Machine.execFcoInject pp val s
  | .fcoStickyClear pp hi val => Sys2Proof.Machine.execFcoStickyClear pp hi val s
  | .unfence pp => Sys2Proof.Machine.execUnfence pp s
  | .unfenceDone locked => Sys2Proof.Machine.execUnfenceDone locked s
  | .defaults pp => Sys2Proof.Machine.execDefaults pp s
  | .safeExitDone => Sys2Proof.Machine.execSafeExitDone s
  | .scrubAccess addr find => Sys2Proof.Machine.execScrubAccess addr find s
  | .writeBack c => Sys2Proof.Machine.execWriteBack c s
  | .snapshotDue volts => Sys2Proof.Machine.execSnapshotDue volts s
  | .snapshotWritten => Sys2Proof.Machine.execSnapshotWritten s
  | .snapNow pp => Sys2Proof.Machine.execSnapNow pp s
  | .mramRefreshCheck addr find => Sys2Proof.Machine.execMramRefreshCheck addr find s
  | .begin pp => Sys2Proof.Machine.execBegin pp s
  | .piece pp => Sys2Proof.Machine.execPiece pp s
  | .pieceDone data digestOk => Sys2Proof.Machine.execPieceDone data digestOk s
  | .verify pp => Sys2Proof.Machine.execVerify pp s
  | .verifyDone sigOk partsOk => Sys2Proof.Machine.execVerifyDone sigOk partsOk s
  | .activate pp => Sys2Proof.Machine.execActivate pp s
  | .discard pp => Sys2Proof.Machine.execDiscard pp s
  | .setSave pp => Sys2Proof.Machine.execSetSave pp s
  | .setLoad pp => Sys2Proof.Machine.execSetLoad pp s
  | .setErase pp => Sys2Proof.Machine.execSetErase pp s
  | .attest pp => Sys2Proof.Machine.execAttest pp s
  | .unlock pp sigOk => Sys2Proof.Machine.execUnlock pp sigOk s
  | .tapReset => Sys2Proof.Machine.execTapReset s
  | .extest => Sys2Proof.Machine.execExtest s
  | .samplePreload pins => Sys2Proof.Machine.execSamplePreload pins s
  | .idcode => Sys2Proof.Machine.execIdcode s
  | .clamp => Sys2Proof.Machine.execClamp s
  | .highz => Sys2Proof.Machine.execHighz s
  | .bypass => Sys2Proof.Machine.execBypass s
  | .chal => Sys2Proof.Machine.execChal s
  | .token bits sigOk => Sys2Proof.Machine.execToken bits sigOk s
  | .dbgPage write off val => Sys2Proof.Machine.execDbgPage write off val s
  | .dbgCore => Sys2Proof.Machine.execDbgCore s
  | .cvStart pp u => Sys2Proof.Machine.execCvStart pp u s
  | .scanDone u data finds us => Sys2Proof.Machine.execScanDone u data finds us s
  | .cvLimitExpiry u data us => Sys2Proof.Machine.execCvLimitExpiry u data us s
  | .vddaonDrop => Sys2Proof.Machine.execVddaonDrop s
  | .supplyReturn j => Sys2Proof.Machine.execSupplyReturn j s
  | .configurationWrite pp w => Sys2Proof.Machine.execConfigurationWrite pp w s
  | .lossOfLock n => Sys2Proof.Machine.execLossOfLock n s
  | .internalCheckFailure b => Sys2Proof.Machine.execInternalCheckFailure b s
  | .corePllRelock locked => Sys2Proof.Machine.execCorePllRelock locked s
  | .setSaveDone => Sys2Proof.Machine.execSetSaveDone s
  | .unlockDone => Sys2Proof.Machine.execUnlockDone s
  | .reverifyDone ok => Sys2Proof.Machine.execReverifyDone ok s

end Sys2Proof.Machine
end

