-- ==== Sys2Proof/WellFormed.lean ====
section
/-!
DEFINITION. Well-formed commands: what the operands of a row can be at all (alignment and ranges of addresses, lengths of the
data a row carries, fields of a head). A command that is not well formed is none that the hardware can meet.
-/
set_option Elab.async false

namespace Sys2Proof

/-- A length that a head of the kind can carry (R83), and an identifier of 11 bits in a short head (R80). -/
def Head.ok (h : Head) : Bool :=
  (h.long || decide (h.id.toNat < 2 ^ 11)) &&
  match h.kind with
  | .low => decide (h.len.toNat ≤ 16)
  | .sync => h.len.toNat == 8
  | .comet => true

/-- A frame that a detector sees carries at most sixteen bytes (R90). -/
def WakeSeen.ok : WakeSeen → Bool
  | .edge => true
  | .frame h d => h.ok && decide (d.length ≤ 16)

/-- The alignment of a BAR0 access (R37). -/
def aligned (off : BitVec 22) (wide : Bool) : Bool := off.toNat % (if wide then 8 else 4) == 0

/-- Words under SECDED are named by their first byte: 32 B in the store, 8 B in the tables (R390). -/
def findsOk (l : List (Nat × Find)) : Bool :=
  l.all fun f => decide (f.1 < 2 ^ 27) && (if f.1 < 0x4000000 then f.1 % 32 == 0 else f.1 % 8 == 0)

/-- A page index that R36 gives a page. -/
def pageOk (p : Fin 640) : Bool := decide (p.val < 0x2C) || (decide (0x30 ≤ p.val) && decide (p.val < 0x50)) || decide (0x80 ≤ p.val)

/-- The operands of a command are in range. -/
def Instr.wellFormed : Instr → Bool
  | .linkUp _ speed _ _ => speed.val != 0
  | .registerWrite _ off wide _ => aligned off wide
  | .rcRead _ off wide => aligned off wide
  | .dbgPage _ off _ => aligned off false
  | .pageFenceWrite _ page _ => pageOk page
  | .bar2StoreWrite _ off bytes => !bytes.isEmpty && decide (off.toNat + bytes.length ≤ 0x4000000)
  | .bar2TableWrite _ off words =>
    !words.isEmpty && off.toNat % 4 == 0 && decide (0x4000000 ≤ off.toNat) && decide (off.toNat + 4 * words.length ≤ 0x5000000)
  | .bar2Read _ off len finds =>
    decide (1 ≤ len) && decide (len ≤ 4096) && decide (off.toNat + len ≤ 0x5000000) && findsOk finds
  | .moonWakeCondition _ w => w.ok
  | .portWakeCondition _ w => w.ok
  | .headReceived _ head _ _ _ _ _ => head.ok
  | .tailEnd _ payload _ _ _ => decide (payload.length ≤ 65536)
  | .frameCommit _ data => decide (data.length ≤ 65536)
  | .portTxDb _ _ _ finds => finds.all fun f => decide (f.1 < 8192)
  | .eyeScanDone _ counts => counts.length == 16256
  | .eyeScanTimeout _ counts => counts.length % 2 == 0 && decide (counts.length < 16256)
  | .burstIssue _ finds => findsOk finds
  | .readCompletion _ _ data _ => decide (data.length ≤ 4096)
  | .scrubAccess addr _ => addr.toNat % 32 == 0 && decide (addr.toNat < 0x4000000)
  | .snapshotDue volts => volts.length == 6
  | .mramRefreshCheck addr _ => addr.toNat % 8 == 0
  | .pieceDone data _ => data.length == 4160
  | .token bits _ => bits.length == 32
  | .scanDone _ _ finds _ => findsOk finds
  | .powerOnReset | .supplyDrop _ | .supplyOutOfRange _ | .resetNAssert | .perstAssert _ | .perstRiseInDormant
  | .resetRelease _ _ | .codeVerifyDone _ _ | .settingsLoadDone | .trialConfirm | .confirmTimeout
  | .activationChunkDone | .functionLevelReset _ | .hotReset _ | .linkDown _ | .devFenceSyncRead _ | .poisonedWrite _
  | .unsupportedRequest _ _ _ | .errorCompletion _ _ | .completionTimeout _ | .setMode _ | .setOwner _ | .setRef _
  | .devReset _ | .referenceLoss | .holdoverExpiry | .referenceReturn _ | .pllLockLoss _ | .moonRetrim _
  | .thermalSample _ _ | .wakeTimerExpiry | .wakeLimit _ | .candidateFix _ _ | .arbitrationEnd _ _ _ _ _
  | .busError _ _ _ _ _ _ _ | .frameEnd _ | .integrationDone _ | .busOffRecoveryDone _ | .stuckDominant _
  | .listenTimeout _ | .surge _ | .cmRange _ | .setPmode _ _ | .recover _ _ | .portDrainDone _ | .forcedStop _
  | .fltCommit _ _ | .txCancel _ _ | .txFlush _ _ | .cancelSettled _ | .setRung _ _ | .calibrate _ _ | .eyeScan _ _
  | .ltClear _ _ | .powerUpCalibrationDone _ _ _ | .terminationTrim _ _ _ | .dbandTxCalibration _ _
  | .samplerCalibration _ _ | .clusterPllLock _ | .trainingWindowEnd _ | .rxfReset _ _ | .rxRelease _ _
  | .rxfGetWrite _ _ _ _ | .rxfCfgWrite _ _ _ _ | .clRxpoolWrite _ _ _ | .clBufareaWrite _ _ _ | .clTxsoftWrite _ _ _
  | .txQuery _ _ | .fetchBlockReserve _ | .tailResident _ | .completionRecordWrite _ | .pushDone _ | .xferDone _
  | .enable _ _ | .disable _ _ | .resume _ _ | .setDesc _ _ | .abort _ _ | .xfer _ _ | .movCreditAdd _ _ _
  | .lineEdge _ | .framePulse _ | .missingLineEdge | .lineEnd | .rtMarkLineWrite _ _ _ | .rtCfgWrite _ _
  | .setFrame _ | .entryFire _ _ _ _ _ | .heldRungStart _ | .arm _ _ | .disarm _ _ | .deliveryDecision _ _
  | .msiXSend _ _ | .tClaim _ _ | .fClaim _ _ | .tComplete _ _ _ | .fComplete _ _ _ | .tEoi _ _ | .tMask _ _ _
  | .tCfgWrite _ _ _ | .icuSrcCfgWrite _ _ | .tRingCfgWrite _ _ _ | .tRingGetWrite _ _ _ | .tMailOut _ _ _
  | .tMailInRead _ _ | .timerExpiry _ | .tSelfFire _ _ | .holdOffExpiry _ | .coalescingDelayExpiry _ | .resetDone _
  | .reactFail _ | .levelLineTick _ | .mcWatchdog | .parityScan _ | .fcoInject _ _ | .fcoStickyClear _ _ _
  | .unfence _ | .unfenceDone _ | .defaults _ | .safeExitDone | .writeBack _ | .snapshotWritten | .snapNow _
  | .begin _ | .piece _ | .verify _ | .verifyDone _ _ | .activate _ | .discard _ | .setSave _ | .setLoad _
  | .setErase _ | .attest _ | .unlock _ _ | .tapReset | .extest | .samplePreload _ | .idcode | .clamp | .highz
  | .bypass | .chal | .dbgCore | .cvStart _ _ | .cvLimitExpiry _ _ _ | .vddaonDrop | .supplyReturn _
  | .configurationWrite _ _ | .lossOfLock _ | .internalCheckFailure _ | .corePllRelock _ | .setSaveDone | .unlockDone
  | .reverifyDone _
    => true

end Sys2Proof
end

