-- ==== Sys2Proof/Machine/Pins.lean ====
section
/-!
DEFINITION. The levels that the block's output pins show (R65, R67, R380, R423, R507, R514), and what Capture-IR loads
(R510). They follow the rest of the state, so none of them is stored.
-/
set_option Elab.async false

namespace Sys2Proof.Machine

/-- What an output pin does: driven low, driven high, or left to the board. -/
inductive PinLevel
  | low | high | released
  deriving DecidableEq, Repr

/-- What Capture-IR loads: 0b0000_ab01, with b DEBUG_OPEN and a KEY_DEAD (R510). -/
def State.irCapture (s : State) : Nat := 1 + 4 * b01 s.fuses.debugOpen + 8 * b01 s.fuses.keyDead

/-- A pin with boundary cells follows them under EXTEST and CLAMP, is released under HIGHZ, and otherwise does what its own rule
says (R514); without group A nothing drives it (R507). -/
def State.pinBy (s : State) (cells own : PinLevel) : PinLevel :=
  if s.chip.aonDown then .released
  else match s.tap.ir with
    | .extest => cells
    | .clamp => cells
    | .highz => .released
    | _ => own

/-- PANICn (R65, R507, R513: cells 3n data, 3n + 1 enable); in DORMANT low, or released once VDDIO is removed. -/
def State.panicPin (s : State) (n : Nat) : PinLevel :=
  let b := s.tap.boundary
  s.pinBy (if b.testBit (3 * n + 1) then (if b.testBit (3 * n) then .high else .low) else .released)
    (if s.mode = .dormant && s.chip.low.testBit 3 then .released else if s.panicLevel n then .high else .low)

/-- WAKEn_N (R67, R423, R513: cell 12 + 2n), which the Moon domain and PP_WAKE.FORCE drive low; FORCE is off in DORMANT. -/
def State.wakePin (s : State) (n : Nat) : PinLevel :=
  s.pinBy (if s.tap.boundary.testBit (12 + 2 * n) then .released else .low)
    (if (s.pp n).moonWake || (s.mode != .dormant && s.flag (ppPg n) PP_WAKE_FORCE) then .low else .released)

/-- FAULT_N (R380, R513: cell 20). -/
def State.faultPin (s : State) : PinLevel :=
  s.pinBy (if s.tap.boundary.testBit 20 then .released else .low) (if s.faultN then .low else .released)

end Sys2Proof.Machine
end

