-- ==== Sys2Proof/Safety.lean ====
section
/-!
DEFINITION. What a safe run is, in the terms the claims use: the sound states, what a step may do to the fuses, the queue and
the registers, and the frames of the commands.
-/
set_option Elab.async false

namespace Sys2Proof.Machine

/-- JTAG is never open while the identity key can sign (R460). -/
def Fuses.locked (f : Fuses) : Prop := f.debugOpen = true → f.keyDead = true

/-- A fuse field goes from 0 to 1 only, ROLLBACK upwards only (R454). -/
def Fuses.grown (f g : Fuses) : Prop :=
  (f.keyDead = true → g.keyDead = true) ∧ (f.unlockPend = true → g.unlockPend = true) ∧
  (f.idkeyBlown = true → g.idkeyBlown = true) ∧ (f.debugOpen = true → g.debugOpen = true) ∧
  f.rollback ≤ g.rollback ∧ f.keyrev = g.keyrev

/-- A sound state: BAR2 memory, the registers and MRAM are in canonical form, and the fuses are as R460 orders them. -/
def State.sound (s : State) : Prop :=
  Memory.wf s.mem ∧ mapRising s.regs = true ∧ mapRising s.mram = true ∧ s.fuses.locked

/-- What every operation of the block may do to the queue, the fuses and the canonical forms, from `a` to `s`. -/
def State.keeps (a s : State) : Prop :=
  s.pending = a.pending ∧ a.fuses.grown s.fuses ∧ (a.sound → s.sound)

/-- No command of the queue stops the block. -/
def State.safe (s : State) : Prop := ∃ t, step s = .next t

/-- The register fields of `t` are those of `s`, but for the fields at some keys. -/
def State.regsBut (s t : State) (keys : List Nat) : Prop :=
  ∀ k, k ∉ keys → mapGet? t.regs k = mapGet? s.regs k

/-- Every byte of BAR2 reads in `t` as in `s`. -/
def State.sameMem (s t : State) : Prop := ∀ a, t.mb a = s.mb a

/-- Every byte of BAR2 outside `n` bytes from `a` reads in `t` as in `s`. -/
def State.memBut (s t : State) (a n : Nat) : Prop := ∀ x, (x < a ∨ a + n ≤ x) → t.mb x = s.mb x

/-- Partner port `pp` may write page `p`, and nothing waits for the fault collector (R47, R375). -/
def State.opens (s : State) (pp p : Nat) : Prop := s.faults = [] ∧ s.deaf = false ∧ s.gate pp p = none

/-- A command of page `p` has ended with a status: STATUS, CODE and BUSY (R49). -/
def State.reports (t : State) (p status code : Nat) : Prop :=
  t.rd p PAGE_RESULT_STATUS = status ∧ t.rd p PAGE_RESULT_CODE = code ∧ t.rd p PAGE_STAT_BUSY = 0

/-- The header fields that a command writes, and its code and interrupt bit (R45, R49). -/
def cmdKeys (p : Nat) : List Nat :=
  [fieldKey p PAGE_CMD_CODE 0, fieldKey p PAGE_STAT_BUSY 0, fieldKey p PAGE_RESULT_STATUS 0,
    fieldKey p PAGE_RESULT_CODE 0, fieldKey p PAGE_RESULT_DETAIL 0, fieldKey p PAGE_IRQ_PEND_PEND 0]

/-- The registers that follow the comparison of R290 on port `n`, and the PANIC pins (R64, R65, R290). -/
def panicKeys (n : Nat) : List Nat :=
  [fieldKey (portPg n) PORT_MV_ATT_IN_PANIC 0, fieldKey (portPg n) PORT_MV_PANIC_CNT_COUNT 0] ++
    [0, 1, 2, 3].flatMap fun p => [fieldKey (ppPg p) PP_PANIC_STATE 0, fieldKey (ppPg p) PP_PANIC_CNT_COUNT 0,
      fieldKey (ppPg p) PAGE_IRQ_PEND_PEND 0]

/-- The frame of a port's opportunity: the next-up one, or the current one. -/
def PortState.slot (x : PortState) (nextUp : Bool) : Option BusFrame := if nextUp then x.nxt else x.cur

/-- A frame may stand in an opportunity of port `n`: nothing has it yet, and a next-up one lies in a COMET frame (R101). -/
def State.free (s : State) (n : Nat) (nextUp : Bool) : Prop :=
  (s.port n).slot nextUp = none ∧ (nextUp = true → ((s.port n).cur.any fun g => g.head.kind == .comet && !g.failed) = true)

/-- Port `n` hears a head of another sender, of a SOF at the moment `m`, that it may claim: it takes part in the bus, offers nothing,
and the head violates no eclipse window (R117, R134, R216). -/
def State.hears (s : State) (n : Nat) (h : Head) (nextUp : Bool) (m : Moment) : Prop :=
  s.faults = [] ∧ s.onBus n = true ∧ headValid h = true ∧ (s.port n).cand = none ∧ s.free n nextUp ∧ s.pmode n ≠ pmLoopInt ∧
  h.snd.toNat ≠ s.rd (portPg n) PORT_SND_SND ∧ s.violates n h m = false

/-- Port `n` offers a candidate in an opportunity, and no eclipse window that was open at the moment `m` withdraws it (R112, R133). -/
def State.contends (s : State) (n : Nat) (c : Cand) (nextUp : Bool) (m : Moment) : Prop :=
  s.faults = [] ∧ s.onBus n = true ∧ (s.port n).cand = some c ∧ (s.port n).candNext = nextUp ∧ s.free n nextUp ∧
  (m.eclipseOpen n = false ∨ s.candControl n = true)

/-- The current frame of port `n` reaches its ACK delimiter without error, with `data` unless it has a tail (R98, R219). -/
def State.delimits (s : State) (n : Nat) (f : BusFrame) (data : List Byte) : Prop :=
  s.faults = [] ∧ s.onBus n = true ∧ (s.port n).cur = some f ∧ f.failed = false ∧ f.committed = false ∧ f.own = none ∧
  (if f.head.kind = .comet then f.recv = false ∨ f.tailOk = true else data.length = f.head.len.toNat) ∧
  s.rd (portPg n) PORT_ECNT_TEC ≤ 127 ∧ s.rd (portPg n) PORT_ECNT_REC ≤ 127 ∧ s.estate n ≠ esPassive

/-- A port's REC after a frame it received without error (R149). -/
def State.recLess (s : State) (n : Nat) : Nat :=
  if offersMode (s.pmode n) then s.rd (portPg n) PORT_ECNT_REC - 1 else s.rd (portPg n) PORT_ECNT_REC

/-- The registers that follow a change of a port's counters (R149, R150). -/
def counterKeys (n : Nat) : List Nat :=
  [fieldKey (portPg n) PORT_ECNT_TEC 0, fieldKey (portPg n) PORT_ECNT_REC 0, fieldKey (portPg n) PORT_ESTATE_WARN 0,
    fieldKey (portPg n) PORT_ESTATE_STATE 0, fieldKey (portPg n) PAGE_IRQ_PEND_PEND 0]

/-- The register that counts an error (R142, R168); an eclipse violation is a form error (R136). -/
def errCounter : BusErr → Field
  | .bit => PORT_CNT_BIT_COUNT | .stuff => PORT_CNT_STUFF_COUNT | .form => PORT_CNT_FORM_COUNT | .ack => PORT_CNT_ACK_COUNT
  | .hcrc => PORT_CNT_HCRC_COUNT | .lcrc => PORT_CNT_LCRC_COUNT | .tail => PORT_CNT_TAIL_COUNT | .eclipse => PORT_CNT_FORM_COUNT

/-- An error's code in PORT_ESTATE.LEC (R168). -/
def errCode : BusErr → Nat
  | .bit => 1 | .stuff => 2 | .form => 3 | .ack => 4 | .hcrc => 5 | .lcrc => 6 | .tail => 7 | .eclipse => 8

/-- Port `n`, of a mode that offers objects, has `f` in progress, without a claim, and offers nothing. -/
def State.carries (s : State) (n : Nat) (f : BusFrame) : Prop :=
  s.faults = [] ∧ s.onBus n = true ∧ offersMode (s.pmode n) = true ∧ (s.port n).cur = some f ∧ (s.port n).cand = none ∧
  (s.port n).move = none ∧ f.cold = false ∧ f.claim.verdict = .rejected

/-- A job that port `n` sends or offers goes back to pending when its frame fails: nothing has fallen due for it (R262). -/
def State.retries (s : State) (n uid : Nat) (j : Job) (x : JobPort) : Prop :=
  s.job? uid = some j ∧ j.lost = false ∧ j.on n = some x ∧ x.doom = none ∧ x.cancelBy = [] ∧
  (j.limit = 0 ∨ x.fails + 1 < j.limit) ∧ s.flag (portPg n) PORT_ESTATE_ALONE = false

/-- No port takes part in a training window, and nothing was written in one: the ends of windows change nothing (R196-R198). -/
def State.noWindows (s : State) : Prop := ∀ n < 128, (s.port n).window = false ∧ (s.port n).writtenInWindow = []

/-- How a job stands on port `n`. -/
def State.onPort (s : State) (uid n : Nat) : Option JobPort := (s.job? uid).bind (·.on n)

end Sys2Proof.Machine
end

