-- ==== Sys2Proof/Certificates/Slice0/Obligations.lean ====
section
/-!
DEFINITION. The statements for the provers, family by family.
-/
set_option Elab.async false

open Sys2Proof Sys2Proof.Machine

/-! ### Resets -/

/-- POWER_ON_RESET, VDDAON_DROP, SUPPLY_DROP of groups B and C, RESET_N_ASSERT, PERST_ASSERT of the primary port and DEV_RESET (R30, R404-R406,
R429): the device is held in reset in LOADER; every register outside MRAM's and the Moon domain's reads its reset value, the
contents of the store are lost, MRAM and the fuses are kept; a device reset latches its cause and counts. -/
def Obligations.ResetsClearTheDevice : Prop :=
  (∀ (s : State) (r : Instr), s.faults = [] → (r = .powerOnReset ∨ r = .vddaonDrop) →
    ∃ t : State, exec r s = .next t ∧ t.inReset = true ∧ t.mode = .loader ∧ t.jobs = [] ∧ t.ports = [] ∧ t.lines = [] ∧ t.mem = [] ∧ t.chip.moon = [] ∧
    t.mram = s.mram ∧ t.fuses = s.fuses ∧
    ∀ p f i, keptUpd p ((fieldKey p f i) / 32 % 4096) = false → f.off + f.stride * i < 4096 → f.lo < 32 →
      t.rd p f i = f.rstAt i) ∧
  (∀ (s : State) (pp : PPort) (c : RstCause) (r : Instr), s.faults = [] → s.chip.aonDown = false →
    ((∃ i : Fin 6, r = .supplyDrop i ∧ groupBC i = true ∧ s.mode ≠ .dormant ∧ c = .supply) ∨ (r = .resetNAssert ∧ c = .resetN) ∨
      (r = .perstAssert pp ∧ pp.val = s.chip.primary ∧ s.mode ≠ .dormant ∧ c = .perst) ∨
      (r = .devReset pp ∧ s.opens pp crpPg ∧ s.arg0 crpPg = 0x47580128 ∧ c = .devReset)) →
    ∃ t : State, exec r s = .next t ∧ t.inReset = true ∧ t.mode = .loader ∧ t.jobs = [] ∧ t.ports = [] ∧ t.lines = [] ∧ t.mem = [] ∧
      t.mram = s.mram ∧ t.fuses = s.fuses ∧ t.pending = s.pending ∧
      t.rd aonPg AON_RST_CAUSE_CAUSE = c.code ∧
      t.rd aonPg AON_RST_CAUSE_COUNT = (s.rd aonPg AON_RST_CAUSE_COUNT + 1) % 2 ^ AON_RST_CAUSE_COUNT.w ∧
      (∀ p f i, keptKey (fieldKey p f i) = false → t.rd p f i = f.rstAt i) ∧
      ∀ k, keptKey k = true → k ∉ [fieldKey aonPg AON_RST_CAUSE_CAUSE 0, fieldKey aonPg AON_RST_CAUSE_COUNT 0,
        fieldKey aonPg AON_STAT_ARMED 0, fieldKey aonPg AON_STAT_FORCED_FRAME 0] → mapGet? t.regs k = mapGet? s.regs k)

/-! ### Start, trial and activation -/

/-- RESET_RELEASE (R407, R408, R410): with every supply in range and a reference present, the straps are latched, the active
reference is chosen, and the device stays in LOADER, out of reset; without a reference it stays in reset. In DORMANT, after a wake, it
ends DORMANT with the wake's cause (R421).

CODE_VERIFY_DONE (R433): firmware that passes starts and the device is in CONFIGURE; a failure leaves it in LOADER with the
cause and FAULT_N low, unless an ACTIVE staged image can restore the code region.

TRIAL_CONFIRM and CONFIRM_TIMEOUT (R445): confirmation writes COMMITTED and ACTIVE and raises the rollback counter; a start that
does not confirm counts an attempt and restarts with cause UPDATE. -/
def Obligations.DevicesStartFromVerifiedCode : Prop :=
  (∀ (s : State) (straps : BitVec 6) (present : BitVec 4) (ref : Nat), s.faults = [] → s.inReset = true → s.mode = .loader →
    s.chip.aonDown = false → s.chip.low = 0 → s.chip.outRange = 0 → releaseRef straps.toNat present.toNat = some ref →
    s.fuses.unlockPend = false → s.rd updPg UPD_JOURNAL_PHASE ≠ 1 → s.rd updPg UPD_JOURNAL_PHASE ≠ 2 →
    ∃ t : State, exec (.resetRelease straps present) s = .next t ∧ t.inReset = false ∧ t.mode = .loader ∧ t.loaderFault = s.loaderFault ∧
      t.rd crpPg CRP_STRAP_PRIMPP = straps.toNat % 4 ∧ t.rd crpPg CRP_STRAP_REFSEL = straps.toNat / 4 % 4 ∧
      t.rd crpPg CRP_STRAP_REFAUTO = straps.toNat / 16 % 2 ∧ t.rd crpPg CRP_STRAP_AUTOSTART = straps.toNat / 32 % 2 ∧
      t.rd crpPg CRP_CLK_ACTIVE = ref ∧ t.chip.primary = straps.toNat % 4 ∧ t.chip.refs = present.toNat ∧
      t.mram = s.mram ∧ t.fuses = s.fuses ∧
      t = { s with moments := t.moments, regs := t.regs, inReset := false, chip := t.chip, pps := t.pps, freeCtr := t.freeCtr }) ∧
  (∀ (s : State) (straps : BitVec 6) (present : BitVec 4), s.faults = [] → s.inReset = true →
    releaseRef straps.toNat present.toNat = none → exec (.resetRelease straps present) s = .next s.noteMoment) ∧
  (∀ (s : State) (straps : BitVec 6) (present : BitVec 4) (ref : Nat) (c : RstCause), s.faults = [] → s.inReset = false →
    s.moving = none → s.mode = .dormant → s.chip.wake = some c → s.chip.aonDown = false → s.chip.low = 0 → s.chip.outRange = 0 →
    releaseRef straps.toNat present.toNat = some ref → s.fuses.unlockPend = false →
    s.rd updPg UPD_JOURNAL_PHASE ≠ 1 → s.rd updPg UPD_JOURNAL_PHASE ≠ 2 →
    ∃ t : State, exec (.resetRelease straps present) s = .next t ∧ t.inReset = false ∧ t.mode = .loader ∧
      t.rd aonPg AON_RST_CAUSE_CAUSE = c.code ∧
      t.rd aonPg AON_RST_CAUSE_COUNT = (s.rd aonPg AON_RST_CAUSE_COUNT + 1) % 2 ^ AON_RST_CAUSE_COUNT.w ∧
      t.rd crpPg CRP_CLK_ACTIVE = ref ∧ t.chip.wake = none ∧ t.chip.moon = s.chip.moon ∧ t.mram = s.mram ∧ t.fuses = s.fuses) ∧
  (∀ (s : State) (a b : Bool), s.faults = [] → s.inReset = false → s.mode = .loader → s.loaderFault = false →
    s.checkCode a b = 0 →
    ∃ u : State, exec (.codeVerifyDone a b) s = .next u.done ∧ u.mode = .configure ∧ u.prev = .loader ∧
      u.rd devPg DEV_MODE_MODE = 2 ∧ u.rd devPg DEV_MODE_PREV = 1 ∧ u.rd updPg UPD_LOADER_CAUSE = 0 ∧
      u.fuses = s.fuses ∧ u.jobs = s.jobs ∧ u.pending = s.pending) ∧
  (∀ (s : State) (a b : Bool), s.faults = [] → s.inReset = false → s.mode = .loader → s.loaderFault = false →
    s.checkCode a b ≠ 0 → s.rd updPg UPD_STAGE_STATE ≠ stActive →
    ∃ t : State, exec (.codeVerifyDone a b) s = .next t ∧ t.rd updPg UPD_LOADER_CAUSE = s.checkCode a b ∧ t.faultN = true ∧
      s.regsBut t [fieldKey updPg UPD_LOADER_CAUSE 0] ∧ t = { s with moments := t.moments, regs := t.regs, loaderFault := true }) ∧
  (∀ (s : State) (a b : Bool), s.faults = [] → s.inReset = false → s.mode = .loader → s.loaderFault = false →
    s.chip.aonDown = false → s.checkCode a b ≠ 0 → s.rd updPg UPD_STAGE_STATE = stActive →
    ∃ t : State, exec (.codeVerifyDone a b) s = .next t ∧ t.inReset = true ∧ t.rd updPg UPD_JOURNAL_PHASE = 1 ∧
      t.rd updPg UPD_JOURNAL_PART = 0 ∧ t.rd updPg UPD_JOURNAL_CHUNK = 0 ∧
      t.rd aonPg AON_RST_CAUSE_CAUSE = RstCause.update.code ∧ t.mram = s.mram ∧ t.fuses = s.fuses) ∧
  (∀ (s : State), s.faults = [] → s.stalled = false → s.down = false → s.mode ≠ .loader → s.mode ≠ .update → s.rd updPg UPD_JOURNAL_PHASE = 2 →
    s.rd crpPg CRP_CLK_CL_LOCK = 255 →
    ∃ t : State, exec .trialConfirm s = .next t ∧ t.rd updPg UPD_JOURNAL_PHASE = 3 ∧ t.rd updPg UPD_STAGE_STATE = stActive ∧
      t.fuses = { s.fuses with rollback := max s.fuses.rollback (s.mfRollback codeBase) } ∧
      s.regsBut t [fieldKey updPg UPD_JOURNAL_PHASE 0, fieldKey updPg UPD_STAGE_STATE 0] ∧
      t = { s with moments := t.moments, regs := t.regs, fuses := t.fuses }) ∧
  (∀ (s : State), s.faults = [] → s.down = false → s.loaderFault = false → s.chip.aonDown = false →
    s.rd updPg UPD_JOURNAL_PHASE = 2 → s.rd updPg UPD_JOURNAL_ATTEMPTS < 3 →
    ∃ t : State, exec .confirmTimeout s = .next t ∧ t.inReset = true ∧
      t.rd updPg UPD_JOURNAL_ATTEMPTS = s.rd updPg UPD_JOURNAL_ATTEMPTS + 1 ∧ t.rd updPg UPD_JOURNAL_PHASE = 2 ∧
      t.rd aonPg AON_RST_CAUSE_CAUSE = RstCause.update.code ∧ t.mram = s.mram ∧ t.fuses = s.fuses)

/-- ACTIVATION_CHUNK_DONE (R442): a chunk's bytes go from staging to their place in the code region, the journal names the next
chunk of the part, or the first of the next part, and the progress advances; the last chunk is the manifest, after which the journal says
TRIAL and the device restarts. -/
def Obligations.ActivationCopiesChunks : Prop :=
  (∀ (s : State) (p : Part) (o n : Nat), s.faults = [] → s.stalled = false → s.mode = .update → s.rd updPg UPD_JOURNAL_PHASE = 1 →
    s.rd updPg UPD_JOURNAL_PART ≠ 15 → p = s.mfPart stageBase (s.rd updPg UPD_JOURNAL_PART) →
    o = s.rd updPg UPD_JOURNAL_CHUNK * 4096 → n = min 4096 (p.len - o) →
    s.mramBroken (stageBase + p.off + o) n = false →
    ∃ t : State, exec .activationChunkDone s = .next t ∧
      (∀ i < n, t.mramByte (p.dest + o + i) = s.mramByte (stageBase + p.off + o + i) % 256) ∧
      (∀ x, (x < p.dest + o ∨ p.dest + o + n ≤ x) → t.mramByte x = s.mramByte x) ∧
      t.rd updPg UPD_JOURNAL_CHUNK = (if s.rd updPg UPD_JOURNAL_CHUNK + 1 < chunksOf p.len then
        (s.rd updPg UPD_JOURNAL_CHUNK + 1) % 2 ^ 11 else 0) ∧
      t.rd updPg UPD_JOURNAL_PART = (if s.rd updPg UPD_JOURNAL_CHUNK + 1 < chunksOf p.len then s.rd updPg UPD_JOURNAL_PART
        else if s.rd updPg UPD_JOURNAL_PART + 1 < (t.mfParts stageBase).length then s.rd updPg UPD_JOURNAL_PART + 1 else 15) ∧
      t.rd updPg UPD_PROGRESS_DONE = (s.rd updPg UPD_PROGRESS_DONE + 1) % 2 ^ 12 ∧
      s.regsBut t [fieldKey updPg UPD_JOURNAL_CHUNK 0, fieldKey updPg UPD_JOURNAL_PART 0, fieldKey updPg UPD_PROGRESS_DONE 0] ∧
      t = { s with moments := t.moments, regs := t.regs, mram := t.mram, mramBad := t.mramBad }) ∧
  (∀ (s : State), s.faults = [] → s.stalled = false → s.mode = .update → s.rd updPg UPD_JOURNAL_PHASE = 1 →
    s.rd updPg UPD_JOURNAL_PART = 15 →
    s.chip.aonDown = false → s.mramBroken stageBase 4096 = false →
    ∃ t : State, exec .activationChunkDone s = .next t ∧ t.inReset = true ∧ t.rd updPg UPD_JOURNAL_PHASE = 2 ∧
      t.rd updPg UPD_JOURNAL_ATTEMPTS = 0 ∧ t.rd aonPg AON_RST_CAUSE_CAUSE = RstCause.update.code ∧
      (∀ i < 4096, t.mramByte (codeBase + i) = s.mramByte (stageBase + i) % 256) ∧
      (∀ x, codeBase + 4096 ≤ x → t.mramByte x = s.mramByte x))

/-! ### Supplies, clocks, temperature -/

/-- SUPPLY_OUT_OF_RANGE, SUPPLY_DROP outside groups B and C, and SUPPLY_RETURN (R404, R427, R428): the supply's range bit follows, SUPPLY
is set on the CRP page, and an excursion is one event for line 52.

MOON_RETRIM and THERMAL_SAMPLE (R369, R414, R425, R426, R427, R515): the deviation, the temperature with its maximum, and the power
with the correction of the sample are shown; a deviation above 1 %, the rise to 105 °C after cooling and the rise to 115 °C are events. A
port adds what R426 states: nothing in OFF, 25 mW in CONFIG, LISTEN and SLEEP and on a silent segment, 40 mW where the segment carries
only heads, the rung's figure where tails at the rung occupy most of the wire time. -/
def Obligations.SuppliesTrimAndTemperatureAreWatched : Prop :=
  (∀ (s : State) (i : Fin 6) (r : Instr), s.faults = [] → s.down = false → s.chip.outRange.testBit i = false →
    (r = .supplyOutOfRange i ∨ (r = .supplyDrop i ∧ groupBC i = false)) →
    ∃ u : State, exec r s = .next u.done ∧ u.chip = { s.chip with outRange := s.chip.outRange ||| 2 ^ i.val } ∧
      u.faults = [⟨52, .dev⟩] ∧ u.rd crpPg PAGE_IRQ_PEND_PEND = (s.rd crpPg PAGE_IRQ_PEND_PEND ||| 8) % 2 ^ 16 ∧
      s.regsBut u [fieldKey crpPg PAGE_IRQ_PEND_PEND 0] ∧
      u = { s with regs := u.regs, srcs := u.srcs, pps := u.pps, chip := u.chip, faults := u.faults }) ∧
  (∀ (s : State) (i : Fin 6), s.faults = [] → s.down = false → s.chip.outRange.testBit i = true →
    ∃ t : State, exec (.supplyReturn i) s = .next t ∧
      t.chip = { s.chip with low := clearBits s.chip.low (2 ^ i.val), outRange := clearBits s.chip.outRange (2 ^ i.val) } ∧
      t.rd crpPg PAGE_IRQ_PEND_PEND = (s.rd crpPg PAGE_IRQ_PEND_PEND ||| 8) % 2 ^ 16 ∧
      s.regsBut t [fieldKey crpPg PAGE_IRQ_PEND_PEND 0] ∧
      t = { s with moments := t.moments, regs := t.regs, srcs := t.srcs, pps := t.pps, chip := t.chip }) ∧
  (∀ (s : State) (dev : BitVec 16), s.faults = [] → s.down = false →
    s.chip.refs.testBit (s.rd crpPg CRP_CLK_ACTIVE) = true →
    ∃ u : State, exec (.moonRetrim dev) s = .next u.done ∧ u.rd crpPg CRP_MOON_DEV = dev.toNat ∧ u.rd crpPg CRP_MOON_TRIMMED = 1 ∧
      u.faults = (if 100 < dev.toInt.natAbs then [⟨49, .dev⟩] else []) ∧
      s.regsBut u [fieldKey crpPg CRP_MOON_DEV 0, fieldKey crpPg CRP_MOON_TRIMMED 0] ∧
      u = { s with regs := u.regs, faults := u.faults }) ∧
  (∀ (s : State) (tj : Byte) (corr : BitVec 16) (top : Nat), s.faults = [] → s.down = false →
    top = (mapGet? s.sinceRead 16).getD (s.rd crpPg CRP_THERM_TJ_MAX) →
    ∃ u : State, exec (.thermalSample tj corr) s = .next u.done ∧ u.rd crpPg CRP_THERM_TJ = tj.toNat ∧
      u.rd crpPg CRP_THERM_TJ_MAX = (if signed 8 top < tj.toInt then tj.toNat else top) % 2 ^ 8 ∧
      u.chip.power = ((s.typicalMw.1 : Int) + corr.toInt).toNat ∧
      (u.chip.power % 4 = 0 → u.rd crpPg CRP_PWR_MW = u.chip.power / 4 % 2 ^ CRP_PWR_MW.w) ∧
      (∀ n < 128, (u.port n).heard = false ∧ (u.port n).tailTime = []) ∧
      u.chip.cool = (if tj.toInt < 103 then true else if 105 ≤ tj.toInt then false else s.chip.cool) ∧
      u.faults = (if 105 ≤ tj.toInt ∧ s.chip.cool = true then [⟨50, .dev⟩] else []) ++
        (if 115 ≤ tj.toInt ∧ signed 8 (s.rd crpPg CRP_THERM_TJ) < 115 then [⟨51, .dev⟩] else []) ∧
      s.regsBut u [fieldKey crpPg CRP_THERM_TJ 0, fieldKey crpPg CRP_THERM_TJ_MAX 0, fieldKey crpPg CRP_PWR_MW 0] ∧
      u = { s with regs := u.regs, faults := u.faults, chip := u.chip, ports := u.ports, sinceRead := u.sinceRead,
                   freeCtr := u.freeCtr }) ∧
  (∀ (s : State) (n : Nat), (s.pmode n = pmOff → s.portMw n = 0) ∧
    ((s.pmode n = pmConfig ∨ s.pmode n = pmListen ∨ s.pmode n = pmSleep) → s.portMw n = 25) ∧
    (busMode (s.pmode n) = true → s.pmode n ≠ pmListen → (s.port n).heard = false → (s.port n).tailTime = [] → s.portMw n = 25) ∧
    (busMode (s.pmode n) = true → s.pmode n ≠ pmListen → (s.port n).heard = true → (s.port n).tailTime = [] → s.portMw n = 40) ∧
    (∀ g k, busMode (s.pmode n) = true → s.pmode n ≠ pmListen → (s.port n).tailTime = [(g, k)] → g < 4 → sampleTime < 2 * k →
      s.portMw n = [90, 120, 160, 220].getD g 0))

/-- PLL_LOCK_LOSS (R413): the core PLL's loss is an event of line 49; a cluster PLL's is one of line c while the cluster is in
service, and none while it is fenced. A lock failure at UNFENCE is reported as R386 states: FAULT, with an event of line c that its
mask lets through. -/
def Obligations.PllLossesAreReported : Prop :=
  (∀ (s : State), s.faults = [] → s.down = false →
    ∃ u : State, exec (.pllLockLoss none) s = .next u.done ∧ u.faults = [⟨49, .dev⟩] ∧ u.rd crpPg CRP_CLK_CORE_LOCK = 0 ∧
      s.regsBut u [fieldKey crpPg CRP_CLK_CORE_LOCK 0] ∧ u = { s with regs := u.regs, faults := u.faults }) ∧
  (∀ (s : State) (c : Cl), s.faults = [] → s.down = false → s.fencedCl c = false →
    ∃ u : State, exec (.pllLockLoss (some c)) s = .next u.done ∧ u.faults = [⟨c, .cl c⟩] ∧
      u.rd crpPg CRP_CLK_CL_LOCK = clearBits (s.rd crpPg CRP_CLK_CL_LOCK) (2 ^ c.val) % 2 ^ 8 ∧
      s.regsBut u [fieldKey crpPg CRP_CLK_CL_LOCK 0] ∧ u = { s with regs := u.regs, faults := u.faults }) ∧
  (∀ (s : State) (c : Cl), s.faults = [] → s.down = false → s.fencedCl c = true →
    ∃ t : State, exec (.pllLockLoss (some c)) s = .next t ∧ t.faults = [] ∧
      t.rd crpPg CRP_CLK_CL_LOCK = clearBits (s.rd crpPg CRP_CLK_CL_LOCK) (2 ^ c.val) % 2 ^ 8 ∧
      s.regsBut t [fieldKey crpPg CRP_CLK_CL_LOCK 0] ∧ t = { s with moments := t.moments, regs := t.regs }) ∧
  (∀ (s : State) (c : Nat), s.faults = [] → s.unfencing = some c →
    ∃ u : State, exec (.unfenceDone false) s = .next u.done ∧ u.faults = [⟨c, .unmasked⟩] ∧
      u.reports fcoPg stFault (s.rd fcoPg PAGE_CMD_CODE % 2 ^ 8) ∧ u.rd devPg DEV_CLUSTERS_FENCED = s.rd devPg DEV_CLUSTERS_FENCED)

/-- REFERENCE_LOSS, HOLDOVER_EXPIRY, REFERENCE_RETURN, CLUSTER_PLL_LOCK, SET_REF and CORE_PLL_RELOCK (R410-R413,
R200, R428): holdover on the loss of the active reference, free running when holdover expires, the lock bits, and a change of the
active reference with its command. -/
def Obligations.ClocksFollowTheirReferences : Prop :=
  (∀ (s : State), s.faults = [] → s.down = false → s.chip.refs.testBit (s.rd crpPg CRP_CLK_ACTIVE) = true →
    s.linkUp (s.rd crpPg CRP_CLK_ACTIVE) = true →
    ∃ u : State, exec .referenceLoss s = .next u.done ∧ (⟨49, .dev⟩ : FaultEvent) ∈ u.faults ∧
      (⟨32 + s.rd crpPg CRP_CLK_ACTIVE, .dev⟩ : FaultEvent) ∈ u.faults ∧ u.rd crpPg CRP_CLK_HOLDOVER = 1 ∧
      u.rd crpPg CRP_CLK_CORE_LOCK = 0 ∧ u.linkUp (s.rd crpPg CRP_CLK_ACTIVE) = false) ∧
  (∀ (s : State), s.faults = [] → s.down = false → s.chip.refs.testBit (s.rd crpPg CRP_CLK_ACTIVE) = true →
    s.linkUp (s.rd crpPg CRP_CLK_ACTIVE) = false →
    ∃ u : State, exec .referenceLoss s = .next u.done ∧ u.faults = [⟨49, .dev⟩] ∧ u.rd crpPg CRP_CLK_HOLDOVER = 1 ∧
      u.rd crpPg CRP_CLK_CORE_LOCK = 0 ∧ u.chip.refs = clearBits s.chip.refs (2 ^ s.rd crpPg CRP_CLK_ACTIVE) ∧
      (s.flag crpPg CRP_CLK_FAILOVER = false → u.chip.relock = s.chip.relock) ∧
      (∀ r, s.flag crpPg CRP_CLK_FAILOVER = true → s.chip.relock = none →
        nextRef (clearBits s.chip.refs (2 ^ s.rd crpPg CRP_CLK_ACTIVE)) (s.rd crpPg CRP_CLK_ACTIVE + 1) = some r →
        u.chip.relock = some ⟨r, false⟩) ∧
      s.regsBut u [fieldKey crpPg CRP_CLK_HOLDOVER 0, fieldKey crpPg CRP_CLK_CORE_LOCK 0] ∧
      u = { s with regs := u.regs, chip := u.chip, faults := u.faults }) ∧
  (∀ (s : State), s.faults = [] → s.down = false → s.flag crpPg CRP_CLK_HOLDOVER = true → s.chip.relock = none →
    ∃ t : State, exec .holdoverExpiry s = .next t ∧ t.rd crpPg CRP_CLK_HOLDOVER = 0 ∧ t.rd crpPg CRP_CLK_FREERUN = 1 ∧
      s.regsBut t [fieldKey crpPg CRP_CLK_HOLDOVER 0, fieldKey crpPg CRP_CLK_FREERUN 0] ∧ t = { s with moments := t.moments, regs := t.regs }) ∧
  (∀ (s : State) (i : Fin 4), s.faults = [] → s.down = false → i.val = s.rd crpPg CRP_CLK_ACTIVE → s.unlocked = true →
    s.chip.relock = none → (∀ n < 128, ∀ m c, (s.port n).move ≠ some (.hold m c)) →
    ∃ t : State, exec (.referenceReturn i) s = .next t ∧ t.rd crpPg CRP_CLK_HOLDOVER = 0 ∧ t.rd crpPg CRP_CLK_FREERUN = 0 ∧
      t.rd crpPg CRP_CLK_CORE_LOCK = 1 ∧ t.chip = { s.chip with refs := s.chip.refs ||| 2 ^ i.val } ∧
      s.regsBut t [fieldKey crpPg CRP_CLK_HOLDOVER 0, fieldKey crpPg CRP_CLK_FREERUN 0, fieldKey crpPg CRP_CLK_CORE_LOCK 0] ∧
      t = { s with moments := t.moments, regs := t.regs, chip := t.chip }) ∧
  (∀ (s : State) (i : Fin 4), s.faults = [] → s.down = false → (i.val ≠ s.rd crpPg CRP_CLK_ACTIVE ∨ s.unlocked = false) →
    exec (.referenceReturn i) s = .next ({ s with chip := { s.chip with refs := s.chip.refs ||| 2 ^ i.val } }).noteMoment) ∧
  (∀ (s : State) (c : Cl), s.faults = [] → s.down = false → s.mode ≠ .loader → s.fencedCl c = false →
    ∃ t : State, exec (.clusterPllLock c) s = .next t ∧
      t.rd crpPg CRP_CLK_CL_LOCK = (s.rd crpPg CRP_CLK_CL_LOCK ||| 2 ^ c.val) % 2 ^ 8 ∧
      s.regsBut t [fieldKey crpPg CRP_CLK_CL_LOCK 0] ∧ t = { s with moments := t.moments, regs := t.regs }) ∧
  (∀ (s : State) (pp : PPort), s.opens pp crpPg → s.setRefOk = true →
    s.chip.refs.testBit (s.arg0 crpPg % 4) = true →
    ∃ t : State, exec (.setRef pp) s = .next t ∧ t.chip = { s.chip with relock := some ⟨s.arg0 crpPg % 4, true⟩ } ∧
      t.rd crpPg CRP_CLK_HOLDOVER = 1 ∧ t.rd crpPg CRP_CLK_CORE_LOCK = 0 ∧ t.rd crpPg PAGE_STAT_BUSY = 1 ∧
      t.rd crpPg PAGE_RESULT_STATUS = stRunning ∧
      s.regsBut t (fieldKey crpPg CRP_CLK_HOLDOVER 0 :: fieldKey crpPg CRP_CLK_CORE_LOCK 0 :: cmdKeys crpPg) ∧
      t = { s with moments := t.moments, regs := t.regs, chip := t.chip }) ∧
  (∀ (s : State) (pp : PPort), s.opens pp crpPg → s.setRefOk = true →
    s.chip.refs.testBit (s.arg0 crpPg % 4) = false →
    ∃ u : State, exec (.setRef pp) s = .next u.done ∧ u.reports crpPg stFault 1 ∧ u.faults = [⟨56, .dev⟩] ∧ u.chip = s.chip ∧
      s.regsBut u (fieldKey crpPg PAGE_ERRSRC_SRC 0 :: cmdKeys crpPg)) ∧
  (∀ (s : State), s.faults = [] → s.down = false → s.chip.relock = none → s.unlocked = false →
    ∃ t : State, exec (.corePllRelock true) s = .next t ∧ t.rd crpPg CRP_CLK_CORE_LOCK = 1 ∧
      s.regsBut t [fieldKey crpPg CRP_CLK_CORE_LOCK 0] ∧ t = { s with moments := t.moments, regs := t.regs }) ∧
  (∀ (s : State) (r : Nat), s.faults = [] → s.down = false → s.chip.relock = some ⟨r, false⟩ → r < 4 →
    s.chip.refs.testBit r = true → (∀ n < 128, ∀ m c, (s.port n).move ≠ some (.hold m c)) →
    ∃ u : State, exec (.corePllRelock true) s = .next u.done ∧ u.faults = [⟨56, .dev⟩] ∧ u.rd crpPg CRP_CLK_ACTIVE = r ∧
      u.rd crpPg CRP_CLK_HOLDOVER = 0 ∧ u.rd crpPg CRP_CLK_FREERUN = 0 ∧ u.rd crpPg CRP_CLK_CORE_LOCK = 1 ∧
      u.chip = { s.chip with relock := none }) ∧
  (∀ (s : State) (r : Nat), s.faults = [] → s.down = false → s.stalled = false → s.chip.relock = some ⟨r, true⟩ → r < 4 →
    s.chip.refs.testBit r = true → s.flag crpPg PAGE_STAT_BUSY = true → s.rd crpPg PAGE_CMD_CODE = 1 →
    (∀ n < 128, ∀ m c, (s.port n).move ≠ some (.hold m c)) →
    ∃ t : State, exec (.corePllRelock true) s = .next t ∧ t.reports crpPg stOk 1 ∧ t.rd crpPg CRP_CLK_ACTIVE = r ∧
      t.rd crpPg CRP_CLK_HOLDOVER = 0 ∧ t.rd crpPg CRP_CLK_FREERUN = 0 ∧ t.rd crpPg CRP_CLK_CORE_LOCK = 1 ∧
      t.chip = { s.chip with relock := none } ∧
      t = { s with moments := t.moments, regs := t.regs, srcs := t.srcs, pps := t.pps, chip := t.chip })

/-! ### Update, settings, security -/

/-- BEGIN and DISCARD (R436, R463): a new tag and count empty the bitmap and are shown; the same ones keep what is held; a count of
0 or above 1,536 ends BAD_ARG; DISCARD empties staging.

PIECE and PIECE_DONE (R435, R437): PIECE reads 4,160 bytes of partner memory through the owner's port, in requests that R31 allows, and
leaves the page BUSY, an address that is no multiple of 64 B ends it BAD_ARG; a piece that passes every check is written to staging and its
bit set, or was held already; one that fails is dropped with the status of the first check it fails. -/
def Obligations.StagingIsFilledByPieces : Prop :=
  (∀ (s : State) (pp : PPort) (n : Nat), s.opens pp updPg → s.stalled = false → s.updOk = true → n = s.arg1 updPg % 2 ^ 11 → 1 ≤ n → n ≤ 1536 →
    ¬(s.rd updPg UPD_STAGE_STATE ≠ stEmpty ∧ s.rd updPg UPD_TAG_TAG = s.arg0 updPg ∧ s.rd updPg UPD_COUNT_N = n) →
    ∃ t : State, exec (.begin pp) s = .next t ∧ t.reports updPg stOk 1 ∧ t.rd updPg PAGE_RESULT_DETAIL = 0 ∧
      t.rd updPg UPD_TAG_TAG = s.arg0 updPg % 2 ^ 32 ∧ t.rd updPg UPD_COUNT_N = n ∧ t.rd updPg UPD_STAGE_STATE = stReceiving ∧
      t.rd updPg UPD_STAGE_HELD = 0 ∧ (∀ i < 1536, t.held i = false) ∧ t.mram = s.mram ∧
      t = { s with moments := t.moments, regs := t.regs, srcs := t.srcs }) ∧
  (∀ (s : State) (pp : PPort) (n : Nat), s.opens pp updPg → s.stalled = false → s.updOk = true → n = s.arg1 updPg % 2 ^ 11 → 1 ≤ n → n ≤ 1536 →
    s.rd updPg UPD_STAGE_STATE ≠ stEmpty → s.rd updPg UPD_TAG_TAG = s.arg0 updPg → s.rd updPg UPD_COUNT_N = n →
    ∃ t : State, exec (.begin pp) s = .next t ∧ t.reports updPg stOk 1 ∧
      t.rd updPg PAGE_RESULT_DETAIL = s.rd updPg UPD_STAGE_HELD % 2 ^ 16 ∧ s.regsBut t (cmdKeys updPg) ∧
      t = { s with moments := t.moments, regs := t.regs, srcs := t.srcs }) ∧
  (∀ (s : State) (pp : PPort), s.opens pp updPg → s.stalled = false → s.updOk = true →
    (s.arg1 updPg % 2 ^ 11 = 0 ∨ 1536 < s.arg1 updPg % 2 ^ 11) →
    ∃ t : State, exec (.begin pp) s = .next t ∧ t.reports updPg stBadArg 1 ∧ s.regsBut t (cmdKeys updPg) ∧
      t = { s with moments := t.moments, regs := t.regs, srcs := t.srcs, freeCtr := t.freeCtr }) ∧
  (∀ (s : State) (pp : PPort), s.opens pp updPg → s.stalled = false → s.updOk = true →
    ∃ t : State, exec (.discard pp) s = .next t ∧ t.reports updPg stOk 5 ∧ t.rd updPg UPD_STAGE_STATE = stEmpty ∧
      t.rd updPg UPD_STAGE_HELD = 0 ∧ (∀ i < 1536, t.held i = false) ∧ t.mram = s.mram ∧
      t = { s with moments := t.moments, regs := t.regs, srcs := t.srcs, freeCtr := t.freeCtr }) ∧
  (∀ (s : State) (pp : PPort), s.opens pp updPg → s.stalled = false → s.updOk = true → (s.arg0 updPg + s.arg1 updPg * 2 ^ 32) % 64 = 0 →
    ∃ t : State, exec (.piece pp) s = .next t ∧
      t.out = ((requests (s.pp pp).mrrs 67 (s.arg0 updPg + s.arg1 updPg * 2 ^ 32) 4160).map fun q => Out.read pp q.1 q.2 false).reverse ++
        s.out ∧
      (∀ q ∈ requests (s.pp pp).mrrs 67 (s.arg0 updPg + s.arg1 updPg * 2 ^ 32) 4160, q.2 ≤ (s.pp pp).mrrs ∧ q.1 % 4096 + q.2 ≤ 4096) ∧
      t.rd updPg PAGE_STAT_BUSY = 1 ∧
      t.rd updPg PAGE_RESULT_STATUS = stRunning ∧ s.regsBut t (cmdKeys updPg) ∧
      t = { s with moments := t.moments, regs := t.regs, out := t.out }) ∧
  (∀ (s : State) (pp : PPort), s.opens pp updPg → s.stalled = false → s.updOk = true →
    (s.arg0 updPg + s.arg1 updPg * 2 ^ 32) % 64 ≠ 0 →
    ∃ t : State, exec (.piece pp) s = .next t ∧ t.reports updPg stBadArg 2 ∧ s.regsBut t (cmdKeys updPg) ∧
      t = { s with moments := t.moments, regs := t.regs, srcs := t.srcs, freeCtr := t.freeCtr }) ∧
  (∀ (s : State) (data : List Byte) (i : Nat), s.faults = [] → s.down = false → s.stalled = false → s.runningCode updPg = some 2 →
    data.length = 4160 → wordOf data 0 = 0x43505847 → s.rd updPg UPD_STAGE_STATE ≠ stEmpty →
    wordOf data 1 = s.rd updPg UPD_TAG_TAG → i = wordOf data 2 → wordOf data 3 = s.rd updPg UPD_COUNT_N →
    i < s.rd updPg UPD_COUNT_N → i < 1536 → s.held i = false →
    ∃ t : State, exec (.pieceDone data true) s = .next t ∧ t.reports updPg stOk 2 ∧ t.rd updPg PAGE_RESULT_DETAIL = i ∧
      t.held i = true ∧ (∀ j < 1536, j ≠ i → t.held j = s.held j) ∧
      t.rd updPg UPD_STAGE_HELD = (s.rd updPg UPD_STAGE_HELD + 1) % 2 ^ 11 ∧
      (t.rd updPg UPD_STAGE_HELD = s.rd updPg UPD_COUNT_N → t.rd updPg UPD_STAGE_STATE = stComplete) ∧
      (∀ j < 4096, t.mramByte (stageBase + 4096 * i + j) = (data.getD (0x40 + j) 0).toNat) ∧
      (∀ x, (x < stageBase + 4096 * i ∨ stageBase + 4096 * i + 4096 ≤ x) → t.mramByte x = s.mramByte x) ∧
      t = { s with moments := t.moments, regs := t.regs, srcs := t.srcs, mram := t.mram, mramBad := t.mramBad }) ∧
  (∀ (s : State) (data : List Byte), s.faults = [] → s.down = false → s.stalled = false → s.runningCode updPg = some 2 →
    data.length = 4160 → wordOf data 0 = 0x43505847 → s.rd updPg UPD_STAGE_STATE ≠ stEmpty →
    wordOf data 1 = s.rd updPg UPD_TAG_TAG → wordOf data 3 = s.rd updPg UPD_COUNT_N → wordOf data 2 < s.rd updPg UPD_COUNT_N →
    s.held (wordOf data 2) = true →
    ∃ t : State, exec (.pieceDone data true) s = .next t ∧ t.reports updPg stOk 2 ∧
      t.rd updPg PAGE_RESULT_DETAIL = (wordOf data 2 + 2 ^ 15) % 2 ^ 16 ∧ s.regsBut t (cmdKeys updPg) ∧
      t = { s with moments := t.moments, regs := t.regs, srcs := t.srcs }) ∧
  (∀ (s : State) (data : List Byte) (ok : Bool) (st : Nat), s.faults = [] → s.down = false → s.stalled = false →
    s.runningCode updPg = some 2 → data.length = 4160 →
    st = (if wordOf data 0 ≠ 0x43505847 then 0x80
      else if s.rd updPg UPD_STAGE_STATE = stEmpty ∨ wordOf data 1 ≠ s.rd updPg UPD_TAG_TAG then 0x81
      else if wordOf data 3 ≠ s.rd updPg UPD_COUNT_N ∨ s.rd updPg UPD_COUNT_N ≤ wordOf data 2 then 0x82
      else if ok = false then 0x83 else 0) → st ≠ 0 →
    ∃ u : State, exec (.pieceDone data ok) s = .next u.done ∧ u.reports updPg st 2 ∧ u.faults = [⟨54, .dev⟩] ∧
      u.mram = s.mram ∧ s.regsBut u (fieldKey updPg PAGE_ERRSRC_SRC 0 :: cmdKeys updPg) ∧
      u = { s with regs := u.regs, srcs := u.srcs, freeCtr := u.freeCtr, faults := u.faults })

/-- VERIFY, VERIFY_DONE, ACTIVATE and REVERIFY_DONE (R440, R442): a staged image that passes is VERIFIED and shows its manifest; one
that fails falls back to COMPLETE, one that is not whole fails as not complete; ACTIVATE of a VERIFIED image runs, or in LOADER writes the
journal and restarts the device; its checks begin the port drain, which is over at once where no port is in a bus mode, or end it. -/
def Obligations.VerifyAndActivateFollowTheChecks : Prop :=
  (∀ (s : State) (pp : PPort), s.opens pp updPg → s.stalled = false → s.updOk = true →
    ∃ t : State, exec (.verify pp) s = .next t ∧ t.rd updPg PAGE_STAT_BUSY = 1 ∧ t.rd updPg PAGE_RESULT_STATUS = stRunning ∧
      s.regsBut t (fieldKey updPg UPD_PROGRESS_DONE 0 :: fieldKey updPg UPD_PROGRESS_TOTAL 0 :: cmdKeys updPg) ∧
      t = { s with moments := t.moments, regs := t.regs, freeCtr := t.freeCtr }) ∧
  (∀ (s : State) (a b : Bool), s.faults = [] → s.down = false → s.stalled = false → s.runningCode updPg = some 3 → s.stagedWhole = true →
    s.checkStaged a b = 0 →
    ∃ t : State, exec (.verifyDone a b) s = .next t ∧ t.reports updPg stOk 3 ∧ t.rd updPg UPD_STAGE_STATE = stVerified ∧
      t.rd updPg UPD_MF_FW_FW = s.mfFw stageBase % 2 ^ 32 ∧ t.rd updPg UPD_MF_INFO_SCHEMA = s.mfSchema stageBase ∧
      t.rd updPg UPD_MF_INFO_MIN_ROLLBACK = s.mfRollback stageBase ∧ t.rd updPg UPD_MF_INFO_KEYID = s.mfKey stageBase ∧
      t = { s with moments := t.moments, regs := t.regs, srcs := t.srcs, freeCtr := t.freeCtr }) ∧
  (∀ (s : State) (a b : Bool), s.faults = [] → s.down = false → s.stalled = false → s.runningCode updPg = some 3 → s.stagedWhole = true →
    s.checkStaged a b ≠ 0 →
    ∃ u : State, exec (.verifyDone a b) s = .next u.done ∧ u.reports updPg (s.checkStaged a b) 3 ∧ u.faults = [⟨54, .dev⟩] ∧
      u.rd updPg UPD_STAGE_STATE = (if s.rd updPg UPD_STAGE_STATE = stVerified then stComplete else s.rd updPg UPD_STAGE_STATE) ∧
      u = { s with regs := u.regs, srcs := u.srcs, freeCtr := u.freeCtr, faults := u.faults }) ∧
  (∀ (s : State) (a b : Bool), s.faults = [] → s.down = false → s.stalled = false → s.runningCode updPg = some 3 → s.stagedWhole = false →
    ∃ u : State, exec (.verifyDone a b) s = .next u.done ∧ u.reports updPg 0x84 3 ∧ u.faults = [⟨54, .dev⟩] ∧
      u.rd updPg UPD_STAGE_STATE = s.rd updPg UPD_STAGE_STATE ∧
      u = { s with regs := u.regs, srcs := u.srcs, freeCtr := u.freeCtr, faults := u.faults }) ∧
  (∀ (s : State) (pp : PPort), s.opens pp updPg → s.stalled = false → s.mode = .loader → s.chip.aonDown = false →
    s.rd updPg UPD_STAGE_STATE = stVerified →
    ∃ t : State, exec (.activate pp) s = .next t ∧ t.inReset = true ∧ t.mode = .loader ∧ t.rd updPg UPD_JOURNAL_PHASE = 1 ∧
      t.rd updPg UPD_JOURNAL_PART = 0 ∧ t.rd updPg UPD_JOURNAL_CHUNK = 0 ∧ t.rd aonPg AON_RST_CAUSE_CAUSE = RstCause.update.code ∧
      t.mram = s.mram ∧ t.fuses = s.fuses) ∧
  (∀ (s : State) (pp : PPort), s.opens pp updPg → s.stalled = false → s.activateOk = true → s.mode ≠ .loader →
    s.rd updPg UPD_STAGE_STATE = stVerified →
    ∃ t : State, exec (.activate pp) s = .next t ∧ t.rd updPg PAGE_STAT_BUSY = 1 ∧
      t.rd updPg PAGE_RESULT_STATUS = stRunning ∧
      s.regsBut t (fieldKey updPg UPD_PROGRESS_DONE 0 :: fieldKey updPg UPD_PROGRESS_TOTAL 0 :: cmdKeys updPg) ∧
      t = { s with moments := t.moments, regs := t.regs, freeCtr := t.freeCtr }) ∧
  (∀ (s : State) (pp : PPort), s.opens pp updPg → s.stalled = false → s.activateOk = true → s.rd updPg UPD_STAGE_STATE ≠ stVerified →
    ∃ t : State, exec (.activate pp) s = .next t ∧ t.reports updPg 0x8B 4 ∧ s.regsBut t (cmdKeys updPg) ∧
      t = { s with moments := t.moments, regs := t.regs, srcs := t.srcs, freeCtr := t.freeCtr }) ∧
  (∀ (s : State), s.faults = [] → s.down = false → s.stalled = false → s.runningCode updPg = some 4 → s.moving = none → s.activateOk = true →
    s.portsSettled = true → (∀ n < 128, s.pmode n < 2) → s.checkStaged true true = 0 →
    ∃ u : State, exec (.reverifyDone true) s = .next u.done ∧ u.mode = .update ∧ u.rd updPg UPD_JOURNAL_PHASE = 1 ∧
      u.rd updPg UPD_JOURNAL_PART = 0 ∧ u.rd updPg UPD_JOURNAL_CHUNK = 0 ∧ u.mram = s.mram) ∧
  (∀ (s : State), s.faults = [] → s.down = false → s.stalled = false → s.runningCode updPg = some 4 → s.moving = none → s.mode = .run →
    (∀ n < 128, (s.port n).move = none ∧ (s.port n).moveNext = none) → s.rd devPg DEV_CLUSTERS_FENCED = 0 →
    (∃ n < 128, busMode (s.pmode n) = true) → s.checkStaged true true = 0 →
    ∃ t : State, exec (.reverifyDone true) s = .next t ∧ t.moving = some .toUpdate ∧ t.mode = .run ∧ t.rd devPg DEV_MODE_MOVING = 1 ∧
      t.rd updPg PAGE_STAT_BUSY = 1 ∧ t.rd updPg UPD_PROGRESS_TOTAL = s.mfChunks stageBase % 2 ^ 12 ∧
      ∀ n < 128, busMode (s.pmode n) = true → (t.port n).move = some (.drain pmConfig false)) ∧
  (∀ (s : State), s.faults = [] → s.down = false → s.stalled = false → s.runningCode updPg = some 4 → s.moving = none → s.activateOk = true →
    s.checkStaged false false ≠ 0 →
    ∃ u : State, exec (.reverifyDone false) s = .next u.done ∧ u.reports updPg (s.checkStaged false false) 4 ∧
      u.faults = [⟨54, .dev⟩] ∧ u.mode = s.mode ∧
      u = { s with regs := u.regs, srcs := u.srcs, freeCtr := u.freeCtr, faults := u.faults })

/-- SET_SAVE, SET_SAVE_DONE, SET_LOAD and SET_ERASE (R447, R450): SET_SAVE takes a good image of the store and leaves the page BUSY
until the slot that is not current holds it, and turns away arguments out of range, a bad image and another schema; SET_LOAD begins to apply
the current image, and is over at once where there is none; SET_ERASE invalidates both slots.

SETTINGS_LOAD_DONE (R449, R451, R453): the records are applied in order as writes and commands from the primary partner port: a REG
record writes a register, here an argument of any page; a TABLE record writes table words, here of a filter list; a STORE record writes
the store; a CMD record issues a command, here SET_OWNER. After the last record the load is shown as done, and after a boot the device goes
on to RUN where strap and image say so. A write to a BUSY page waits; a record whose write is refused, or whose command ends with another
STATUS than OK, ends the load as failed. -/
def Obligations.SettingsAreSavedErasedAndApplied : Prop :=
  (∀ (s : State) (pp : PPort) (a n : Nat), s.opens pp updPg → s.stalled = false → s.mode = .configure → a = s.arg0 updPg → n = s.arg1 updPg →
    a % 64 = 0 → lengthOk n = true → a + n ≤ 0x4000000 → s.badRead a n [] = false → imageFault (s.mbs a n) = none →
    wordOf (s.mbs a n) 1 % 2 ^ 16 = s.rd updPg UPD_RUN_INFO_SCHEMA →
    ∃ t : State, exec (.setSave pp) s = .next t ∧ t.saving = s.mbs a n ∧ t.rd updPg PAGE_STAT_BUSY = 1 ∧
      t.rd updPg PAGE_RESULT_STATUS = stRunning ∧ s.regsBut t (cmdKeys updPg) ∧
      t = { s with moments := t.moments, regs := t.regs, saving := t.saving }) ∧
  (∀ (s : State) (pp : PPort) (a n k : Nat), s.opens pp updPg → s.stalled = false → s.mode = .configure → a = s.arg0 updPg → n = s.arg1 updPg →
    a % 64 = 0 → lengthOk n = true → a + n ≤ 0x4000000 → s.badRead a n [] = false → imageFault (s.mbs a n) = some k →
    ∃ t : State, exec (.setSave pp) s = .next t ∧ t.reports updPg 0x8C 6 ∧ t.rd updPg PAGE_RESULT_DETAIL = k % 2 ^ 16 ∧
      s.regsBut t (cmdKeys updPg) ∧ t = { s with moments := t.moments, regs := t.regs, srcs := t.srcs }) ∧
  (∀ (s : State) (pp : PPort) (a n : Nat), s.opens pp updPg → s.stalled = false → s.mode = .configure → a = s.arg0 updPg →
    n = s.arg1 updPg → (a % 64 ≠ 0 ∨ lengthOk n = false ∨ 0x4000000 < a + n) →
    ∃ t : State, exec (.setSave pp) s = .next t ∧ t.reports updPg stBadArg 6 ∧ s.regsBut t (cmdKeys updPg) ∧
      t = { s with moments := t.moments, regs := t.regs, srcs := t.srcs, freeCtr := t.freeCtr }) ∧
  (∀ (s : State) (pp : PPort) (a n : Nat), s.opens pp updPg → s.stalled = false → s.mode = .configure → a = s.arg0 updPg →
    n = s.arg1 updPg → a % 64 = 0 → lengthOk n = true → a + n ≤ 0x4000000 → s.badRead a n [] = false → imageFault (s.mbs a n) = none →
    wordOf (s.mbs a n) 1 % 2 ^ 16 ≠ s.rd updPg UPD_RUN_INFO_SCHEMA →
    ∃ t : State, exec (.setSave pp) s = .next t ∧ t.reports updPg 0x8D 6 ∧ s.regsBut t (cmdKeys updPg) ∧
      t = { s with moments := t.moments, regs := t.regs, srcs := t.srcs, freeCtr := t.freeCtr }) ∧
  (∀ (s : State) (j : Nat), s.faults = [] → s.down = false → s.stalled = false → s.runningCode updPg = some 6 → 64 ≤ s.saving.length →
    s.saving.length ≤ 0x40000 → j = s.saveSlot.1 →
    ∃ u : State, exec .setSaveDone s = .next u.done ∧ j < 2 ∧ (∀ i, s.currentSlot = some i → j = 1 - i) ∧
      u.reports updPg stOk 6 ∧ u.rd updPg PAGE_RESULT_DETAIL = s.saveGen % 2 ^ 16 ∧ u.saving = [] ∧
      u.mramWord (slotBase j + 12) = s.saveGen ∧
      (∀ k < s.saving.length, (k < 12 ∨ 16 ≤ k) → u.mramByte (slotBase j + k) = (s.saving.getD k 0).toNat) ∧
      (∀ x, (x < slotBase j ∨ slotBase j + 0x40000 ≤ x) → u.mramByte x = s.mramByte x)) ∧
  (∀ (s : State) (pp : PPort), s.opens pp updPg → s.stalled = false → s.mode = .configure → s.currentSlot = none →
    ∃ t : State, exec (.setLoad pp) s = .next t ∧ t.reports updPg stOk 7 ∧ s.regsBut t (cmdKeys updPg) ∧
      t = { s with moments := t.moments, regs := t.regs, srcs := t.srcs, freeCtr := t.freeCtr }) ∧
  (∀ (s : State) (pp : PPort) (i : Nat), s.opens pp updPg → s.stalled = false → s.mode = .configure → s.currentSlot = some i →
    s.mramWord (slotBase i + 4) % 2 ^ 16 = s.rd updPg UPD_RUN_INFO_SCHEMA →
    ∃ t : State, exec (.setLoad pp) s = .next t ∧ t.rd updPg PAGE_STAT_BUSY = 1 ∧
      t.rd updPg PAGE_RESULT_STATUS = stRunning ∧ (t.load.map SetLoad.boot) = some false ∧
      (t.load.map SetLoad.record) = some 0 ∧ s.regsBut t (cmdKeys updPg) ∧ t = { s with moments := t.moments, regs := t.regs, load := t.load }) ∧
  (∀ (s : State) (pp : PPort), s.opens pp updPg → s.stalled = false → s.eraseOk = true →
    ∃ t : State, exec (.setErase pp) s = .next t ∧ t.reports updPg stOk 8 ∧ t.currentSlot = none ∧
      t.rd updPg UPD_SET_STAT_VALID = 0 ∧ t.rd updPg UPD_SET_STAT_CORRUPT = 0 ∧
      (∀ x, (x < slotBase 0 ∨ slotBase 2 ≤ x) → t.mramByte x = s.mramByte x) ∧
      t = { s with moments := t.moments, regs := t.regs, srcs := t.srcs, freeCtr := t.freeCtr, mram := t.mram, mramBad := t.mramBad }) ∧
  (∀ (s : State) (ld : SetLoad) (p : Fin 640) (v : Nat), s.faults = [] → s.down = false → s.stalled = false → s.load = some ld → ld.boot = false → s.runningCode updPg = some 7 →
    ld.image.getD 6 0 = ld.record + 1 → ld.image.getD ld.at_ 0 = 0x100 * (ld.done + 1) + 1 → pageOk p = true →
    ld.image.getD (ld.at_ + (2 + 2 * ld.done)) 0 = p.val * 4096 + 0x00C → ld.image.getD (ld.at_ + (3 + 2 * ld.done)) 0 = v → v < 2 ^ 32 →
    s.gate (s.rd crpPg CRP_STRAP_PRIMPP) p = none →
    ∃ t : State, exec .settingsLoadDone s = .next t ∧ t.rd p PAGE_ARG0_ARG0 = v ∧ t.rd updPg UPD_SET_STAT_LOADED = 1 ∧
      t.reports updPg stOk 7 ∧ t.load = none ∧
      s.regsBut t (fieldKey p PAGE_ARG0_ARG0 0 :: fieldKey updPg UPD_SET_STAT_LOADED 0 :: cmdKeys updPg) ∧
      t = { s with moments := t.moments, regs := t.regs, load := none, srcs := t.srcs, freeCtr := t.freeCtr }) ∧
  (∀ (s : State) (ld : SetLoad) (c : Cl) (a n : Nat), s.faults = [] → s.down = false → s.stalled = false → s.load = some ld → ld.boot = false → s.runningCode updPg = some 7 →
    ld.image.getD 6 0 = ld.record + 1 → ld.done = 0 → 1 ≤ n → ld.image.getD ld.at_ 0 = 0x100 * n + 2 → ld.image.getD (ld.at_ + 1) 0 = a →
    a % 4 = 0 → filterBase c ≤ a → a + 4 * n ≤ filterBase (c + 1) → s.ueWords = [] → s.poison = [] →
    s.gate (s.rd crpPg CRP_STRAP_PRIMPP) (clPg c) = none →
    ∃ t : State, exec .settingsLoadDone s = .next t ∧
      (∀ i < n, t.mw (a + 4 * i) = ld.image.getD (ld.at_ + (2 + i)) 0 &&& (Region.filters c).writable ((a + 4 * i) % 16 / 4)) ∧
      s.memBut t a (4 * n) ∧ t.rd updPg UPD_SET_STAT_LOADED = 1 ∧ t.reports updPg stOk 7 ∧ t.load = none) ∧
  (∀ (s : State) (ld : SetLoad) (c : Cl) (a n : Nat), s.faults = [] → s.down = false → s.stalled = false → s.load = some ld → ld.boot = false → s.runningCode updPg = some 7 →
    ld.image.getD 6 0 = ld.record + 1 → ld.done = 0 → 1 ≤ n → ld.image.getD ld.at_ 0 = 0x100 * n + 3 → ld.image.getD (ld.at_ + 1) 0 = a →
    a % 64 = 0 → sliceBase c ≤ a → a + 4 * n ≤ sliceBase (c + 1) → s.ueWords = [] → s.poison = [] →
    s.heldIn a ((4 * n + 63) / 64 * 64) = false → s.gate (s.rd crpPg CRP_STRAP_PRIMPP) (clPg c) = none →
    ∃ t : State, exec .settingsLoadDone s = .next t ∧
      (∀ i < n, t.mw (a + 4 * i) = ld.image.getD (ld.at_ + (2 + i)) 0 % 2 ^ 32) ∧
      s.memBut t a (4 * n) ∧ t.rd updPg UPD_SET_STAT_LOADED = 1 ∧ t.reports updPg stOk 7 ∧ t.load = none) ∧
  (∀ (s : State) (ld : SetLoad) (first last owner : Nat), s.faults = [] → s.down = false → s.stalled = false → s.load = some ld → ld.boot = false → s.runningCode updPg = some 7 →
    ld.image.getD 6 0 = ld.record + 1 → ld.done = 0 → ld.image.getD ld.at_ 0 = 0x304 → ld.image.getD (ld.at_ + 1) 0 = 0 →
    ld.image.getD (ld.at_ + 2) 0 = 2 → ld.image.getD (ld.at_ + 3) 0 = first + 2 ^ 16 * last → ld.image.getD (ld.at_ + 4) 0 = owner →
    first ≤ last → last ≤ 0x27F → owner < 4 → s.gate (s.rd crpPg CRP_STRAP_PRIMPP) devPg = none →
    ∃ t : State, exec .settingsLoadDone s = .next t ∧
      (∀ q, first ≤ q → q ≤ last → (pageAt q).isSome = true → (pageAt q).bind Page.fixedOwner = none → t.owner q = owner) ∧
      (∀ q, (q < first ∨ last < q) → t.owner q = s.owner q) ∧ t.reports devPg stOk 2 ∧
      t.rd updPg UPD_SET_STAT_LOADED = 1 ∧ t.reports updPg stOk 7 ∧ t.load = none) ∧
  (∀ (s : State) (ld : SetLoad) (p : Fin 640), s.faults = [] → s.down = false → s.stalled = false → s.load = some ld → ld.record < ld.image.getD 6 0 →
    ld.image.getD ld.at_ 0 % 256 = 1 → ld.done < ld.image.getD ld.at_ 0 / 256 → pageOk p = true →
    ld.image.getD (ld.at_ + (2 + 2 * ld.done)) 0 / 4096 = p.val → s.flag p PAGE_STAT_BUSY = true →
    exec .settingsLoadDone s = .next ({ s with load := some { ld with wait := some p.val } }).noteMoment) ∧
  (∀ (s : State) (ld : SetLoad) (p : Fin 640) (c : RefCause), s.faults = [] → s.down = false → s.stalled = false → s.load = some ld → ld.boot = false → s.runningCode updPg = some 7 →
    ld.record < ld.image.getD 6 0 → ld.image.getD ld.at_ 0 % 256 = 1 → ld.done < ld.image.getD ld.at_ 0 / 256 → pageOk p = true →
    p.val ≠ updPg → ld.image.getD (ld.at_ + (2 + 2 * ld.done)) 0 = p.val * 4096 + 0x00C → s.flag p PAGE_STAT_BUSY = false →
    s.gate (s.rd crpPg CRP_STRAP_PRIMPP) p = some c →
    ∃ u : State, exec .settingsLoadDone s = .next u.done ∧ u.rd updPg UPD_SET_STAT_FAILED = 1 ∧
      u.rd updPg UPD_SET_FAIL_RECORD = ld.record % 2 ^ UPD_SET_FAIL_RECORD.w ∧ u.rd updPg UPD_SET_FAIL_STATUS = 0 ∧
      u.rd updPg UPD_SET_FAIL_REFCAUSE = c.code ∧ u.reports updPg stFault 7 ∧ u.load = none ∧ u.faults = [⟨54, .dev⟩]) ∧
  (∀ (s : State) (ld : SetLoad) (p : Fin 640) (st : Nat), s.faults = [] → s.down = false → s.stalled = false → s.load = some ld → ld.boot = false → s.runningCode updPg = some 7 →
    ld.record < ld.image.getD 6 0 → ld.image.getD ld.at_ 0 = 0x304 → ld.done = 1 → ld.image.getD (ld.at_ + 1) 0 = p.val * 4096 →
    pageOk p = true → p.val ≠ updPg → s.flag p PAGE_STAT_BUSY = false → st = s.rd p PAGE_RESULT_STATUS → st ≠ stOk →
    ∃ u : State, exec .settingsLoadDone s = .next u.done ∧ u.rd updPg UPD_SET_STAT_FAILED = 1 ∧
      u.rd updPg UPD_SET_FAIL_RECORD = ld.record % 2 ^ UPD_SET_FAIL_RECORD.w ∧
      u.rd updPg UPD_SET_FAIL_STATUS = st % 2 ^ UPD_SET_FAIL_STATUS.w ∧ u.reports updPg stFault 7 ∧ u.load = none ∧
      u.faults = [⟨54, .dev⟩]) ∧
  (∀ (s : State) (ld : SetLoad), s.faults = [] → s.down = false → s.stalled = false → s.load = some ld → ld.boot = true → ld.image.getD 6 0 ≤ ld.record →
    (s.flag crpPg CRP_STRAP_AUTOSTART = false ∨ (ld.image.getD 1 0).testBit 16 = false) →
    ∃ t : State, exec .settingsLoadDone s = .next t ∧ t.rd updPg UPD_SET_STAT_LOADED = 1 ∧
      t.rd updPg PAGE_IRQ_PEND_PEND = (s.rd updPg PAGE_IRQ_PEND_PEND ||| 8) % 2 ^ 16 ∧ t.bootGen = s.rd updPg UPD_SET_GEN_GEN ∧
      s.regsBut t [fieldKey updPg UPD_SET_STAT_LOADED 0, fieldKey updPg PAGE_IRQ_PEND_PEND 0] ∧
      t = { s with moments := t.moments, regs := t.regs, load := none, srcs := t.srcs, bootGen := t.bootGen }) ∧
  (∀ (s : State) (ld : SetLoad), s.faults = [] → s.down = false → s.stalled = false → s.load = some ld → ld.boot = true → ld.image.getD 6 0 ≤ ld.record → s.mode = .configure → s.moving = none →
    s.flag crpPg CRP_STRAP_AUTOSTART = true → (ld.image.getD 1 0).testBit 16 = true → s.portsSettled = true →
    (∀ n < 128, s.rd (portPg n) PORT_MODE_CFG < 2) →
    ∃ u : State, exec .settingsLoadDone s = .next u.done ∧ u.mode = .run ∧ u.prev = .configure ∧ u.moving = none ∧
      u.rd updPg UPD_SET_STAT_LOADED = 1 ∧ u.rd updPg UPD_SET_STAT_AUTORUN = 1 ∧ u.load = none)

/-- MRAM_REFRESH_CHECK (R434, R464): a word without an error changes nothing, a corrected one is counted and is an event; an
uncorrectable word of the code is an event for line 46, one of a held piece drops the piece; the last word ends a pass.

SCRUB_ACCESS and WRITE_BACK (R23, R391, R392): a corrected word is one event for line 40 and is written back by the pass; an
uncorrectable word of a free block is written with zeros and is one event for line 8 + c; a queued word leaves the queue; where the scrubber of the
slice does not run, nothing happens. -/
def Obligations.MramAndStoreAreChecked : Prop :=
  (∀ (s : State) (a : BitVec 24), s.faults = [] → s.refreshes = true → a.toNat < 0xC8FFF8 →
    ∃ u : State, exec (.mramRefreshCheck a (some .corrected)) s = .next u.done ∧ u.faults = [⟨47, .dev⟩] ∧
      u.rd updPg UPD_MRAM_REWRITES = (s.rd updPg UPD_MRAM_REWRITES + 1) % 2 ^ 16 ∧
      s.regsBut u [fieldKey updPg UPD_MRAM_REWRITES 0] ∧ u = { s with regs := u.regs, tel := u.tel, faults := u.faults }) ∧
  (∀ (s : State) (a : BitVec 24), s.faults = [] → s.refreshes = true → a.toNat < 0xC8FFF8 →
    exec (.mramRefreshCheck a none) s = .next s.noteMoment) ∧
  (∀ (s : State) (a : BitVec 24), s.faults = [] → s.refreshes = true → a.toNat < 0x600000 →
    ∃ u : State, exec (.mramRefreshCheck a (some .uncorrectable)) s = .next u.done ∧ u.faults = [⟨46, .dev⟩] ∧
      u.mramBroken (a.toNat / 8 * 8) 8 = true ∧ u = { s with mramBad := u.mramBad, faults := u.faults }) ∧
  (∀ (s : State) (a : BitVec 24) (i : Nat), s.faults = [] → s.refreshes = true → stageBase ≤ a.toNat → a.toNat < 0xC00000 →
    i = (a.toNat - stageBase) / 4096 → s.held i = true →
    ∃ u : State, exec (.mramRefreshCheck a (some .uncorrectable)) s = .next u.done ∧ u.faults = [⟨47, .dev⟩] ∧
      u.held i = false ∧ (∀ j < 1536, j ≠ i → u.held j = s.held j) ∧ u.rd updPg UPD_STAGE_STATE = stReceiving ∧
      u.mramBroken (a.toNat / 8 * 8) 8 = true ∧ u.mram = s.mram) ∧
  (∀ (s : State) (a : BitVec 24), s.faults = [] → s.refreshes = true → 0xC8FFF8 ≤ a.toNat → a.toNat < 0xC90000 →
    ∃ t : State, exec (.mramRefreshCheck a none) s = .next t ∧
      t.rd updPg UPD_MRAM_PASSES = (s.rd updPg UPD_MRAM_PASSES + 1) % 2 ^ 16 ∧
      s.regsBut t [fieldKey updPg UPD_MRAM_PASSES 0] ∧ t = { s with moments := t.moments, regs := t.regs }) ∧
  (∀ (s : State) (a : BitVec 27), s.faults = [] → s.down = false →
    (s.mode = .configure ∨ s.mode = .run ∨ s.mode = .degraded ∨ s.mode = .safe ∨ s.mode = .update) →
    a.toNat < 0x4000000 → a.toNat % 32 = 0 → s.fencedCl (a.toNat / 0x800000) = false →
    (exec (.scrubAccess a none) s =
      .next (if a.toNat / 32 % 0x40000 = 0x3FFFF then s.tallyCl (a.toNat / 0x800000) 0x3A else s).noteMoment) ∧
    (s.wbq.contains a.toNat = false →
      ∃ u : State, exec (.scrubAccess a (some .corrected)) s = .next u.done ∧ u.faults = [⟨40, .dev⟩] ∧
        (∀ w, w ∈ u.wbq ↔ w ∈ s.wbq) ∧ u = { s with tel := u.tel, wbq := u.wbq, faults := u.faults }) ∧
    (s.blocks = [] → s.ueWords.contains a.toNat = false → s.poison.contains a.toNat = false →
      s.inBufArea (a.toNat / 0x800000) (a.toNat % 0x800000 / 0x10000) = false →
      s.inSoft (a.toNat / 0x800000) (a.toNat % 0x800000 / 0x10000) = false →
      ∃ u : State, exec (.scrubAccess a (some .uncorrectable)) s = .next u.done ∧
        u.faults = [⟨8 + a.toNat / 0x800000, .cl (a.toNat / 0x800000)⟩] ∧ (∀ i < 32, u.mb (a.toNat + i) = 0) ∧
        s.memBut u a.toNat 32 ∧
        u = { s with mem := u.mem, undef := u.undef, tel := u.tel, ueWords := u.ueWords, poison := u.poison, faults := u.faults })) ∧
  (∀ (s : State) (a : BitVec 27) (find : Option Find) (c : Cl) (r : Instr), s.faults = [] →
    ((r = .scrubAccess a find ∧ (s.scrubs (a.toNat / 0x800000) = false ∨ 0x4000000 ≤ a.toNat)) ∨
      (r = .writeBack c ∧ (s.scrubs c = false ∨ ∀ w ∈ s.wbq, eccCluster w ≠ c.val))) → exec r s = .next s.noteMoment) ∧
  (∀ (s : State) (c : Cl) (w : Nat), s.faults = [] → s.scrubs c = true → (s.wbq.find? fun w => eccCluster w == c.val) = some w →
    ∃ t : State, exec (.writeBack c) s = .next t ∧ (∀ x, x ∈ t.wbq ↔ x ∈ s.wbq ∧ x ≠ w) ∧ t = { s with moments := t.moments, wbq := t.wbq })

/-! ### Partner links and requests -/

/-- LINK_DOWN, FUNCTION_LEVEL_RESET and HOT_RESET (R43, R44, R64, R292, R369), and PERST_ASSERT of a port that is not the primary one (R405):
the function's PCI Express state is reset but for what such a reset keeps, channels of the port with reads outstanding halt, and one event
reaches the port's link line; a link that is down shows so in its registers and is logged.

LINK_UP (R64, R67) and CONFIGURATION_WRITE (R31, R34, R42, R43, R64, R299): the link's registers, and the fields of the function that the
write names; the others stay. The width of a link is 2^`width`; L0p takes a width of 2 to that width in RUN and DEGRADED; a link that is up
takes a power state, and L1 with D3hot; a base address register keeps the bits of its window; AER status bits are cleared by 1. -/
def Obligations.LinkEventsAndConfigurationTakeEffect : Prop :=
  (∀ (s : State) (pp : PPort) (down : Bool) (r : Instr), s.faults = [] → s.down = false →
    ((r = .linkDown pp ∧ down = true) ∨ (r = .functionLevelReset pp ∧ down = false) ∨ (r = .hotReset pp ∧ down = false) ∨
      (r = .perstAssert pp ∧ down = true ∧ pp.val ≠ s.chip.primary)) →
    ∃ u : State, exec r s = .next u.done ∧ ⟨32 + pp.val, .dev⟩ ∈ u.faults ∧
      u.pp pp = { vec8 := (u.pp pp).vec8, syncCount := (s.pp pp).syncCount, moonWake := (s.pp pp).moonWake
                  perst := (s.pp pp).perst && !decide (r = .perstAssert pp)
                  aerStatus := if down then (s.pp pp).aerStatus ||| 2 ^ 5 else (s.pp pp).aerStatus } ∧
      (u.rd (ppPg pp) PAGE_IRQ_PEND_PEND).testBit (if down then 2 else 4) = true ∧
      (down = true → u.rd (ppPg pp) PP_LINK_SPEED = 0 ∧ u.rd (ppPg pp) PP_LINK_FLIT = 0 ∧ u.rd (ppPg pp) PP_LINK_WIDTH = 0 ∧
        u.rd (ppPg pp) PP_LINK_L0P_WIDTH = 0 ∧ u.rd (ppPg pp) PP_LINK_PM = 0 ∧ u.linkUp pp = false) ∧
      (∀ m : Chan, (s.chan m).cfg.map (·.pp) = some pp.val → (s.chan m).mode = .enabled → (s.chan m).outst ≠ [] →
        (u.chan m).mode = .halted ∧ (u.chan m).outst = [] ∧ u.rd (movPg m) MOV_STATE_CAUSE = 5) ∧
      (∀ x, s.snap = some x → x.pp = pp.val → u.snap = none) ∧ u.owners = s.owners ∧ u.mode = s.mode ∧ s.sameMem u) ∧
  (∀ (s : State) (pp : PPort) (speed : Fin 7) (flit : Bool) (width : Fin 4), s.faults = [] → s.down = false → speed.val ≠ 0 →
    ∃ t : State, exec (.linkUp pp speed flit width) s = .next t ∧ t.rd (ppPg pp) PP_LINK_SPEED = speed.val ∧
      t.flag (ppPg pp) PP_LINK_FLIT = flit ∧ t.rd (ppPg pp) PP_LINK_WIDTH = 2 ^ width.val ∧
      t.rd (ppPg pp) PP_LINK_L0P_WIDTH = 2 ^ width.val ∧ t.rd (ppPg pp) PP_LINK_PM = 0 ∧
      t.pp pp = { s.pp pp with moonWake := false, perst := true, vec8 := (t.pp pp).vec8 } ∧
      (t.rd (ppPg pp) PAGE_IRQ_PEND_PEND).testBit 2 = true ∧ (∀ n, n ≠ pp.val → t.pp n = s.pp n) ∧
      s.regsBut t [fieldKey (ppPg pp) PP_LINK_SPEED 0, fieldKey (ppPg pp) PP_LINK_FLIT 0, fieldKey (ppPg pp) PP_LINK_WIDTH 0,
        fieldKey (ppPg pp) PP_LINK_L0P_WIDTH 0, fieldKey (ppPg pp) PP_LINK_PM 0, fieldKey (ppPg pp) PAGE_IRQ_PEND_PEND 0] ∧
      t = { s with moments := t.moments, regs := t.regs, srcs := t.srcs, pps := t.pps }) ∧
  (∀ (s : State) (pp : PPort) (en fmask : Bool), s.faults = [] → s.down = false →
    ∃ t : State, exec (.configurationWrite pp (.msix en fmask)) s = .next t ∧
      t.pp pp = { s.pp pp with msixEn := en, fmask := fmask } ∧ (∀ n, n ≠ pp.val → t.pp n = s.pp n) ∧
      t = { s with moments := t.moments, pps := t.pps }) ∧
  (∀ (s : State) (pp : PPort) (ro ns : Bool) (mps : Fin 3) (mrrs : Fin 6), s.faults = [] → s.down = false →
    ∃ t : State, exec (.configurationWrite pp (.devCtl ro ns mps mrrs)) s = .next t ∧
      t.pp pp = { s.pp pp with ro := ro, noSnoop := ns, mps := 128 * 2 ^ mps.val, mrrs := 128 * 2 ^ mrrs.val } ∧
      (∀ n, n ≠ pp.val → t.pp n = s.pp n) ∧ t = { s with moments := t.moments, pps := t.pps }) ∧
  (∀ (s : State) (pp : PPort), s.faults = [] → s.down = false →
    ∃ t : State, exec (.configurationWrite pp (.bme true)) s = .next t ∧ t.pp pp = { s.pp pp with bme := true } ∧
      (∀ n, n ≠ pp.val → t.pp n = s.pp n) ∧ t = { s with moments := t.moments, pps := t.pps }) ∧
  (∀ (s : State) (pp : PPort) (w : CfgWrite), s.faults = [] → s.down = false → (w = .bme false ∨ w = .power true) →
    ∃ u : State, exec (.configurationWrite pp w) s = .next u.done ∧ (u.pp pp).bme = (if w = .bme false then false else (s.pp pp).bme) ∧
      (u.pp pp).d3 = (if w = .power true then true else (s.pp pp).d3) ∧ (u.pp pp).msixEn = (s.pp pp).msixEn ∧ u.serves pp = false ∧
      (w = .power true → s.linkUp pp = true → u.rd (ppPg pp) PP_LINK_PM = 1) ∧
      (∀ m : Chan, (s.chan m).cfg.map (·.pp) = some pp.val → (s.chan m).mode = .enabled → (s.chan m).outst ≠ [] →
        (u.chan m).mode = .halted ∧ (u.chan m).outst = [] ∧ u.rd (movPg m) MOV_STATE_CAUSE = 5)) ∧
  (∀ (s : State) (pp : PPort), s.faults = [] → s.down = false →
    ∃ t : State, exec (.configurationWrite pp (.power false)) s = .next t ∧ t.pp pp = { s.pp pp with d3 := false } ∧
      (s.linkUp pp = true → t.rd (ppPg pp) PP_LINK_PM = 0) ∧ (∀ n, n ≠ pp.val → t.pp n = s.pp n) ∧
      s.regsBut t [fieldKey (ppPg pp) PP_LINK_PM 0] ∧ t = { s with moments := t.moments, regs := t.regs, pps := t.pps }) ∧
  (∀ (s : State) (pp : PPort) (cto : Fin 16), s.faults = [] → s.down = false →
    ∃ t : State, exec (.configurationWrite pp (.devCtl2 cto)) s = .next t ∧ t.pp pp = { s.pp pp with cto := cto.val } ∧
      (∀ n, n ≠ pp.val → t.pp n = s.pp n) ∧ t = { s with moments := t.moments, pps := t.pps }) ∧
  (∀ (s : State) (pp : PPort) (width : Fin 4), s.faults = [] → s.down = false →
    ∃ t : State, exec (.configurationWrite pp (.l0p width)) s = .next t ∧
      t.rd (ppPg pp) PP_LINK_L0P_WIDTH =
        (if (s.mode = .run ∨ s.mode = .degraded) ∧ s.linkUp pp = true ∧ s.rd (ppPg pp) PP_LINK_PM = 0 ∧ 1 ≤ width.val ∧
            2 ^ width.val ≤ s.rd (ppPg pp) PP_LINK_WIDTH then 2 ^ width.val else s.rd (ppPg pp) PP_LINK_L0P_WIDTH) ∧
      s.regsBut t [fieldKey (ppPg pp) PP_LINK_L0P_WIDTH 0] ∧ t = { s with moments := t.moments, regs := t.regs }) ∧
  (∀ (s : State) (pp : PPort) (pm : Fin 4), s.faults = [] → s.down = false →
    ∃ t : State, exec (.configurationWrite pp (.linkPm pm)) s = .next t ∧
      t.rd (ppPg pp) PP_LINK_PM = (if s.linkUp pp = true then pm.val else s.rd (ppPg pp) PP_LINK_PM) ∧
      s.regsBut t [fieldKey (ppPg pp) PP_LINK_PM 0] ∧ t = { s with moments := t.moments, regs := t.regs }) ∧
  (∀ (s : State) (pp : PPort) (i : Fin 6) (v : Word), s.faults = [] → s.down = false →
    ∃ t : State, exec (.configurationWrite pp (.bar i v)) s = .next t ∧
      (t.pp pp).bar i = (if i.val = 0 then v.toNat / 2 ^ 22 * 2 ^ 22 + 4 else if i.val = 2 then v.toNat / 2 ^ 27 * 2 ^ 27 + 12
        else if i.val = 1 ∨ i.val = 3 then v.toNat else 0) ∧ (∀ k, k ≠ i.val → (t.pp pp).bar k = (s.pp pp).bar k) ∧
      t.pp pp = { s.pp pp with bars := (t.pp pp).bars } ∧ (∀ n, n ≠ pp.val → t.pp n = s.pp n) ∧
      t = { s with moments := t.moments, pps := t.pps }) ∧
  (∀ (s : State) (pp : PPort) (v : Word), s.faults = [] → s.down = false →
    ∃ t : State, exec (.configurationWrite pp (.aerClear v)) s = .next t ∧
      t.pp pp = { s.pp pp with aerStatus := clearBits (s.pp pp).aerStatus v.toNat } ∧ (∀ n, n ≠ pp.val → t.pp n = s.pp n) ∧
      t = { s with moments := t.moments, pps := t.pps })

/-- POISONED_WRITE and UNSUPPORTED_REQUEST (R31, R37, R40, R43, R64, R369): counted on the port's page and logged, with one event for its
line; an unsupported request latches its address, and a read gets UR. An access of BAR0 or BAR2 of wrong alignment or length, at no page, or to
a function in D3hot is an unsupported request at its bus address.

ERROR_COMPLETION and COMPLETION_TIMEOUT (R43, R292, R293, R437, R474): counted on the port's page, logged by its kind, with an event for the
port's line. Of a mover burst: the channel halts with the cause, the burst is latched, and the channel's BUS_ERR takes an event; a channel that
has halted keeps its cause and issues the burst again with the others; a burst whose data would be discarded is not issued again. Of a scan:
its first failing address is kept. Of a piece: PIECE ends with FAULT. -/
def Obligations.FailedRequestsAreReported : Prop :=
  (∀ (s : State) (pp : PPort), s.faults = [] → s.down = false →
    ∃ u : State, exec (.poisonedWrite pp) s = .next u.done ∧ u.faults = [⟨36 + pp.val, .dev⟩] ∧
      u.rd (ppPg pp) PP_ERR_POISON_COUNT = min (s.rd (ppPg pp) PP_ERR_POISON_COUNT + 1) (2 ^ PP_ERR_POISON_COUNT.w - 1) ∧
      u.pp pp = { s.pp pp with aerStatus := (s.pp pp).aerStatus ||| 2 ^ 12 } ∧ (∀ n, n ≠ pp.val → u.pp n = s.pp n) ∧
      s.regsBut u [fieldKey (ppPg pp) PP_ERR_POISON_COUNT 0] ∧
      u = { s with regs := u.regs, tel := u.tel, faults := u.faults, pps := u.pps }) ∧
  (∀ (s : State) (pp : PPort) (read : Bool) (addr : BitVec 64), s.faults = [] → s.down = false →
    ∃ u : State, exec (.unsupportedRequest pp read addr) s = .next u.done ∧ u.faults = [⟨36 + pp.val, .dev⟩] ∧
      u.rd (ppPg pp) PP_ERR_UR_COUNT = min (s.rd (ppPg pp) PP_ERR_UR_COUNT + 1) (2 ^ PP_ERR_UR_COUNT.w - 1) ∧
      u.rd (ppPg pp) PP_UR_ADDR_LO_ADDR + 2 ^ 32 * u.rd (ppPg pp) PP_UR_ADDR_HI_ADDR = addr.toNat ∧
      (u.rd (ppPg pp) PAGE_IRQ_PEND_PEND).testBit 5 = true ∧ (u.pp pp).aerStatus = (s.pp pp).aerStatus ||| 2 ^ 20 ∧
      u.out = (if read = true then [Out.ur pp addr.toNat] else []) ++ s.out ∧
      s.regsBut u [fieldKey (ppPg pp) PP_ERR_UR_COUNT 0, fieldKey (ppPg pp) PP_UR_ADDR_LO_ADDR 0,
        fieldKey (ppPg pp) PP_UR_ADDR_HI_ADDR 0, fieldKey (ppPg pp) PAGE_IRQ_PEND_PEND 0] ∧
      u = { s with regs := u.regs, tel := u.tel, faults := u.faults, srcs := u.srcs, pps := u.pps, out := u.out }) ∧
  (∀ (s : State) (pp : PPort) (off : BitVec 22) (wide : Bool) (val : BitVec 64), s.down = false →
    ((s.pp pp).d3 = true ∨ barOk off.toNat wide = false) →
    exec (.registerWrite pp off wide val) s = exec (.unsupportedRequest pp false (BitVec.ofNat 64 (s.barAddr pp 0 off.toNat))) s ∧
      exec (.rcRead pp off wide) s = exec (.unsupportedRequest pp true (BitVec.ofNat 64 (s.barAddr pp 0 off.toNat))) s) ∧
  (∀ (s : State) (pp : PPort) (off : BitVec 27) (len : Nat) (finds : List (Nat × Find)) (words : List Word), s.down = false →
    ((s.pp pp).d3 = true ∨ bar2ReadOk off.toNat len = false) → ((s.pp pp).d3 = true ∨ tableOk off.toNat (words.map BitVec.toNat) = false) →
    exec (.bar2Read pp off len finds) s = exec (.unsupportedRequest pp true (BitVec.ofNat 64 (s.barAddr pp 2 off.toNat))) s ∧
      exec (.bar2TableWrite pp off words) s = exec (.unsupportedRequest pp false (BitVec.ofNat 64 (s.barAddr pp 2 off.toNat))) s) ∧
  (∀ (s : State) (m : Chan) (b : Burst) (g : ChanCfg) (cause aer : Nat) (r : Instr),
    s.faults = [] → s.down = false → (s.chan m).mode = .enabled → (s.chan m).cfg = some g →
    ((s.chan m).outst.find? fun x => x.num == b.num) = some b → b.discard = false → b.paddr < 2 ^ 64 → b.store < 2 ^ 32 →
    ((r = .errorCompletion (.mover m b.num) .poison ∧ cause = 1 ∧ aer = 12) ∨
      (r = .errorCompletion (.mover m b.num) .ur ∧ cause = 2 ∧ aer = 20) ∨
      (r = .errorCompletion (.mover m b.num) .ca ∧ cause = 3 ∧ aer = 15) ∨
      (r = .completionTimeout (.mover m b.num) ∧ cause = 4 ∧ aer = 14)) →
    ∃ u : State, exec r s = .next u.done ∧ (u.chan m).mode = .halted ∧ (u.chan m).failed = [b] ∧
      (u.chan m).outst = (s.chan m).outst.filter (fun x => x.num != b.num) ∧ (u.chan m).queue = (s.chan m).queue ∧
      u.rd (movPg m) MOV_STATE_CAUSE = cause ∧ u.rd (movPg m) MOV_STATE_DIR = 0 ∧ u.rd (movPg m) MOV_ERR_STORE_OFFSET = b.store ∧
      u.rd (movPg m) MOV_ERR_ADDR_LO_ADDR + 2 ^ 32 * u.rd (movPg m) MOV_ERR_ADDR_HI_ADDR = b.paddr ∧
      (u.rd (movPg m) PAGE_IRQ_PEND_PEND).testBit 2 = true ∧ (u.rd (movPg m) PAGE_ERRSRC_SRC).testBit 0 = true ∧
      (u.pp g.pp).aerStatus = (s.pp g.pp).aerStatus ||| 2 ^ aer ∧
      u.faults = [⟨36 + g.pp, .dev⟩, ⟨36 + g.pp, .mov m⟩] ∧ (∀ k, k ≠ m.val → u.chan k = s.chan k) ∧ s.sameMem u ∧ u.mode = s.mode) ∧
  (∀ (s : State) (m : Chan) (b : Burst) (g : ChanCfg) (r : Instr), s.faults = [] → s.down = false → (s.chan m).mode = .halted →
    (s.chan m).cfg = some g → ((s.chan m).outst.find? fun x => x.num == b.num) = some b → b.discard = false →
    ((∃ e, r = .errorCompletion (.mover m b.num) e) ∨ r = .completionTimeout (.mover m b.num)) →
    ∃ u : State, exec r s = .next u.done ∧ u.chan m = { s.chan m with
        outst := (s.chan m).outst.filter (fun x => x.num != b.num)
        failed := (s.chan m).failed ++ [b] } ∧ u.rd (movPg m) MOV_STATE_CAUSE = s.rd (movPg m) MOV_STATE_CAUSE ∧
      u.faults = [⟨36 + g.pp, .dev⟩] ∧ (∀ k, k ≠ m.val → u.chan k = s.chan k) ∧ s.sameMem u) ∧
  (∀ (s : State) (m : Chan) (b : Burst) (g : ChanCfg) (r : Instr), s.faults = [] → s.down = false → (s.chan m).mode ≠ .disabled →
    (s.chan m).cfg = some g → (s.chan m).outst = [b] → b.discard = true → b.req = .xfer → (s.chan m).failed = [] →
    ((∃ e, r = .errorCompletion (.mover m b.num) e) ∨ r = .completionTimeout (.mover m b.num)) →
    ∃ u : State, exec r s = .next u.done ∧ (u.chan m).mode = .halted ∧ (u.chan m).outst = [] ∧ (u.chan m).failed = []) ∧
  (∀ (s : State) (n : Unit16) (a : BitVec 64) (pp : Nat) (r : Instr), s.faults = [] → s.down = false → s.scanPp n = some pp →
    ((∃ e, r = .errorCompletion (.scan n a) e) ∨ r = .completionTimeout (.scan n a)) →
    ∃ u : State, exec r s = .next u.done ∧ mapGet? u.scanFail n = some ((mapGet? s.scanFail n).getD a.toNat) ∧
      u.faults = [⟨36 + pp, .dev⟩] ∧ s.regsBut u [fieldKey (ppPg pp) PP_ERR_POISON_COUNT 0, fieldKey (ppPg pp) PP_ERR_CTO_COUNT 0] ∧
      u = { s with regs := u.regs, tel := u.tel, faults := u.faults, pps := u.pps, scanFail := u.scanFail }) ∧
  (∀ (s : State) (r : Instr), s.faults = [] → s.down = false → s.flag updPg PAGE_STAT_BUSY = true → s.rd updPg PAGE_CMD_CODE = 2 →
    ((∃ e, r = .errorCompletion .piece e) ∨ r = .completionTimeout .piece) →
    ∃ u : State, exec r s = .next u.done ∧ u.reports updPg stFault 2 ∧ u.faults = [⟨36 + s.owner updPg, .dev⟩] ∧
      u.mram = s.mram ∧ s.sameMem u)

/-! ### BAR0 and BAR2 -/

/-- REGISTER_WRITE (R8, R37, R45): an argument register takes the written word, an error-source bit written 1 is cleared; nothing
else changes.

RC_READ, DEV_FENCE_SYNC_READ and PAGE_FENCE_WRITE (R8, R37, R54, R55, R64): a read's completion carries the register's word, and
nothing but RC fields and their record changes (pages of targets, EPH, DEV have reads of their own); the completion carries the count,
which the read clears or advances; a fence's value is read from now on, and FENCE_DONE of the port's four targets fires. -/
def Obligations.RegisterAccessesComplete : Prop :=
  (∀ (s : State) (pp : PPort) (p : Fin 640) (off : BitVec 22) (val : BitVec 64), s.opens pp p → (s.pp pp).d3 = false → pageOk p = true →
    off.toNat = p.val * 4096 + 0x00C →
    ∃ t : State, exec (.registerWrite pp off false val) s = .next t ∧ t.rd p PAGE_ARG0_ARG0 = val.toNat % 2 ^ 32 ∧
      s.regsBut t [fieldKey p PAGE_ARG0_ARG0 0] ∧ t = { s with moments := t.moments, regs := t.regs }) ∧
  (∀ (s : State) (pp : PPort) (p : Fin 640) (off : BitVec 22) (val : BitVec 64), s.opens pp p → (s.pp pp).d3 = false → pageOk p = true →
    off.toNat = p.val * 4096 + 0x010 →
    ∃ t : State, exec (.registerWrite pp off true val) s = .next t ∧ t.rd p PAGE_ARG1_ARG1 = val.toNat % 2 ^ 32 ∧
      s.regsBut t [fieldKey p PAGE_ARG1_ARG1 0] ∧ t = { s with moments := t.moments, regs := t.regs }) ∧
  (∀ (s : State) (pp : PPort) (p : Fin 640) (off : BitVec 22) (val : BitVec 64), s.opens pp p → (s.pp pp).d3 = false → pageOk p = true →
    off.toNat = p.val * 4096 + 0x01C →
    ∃ t : State, exec (.registerWrite pp off false val) s = .next t ∧
      t.rd p PAGE_ERRSRC_SRC = clearBits (s.rd p PAGE_ERRSRC_SRC) (val.toNat % 2 ^ 16) % 2 ^ 16 ∧
      s.regsBut t [fieldKey p PAGE_ERRSRC_SRC 0] ∧ t = { s with moments := t.moments, regs := t.regs }) ∧
  (∀ (s : State) (pp : PPort) (p : Fin 640) (off : BitVec 22) (o : Nat), s.faults = [] → s.down = false → (s.pp pp).d3 = false →
    off.toNat = p.val * 4096 + o → o < 4096 → o % 4 = 0 → pageOk p = true →
    (∀ k, pageAt p ≠ some (.tn k) ∧ pageAt p ≠ some (.tf k) ∧ pageAt p ≠ some (.eph k)) → pageAt p ≠ some .dev →
    ∃ t : State, exec (.rcRead pp off false) s = .next t ∧ t.out = .regData pp off.toNat (s.wordView p o) :: s.out ∧
      s.regsBut t (((fieldsAt ((pageAt p).getD .dev) o).filter fun x => x.1.ty == .rc).map fun x => fieldKey p x.1 x.2) ∧
      t = { s with moments := t.moments, regs := t.regs, sinceRead := t.sinceRead, freeCtr := t.freeCtr, out := t.out }) ∧
  (∀ (s : State) (pp n : PPort) (off : BitVec 22), s.faults = [] → s.down = false → (s.pp pp).d3 = false →
    off.toNat = ppPg n * 4096 + 0x048 →
    ∃ t : State, exec (.rcRead pp off false) s = .next t ∧
      t.out = .regData pp off.toNat (s.rd (ppPg n) PP_PANIC_CNT_COUNT) :: s.out ∧ t.rd (ppPg n) PP_PANIC_CNT_COUNT = 0 ∧
      s.regsBut t [fieldKey (ppPg n) PP_PANIC_CNT_COUNT 0] ∧
      t = { s with moments := t.moments, regs := t.regs, freeCtr := t.freeCtr, out := t.out }) ∧
  (∀ (s : State) (pp : PPort), s.faults = [] → s.down = false →
    ∃ t : State, exec (.devFenceSyncRead pp) s = .next t ∧
      t.out = .regData pp 0x050 (((s.pp pp).syncCount + 1) % 2 ^ 32) :: s.out ∧
      t.pp pp = { s.pp pp with syncCount := ((s.pp pp).syncCount + 1) % 2 ^ 32 } ∧ (∀ n, n ≠ pp.val → t.pp n = s.pp n) ∧
      t = { s with moments := t.moments, pps := t.pps, out := t.out }) ∧
  (∀ (s : State) (pp : PPort) (p : Fin 640) (val : Word), s.opens pp p → s.icuRuns = true →
    ∃ t : State, exec (.pageFenceWrite pp p val) s = .next t ∧ t.rd p PAGE_FENCE_VALUE = val.toNat ∧
      s.regsBut t [fieldKey p PAGE_FENCE_VALUE 0] ∧
      (∀ i < 4, (s.src (privKey (4 * pp.val + i) 5)).en = true →
        (t.src (privKey (4 * pp.val + i) 5)).count = min ((s.src (privKey (4 * pp.val + i) 5)).count + 1) 255) ∧
      (∀ j, (∀ i < 4, j ≠ privKey (4 * pp.val + i) 5) → t.src j = s.src j) ∧ t = { s with moments := t.moments, regs := t.regs, srcs := t.srcs })

/-- A write that the gate refuses is counted, flags ERR with its cause, and has no other effect (R8, R45, R47, R50): of PAGE_ARG0 of
any page, of a page's PAGE_FENCE, and of a command of the DEV page. -/
def Obligations.RefusedWritesHaveNoOtherEffect : Prop :=
  ∀ (s : State) (pp : PPort) (p : Fin 640) (c : RefCause) (r : Instr) (off : BitVec 22) (val : BitVec 64),
    s.faults = [] → s.deaf = false → (s.pp pp).d3 = false → pageOk p = true → s.gate pp p = some c → off.toNat = p.val * 4096 + 0x00C →
    (r = .registerWrite pp off false val ∨ r = .pageFenceWrite pp p (val.setWidth 32) ∨ (p.val = devPg ∧ r = .setMode pp)) →
    ∃ t : State, exec r s = .next t ∧ t.rd p PAGE_STAT_ERR = 1 ∧ t.rd p PAGE_STAT_REFCAUSE = c.code ∧
      t.rd p PAGE_STAT_REFUSALS = min (s.rd p PAGE_STAT_REFUSALS + 1) 65535 ∧
      s.regsBut t [fieldKey p PAGE_STAT_ERR 0, fieldKey p PAGE_STAT_REFCAUSE 0, fieldKey p PAGE_STAT_REFUSALS 0,
        fieldKey p PAGE_IRQ_PEND_PEND 0] ∧
      t = { s with moments := t.moments, regs := t.regs, srcs := t.srcs, pps := t.pps }

/-- BAR2_STORE_WRITE, BAR2_TABLE_WRITE and BAR2_READ (R38-R40): the enabled bytes land where they are addressed and no other byte
changes; a word of a filter, object, ephemeris or ring entry keeps its writable bits, with the words a COMET object reserves read as 0
(R248); a word of a last-table entry keeps its read-only bits and counts as written in the port's window (R195); a read returns the bytes and changes nothing. -/
def Obligations.Bar2AccessesMoveTheBytes : Prop :=
  (∀ (s : State) (pp : PPort) (c : Cl) (off : BitVec 27) (bytes : List (Option Byte)), s.opens pp (clPg c) → (s.pp pp).d3 = false →
    s.ueWords = [] → s.poison = [] → bytes ≠ [] → sliceBase c ≤ off.toNat → off.toNat + bytes.length ≤ sliceBase (c + 1) →
    s.heldIn (off.toNat / 64 * 64) ((off.toNat + bytes.length + 63) / 64 * 64 - off.toNat / 64 * 64) = false →
    ∃ t : State, exec (.bar2StoreWrite pp off bytes) s = .next t ∧
      (∀ i v, bytes[i]? = some (some v) → t.mb (off.toNat + i) = v) ∧
      (∀ a, (∀ i v, bytes[i]? = some (some v) → a ≠ off.toNat + i) → t.mb a = s.mb a) ∧
      t = { s with moments := t.moments, mem := t.mem, undef := t.undef }) ∧
  (∀ (s : State) (pp : PPort) (off : BitVec 27) (r : Region) (w : Word), s.opens pp (clPg r.cluster) → (s.pp pp).d3 = false →
    s.ueWords = [] → s.poison = [] → off.toNat % 4 = 0 → regionAt off.toNat = some r →
    ((∃ c, r = .filters c) ∨ (∃ c, r = .objects c) ∨ (∃ c, r = .ephemeris c) ∨ ∃ c, r = .ring c) →
    ∃ t : State, exec (.bar2TableWrite pp off [w]) s = .next t ∧
      t.mw off.toNat = (if 0x4100000 ≤ off.toNat ∧ off.toNat < 0x4300000 ∧ 24 ≤ off.toNat % 32 ∧
          (s.mb (off.toNat / 32 * 32)).toNat % 4 = 1 then 0
        else w.toNat &&& r.writable (off.toNat % r.entry / 4)) ∧
      (∀ x, (x < off.toNat ∨ off.toNat + 4 ≤ x) → ((∃ c, r = .objects c) → off.toNat % 32 = 0 → x / 32 = off.toNat / 32 → x % 32 < 24) →
        t.mb x = s.mb x) ∧
      t = { s with moments := t.moments, mem := t.mem, undef := t.undef }) ∧
  (∀ (s : State) (pp : PPort) (off : BitVec 27) (n : Port) (w : Word), s.opens pp (clPg (n.val / 16)) → (s.pp pp).d3 = false →
    s.ueWords = [] → s.poison = [] → off.toNat % 4 = 0 → regionAt off.toNat = some (.last n) →
    ∃ t : State, exec (.bar2TableWrite pp off [w]) s = .next t ∧
      t.mw off.toNat = clearBits (s.mw off.toNat) ((Region.last n).writable (off.toNat % 64 / 4)) |||
        (w.toNat &&& (Region.last n).writable (off.toNat % 64 / 4)) ∧
      s.memBut t off.toNat 4 ∧ (off.toNat - lastBase n) / 64 ∈ (t.port n).writtenInWindow ∧
      t = { s with moments := t.moments, mem := t.mem, undef := t.undef, ports := t.ports }) ∧
  (∀ (s : State) (pp : PPort) (off : BitVec 27) (n : Nat), s.faults = [] → s.down = false → (s.pp pp).d3 = false → s.ueWords = [] → s.poison = [] →
    1 ≤ n → n ≤ 4096 → off.toNat + n ≤ 0x4000000 →
    exec (.bar2Read pp off n []) s = .next ({ s with out := .bar2Data pp off.toNat false (s.mbs off.toNat n) :: s.out }).noteMoment)

/-- PORT_ABT (R107): a write with PH1 = 0 or PH2 = 0 is refused with BAD_VALUE and keeps every field; every other value of
every field is accepted. -/
def Obligations.BitTimingRefusesEmptyPhases : Prop :=
  ∀ (s : State) (pp : PPort) (n : Port) (off : BitVec 22) (val : BitVec 64), s.opens pp (portPg n) → (s.pp pp).d3 = false →
    off.toNat = portPg n * 4096 + 0x040 →
    ((bits val.toNat 8 7 = 0 ∨ bits val.toNat 16 6 = 0) →
      ∃ t : State, exec (.registerWrite pp off false val) s = .next t ∧ t.rd (portPg n) PAGE_STAT_ERR = 1 ∧
        t.rd (portPg n) PAGE_STAT_REFCAUSE = RefCause.badValue.code ∧
        s.regsBut t [fieldKey (portPg n) PAGE_STAT_ERR 0, fieldKey (portPg n) PAGE_STAT_REFCAUSE 0,
          fieldKey (portPg n) PAGE_STAT_REFUSALS 0, fieldKey (portPg n) PAGE_IRQ_PEND_PEND 0] ∧
        t = { s with moments := t.moments, regs := t.regs, srcs := t.srcs }) ∧
    (bits val.toNat 8 7 ≠ 0 → bits val.toNat 16 6 ≠ 0 →
      ∃ t : State, exec (.registerWrite pp off false val) s = .next t ∧
        (∀ f ∈ [PORT_ABT_PRESC, PORT_ABT_PH1, PORT_ABT_PH2, PORT_ABT_SJW], t.rd (portPg n) f = bits val.toNat f.lo f.w) ∧
        s.regsBut t ([PORT_ABT_PRESC, PORT_ABT_PH1, PORT_ABT_PH2, PORT_ABT_SJW].map fun f => fieldKey (portPg n) f 0) ∧
        t = { s with moments := t.moments, regs := t.regs })

/-! ### The DEV page -/

/-- SET_MODE (R24, R25, R62, R389, R417, R548): what R24 does not permit is refused with BAD_CMD. CONFIGURE to RUN starts every port whose
configured mode is a bus mode and is over when each has entered it, and ends BAD_STATE while a cluster is fenced; RUN or DEGRADED to
CONFIGURE drains every port in a bus mode and is over when none is left; CONFIGURE to TEST and TEST to CONFIGURE take place at once; an
entry to SAFE is an event for line 59; leaving SAFE and an entry to DORMANT begin a transition that keeps the page BUSY, the latter with the
detectors of the chosen ports armed.

SET_OWNER (R51, R52, R62): every page of the range that has no fixed owner gets the owner, no other page changes, and the
command ends with OK and how many changed; a last index below the first, or above 0x27F, ends it with BAD_ARG and changes no owner. -/
def Obligations.ModesAndOwnersAreSet : Prop :=
  (∀ (s : State) (pp : PPort), s.opens pp devPg → s.setModeOk (s.arg0 devPg % 16) = false →
    ∃ t : State, exec (.setMode pp) s = .next t ∧ t.mode = s.mode ∧ t.rd devPg PAGE_STAT_ERR = 1 ∧
      t.rd devPg PAGE_STAT_REFCAUSE = RefCause.badCmd.code ∧
      t = { s with moments := t.moments, regs := t.regs, srcs := t.srcs, pps := t.pps }) ∧
  (∀ (s : State) (pp : PPort), s.opens pp devPg → s.stalled = false → s.moving = none → s.mode = .configure → s.arg0 devPg % 16 = 3 →
    s.rd devPg DEV_CLUSTERS_FENCED = 0 → s.portsSettled = true → (∀ n < 128, s.rd (portPg n) PORT_MODE_CFG < 2) →
    ∃ u : State, exec (.setMode pp) s = .next u.done ∧ u.mode = .run ∧ u.prev = .configure ∧ u.moving = none ∧
      u.rd devPg PAGE_RESULT_STATUS = stOk ∧ u.rd devPg PAGE_RESULT_DETAIL = Mode.run.code ∧ u.rd devPg PAGE_STAT_BUSY = 0) ∧
  (∀ (s : State) (pp : PPort), s.opens pp devPg → s.stalled = false → s.moving = none → s.mode = .configure → s.arg0 devPg % 16 = 3 →
    s.rd devPg DEV_CLUSTERS_FENCED = 0 → (∀ n < 128, s.pmode n = pmOff ∧ (s.port n).move = none ∧ (s.port n).moveNext = none) →
    (∀ n < 128, s.abtOk n = true) → (∃ n < 128, 2 ≤ s.rd (portPg n) PORT_MODE_CFG) →
    ∃ t : State, exec (.setMode pp) s = .next t ∧ t.moving = some (.toRun false) ∧ t.mode = .configure ∧ t.rd devPg DEV_MODE_MOVING = 1 ∧
      t.rd devPg PAGE_STAT_BUSY = 1 ∧ t.rd devPg PAGE_RESULT_STATUS = stRunning ∧
      ∀ n < 128, (t.port n).move = if s.rd (portPg n) PORT_MODE_CFG < 2 then none
        else some (.calibrate (s.rd (portPg n) PORT_MODE_CFG) false)) ∧
  (∀ (s : State) (pp : PPort), s.opens pp devPg → s.stalled = false → s.moving = none → s.mode = .configure → s.arg0 devPg % 16 = 3 →
    s.rd devPg DEV_CLUSTERS_FENCED ≠ 0 →
    ∃ t : State, exec (.setMode pp) s = .next t ∧ t.mode = .configure ∧ t.rd devPg PAGE_RESULT_STATUS = stBadState ∧
      t.rd devPg PAGE_STAT_BUSY = 0 ∧ t = { s with moments := t.moments, regs := t.regs, srcs := t.srcs }) ∧
  (∀ (s : State) (pp : PPort), s.opens pp devPg → s.stalled = false → s.moving = none → s.arg0 devPg % 16 = 2 →
    (s.mode = .run ∨ s.mode = .degraded) → s.portsSettled = true → (∀ n < 128, s.pmode n < 2) →
    ∃ u : State, exec (.setMode pp) s = .next u.done ∧ u.mode = .configure ∧ u.prev = s.mode ∧ u.moving = none ∧
      u.rd devPg PAGE_RESULT_STATUS = stOk ∧ u.rd devPg PAGE_RESULT_DETAIL = Mode.configure.code ∧ u.rd devPg PAGE_STAT_BUSY = 0) ∧
  (∀ (s : State) (pp : PPort), s.opens pp devPg → s.stalled = false → s.moving = none → s.arg0 devPg % 16 = 2 →
    (s.mode = .run ∨ s.mode = .degraded) → s.rd devPg DEV_CLUSTERS_FENCED = 0 →
    (∀ n < 128, (s.port n).move = none ∧ (s.port n).moveNext = none) → (∃ n < 128, busMode (s.pmode n) = true) →
    ∃ t : State, exec (.setMode pp) s = .next t ∧ t.moving = some .toConfigure ∧ t.mode = s.mode ∧ t.rd devPg DEV_MODE_MOVING = 1 ∧
      t.rd devPg PAGE_STAT_BUSY = 1 ∧ t.rd devPg PAGE_RESULT_STATUS = stRunning ∧
      ∀ n < 128, busMode (s.pmode n) = true → (t.port n).move = some (.drain pmConfig false)) ∧
  (∀ (s : State) (pp : PPort), s.opens pp devPg → s.stalled = false → s.moving = none → s.mode = .configure → s.arg0 devPg % 16 = 7 →
    ∃ u : State, exec (.setMode pp) s = .next u.done ∧ u.mode = .test ∧ u.prev = .configure ∧ (∀ n < 128, u.pmode n = pmOff) ∧
      u.rd devPg PAGE_RESULT_STATUS = stOk ∧ u.rd devPg PAGE_RESULT_DETAIL = Mode.test.code ∧ u.rd devPg PAGE_STAT_BUSY = 0) ∧
  (∀ (s : State) (pp : PPort), s.opens pp devPg → s.stalled = false → s.moving = none → s.mode = .test → s.arg0 devPg % 16 = 2 →
    ∃ u : State, exec (.setMode pp) s = .next u.done ∧ u.mode = .configure ∧ u.prev = .test ∧
      u.rd devPg PAGE_RESULT_STATUS = stOk ∧ u.rd devPg PAGE_RESULT_DETAIL = Mode.configure.code ∧
      u.rd devPg PAGE_STAT_BUSY = 0) ∧
  (∀ (s : State) (pp : PPort), s.opens pp devPg → s.arg0 devPg % 16 = 5 →
    (s.mode = .configure ∨ s.mode = .run ∨ s.mode = .degraded ∨ s.mode = .test) →
    ∃ u : State, exec (.setMode pp) s = .next u.done ∧ u.mode = .safe ∧ u.prev = s.mode ∧ (⟨59, .dev⟩ : FaultEvent) ∈ u.faults ∧
      u.rd devPg PAGE_RESULT_STATUS = stOk ∧ u.rd devPg PAGE_RESULT_DETAIL = Mode.safe.code ∧ u.rd devPg PAGE_STAT_BUSY = 0) ∧
  (∀ (s : State) (pp : PPort), s.opens pp devPg → s.stalled = false → s.moving = none → s.mode = .safe → s.arg0 devPg % 16 = 2 →
    (s.lines.any fun e => e.2.sticky && e.2.level == 4) = false →
    ∃ t : State, exec (.setMode pp) s = .next t ∧ t.moving = some .safeExit ∧ t.rd devPg DEV_MODE_MOVING = 1 ∧
      t.rd devPg PAGE_STAT_BUSY = 1 ∧ t.rd devPg PAGE_RESULT_STATUS = stRunning ∧
      s.regsBut t (fieldKey devPg DEV_MODE_MOVING 0 :: cmdKeys devPg) ∧
      t = { s with moments := t.moments, regs := t.regs, moving := t.moving }) ∧
  (∀ (s : State) (pp : PPort), s.opens pp devPg → s.stalled = false → s.moving = none → (s.mode = .configure ∨ s.mode = .safe) →
    s.arg0 devPg % 16 = 0 →
    ∃ u : State, exec (.setMode pp) s = .next u.done ∧ u.moving = some .toDormant ∧ u.mode = s.mode ∧ u.rd devPg DEV_MODE_MOVING = 1 ∧
      u.rd devPg PAGE_STAT_BUSY = 1 ∧ u.rd devPg PAGE_RESULT_STATUS = stRunning ∧
      ∀ n < 128, (s.rd aonPg AON_WAKE_EN_PORTS (n / 32)).testBit (n % 32) = true → (mapGet? u.chip.moon n).isSome = true) ∧
  (∀ (s : State) (pp : PPort) (first last : Nat), s.opens pp devPg → first = s.arg0 devPg % 2 ^ 10 →
    last = s.arg0 devPg / 2 ^ 16 % 2 ^ 10 → first ≤ last → last ≤ 0x27F →
    ∃ t : State, exec (.setOwner pp) s = .next t ∧ t.rd devPg PAGE_RESULT_STATUS = stOk ∧ t.rd devPg PAGE_STAT_BUSY = 0 ∧
      t.rd devPg PAGE_RESULT_DETAIL = ((List.range 0x280).filter fun p =>
        decide (first ≤ p) && decide (p ≤ last) && (pageAt p).isSome && t.owner p != s.owner p).length ∧
      (∀ p, first ≤ p → p ≤ last → (pageAt p).isSome = true → (pageAt p).bind Page.fixedOwner = none →
        t.owner p = s.arg1 devPg % 4) ∧
      (∀ p, (p < first ∨ last < p ∨ ((pageAt p).bind Page.fixedOwner).isSome = true) → t.owner p = s.owner p) ∧
      s.regsBut t (cmdKeys devPg) ∧ t = { s with moments := t.moments, regs := t.regs, srcs := t.srcs, owners := t.owners }) ∧
  (∀ (s : State) (pp : PPort), s.opens pp devPg →
    (s.arg0 devPg / 2 ^ 16 % 2 ^ 10 < s.arg0 devPg % 2 ^ 10 ∨ 0x27F < s.arg0 devPg / 2 ^ 16 % 2 ^ 10) →
    ∃ t : State, exec (.setOwner pp) s = .next t ∧ t.rd devPg PAGE_RESULT_STATUS = stBadArg ∧ t.rd devPg PAGE_STAT_BUSY = 0 ∧
      s.regsBut t (cmdKeys devPg) ∧ t = { s with moments := t.moments, regs := t.regs, srcs := t.srcs, freeCtr := t.freeCtr })

/-! ### Bus ports: frames -/

/-- The object that ranks first on a port can be offered there, and no other offerable one ranks before it (R126, R260).

CANDIDATE_FIX and ARBITRATION_END (R112, R117, R126, R128, R133, R189): the candidate that ranks first, an object or the SYNC frame of
the slot, is offered, an object with its rung cut to the ceiling; lost, it is pending again and counted, in SND with an identifier-sharing
event; won, its frame is the port's current or next-up one, with the head that R80 gives it; a candidate that an open eclipse window does
not admit is withdrawn. -/
def Obligations.CandidatesAreRankedOfferedAndWonOrLost : Prop :=
  (∀ (s : State) (n uid : Nat) (j : Job), s.topJob n = some (uid, j) →
    (uid, j) ∈ s.jobs ∧ s.offerable n j = true ∧
    ∀ e ∈ s.jobs, s.offerable n e.2 = true → rankLt (s.rankOf n e.2) (s.rankOf n j) = false) ∧
  (∀ (s : State) (n : Port) (nextUp : Bool) (uid : Nat) (j : Job) (x : JobPort), s.faults = [] → (s.port n).cand = none →
    s.offers n = true → s.aloneHolds n = false → (nextUp = true → s.free n true) → s.bestCand n = some (.job uid) →
    s.job? uid = some j → j.on n = some x →
    ∃ t : State, exec (.candidateFix n nextUp) s = .next t ∧ (t.port n).cand = some (.job uid) ∧ (t.port n).candNext = nextUp ∧
      (t.port n).candRung = min j.rung (s.rd (phyPg n) PHY_RUNG_CEIL) ∧
      t.onPort uid n = some { x with stage := .offered } ∧ (∀ k, k ≠ n.val → t.port k = s.port k) ∧
      (∀ v, v ≠ uid → t.job? v = s.job? v) ∧ t = { s with moments := t.moments, ports := t.ports, jobs := t.jobs }) ∧
  (∀ (s : State) (n : Port) (nextUp : Bool), s.faults = [] → (s.port n).cand = none → s.offers n = true → s.aloneHolds n = false →
    (nextUp = true → s.free n true) → s.bestCand n = some .sync →
    ∃ t : State, exec (.candidateFix n nextUp) s = .next t ∧
      t.port n = { s.port n with cand := some .sync, candNext := nextUp, candRung := 0 } ∧
      (∀ k, k ≠ n.val → t.port k = s.port k) ∧ t = { s with moments := t.moments, ports := t.ports }) ∧
  (∀ (s : State) (n : Port) (nextUp : Bool) (uid back e : Nat) (j : Job) (x : JobPort), s.contends n (.job uid) nextUp (s.momentOf back) →
    s.job? uid = some j → j.lost = false → j.on n = some x → x.stage = .offered → x.doom = none → x.cancelBy = [] →
    ∃ t : State, exec (.arbitrationEnd n false none back e) s = .next t ∧ (t.port n).cand = none ∧
      (t.port n).cur = (s.port n).cur ∧ (t.port n).nxt = (s.port n).nxt ∧ t.onPort uid n = some { x with stage := .pending } ∧
      t.rd (portPg n) PORT_ARB_LOST_COUNT = min (s.rd (portPg n) PORT_ARB_LOST_COUNT + 1) (2 ^ 32 - 1) ∧
      (∀ k, k ≠ n.val → t.port k = s.port k) ∧ (∀ v, v ≠ uid → t.job? v = s.job? v) ∧
      s.regsBut t (fieldKey (portPg n) PORT_ARB_LOST_COUNT 0 :: panicKeys n) ∧
      t = { s with moments := t.moments, regs := t.regs, srcs := t.srcs, pps := t.pps, ports := t.ports, jobs := t.jobs, tel := t.tel }) ∧
  (∀ (s : State) (n : Port) (nextUp : Bool) (uid back e : Nat) (w : BitVec 6) (j : Job) (x : JobPort),
    s.contends n (.job uid) nextUp (s.momentOf back) → s.job? uid = some j → j.lost = false → j.on n = some x → x.stage = .offered →
    x.doom = none → x.cancelBy = [] →
    ∃ t : State, exec (.arbitrationEnd n false (some w) back e) s = .next t ∧ (t.port n).cand = none ∧
      t.onPort uid n = some { x with stage := .pending } ∧ (t.port n).lostInSnd = some (.job uid, 0) ∧
      t.rd (portPg n) PORT_IDSHARE_CNT_COUNT = min (s.rd (portPg n) PORT_IDSHARE_CNT_COUNT + 1) (2 ^ PORT_IDSHARE_CNT_COUNT.w - 1) ∧
      t.rd (portPg n) PORT_IDSHARE_ID_ID = j.id % 2 ^ 29 ∧ t.rd (portPg n) PORT_IDSHARE_ID_CASE = 0 ∧
      t.rd (portPg n) PORT_IDSHARE_SND_FIRST = w.toNat ∧ t.rd (portPg n) PORT_IDSHARE_SND_SECOND = s.rd (portPg n) PORT_SND_SND % 2 ^ 6 ∧
      (t.rd (portPg n) PAGE_IRQ_PEND_PEND).testBit 12 = true ∧ (∀ k, k ≠ n.val → t.port k = s.port k)) ∧
  (∀ (s : State) (n : Port) (uid back e : Nat) (j : Job) (x : JobPort), s.contends n (.job uid) false (s.momentOf back) →
    s.job? uid = some j → j.on n = some x → x.cancelBy = [] →
    ∃ (t : State) (f : BusFrame), exec (.arbitrationEnd n true none back e) s = .next t ∧ (t.port n).cand = none ∧
      (t.port n).cur = some f ∧ f.own = some (.job uid) ∧ f.data = j.data ∧ f.committed = false ∧ f.failed = false ∧
      f.head = { id := BitVec.ofNat 29 j.id, long := j.long, snd := BitVec.ofNat 6 (s.rd (portPg n) PORT_SND_SND), kind := j.kind,
                 rung := Fin.ofNat 4 (s.port n).candRung, len := BitVec.ofNat 14 j.len, epi := s.estate n == esPassive,
                 aud := j.aud } ∧
      t.onPort uid n = some { x with stage := .won } ∧
      (∀ k, k ≠ n.val → t.port k = s.port k) ∧ (∀ v, v ≠ uid → t.job? v = s.job? v) ∧ s.regsBut t (panicKeys n) ∧
      t = { s with moments := t.moments, regs := t.regs, srcs := t.srcs, pps := t.pps, ports := t.ports, jobs := t.jobs }) ∧
  (∀ (s : State) (n : Port) (uid back e : Nat) (j : Job) (x : JobPort), s.contends n (.job uid) true (s.momentOf back) →
    s.job? uid = some j → j.on n = some x → x.cancelBy = [] →
    ∃ (t : State) (f : BusFrame), exec (.arbitrationEnd n true none back e) s = .next t ∧ (t.port n).cand = none ∧
      (t.port n).nxt = some f ∧ f.own = some (.job uid) ∧ f.nextUp = true ∧ f.data = j.data ∧ (t.port n).cur = (s.port n).cur ∧
      t.rd (portPg n) PORT_NU_WON_COUNT = min (s.rd (portPg n) PORT_NU_WON_COUNT + 1) (2 ^ PORT_NU_WON_COUNT.w - 1) ∧
      t.onPort uid n = some { x with stage := .won } ∧ (∀ k, k ≠ n.val → t.port k = s.port k) ∧
      s.regsBut t (fieldKey (portPg n) PORT_NU_WON_COUNT 0 :: panicKeys n)) ∧
  (∀ (s : State) (n : Port) (back e : Nat) (y : SyncSlot), s.contends n .sync false (s.momentOf back) → (s.port n).sync = some y →
    ∃ (t : State) (f : BusFrame), exec (.arbitrationEnd n true none back e) s = .next t ∧ (t.port n).cand = none ∧
      (t.port n).cur = some f ∧ f.own = some .sync ∧ f.data = s.syncData n y (s.momentOf back) e ∧ f.head.kind = .sync ∧
      f.head.id = BitVec.ofNat 29 y.id ∧ f.head.long = y.long ∧ f.head.len = 8 ∧ (t.port n).sync = some { y with won := true } ∧
      (∀ k, k ≠ n.val → t.port k = s.port k) ∧ t = { s with moments := t.moments, ports := t.ports }) ∧
  (∀ (s : State) (n : Port) (won : Bool) (lostIn : Option (BitVec 6)) (uid back e : Nat) (j : Job) (x : JobPort), s.faults = [] →
    s.onBus n = true → (s.port n).cand = some (.job uid) → (s.port n).candNext = false → s.free n false →
    (s.momentOf back).eclipseOpen n = true → s.candControl n = false →
    s.job? uid = some j → j.lost = false → j.on n = some x → x.stage = .offered → x.doom = none → x.cancelBy = [] →
    ∃ t : State, exec (.arbitrationEnd n won lostIn back e) s = .next t ∧ t.port n = { s.port n with cand := none } ∧
      t.onPort uid n = some { x with stage := .pending } ∧ s.regsBut t (panicKeys n))

/-- HEAD_RECEIVED (R212, R213, R216, R217, R221, R222): the first element of the port's list that matches decides, and invalid ones are
skipped; a head that no element matches, or that the element does not accept, is a frame without a claim; one for an RX FIFO holds a FIFO
slot, a ring slot and, for a COMET, a block; one for a dedicated buffer holds nothing, one taken directly a ring slot; one that is
forwarded holds a context and a forward; where a FIFO or a ring is full the frame overruns. Its time is that of its SOF. -/
def Obligations.HeadsAreClaimed : Prop :=
  (∀ (s : State) (n id snd i cnt k : Nat) (long : Bool), k < cnt →
    (∀ m < k, s.brokenIn (filterBase (n / 16) + 16 * (i + m)) 16 = false ∧ s.elemValid (n / 16) (s.elem (n / 16) (i + m)) = true ∧
      (s.elem (n / 16) (i + m)).hits id long snd = false) →
    s.brokenIn (filterBase (n / 16) + 16 * (i + k)) 16 = false → s.elemValid (n / 16) (s.elem (n / 16) (i + k)) = true →
    (s.elem (n / 16) (i + k)).hits id long snd = true →
    s.evalList n id long snd [] i cnt = (some (i + k, s.elem (n / 16) (i + k)), s)) ∧
  (∀ (s : State) (n : Port) (i : Nat) (h : Head) (nextUp : Bool) (back e pulse : Nat), s.hears n h nextUp (s.momentOf back) →
    s.rd (portPg n) PORT_FLT_LIST_FIRST = i → s.rd (portPg n) PORT_FLT_LIST_COUNT = 1 →
    s.elemValid (n.val / 16) (s.elem (n.val / 16) i) = false → s.brokenIn (filterBase (n.val / 16) + 16 * i) 16 = false →
    ∃ (u : State) (f : BusFrame), exec (.headReceived n h nextUp back e pulse []) s = .next u.done ∧ (u.port n).slot nextUp = some f ∧
      f.claim.verdict = .rejected ∧ u.rd (portPg n) PORT_FLT_BADIDX_INDEX = i % 2 ^ PORT_FLT_BADIDX_INDEX.w ∧
      (u.rd (portPg n) PAGE_ERRSRC_SRC).testBit 5 = true ∧ u.faults = [⟨24 + n.val / 16, .port n⟩]) ∧
  (∀ (s : State) (n : Port) (h : Head) (nextUp : Bool) (back e pulse : Nat), s.hears n h nextUp (s.momentOf back) →
    s.evalList n h.id.toNat h.long h.snd.toNat [] (s.rd (portPg n) PORT_FLT_LIST_FIRST) (s.rd (portPg n) PORT_FLT_LIST_COUNT) = (none, s) →
    ∃ (t : State) (f : BusFrame), exec (.headReceived n h nextUp back e pulse []) s = .next t ∧ (t.port n).slot nextUp = some f ∧
      f.head = h ∧ f.own = none ∧ f.committed = false ∧ f.nextUp = nextUp ∧ f.claim.verdict = .rejected ∧
      f.recv = (h.kind == .comet && (s.rd (phyPg n) PHY_RUNG_RX_EN).testBit h.rung.val) ∧
      f.claim.stamp = (s.momentOf back).stamp e ∧ (t.port n).slot (!nextUp) = (s.port n).slot (!nextUp) ∧
      (∀ k, k ≠ n.val → t.port k = s.port k) ∧ t = { s with moments := t.moments, ports := t.ports }) ∧
  (∀ (s : State) (n : Port) (h : Head) (nextUp : Bool) (back e pulse i : Nat) (el : Elem), s.hears n h nextUp (s.momentOf back) →
    s.evalList n h.id.toNat h.long h.snd.toNat [] (s.rd (portPg n) PORT_FLT_LIST_FIRST) (s.rd (portPg n) PORT_FLT_LIST_COUNT) =
      (some (i, el), s) →
    (el.dest = 0 ∨ el.kinds.testBit h.kind.code = false ∨
      (h.kind = .comet ∧ (s.rd (phyPg n) PHY_RUNG_RX_EN).testBit h.rung.val = false)) →
    ∃ (t : State) (f : BusFrame), exec (.headReceived n h nextUp back e pulse []) s = .next t ∧ (t.port n).slot nextUp = some f ∧
      f.head = h ∧ f.own = none ∧ f.claim = { elem := i, stamp := (s.momentOf back).stamp e } ∧
      (∀ k, k ≠ n.val → t.port k = s.port k) ∧ t = { s with moments := t.moments, ports := t.ports }) ∧
  (∀ (s : State) (n : Port) (c : Nat) (h : Head) (nextUp : Bool) (back e pulse i k : Nat) (el : Elem), s.hears n h nextUp (s.momentOf back) →
    c = n.val / 16 →
    s.evalList n h.id.toNat h.long h.snd.toNat [] (s.rd (portPg n) PORT_FLT_LIST_FIRST) (s.rd (portPg n) PORT_FLT_LIST_COUNT) =
      (some (i, el), s) →
    el.dest = 1 → el.kinds.testBit h.kind.code = true → h.kind ≠ .comet →
    s.fifoRoom c el.index el.ess = true → k = s.rd (clPg c) RXF_CFG_TGT el.index → k < 16 → s.ringRoom c k el.ess = true →
    ∃ (t : State) (f : BusFrame), exec (.headReceived n h nextUp back e pulse []) s = .next t ∧ (t.port n).slot nextUp = some f ∧
      f.head = h ∧ f.own = none ∧ f.claim.verdict = .claimed ∧ f.claim.elem = i ∧ f.claim.fifo = some el.index ∧
      f.claim.ring = some k ∧ f.claim.blk = none ∧ f.claim.stamp = (s.momentOf back).stamp e ∧
      t.rd (clPg c) RXF_RSV_SLOTS el.index = (s.rd (clPg c) RXF_RSV_SLOTS el.index + 1) % 2 ^ RXF_RSV_SLOTS.w ∧
      t.rd (tnPg k) T_RING_RSV_SLOTS = (s.rd (tnPg k) T_RING_RSV_SLOTS + 1) % 2 ^ T_RING_RSV_SLOTS.w ∧
      (∀ j, j ≠ n.val → t.port j = s.port j) ∧
      s.regsBut t [fieldKey (clPg c) RXF_RSV_SLOTS el.index, fieldKey (tnPg k) T_RING_RSV_SLOTS 0] ∧
      t = { s with moments := t.moments, regs := t.regs, ports := t.ports, nextUid := t.nextUid }) ∧
  (∀ (s s' : State) (n : Port) (c a : Nat) (h : Head) (nextUp : Bool) (back e pulse i k : Nat) (el : Elem),
    s.hears n h nextUp (s.momentOf back) → c = n.val / 16 →
    s.evalList n h.id.toNat h.long h.snd.toNat [] (s.rd (portPg n) PORT_FLT_LIST_FIRST) (s.rd (portPg n) PORT_FLT_LIST_COUNT) =
      (some (i, el), s) →
    el.dest = 1 → el.push = false → el.kinds.testBit 1 = true → h.kind = .comet →
    (s.rd (phyPg n) PHY_RUNG_RX_EN).testBit h.rung.val = true →
    s.fifoRoom c el.index el.ess = true → k = s.rd (clPg c) RXF_CFG_TGT el.index → k < 16 → s.ringRoom c k el.ess = true →
    s.takeRx c (payloadBytes .comet h.len.toNat) el.ess (.claim s.nextUid) = some (a, s') →
    ∃ (t : State) (f : BusFrame), exec (.headReceived n h nextUp back e pulse []) s = .next t ∧ (t.port n).slot nextUp = some f ∧
      f.head = h ∧ f.recv = true ∧ f.claim.verdict = .claimed ∧ f.claim.fifo = some el.index ∧ f.claim.ring = some k ∧
      f.claim.blk = some a ∧ f.claim.uid = s.nextUid ∧
      t.blocks = ⟨a, 256 * 2 ^ orderFor (payloadBytes .comet h.len.toNat), .rx, [.claim s.nextUid], false⟩ :: s.blocks ∧
      t.rd (clPg c) RXF_RSV_SLOTS el.index = (s.rd (clPg c) RXF_RSV_SLOTS el.index + 1) % 2 ^ RXF_RSV_SLOTS.w ∧
      (∀ j, j ≠ n.val → t.port j = s.port j) ∧ s.memBut t a (256 * 2 ^ orderFor (payloadBytes .comet h.len.toNat))) ∧
  (∀ (s : State) (n : Port) (h : Head) (nextUp : Bool) (back e pulse i : Nat) (el : Elem), s.hears n h nextUp (s.momentOf back) →
    s.evalList n h.id.toNat h.long h.snd.toNat [] (s.rd (portPg n) PORT_FLT_LIST_FIRST) (s.rd (portPg n) PORT_FLT_LIST_COUNT) =
      (some (i, el), s) →
    el.kinds.testBit h.kind.code = true → h.kind ≠ .comet →
    ((el.dest = 2 ∧ el.notify = false) ∨ (el.dest = 3 ∧ el.aux < 16 ∧ s.ringRoom (n.val / 16) el.aux el.ess = true)) →
    ∃ (t : State) (f : BusFrame), exec (.headReceived n h nextUp back e pulse []) s = .next t ∧ (t.port n).slot nextUp = some f ∧
      f.head = h ∧ f.claim.verdict = .claimed ∧ f.claim.dest = el.dest ∧ f.claim.index = el.index ∧ f.claim.fifo = none ∧
      f.claim.ring = (if el.dest = 3 then some el.aux else none) ∧ f.claim.blk = none ∧
      (el.dest = 3 → t.rd (tnPg el.aux) T_RING_RSV_SLOTS = (s.rd (tnPg el.aux) T_RING_RSV_SLOTS + 1) % 2 ^ T_RING_RSV_SLOTS.w) ∧
      (∀ j, j ≠ n.val → t.port j = s.port j) ∧ s.regsBut t [fieldKey (tnPg el.aux) T_RING_RSV_SLOTS 0] ∧
      t = { s with moments := t.moments, regs := t.regs, ports := t.ports, nextUid := t.nextUid }) ∧
  (∀ (s : State) (n : Port) (c ctx : Nat) (h : Head) (nextUp : Bool) (back e pulse i : Nat) (el : Elem), s.hears n h nextUp (s.momentOf back) →
    c = n.val / 16 →
    s.evalList n h.id.toNat h.long h.snd.toNat [] (s.rd (portPg n) PORT_FLT_LIST_FIRST) (s.rd (portPg n) PORT_FLT_LIST_COUNT) =
      (some (i, el), s) →
    el.dest = 4 → el.copy = false → el.kinds.testBit h.kind.code = true → h.kind ≠ .comet → s.freeCtx c = some ctx →
    ((s.forwards c).filter fun x => x.2.idx == el.index).length < bits (s.txObj c el.index).len 0 8 →
    ∃ (t : State) (f : BusFrame) (j : Job), exec (.headReceived n h nextUp back e pulse []) s = .next t ∧
      (t.port n).slot nextUp = some f ∧ f.head = h ∧ f.claim.verdict = .claimed ∧ f.claim.fwd = some (s.nextUid + 1) ∧
      t.job? (s.nextUid + 1) = some j ∧ j.fwd = true ∧ j.ctx = ctx ∧ j.idx = el.index ∧ j.lead = n ∧ j.res = .reserved ∧
      j.id = h.id.toNat ∧ j.kind = h.kind ∧ j.ports = ((s.portSet c (s.txObj c el.index)).filter (· != n.val)).map (fun q => { port := q }) ∧
      (∀ v, v ≠ s.nextUid + 1 → t.job? v = s.job? v) ∧ (∀ j, j ≠ n.val → t.port j = s.port j) ∧
      t = { s with moments := t.moments, ports := t.ports, jobs := t.jobs, nextUid := t.nextUid }) ∧
  (∀ (s : State) (n : Port) (c : Nat) (h : Head) (nextUp : Bool) (back e pulse i k : Nat) (el : Elem), s.hears n h nextUp (s.momentOf back) →
    c = n.val / 16 →
    s.evalList n h.id.toNat h.long h.snd.toNat [] (s.rd (portPg n) PORT_FLT_LIST_FIRST) (s.rd (portPg n) PORT_FLT_LIST_COUNT) =
      (some (i, el), s) →
    el.dest = 1 → el.kinds.testBit h.kind.code = true → h.kind ≠ .comet → k = s.rd (clPg c) RXF_CFG_TGT el.index →
    (s.fifoRoom c el.index el.ess = false ∨ s.ringRoom c k el.ess = false) →
    ∃ (t : State) (f : BusFrame), exec (.headReceived n h nextUp back e pulse []) s = .next t ∧ (t.port n).slot nextUp = some f ∧
      f.claim.verdict = .overrun (if s.fifoRoom c el.index el.ess = false then 1 else 2) el.ess ∧
      (∀ j, j ≠ n.val → t.port j = s.port j) ∧ s.regsBut t [fieldKey (clPg c) RXF_RSV_SLOTS el.index] ∧
      t = { s with moments := t.moments, regs := t.regs, ports := t.ports, nextUid := t.nextUid })

/-- TAIL_END and LOSS_OF_LOCK (R98, R102, R192, R216, R426): a tail is whole exactly when it passed the symbol checks, lock was held, its
length suits LEN and TCRC is right, and it adds to the port's tail occupancy; its bytes stand in the block of its claim; a tail whose rung
the port does not receive is passed over; a loss of lock is counted. -/
def Obligations.TailsAreChecked : Prop :=
  (∀ (s : State) (n : Port) (f : BusFrame) (payload : List Byte) (crc : Word) (intact : Bool) (coef : Option TailCoef),
    s.faults = [] → s.onBus n = true → (s.port n).cur = some f → f.head.kind = .comet → f.recv = true → f.failed = false →
    f.own = none → f.tailOver = false → f.cold = false → (s.port n).window = false → f.claim.blk = none →
    ∃ (t : State) (g : BusFrame), exec (.tailEnd n payload crc intact coef) s = .next t ∧ (t.port n).cur = some g ∧
      g.data = payload ∧ g.head = f.head ∧ g.own = f.own ∧ g.claim = { f.claim with tcrc := crc.toNat } ∧ g.tailOver = true ∧
      (g.tailOk = true ↔ intact = true ∧ f.lockLost = false ∧ payload.length = 4 * (f.head.len.toNat + 1) ∧
        crc.toNat = tcrc payload) ∧
      mapGet 0 (t.port n).tailTime f.head.rung.val = mapGet 0 (s.port n).tailTime f.head.rung.val +
        tailLength f.head.len.toNat * 2 ^ (3 - f.head.rung.val) ∧
      (∀ k, k ≠ n.val → t.port k = s.port k) ∧ t = { s with moments := t.moments, ports := t.ports }) ∧
  (∀ (s : State) (n : Port) (f : BusFrame) (b : Block) (payload : List Byte) (crc : Word) (intact : Bool) (coef : Option TailCoef),
    s.faults = [] → s.onBus n = true → (s.port n).cur = some f → f.head.kind = .comet → f.recv = true → f.failed = false →
    f.own = none → f.tailOver = false → f.cold = false → (s.port n).window = false → f.claim.blk.bind s.blockAt = some b →
    b.addr + b.len ≤ 0x4000000 → payload.length ≤ b.len →
    ∃ t : State, exec (.tailEnd n payload crc intact coef) s = .next t ∧
      (∀ i < payload.length, t.mb (b.addr + i) = payload.getD i 0) ∧ s.memBut t b.addr payload.length) ∧
  (∀ (s : State) (n : Port) (f : BusFrame) (payload : List Byte) (crc : Word) (intact : Bool) (coef : Option TailCoef),
    s.faults = [] → s.onBus n = true → (s.port n).cur = some f → f.head.kind = .comet → f.recv = false → f.own = none →
    f.tailOver = false → f.cold = false →
    ∃ t : State, exec (.tailEnd n payload crc intact coef) s = .next t ∧ (t.port n).cur = some { f with tailOver := true } ∧
      (∀ k, k ≠ n.val → t.port k = s.port k) ∧ t = { s with moments := t.moments, ports := t.ports }) ∧
  (∀ (s : State) (n : Port) (f : BusFrame) (uid : Nat) (payload : List Byte) (crc : Word) (intact : Bool) (coef : Option TailCoef),
    s.faults = [] → s.onBus n = true → (s.port n).cur = some f → f.head.kind = .comet → f.recv = false → f.own = some (.job uid) →
    (∀ x, s.onPort uid n = some x → x.doom ≠ some .dataLost) → f.tailOver = false → f.cold = false →
    ∃ t : State, exec (.tailEnd n payload crc intact coef) s = .next t ∧ (t.port n).cur = some { f with tailOver := true } ∧
      mapGet 0 (t.port n).tailTime f.head.rung.val = mapGet 0 (s.port n).tailTime f.head.rung.val +
        tailLength f.head.len.toNat * 2 ^ (3 - f.head.rung.val) ∧
      (∀ k, k ≠ n.val → t.port k = s.port k) ∧ t = { s with moments := t.moments, ports := t.ports }) ∧
  (∀ (s : State) (n : Port) (f : BusFrame), s.faults = [] → s.onBus n = true → (s.port n).cur = some f → f.head.kind = .comet →
    f.recv = true → f.tailOver = false → f.cold = false →
    ∃ t : State, exec (.lossOfLock n) s = .next t ∧ (t.port n).cur = some { f with lockLost := true } ∧
      t.rd (phyPg n) PHY_CNT_LOCKLOSS_COUNT = min (s.rd (phyPg n) PHY_CNT_LOCKLOSS_COUNT + 1) (2 ^ 32 - 1) ∧
      (∀ j, j ≠ n.val → t.port j = s.port j) ∧
      s.regsBut t [fieldKey (phyPg n) PHY_CNT_LOCKLOSS_COUNT 0] ∧
      t = { s with moments := t.moments, regs := t.regs, ports := t.ports, tel := t.tel })

/-- FRAME_COMMIT (R94, R149, R153, R219-R222, R228, R231, R240): in the ACK slot the port does what R94 asks; a received frame lowers REC.
A rejected frame is counted, an overrun one too; a frame claimed for an RX FIFO becomes an entry at the ring position PUT with its
identifier, sequence numbers and data, a COMET's with the address of its block, which the entry holds from now on, and a record for its
target; one for a dedicated buffer is that buffer's new value; one taken directly is a record for its target; a forward becomes eligible.
A frame that the port sends itself takes it out of ALONE.

FRAME_END (R101, R117, R149, R153, R262, R331): the next-up frame, if there is one, is the current one. A frame of an object or forward
that ended without error leaves SENT on its port, TEC one lower, and the port out of ALONE; a SYNC frame that did leaves its slot to the
frame that waits, and is counted. A received frame is remembered; where its identifier is that of the latest good frame of another sender,
an identifier-sharing event of case 2 is raised. -/
def Obligations.FramesReachTheirFifoOrEndTheirObject : Prop :=
  (∀ (s : State) (n : Port) (f : BusFrame) (data : List Byte), s.delimits n f data → f.claim.verdict = .rejected →
    ∃ t : State, exec (.frameCommit n data) s = .next t ∧ (t.port n).cur = some { f with committed := true } ∧
      t.out = .ackSlot n (s.drivesAck n f) :: s.out ∧ t.rd (portPg n) PORT_ECNT_REC = s.recLess n ∧
      t.rd (portPg n) PORT_RX_REJ_COUNT = min (s.rd (portPg n) PORT_RX_REJ_COUNT + 1) (2 ^ 32 - 1) ∧
      (∀ k, k ≠ n.val → t.port k = s.port k) ∧ s.regsBut t (fieldKey (portPg n) PORT_RX_REJ_COUNT 0 :: counterKeys n) ∧
      t = { s with moments := t.moments, regs := t.regs, srcs := t.srcs, ports := t.ports, tel := t.tel, out := t.out }) ∧
  (∀ (s : State) (n : Port) (f : BusFrame) (data : List Byte) (cause : Nat), s.delimits n f data →
    f.claim.verdict = .overrun cause false → f.claim.fifo = none →
    ∃ t : State, exec (.frameCommit n data) s = .next t ∧ (t.port n).cur = some { f with committed := true } ∧
      t.rd (portPg n) PORT_RX_OVR_COUNT = min (s.rd (portPg n) PORT_RX_OVR_COUNT + 1) (2 ^ 32 - 1) ∧
      t.rd (portPg n) PORT_RX_OVRCAUSE_CAUSE = cause % 2 ^ PORT_RX_OVRCAUSE_CAUSE.w ∧
      (t.rd (portPg n) PAGE_IRQ_PEND_PEND).testBit 8 = true ∧ (∀ k, k ≠ n.val → t.port k = s.port k) ∧ s.sameMem t ∧
      t.jobs = s.jobs ∧ t.blocks = s.blocks ∧ t.tgts = s.tgts) ∧
  (∀ (s : State) (n : Port) (c fi a : Nat) (f : BusFrame) (data : List Byte), s.delimits n f data → c = n.val / 16 →
    f.head.kind ≠ .comet → f.claim.verdict = .claimed → f.claim.dest = 1 → f.claim.index = fi → f.claim.fifo = some fi →
    f.claim.push = false → f.claim.blk = none → fi < 64 → s.rd (clPg c) RXF_CFG_BASE fi < 8192 →
    (∀ b ∈ s.blocks, .claim f.claim.uid ∉ b.users ∧ b.users ≠ []) →
    a = ringBase c + (s.rd (clPg c) RXF_CFG_BASE fi +
      s.rd (clPg c) RXF_PUT_PUT fi % 2 ^ s.rd (clPg c) RXF_CFG_LOG2 fi) * 64 →
    ∃ t : State, exec (.frameCommit n data) s = .next t ∧ (t.port n).cur = some { f with committed := true } ∧
      t.mw a = (f.head.id.toNat + (if f.head.long then 2 ^ 29 else 0) + f.head.kind.code * 2 ^ 30) % 2 ^ 32 ∧
      t.mw (a + 8) = s.rd (clPg c) RXF_SEQ_SEQ fi % 2 ^ 32 ∧ t.mw (a + 12) = s.rd (portPg n) PORT_RX_PSEQ_PSEQ % 2 ^ 32 ∧
      (∀ i, i < data.length → i < 16 → t.mb (a + 32 + i) = data.getD i 0) ∧ s.memBut t a 64 ∧
      t.rd (clPg c) RXF_PUT_PUT fi = (s.rd (clPg c) RXF_PUT_PUT fi + 1) % 2 ^ 16 ∧
      t.rd (clPg c) RXF_SEQ_SEQ fi = (s.rd (clPg c) RXF_SEQ_SEQ fi + 1) % 2 ^ 32 ∧
      t.rd (clPg c) RXF_RSV_SLOTS fi = (s.rd (clPg c) RXF_RSV_SLOTS fi - 1) % 2 ^ RXF_RSV_SLOTS.w ∧
      t.rd (portPg n) PORT_RX_PSEQ_PSEQ = (s.rd (portPg n) PORT_RX_PSEQ_PSEQ + 1) % 2 ^ 32 ∧
      t.rd (portPg n) PORT_RX_OK_COUNT = min (s.rd (portPg n) PORT_RX_OK_COUNT + 1) (2 ^ 32 - 1) ∧
      (∀ k, f.claim.ring = some k → (t.tgt k).recs = (s.tgt k).recs ++ [{ slot := true, words := (rxWords n f data
        (s.rd (clPg c) RXF_SEQ_SEQ fi) (s.rd (portPg n) PORT_RX_PSEQ_PSEQ) fi 1 none) }]) ∧
      (∀ k, f.claim.ring ≠ some k → t.tgt k = s.tgt k) ∧ (∀ j, j ≠ n.val → t.port j = s.port j) ∧ t.jobs = s.jobs) ∧
  (∀ (s : State) (n : Port) (c fi a o : Nat) (b : Block) (f : BusFrame) (data : List Byte), s.delimits n f data → c = n.val / 16 →
    f.head.kind = .comet → f.recv = true → f.claim.verdict = .claimed → f.claim.dest = 1 → f.claim.index = fi → f.claim.push = false →
    f.claim.ring = none → f.claim.blk = some o → o < 2 ^ 32 → s.blockAt o = some b → b.lost = false → b.users = [.claim f.claim.uid] →
    (∀ x ∈ s.blocks, x = b ∨ x.addr ≠ o) → fi < 64 → s.rd (clPg c) RXF_CFG_BASE fi < 8192 →
    a = ringBase c + (s.rd (clPg c) RXF_CFG_BASE fi +
      s.rd (clPg c) RXF_PUT_PUT fi % 2 ^ s.rd (clPg c) RXF_CFG_LOG2 fi) * 64 →
    ∃ t : State, exec (.frameCommit n data) s = .next t ∧ (t.port n).cur = some { f with committed := true } ∧
      t.mw (a + 32) = o ∧ t.mw (a + 36) = f.claim.tcrc % 2 ^ 32 ∧ s.memBut t a 64 ∧
      t.blockAt o = some { b with users := [.entry c fi (s.rd (clPg c) RXF_SEQ_SEQ fi) (s.rd (portPg n) PORT_RX_PSEQ_PSEQ) n] } ∧
      t.rd (clPg c) RXF_PUT_PUT fi = (s.rd (clPg c) RXF_PUT_PUT fi + 1) % 2 ^ 16) ∧
  (∀ (s : State) (n : Port) (c b a : Nat) (f : BusFrame) (data : List Byte), s.delimits n f data → c = n.val / 16 →
    f.head.kind ≠ .comet → f.claim.verdict = .claimed → f.claim.dest = 2 → f.claim.index = b → b < 1024 → f.claim.ring = none →
    f.claim.blk = none → a = sliceBase c + 0x7F0000 + 64 * b →
    ∃ t : State, exec (.frameCommit n data) s = .next t ∧ (t.port n).cur = some { f with committed := true } ∧
      t.mw a = (f.head.id.toNat + (if f.head.long then 2 ^ 29 else 0) + f.head.kind.code * 2 ^ 30) % 2 ^ 32 ∧
      t.mw (a + 8) = (mapGet 0 s.bufCount (1024 * c + b) + 1) % 2 ^ 32 ∧
      (∀ i, i < data.length → i < 16 → t.mb (a + 32 + i) = data.getD i 0) ∧ s.memBut t a 64 ∧
      mapGet 0 t.bufCount (1024 * c + b) = (mapGet 0 s.bufCount (1024 * c + b) + 1) % 2 ^ 32 ∧
      (t.rd (clPg c) CL_BUF_NEW_NEW (b / 32)).testBit (b % 32) = true ∧ t.tgts = s.tgts) ∧
  (∀ (s : State) (n : Port) (k : Nat) (f : BusFrame) (data : List Byte), s.delimits n f data →
    f.head.kind ≠ .comet → f.claim.verdict = .claimed → f.claim.dest = 3 → f.claim.push = false → f.claim.ring = some k →
    f.claim.blk = none →
    ∃ t : State, exec (.frameCommit n data) s = .next t ∧ (t.port n).cur = some { f with committed := true } ∧
      (t.tgt k).recs = (s.tgt k).recs ++ [{ slot := true, words := rxWords n f data 0 (s.rd (portPg n) PORT_RX_PSEQ_PSEQ) 0 2 none }] ∧
      (∀ i, i ≠ k → t.tgt i = s.tgt i) ∧ s.sameMem t ∧
      t.rd (portPg n) PORT_RX_PSEQ_PSEQ = (s.rd (portPg n) PORT_RX_PSEQ_PSEQ + 1) % 2 ^ 32) ∧
  (∀ (s : State) (n : Port) (uid : Nat) (j : Job) (x : JobPort) (f : BusFrame) (data : List Byte), s.delimits n f data →
    f.head.kind ≠ .comet → f.claim.verdict = .claimed → f.claim.dest = 4 → f.claim.copy = false → f.claim.fwd = some uid →
    f.claim.blk = none → s.job? uid = some j → x ∈ j.ports → x.stage = .pending → (∀ y ∈ j.ports, s.fencedCl (y.port / 16) = false) →
    ∃ t : State, exec (.frameCommit n data) s = .next t ∧ (t.port n).cur = some { f with committed := true } ∧
      t.job? uid = some { j with pseq := s.rd (portPg n) PORT_RX_PSEQ_PSEQ, store := none, data := data, res := .resident,
                                 elig := s.nextUid } ∧
      (∀ v, v ≠ uid → t.job? v = s.job? v) ∧ s.sameMem t ∧ t.tgts = s.tgts) ∧
  (∀ (s : State) (n : Port) (f : BusFrame) (data : List Byte), s.faults = [] → s.onBus n = true → (s.port n).cur = some f →
    f.failed = false → f.committed = false → f.own.isSome = true → s.pmode n = pmNormal →
    ∃ t : State, exec (.frameCommit n data) s = .next t ∧ (t.port n).cur = some { f with committed := true } ∧
      t.out = .ackSlot n false :: s.out ∧ t.rd (portPg n) PORT_ESTATE_ALONE = 0 ∧ t.rd (portPg n) PORT_ESTATE_ACKRUN = 0 ∧
      (∀ k, k ≠ n.val → t.port k = s.port k) ∧
      s.regsBut t [fieldKey (portPg n) PORT_ESTATE_ALONE 0, fieldKey (portPg n) PORT_ESTATE_ACKRUN 0] ∧
      t = { s with moments := t.moments, regs := t.regs, ports := t.ports, out := t.out }) ∧
  (∀ (s : State) (n : Port) (f : BusFrame) (uid : Nat) (j : Job) (x : JobPort), s.faults = [] → s.onBus n = true →
    (s.port n).cur = some f → (s.port n).cand = none → (s.port n).move = none → (s.port n).prevGood = none → f.failed = false →
    f.own = some (.job uid) → s.job? uid = some j → (j.fwd = false ∨ ∃ y ∈ j.ports, y.port ≠ n.val ∧ y.stage = .pending) →
    j.on n = some x → x.stage = .won → x.doom = none → j.res = .resident →
    s.estate n = esActive → s.rd (portPg n) PORT_ECNT_TEC ≤ 127 → s.rd (portPg n) PORT_ECNT_REC ≤ 127 →
    ∃ t : State, exec (.frameEnd n) s = .next t ∧ (t.port n).cur = (s.port n).nxt ∧ (t.port n).nxt = none ∧
      t.onPort uid n = some { x with stage := .final .sent, doom := none, cancelBy := [] } ∧
      t.rd (portPg n) PORT_ECNT_TEC = s.rd (portPg n) PORT_ECNT_TEC - 1 ∧
      t.rd (portPg n) PORT_ECNT_REC = s.rd (portPg n) PORT_ECNT_REC ∧ t.rd (portPg n) PORT_ESTATE_ALONE = 0 ∧
      t.rd (portPg n) PORT_ESTATE_ACKRUN = 0 ∧ t.estate n = esActive ∧
      t.rd (portPg n) PORT_TX_OK_COUNT = min (s.rd (portPg n) PORT_TX_OK_COUNT + 1) (2 ^ 32 - 1) ∧
      (∀ k, k ≠ n.val → t.port k = s.port k) ∧ s.sameMem t ∧ t.mode = s.mode) ∧
  (∀ (s : State) (n : Port) (f : BusFrame) (y : SyncSlot), s.faults = [] → s.onBus n = true → (s.port n).cur = some f →
    (s.port n).move = none → (s.port n).prevGood = none → f.failed = false → f.own = some .sync → (s.port n).sync = some y →
    s.estate n = esActive → s.rd (portPg n) PORT_ECNT_TEC ≤ 127 → s.rd (portPg n) PORT_ECNT_REC ≤ 127 →
    ∃ t : State, exec (.frameEnd n) s = .next t ∧ (t.port n).cur = (s.port n).nxt ∧ (t.port n).sync = (s.port n).syncNext ∧
      (t.port n).syncNext = none ∧
      (t.port n).discSeen = (if (f.data.getD 7 0).toNat.testBit 7 then (s.port n).discSeen else max (s.port n).discSeen f.discs) ∧
      t.rd (portPg n) PORT_ECNT_TEC = s.rd (portPg n) PORT_ECNT_TEC - 1 ∧
      t.rd (ephPg (n.val / 16)) EPH_SYNC_SENT_COUNT = min (s.rd (ephPg (n.val / 16)) EPH_SYNC_SENT_COUNT + 1) (2 ^ EPH_SYNC_SENT_COUNT.w - 1) ∧
      (∀ k, k ≠ n.val → t.port k = s.port k) ∧ t.jobs = s.jobs ∧ s.sameMem t) ∧
  (∀ (s : State) (n : Port) (f : BusFrame), s.faults = [] → s.onBus n = true → (s.port n).cur = some f → (s.port n).move = none →
    (∀ g, (s.port n).prevGood = some g → g.1 ≠ f.head.id.toNat ∨ g.2.1 ≠ f.head.long ∨ g.2.2.1 = f.head.snd.toNat) →
    f.failed = false → f.own = none → f.committed = true →
    ∃ t : State, exec (.frameEnd n) s = .next t ∧
      t.port n = { s.port n with cur := (s.port n).nxt, nxt := none
                                 prevGood := some (f.head.id.toNat, f.head.long, f.head.snd.toNat, f.case1) } ∧
      (∀ k, k ≠ n.val → t.port k = s.port k) ∧ t = { s with moments := t.moments, ports := t.ports }) ∧
  (∀ (s : State) (n : Port) (f : BusFrame) (g : Nat × Bool × Nat × Option (Cand × Nat)), s.faults = [] → s.onBus n = true →
    (s.port n).cur = some f → (s.port n).move = none → (s.port n).prevGood = some g → g.1 = f.head.id.toNat → g.2.1 = f.head.long →
    g.2.2.1 ≠ f.head.snd.toNat → g.2.2.2 = none → f.failed = false → f.own = none → f.committed = true →
    ∃ t : State, exec (.frameEnd n) s = .next t ∧ (t.port n).cur = (s.port n).nxt ∧
      t.rd (portPg n) PORT_IDSHARE_CNT_COUNT = min (s.rd (portPg n) PORT_IDSHARE_CNT_COUNT + 1) (2 ^ PORT_IDSHARE_CNT_COUNT.w - 1) ∧
      t.rd (portPg n) PORT_IDSHARE_ID_ID = f.head.id.toNat ∧ t.rd (portPg n) PORT_IDSHARE_ID_CASE = 1 ∧
      t.rd (portPg n) PORT_IDSHARE_SND_FIRST = g.2.2.1 % 2 ^ 6 ∧ t.rd (portPg n) PORT_IDSHARE_SND_SECOND = f.head.snd.toNat ∧
      (∀ k, k ≠ n.val → t.port k = s.port k) ∧ t.jobs = s.jobs ∧ s.sameMem t)

/-- BUS_ERROR (R115, R121-R123, R136, R142, R145, R149-R153, R157, R262): every error is counted in the register of its kind and is the
last error code, with the overload flags that were sent. An error active transmitter's costs TEC 8, and 8 for each long dominant run, and its
object is pending again with one more failed attempt, or RETRY_LIMIT at its limit; a bit error in the port's own arbitration field does the
same; the sixteenth ACK error in a row brings ALONE; a passive sender's ACK error, undisturbed, leaves TEC. A receiver's error costs REC 8 when
it was the first to flag and else 1. A passive node that reads no dominant bit loses its place and integrates, or, where the error was
flagged at or after the ACK delimiter, follows the bus. A next-up result of the port is void. TEC at 256 is bus-off, recovering at once with
AUTO. A head in an enforced eclipse window is a form error. In LISTEN an error restarts detection, which fails at the eighth restart. -/
def Obligations.BusErrorsMoveTheCounters : Prop :=
  (∀ (s : State) (n : Port) (f : BusFrame) (e : BusErr) (first dominant : Bool) (runs ov uid : Nat) (j : Job) (x : JobPort),
    e ≠ .tail → e ≠ .eclipse → s.carries n f → s.estate n = esActive → (s.port n).nxt = none → f.own = some (.job uid) →
    s.retries n uid j x → x.stage = .won → (e = .ack → s.rd (portPg n) PORT_ESTATE_ACKRUN < 15) →
    s.rd (portPg n) PORT_ECNT_TEC + 8 + 8 * runs ≤ 127 → s.rd (portPg n) PORT_ECNT_REC ≤ 127 →
    ∃ t : State, exec (.busError n e false first runs ov dominant) s = .next t ∧ (t.port n).cur = none ∧
      t.onPort uid n = some { x with stage := .pending, fails := x.fails + 1 } ∧
      t.rd (portPg n) PORT_ECNT_TEC = s.rd (portPg n) PORT_ECNT_TEC + 8 + 8 * runs ∧
      t.rd (portPg n) PORT_ECNT_REC = s.rd (portPg n) PORT_ECNT_REC ∧ t.estate n = esActive ∧
      t.rd (portPg n) PORT_ESTATE_ACKRUN = (if e = .ack then s.rd (portPg n) PORT_ESTATE_ACKRUN + 1 else 0) ∧
      t.rd (portPg n) PORT_ESTATE_LEC = errCode e ∧
      t.rd (portPg n) (errCounter e) = min (s.rd (portPg n) (errCounter e) + 1) (2 ^ 32 - 1) ∧
      t.rd (portPg n) PORT_CNT_OVLD_COUNT = min (s.rd (portPg n) PORT_CNT_OVLD_COUNT + ov) (2 ^ 32 - 1) ∧
      t.rd (portPg n) PORT_TX_FAIL_COUNT = min (s.rd (portPg n) PORT_TX_FAIL_COUNT + 1) (2 ^ 32 - 1) ∧
      (∀ k, k ≠ n.val → t.port k = s.port k) ∧ (∀ v, v ≠ uid → t.job? v = s.job? v) ∧ s.sameMem t ∧ t.mode = s.mode) ∧
  (∀ (s : State) (n : Port) (f : BusFrame) (e : BusErr) (uid : Nat) (j : Job) (x : JobPort), e ≠ .tail → e ≠ .eclipse →
    s.carries n f → s.estate n = esActive → (s.port n).nxt = none → f.own = some (.job uid) → s.job? uid = some j → j.fwd = false →
    j.lost = false → j.res = .resident → j.on n = some x → x.stage = .won → x.doom = none → j.limit ≠ 0 → j.limit ≤ x.fails + 1 →
    (e = .ack → s.rd (portPg n) PORT_ESTATE_ACKRUN < 15) → s.rd (portPg n) PORT_ECNT_TEC + 8 ≤ 127 →
    s.rd (portPg n) PORT_ECNT_REC ≤ 127 →
    ∃ t : State, exec (.busError n e false false 0 0 false) s = .next t ∧ (t.port n).cur = none ∧
      t.onPort uid n = some { x with stage := .final .retryLimit, fails := x.fails + 1, cancelBy := [] } ∧
      t.rd (portPg n) PORT_TX_LIMIT_COUNT = min (s.rd (portPg n) PORT_TX_LIMIT_COUNT + 1) (2 ^ 32 - 1) ∧
      (t.rd (portPg n) PAGE_IRQ_PEND_PEND).testBit 11 = true ∧ (∀ k, k ≠ n.val → t.port k = s.port k) ∧ s.sameMem t) ∧
  (∀ (s : State) (n : Port) (f : BusFrame) (first dominant : Bool) (uid : Nat) (j : Job) (x : JobPort), s.carries n f →
    s.estate n = esActive → (s.port n).nxt = none → f.own = some (.job uid) → s.retries n uid j x → x.stage = .won →
    s.rd (portPg n) PORT_ESTATE_ACKRUN = 15 → s.rd (portPg n) PORT_ECNT_TEC ≤ 247 → s.rd (portPg n) PORT_ECNT_REC ≤ 127 →
    ∃ u : State, exec (.busError n .ack false first 0 0 dominant) s = .next u.done ∧ (u.port n).cur = none ∧
      u.onPort uid n = some { x with stage := .pending, fails := x.fails + 1 } ∧
      u.rd (portPg n) PORT_ECNT_TEC = s.rd (portPg n) PORT_ECNT_TEC + 8 ∧ u.rd (portPg n) PORT_ESTATE_ACKRUN = 16 ∧
      u.rd (portPg n) PORT_ESTATE_ALONE = 1 ∧ u.estate n = (if 120 ≤ s.rd (portPg n) PORT_ECNT_TEC then esPassive else esActive) ∧
      (u.rd (portPg n) PAGE_IRQ_PEND_PEND).testBit 5 = true ∧ (u.rd (portPg n) PAGE_ERRSRC_SRC).testBit 2 = true ∧
      (u.port n).aloneAt = some s.frameTicks ∧ u.faults = [⟨16 + n.val / 16, .port n⟩] ∧ s.sameMem u) ∧
  (∀ (s : State) (n : Port) (f : BusFrame) (uid : Nat) (j : Job) (x : JobPort), s.carries n f →
    s.estate n = esPassive → (s.port n).nxt = none → f.own = some (.job uid) → s.retries n uid j x → x.stage = .won →
    s.rd (portPg n) PORT_ESTATE_ACKRUN < 15 → 128 ≤ s.rd (portPg n) PORT_ECNT_TEC → s.rd (portPg n) PORT_ECNT_TEC ≤ 255 →
    ∃ t : State, exec (.busError n .ack false false 0 0 false) s = .next t ∧
      (t.port n).cur = some { f with failed := true, own := none, claim := {} } ∧ (t.port n).reint = (s.port n).reint ∧
      t.onPort uid n = some { x with stage := .pending, fails := x.fails + 1 } ∧
      t.rd (portPg n) PORT_ECNT_TEC = s.rd (portPg n) PORT_ECNT_TEC ∧ t.estate n = esPassive ∧
      t.rd (portPg n) PORT_ESTATE_ACKRUN = s.rd (portPg n) PORT_ESTATE_ACKRUN + 1 ∧ (∀ k, k ≠ n.val → t.port k = s.port k)) ∧
  (∀ (s : State) (n : Port) (first dominant : Bool) (uid : Nat) (j : Job) (x : JobPort), s.faults = [] → s.onBus n = true →
    offersMode (s.pmode n) = true → s.estate n = esActive → (s.port n).cur = none → (s.port n).nxt = none →
    (s.port n).cand = some (.job uid) → (s.port n).candNext = false → (s.port n).move = none → s.retries n uid j x → x.stage = .offered →
    s.rd (portPg n) PORT_ECNT_TEC + 8 ≤ 127 → s.rd (portPg n) PORT_ECNT_REC ≤ 127 →
    ∃ t : State, exec (.busError n .bit false first 0 0 dominant) s = .next t ∧ (t.port n).cand = none ∧ (t.port n).cur = none ∧
      t.onPort uid n = some { x with stage := .pending, fails := x.fails + 1 } ∧
      t.rd (portPg n) PORT_ECNT_TEC = s.rd (portPg n) PORT_ECNT_TEC + 8 ∧
      t.rd (portPg n) PORT_TX_FAIL_COUNT = min (s.rd (portPg n) PORT_TX_FAIL_COUNT + 1) (2 ^ 32 - 1) ∧
      (∀ k, k ≠ n.val → t.port k = s.port k) ∧ s.sameMem t) ∧
  (∀ (s : State) (n : Port) (f : BusFrame) (e : BusErr) (first dominant : Bool) (runs ov : Nat), e ≠ .eclipse →
    (e = .tail → f.recv = true ∧ f.failed = false) → s.carries n f → s.estate n = esActive → (s.port n).nxt = none → f.own = none →
    s.rd (portPg n) PORT_ECNT_TEC ≤ 127 → s.rd (portPg n) PORT_ECNT_REC + (if first then 8 else 1) + 8 * runs ≤ 127 →
    ∃ t : State, exec (.busError n e false first runs ov dominant) s = .next t ∧ (t.port n).cur = none ∧
      t.rd (portPg n) PORT_ECNT_REC = s.rd (portPg n) PORT_ECNT_REC + (if first then 8 else 1) + 8 * runs ∧
      t.rd (portPg n) PORT_ECNT_TEC = s.rd (portPg n) PORT_ECNT_TEC ∧ t.estate n = esActive ∧
      t.rd (portPg n) PORT_ESTATE_ACKRUN = 0 ∧ t.rd (portPg n) PORT_ESTATE_LEC = errCode e ∧
      t.rd (portPg n) (errCounter e) = min (s.rd (portPg n) (errCounter e) + 1) (2 ^ 32 - 1) ∧
      t.rd (portPg n) PORT_CNT_OVLD_COUNT = min (s.rd (portPg n) PORT_CNT_OVLD_COUNT + ov) (2 ^ 32 - 1) ∧
      (∀ k, k ≠ n.val → t.port k = s.port k) ∧ t.jobs = s.jobs ∧ t.blocks = s.blocks ∧ s.sameMem t ∧ t.mode = s.mode) ∧
  (∀ (s : State) (n : Port) (f : BusFrame) (e : BusErr) (first : Bool), (e = .stuff ∨ e = .hcrc) → s.carries n f →
    s.estate n = esPassive → (s.port n).nxt = none → f.own = none → f.committed = false → s.rd (portPg n) PORT_ECNT_TEC ≤ 255 →
    128 ≤ s.rd (portPg n) PORT_ECNT_REC →
    ∃ t : State, exec (.busError n e false first 0 0 false) s = .next t ∧ (t.port n).cur = none ∧ (t.port n).reint = true ∧
      t.estate n = esPassive ∧ t.rd (portPg n) PORT_ECNT_REC = min 511 (s.rd (portPg n) PORT_ECNT_REC + (if first then 8 else 1)) ∧
      t.rd (portPg n) PORT_ESTATE_LEC = errCode e ∧ (∀ k, k ≠ n.val → t.port k = s.port k) ∧ t.jobs = s.jobs) ∧
  (∀ (s : State) (n : Port) (f : BusFrame) (e : BusErr) (first : Bool), (e = .lcrc ∨ (e = .tail ∧ f.recv = true ∧ f.failed = false)) →
    s.carries n f → s.estate n = esPassive → f.own = none → s.rd (portPg n) PORT_ECNT_TEC ≤ 255 → 128 ≤ s.rd (portPg n) PORT_ECNT_REC →
    ∃ t : State, exec (.busError n e false first 0 0 false) s = .next t ∧
      (t.port n).cur = some { f with failed := true, own := none, claim := {} } ∧ (t.port n).nxt = (s.port n).nxt ∧
      (t.port n).reint = (s.port n).reint ∧ t.estate n = esPassive ∧ t.rd (portPg n) PORT_ESTATE_LEC = errCode e ∧
      (∀ k, k ≠ n.val → t.port k = s.port k) ∧ t.jobs = s.jobs) ∧
  (∀ (s : State) (n : Port) (f g : BusFrame) (e : BusErr) (first dominant : Bool) (uid : Nat) (j : Job) (x : JobPort), e ≠ .eclipse →
    (e = .tail → f.recv = true ∧ f.failed = false) → s.carries n f → s.estate n = esActive → f.own = none → (s.port n).nxt = some g →
    g.own = some (.job uid) → g.claim.verdict = .rejected → s.retries n uid j x → x.stage = .won →
    s.rd (portPg n) PORT_ECNT_TEC ≤ 127 → s.rd (portPg n) PORT_ECNT_REC + 8 ≤ 127 →
    ∃ t : State, exec (.busError n e false first 0 0 dominant) s = .next t ∧ (t.port n).cur = none ∧ (t.port n).nxt = none ∧
      t.onPort uid n = some { x with stage := .pending } ∧
      t.rd (portPg n) PORT_NU_VOID_COUNT = min (s.rd (portPg n) PORT_NU_VOID_COUNT + 1) (2 ^ 32 - 1) ∧
      t.rd (portPg n) PORT_TX_FAIL_COUNT = s.rd (portPg n) PORT_TX_FAIL_COUNT ∧
      t.rd (portPg n) PORT_ECNT_REC = s.rd (portPg n) PORT_ECNT_REC + (if first then 8 else 1) ∧
      (∀ k, k ≠ n.val → t.port k = s.port k)) ∧
  (∀ (s : State) (n : Port) (f : BusFrame) (e : BusErr) (first : Bool) (uid : Nat) (j : Job) (x : JobPort), e ≠ .tail → e ≠ .eclipse →
    s.carries n f → s.estate n = esPassive → (s.port n).nxt = none → f.own = some (.job uid) → s.retries n uid j x → x.stage = .won →
    248 ≤ s.rd (portPg n) PORT_ECNT_TEC → s.rd (portPg n) PORT_ECNT_TEC ≤ 256 →
    ∃ u : State, exec (.busError n e false first 0 0 true) s = .next u.done ∧
      u.estate n = (if s.flag (portPg n) PORT_ERRCFG_AUTO then esRecovering else esBusOff) ∧
      u.rd (portPg n) PORT_ECNT_TEC = 256 ∧ u.rd (portPg n) PORT_ESTATE_ALONE = 0 ∧ u.rd (portPg n) PORT_ESTATE_ACKRUN = 0 ∧
      u.rd (portPg n) PORT_CNT_BUSOFF_COUNT = min (s.rd (portPg n) PORT_CNT_BUSOFF_COUNT + 1) (2 ^ 32 - 1) ∧
      (u.rd (portPg n) PAGE_ERRSRC_SRC).testBit 0 = true ∧ (u.rd (portPg n) PAGE_IRQ_PEND_PEND).testBit 3 = true ∧
      u.onPort uid n = some { x with stage := .pending, fails := x.fails + 1 } ∧ (u.port n).cur = none ∧
      u.faults = [⟨16 + n.val / 16, .port n⟩] ∧ s.sameMem u) ∧
  (∀ (s : State) (n : Port) (h : Head) (nextUp : Bool) (back e pulse : Nat), s.faults = [] → s.onBus n = true → headValid h = true →
    (s.port n).cand = none → (s.port n).nxt = none → (s.port n).cur = none → nextUp = false → (s.port n).move = none →
    offersMode (s.pmode n) = true → s.pmode n ≠ pmLoopInt → s.estate n = esActive → h.snd.toNat ≠ s.rd (portPg n) PORT_SND_SND →
    s.violates n h (s.momentOf back) = true → s.rd (portPg n) PORT_ECNT_TEC ≤ 127 → s.rd (portPg n) PORT_ECNT_REC + 8 ≤ 127 →
    ∃ t : State, exec (.headReceived n h nextUp back e pulse []) s = .next t ∧ (t.port n).cur = none ∧
      t.rd (portPg n) PORT_CNT_FORM_COUNT = min (s.rd (portPg n) PORT_CNT_FORM_COUNT + 1) (2 ^ 32 - 1) ∧
      t.rd (portPg n) PORT_ECL_VIOL_COUNT = min (s.rd (portPg n) PORT_ECL_VIOL_COUNT + 1) (2 ^ PORT_ECL_VIOL_COUNT.w - 1) ∧
      (t.rd (portPg n) PAGE_IRQ_PEND_PEND).testBit 14 = true ∧ t.rd (portPg n) PORT_ESTATE_LEC = 8 ∧
      t.rd (portPg n) PORT_ECNT_REC = s.rd (portPg n) PORT_ECNT_REC + 8 ∧ (∀ k, k ≠ n.val → t.port k = s.port k) ∧ t.jobs = s.jobs) ∧
  (∀ (s : State) (n : Port) (e : BusErr) (inNextUp first dominant : Bool) (runs ov : Nat), s.faults = [] → s.portRuns n = true →
    s.estate n = esDetecting → (s.port n).listenRate = true → (s.port n).cur = none → (s.port n).move = none → e ≠ .eclipse →
    s.rd (portPg n) PORT_LISTEN_RESTARTS ≤ 7 →
    ∃ t : State, exec (.busError n e inNextUp first runs ov dominant) s = .next t ∧ (t.port n).listenHeads = 0 ∧
      (t.port n).listenRate = false ∧ t.rd (portPg n) PORT_LISTEN_RESTARTS = s.rd (portPg n) PORT_LISTEN_RESTARTS + 1 ∧
      t.rd (portPg n) (errCounter e) = min (s.rd (portPg n) (errCounter e) + 1) (2 ^ 32 - 1) ∧
      t.estate n = (if s.rd (portPg n) PORT_LISTEN_RESTARTS = 7 then esNone else esDetecting) ∧
      t.rd (portPg n) PORT_LISTEN_RESULT = (if s.rd (portPg n) PORT_LISTEN_RESTARTS = 7 then 3 else s.rd (portPg n) PORT_LISTEN_RESULT) ∧
      (s.rd (portPg n) PORT_LISTEN_RESTARTS = 7 → (t.rd (portPg n) PAGE_IRQ_PEND_PEND).testBit 7 = true) ∧
      (∀ k, k ≠ n.val → t.port k = s.port k) ∧ t.jobs = s.jobs)

/-! ### Bus ports: modes -/

/-- INTEGRATION_DONE, BUS_OFF_RECOVERY_DONE and RECOVER (R105, R145, R150, R152, R156): a RESTRICTED port receives with its integration, any other
is error active, or passive where its counters say so; a port that had lost its place takes part again; recovery clears both counters and
integrates; RECOVER starts recovery of a port that is bus-off, and no other command is permitted it. -/
def Obligations.PortsIntegrateAndRecover : Prop :=
  (∀ (s : State) (n : Port), s.faults = [] → s.portRuns n = true → s.estate n = esIntegrating → (s.port n).move = none →
    s.rd (portPg n) PORT_ECNT_TEC ≤ 255 →
    ∃ t : State, exec (.integrationDone n) s = .next t ∧
      t.estate n = (if s.pmode n = pmRestricted then esReceiving
        else if 128 ≤ s.rd (portPg n) PORT_ECNT_TEC ∨ 128 ≤ s.rd (portPg n) PORT_ECNT_REC then esPassive else esActive) ∧
      t.port n = { s.port n with reint := false } ∧ (∀ k, k ≠ n.val → t.port k = s.port k) ∧
      s.regsBut t [fieldKey (portPg n) PORT_ESTATE_STATE 0, fieldKey (portPg n) PAGE_IRQ_PEND_PEND 0] ∧
      t = { s with moments := t.moments, regs := t.regs, srcs := t.srcs, pps := t.pps, ports := t.ports }) ∧
  (∀ (s : State) (n : Port), s.faults = [] → s.portRuns n = true → s.estate n ≠ esIntegrating → (s.port n).move = none →
    ∃ t : State, exec (.integrationDone n) s = .next t ∧ t.port n = { s.port n with reint := false } ∧
      (∀ k, k ≠ n.val → t.port k = s.port k) ∧ t = { s with moments := t.moments, ports := t.ports }) ∧
  (∀ (s : State) (n : Port), s.faults = [] → s.portRuns n = true → s.estate n = esRecovering →
    ∃ t : State, exec (.busOffRecoveryDone n) s = .next t ∧ t.estate n = esIntegrating ∧ t.rd (portPg n) PORT_ECNT_TEC = 0 ∧
      t.rd (portPg n) PORT_ECNT_REC = 0 ∧
      t.rd (portPg n) PORT_RECOV_SEQ = (if s.flag (portPg n) PORT_ERRCFG_QUICK then 32 else 128) ∧
      t.rd (portPg n) PORT_ESTATE_WARN = 0 ∧ (t.rd (portPg n) PAGE_IRQ_PEND_PEND).testBit 2 = true ∧
      s.regsBut t [fieldKey (portPg n) PORT_ESTATE_STATE 0, fieldKey (portPg n) PORT_ESTATE_WARN 0,
        fieldKey (portPg n) PORT_ECNT_TEC 0, fieldKey (portPg n) PORT_ECNT_REC 0, fieldKey (portPg n) PORT_RECOV_SEQ 0,
        fieldKey (portPg n) PAGE_IRQ_PEND_PEND 0] ∧
      t = { s with moments := t.moments, regs := t.regs, srcs := t.srcs, freeCtr := t.freeCtr }) ∧
  (∀ (s : State) (pp : PPort) (n : Port), s.opens pp (portPg n) → s.estate n = esBusOff →
    ∃ t : State, exec (.recover pp n) s = .next t ∧ t.estate n = esRecovering ∧ t.rd (portPg n) PORT_RECOV_SEQ = 0 ∧
      t.reports (portPg n) stOk 2 ∧
      s.regsBut t (fieldKey (portPg n) PORT_ESTATE_STATE 0 :: fieldKey (portPg n) PORT_RECOV_SEQ 0 :: cmdKeys (portPg n)) ∧
      t = { s with moments := t.moments, regs := t.regs, srcs := t.srcs, freeCtr := t.freeCtr }) ∧
  (∀ (s : State) (pp : PPort) (n : Port), s.opens pp (portPg n) → s.estate n ≠ esBusOff →
    exec (.recover pp n) s = .next (s.refuse (portPg n) .badCmd).noteMoment)

/-- STUCK_DOMINANT, LISTEN_TIMEOUT, SURGE and CM_RANGE (R157, R171, R185, R201, R369): each flags its bit and raises one event of
its line; a LISTEN that has found no rate fails.

PORT_WAKE_CONDITION (R108, R155, R159, R160, R167, R168): an edge wakes a sleeping port whose copied EDGE bit is set, where the device mode does
not limit it to frames, and so does a frame that its copied registers match; the port enters the copied AFTER mode where SET_PMODE would permit
it, and else CONFIG, and what was seen is shown; where PORT_ABT is out of range it stays in SLEEP. It aborts a sleep that is not entered yet. -/
def Obligations.PortDetectorsReportAndWake : Prop :=
  (∀ (s : State) (n : Port), s.faults = [] → s.portRuns n = true → 2 ≤ s.pmode n →
    ∃ u : State, exec (.stuckDominant n) s = .next u.done ∧ u.faults = [⟨16 + n.val / 16, .port n⟩] ∧
      u.rd (portPg n) PAGE_ERRSRC_SRC = (s.rd (portPg n) PAGE_ERRSRC_SRC ||| 2) % 2 ^ 16 ∧
      s.regsBut u [fieldKey (portPg n) PAGE_ERRSRC_SRC 0] ∧ u = { s with regs := u.regs, faults := u.faults }) ∧
  (∀ (s : State) (n : Port), s.faults = [] → s.portRuns n = true → s.pmode n = pmListen → s.estate n = esDetecting →
    s.rd (portPg n) PORT_LISTEN_RESULT = 1 → s.rd (portPg n) PORT_LISTEN_TIMEOUT ≠ 0 →
    ∃ t : State, exec (.listenTimeout n) s = .next t ∧ t.rd (portPg n) PORT_LISTEN_RESULT = 3 ∧ t.estate n = esNone ∧
      (t.rd (portPg n) PAGE_IRQ_PEND_PEND).testBit 7 = true ∧
      s.regsBut t [fieldKey (portPg n) PORT_LISTEN_RESULT 0, fieldKey (portPg n) PORT_ESTATE_STATE 0,
        fieldKey (portPg n) PAGE_IRQ_PEND_PEND 0] ∧
      t = { s with moments := t.moments, regs := t.regs, srcs := t.srcs }) ∧
  (∀ (s : State) (n : Port), s.faults = [] → s.down = false →
    ∃ u : State, exec (.surge n) s = .next u.done ∧ u.faults = [⟨16 + n.val / 16, .port n⟩] ∧
      u.rd (phyPg n) PHY_CNT_SURGE_COUNT = min (s.rd (phyPg n) PHY_CNT_SURGE_COUNT + 1) (2 ^ 32 - 1) ∧
      u.rd (phyPg n) PAGE_ERRSRC_SRC = (s.rd (phyPg n) PAGE_ERRSRC_SRC ||| 4) % 2 ^ 16 ∧
      (u.rd (phyPg n) PAGE_IRQ_PEND_PEND).testBit 4 = true ∧
      s.regsBut u [fieldKey (phyPg n) PHY_CNT_SURGE_COUNT 0, fieldKey (phyPg n) PAGE_ERRSRC_SRC 0,
        fieldKey (phyPg n) PAGE_IRQ_PEND_PEND 0] ∧
      u = { s with regs := u.regs, srcs := u.srcs, faults := u.faults }) ∧
  (∀ (s : State) (n : Port), s.faults = [] → s.down = false →
    ∃ u : State, exec (.cmRange n) s = .next u.done ∧ u.faults = [⟨16 + n.val / 16, .port n⟩] ∧
      u.rd (phyPg n) PAGE_ERRSRC_SRC = (s.rd (phyPg n) PAGE_ERRSRC_SRC ||| 8) % 2 ^ 16 ∧
      s.regsBut u [fieldKey (phyPg n) PAGE_ERRSRC_SRC 0] ∧ u = { s with regs := u.regs, faults := u.faults }) ∧
  (∀ (s : State) (n : Port) (w : WakeSeen) (m : Nat), s.faults = [] → s.portRuns n = true → s.pmode n = pmSleep →
    s.isWake (s.port n).sleepCopy w = true →
    m = (if s.targetOk ((s.port n).sleepCopy.getD 9 0) then (s.port n).sleepCopy.getD 9 0 else pmConfig) →
    (m = pmConfig ∨ ((m = pmNormal ∨ m = pmRestricted) ∧ s.abtOk n = true)) →
    (s.port n).move = none → (s.port n).moveNext = none → s.moving = none → (s.port n).window = false → (s.port n).eye = none →
    (s.port n).sync = none → (s.port n).syncNext = none →
    ∃ t : State, exec (.portWakeCondition n w) s = .next t ∧ t.pmode n = m ∧ t.rd (portPg n) PORT_MODE_PREV = pmSleep ∧
      t.estate n = (if m = pmConfig then esNone else esIntegrating) ∧ t.rd (portPg n) PORT_WAKE_SEEN_VALID = 1 ∧
      t.rd (portPg n) PORT_WAKE_SEEN_EDGE = (if w = .edge then 1 else 0) ∧
      (∀ h d, w = .frame h d → t.rd (portPg n) PORT_WAKE_SEEN_ID = (if h.long then h.id.toNat else h.id.toNat * 2 ^ 18) % 2 ^ 29 ∧
        t.rd (portPg n) PORT_WAKE_SEEN_LONG = (if h.long then 1 else 0)) ∧
      (t.rd (portPg n) PAGE_IRQ_PEND_PEND).testBit 6 = true ∧ (∀ k, k ≠ n.val → t.port k = s.port k) ∧
      t = { s with moments := t.moments, regs := t.regs, srcs := t.srcs, ports := t.ports, freeCtr := t.freeCtr }) ∧
  (∀ (s : State) (n : Port) (w : WakeSeen), s.faults = [] → s.portRuns n = true → s.pmode n = pmSleep → s.abtOk n = false →
    s.isWake (s.port n).sleepCopy w = true → s.targetOk ((s.port n).sleepCopy.getD 9 0) = true →
    ((s.port n).sleepCopy.getD 9 0 = pmNormal ∨ (s.port n).sleepCopy.getD 9 0 = pmRestricted) → (s.port n).move = none →
    (s.port n).moveNext = none → s.moving = none →
    ∃ t : State, exec (.portWakeCondition n w) s = .next t ∧ t.pmode n = pmSleep ∧ t.rd (portPg n) PORT_WAKE_SEEN_VALID = 1 ∧
      (t.rd (portPg n) PAGE_IRQ_PEND_PEND).testBit 6 = true ∧ t.ports = s.ports) ∧
  (∀ (s : State) (n : Port), s.faults = [] → s.portRuns n = true → 1 ≤ s.pmode n → s.pmode n ≤ 6 → (s.port n).move = some (.drain 7 true) →
    (s.port n).moveNext = none → s.moving = none → s.isWake (s.wakeRegs n) .edge = true → s.rd (portPg n) PAGE_CMD_CODE = 1 →
    ∃ t : State, exec (.portWakeCondition n .edge) s = .next t ∧ t.pmode n = s.pmode n ∧ (t.port n).move = none ∧
      t.rd (portPg n) PORT_MODE_MOVING = 0 ∧ t.reports (portPg n) 0x81 1 ∧ t.rd (portPg n) PORT_WAKE_SEEN_VALID = 1 ∧
      (∀ k, k ≠ n.val → t.port k = s.port k) ∧ t.jobs = s.jobs)

/-- SET_PMODE (R108, R154-R157, R159, R161, R164, R200, R412): from CONFIG or SLEEP a port enters a bus mode with cleared counters and PORT_ABT
loaded, LISTEN with detection begun, SLEEP with the wake registers copied, and OFF; out of OFF it waits for its calibration, and out of CONFIG
while the core PLL free-runs; out of a mode that takes part in the bus it begins to drain, but one that has driven nothing stops at once, and
one that only received goes to NORMAL where the bus pauses; a mode that it is in ends it; a mode that does not exist, or one for which
PORT_ABT is out of range, ends it with BAD_ARG.

PORT_DRAIN_DONE and FORCED_STOP (R22, R161, R162, R164): the port enters the mode that the drain leads to and its command ends, with OK, or
with FORCED and an error source; POWER_UP_CALIBRATION_DONE (R200, R201, R205): a change out of OFF goes on, trimmed, or fails, and so does
CALIBRATE. None of it happens while the management cores are stalled. -/
def Obligations.PortModesChange : Prop :=
  (∀ (s : State) (pp : PPort) (n : Port) (m : Nat), s.opens pp (portPg n) → s.pmodeOk n = true →
    (s.pmode n = pmConfig ∧ s.freeRuns = false ∨ s.pmode n = pmSleep) → m = s.arg0 (portPg n) % 16 → (m = 2 ∨ m = 3 ∨ m = 5 ∨ m = 6) →
    s.abtOk n = true → (s.port n).window = false → (s.port n).eye = none → (s.port n).sync = none → (s.port n).syncNext = none →
    ∃ t : State, exec (.setPmode pp n) s = .next t ∧ t.pmode n = m ∧ t.rd (portPg n) PORT_MODE_PREV = s.pmode n % 16 ∧
      t.estate n = esIntegrating ∧ t.rd (portPg n) PORT_ECNT_TEC = 0 ∧ t.rd (portPg n) PORT_ECNT_REC = 0 ∧
      t.rd (portPg n) PORT_BITLEN_NQ = s.abtNq n % 2 ^ 11 ∧
      t.rd (portPg n) PORT_ABT_ACT_VALUE = (s.rd (portPg n) PORT_ABT_PRESC + s.rd (portPg n) PORT_ABT_PH1 * 2 ^ 8 +
        s.rd (portPg n) PORT_ABT_PH2 * 2 ^ 16 + min (s.rd (portPg n) PORT_ABT_SJW) (min (s.rd (portPg n) PORT_ABT_PH1)
          (s.rd (portPg n) PORT_ABT_PH2)) * 2 ^ 24) % 2 ^ 32 ∧
      t.reports (portPg n) stOk 1 ∧ t.rd (portPg n) PAGE_RESULT_DETAIL = m ∧ (t.port n).move = none ∧
      (∀ k, k ≠ n.val → t.port k = s.port k) ∧
      t = { s with moments := t.moments, regs := t.regs, srcs := t.srcs, ports := t.ports, freeCtr := t.freeCtr }) ∧
  (∀ (s : State) (pp : PPort) (n : Port), s.opens pp (portPg n) → s.pmodeOk n = true →
    (s.pmode n = pmConfig ∧ s.freeRuns = false ∨ s.pmode n = pmSleep) → s.arg0 (portPg n) % 16 = pmListen →
    (s.port n).window = false → (s.port n).eye = none →
    ∃ t : State, exec (.setPmode pp n) s = .next t ∧ t.pmode n = pmListen ∧ t.estate n = esDetecting ∧
      t.rd (portPg n) PORT_LISTEN_RESULT = 1 ∧ t.rd (portPg n) PORT_LISTEN_RESTARTS = 0 ∧ (t.port n).listenHeads = 0 ∧
      (t.port n).listenRate = false ∧ t.reports (portPg n) stOk 1 ∧ (∀ k, k ≠ n.val → t.port k = s.port k)) ∧
  (∀ (s : State) (pp : PPort) (n : Port), s.opens pp (portPg n) → s.pmodeOk n = true → s.pmode n = pmConfig → s.freeRuns = false →
    s.arg0 (portPg n) % 16 = pmSleep → s.abtOk n = true → (s.port n).window = false → (s.port n).eye = none →
    ∃ t : State, exec (.setPmode pp n) s = .next t ∧ t.pmode n = pmSleep ∧ t.estate n = esNone ∧
      (t.port n).sleepCopy = s.wakeRegs n ∧ t.rd (portPg n) PORT_WAKE_SEEN_VALID = 0 ∧
      t.rd (portPg n) PORT_BITLEN_NQ = s.abtNq n % 2 ^ 11 ∧ t.reports (portPg n) stOk 1 ∧ (∀ k, k ≠ n.val → t.port k = s.port k)) ∧
  (∀ (s : State) (pp : PPort) (n : Port) (m : Nat), s.opens pp (portPg n) → s.pmodeOk n = true →
    (s.pmode n = pmConfig ∧ m = pmOff ∨ s.pmode n = pmSleep ∧ m ≤ pmConfig) → m = s.arg0 (portPg n) % 16 →
    (s.port n).window = false → (s.port n).eye = none →
    ∃ t : State, exec (.setPmode pp n) s = .next t ∧ t.pmode n = m ∧ t.estate n = esNone ∧ t.rd (portPg n) PORT_ECNT_TEC = 0 ∧
      t.reports (portPg n) stOk 1 ∧ (∀ k, k ≠ n.val → t.port k = s.port k)) ∧
  (∀ (s : State) (pp : PPort) (n : Port) (m : Nat), s.opens pp (portPg n) → s.pmodeOk n = true → s.pmode n = pmOff →
    m = s.arg0 (portPg n) % 16 → m ≠ pmOff → m < 8 → s.badTiming n pmOff m = false →
    ∃ t : State, exec (.setPmode pp n) s = .next t ∧ (t.port n).move = some (.calibrate m true) ∧ t.pmode n = pmOff ∧
      t.rd (portPg n) PORT_MODE_MOVING = 1 ∧ t.rd (phyPg n) PHY_CAL_RUNNING = 1 ∧ t.rd (portPg n) PAGE_STAT_BUSY = 1 ∧
      (∀ k, k ≠ n.val → t.port k = s.port k) ∧
      s.regsBut t (fieldKey (portPg n) PORT_MODE_MOVING 0 :: fieldKey (phyPg n) PHY_CAL_RUNNING 0 :: cmdKeys (portPg n)) ∧
      t = { s with moments := t.moments, regs := t.regs, ports := t.ports }) ∧
  (∀ (s : State) (pp : PPort) (n : Port) (m : Nat), s.opens pp (portPg n) → s.pmodeOk n = true → m = s.arg0 (portPg n) % 16 → m < 8 →
    ((s.pmode n = pmConfig ∧ s.freeRuns = true ∧ 2 ≤ m) ∨
      ((s.pmode n = pmNormal ∨ s.pmode n = pmRestricted ∨ s.pmode n = pmLoopExt) ∧ m ≠ s.pmode n ∧ m ≠ pmNormal)) →
    s.badTiming n pmConfig m = false →
    ∃ t : State, exec (.setPmode pp n) s = .next t ∧
      (t.port n).move = some (if s.pmode n = pmConfig then .hold m true else .drain m true) ∧ t.pmode n = s.pmode n ∧
      t.rd (portPg n) PORT_MODE_MOVING = 1 ∧ t.rd (portPg n) PAGE_STAT_BUSY = 1 ∧ (∀ k, k ≠ n.val → t.port k = s.port k) ∧
      s.regsBut t (fieldKey (portPg n) PORT_MODE_MOVING 0 :: cmdKeys (portPg n)) ∧
      t = { s with moments := t.moments, regs := t.regs, ports := t.ports }) ∧
  (∀ (s : State) (pp : PPort) (n : Port) (m : Nat), s.opens pp (portPg n) → s.pmodeOk n = true → m = s.arg0 (portPg n) % 16 →
    m ≤ pmConfig → (s.mode = .configure ∨ s.mode = .test) → (s.pmode n = pmListen ∨ s.pmode n = pmLoopInt) → (s.port n).quiet = true →
    (s.port n).window = false → (s.port n).eye = none →
    ∃ t : State, exec (.setPmode pp n) s = .next t ∧ t.pmode n = m ∧ t.estate n = esNone ∧ t.reports (portPg n) stOk 1 ∧
      (t.port n).move = none ∧ (∀ k, k ≠ n.val → t.port k = s.port k) ∧ t.jobs = s.jobs) ∧
  (∀ (s : State) (pp : PPort) (n : Port), s.opens pp (portPg n) → s.pmodeOk n = true → s.arg0 (portPg n) % 16 = pmNormal →
    (s.pmode n = pmRestricted ∨ (s.pmode n = pmListen ∧ s.rd (portPg n) PORT_LISTEN_RESULT = 2)) →
    (s.port n).quiet = true → (s.port n).reint = false → (s.port n).eye = none → (s.port n).sync = none → (s.port n).syncNext = none →
    (s.estate n = esIntegrating ∨ s.estate n = esReceiving) →
    ∃ t : State, exec (.setPmode pp n) s = .next t ∧ t.pmode n = pmNormal ∧ t.rd (portPg n) PORT_ECNT_TEC = 0 ∧
      t.rd (portPg n) PORT_ECNT_REC = 0 ∧ t.estate n = (if s.estate n = esIntegrating then esIntegrating else esActive) ∧
      t.reports (portPg n) stOk 1 ∧ (t.port n).move = none ∧ (∀ k, k ≠ n.val → t.port k = s.port k)) ∧
  (∀ (s : State) (pp : PPort) (n : Port), s.opens pp (portPg n) → s.pmodeOk n = true → s.arg0 (portPg n) % 16 = pmNormal →
    s.pmode n = pmRestricted → ((s.port n).quiet = false ∨ (s.port n).reint = true) →
    ∃ t : State, exec (.setPmode pp n) s = .next t ∧ (t.port n).move = some (.direct true) ∧ t.pmode n = pmRestricted ∧
      t.rd (portPg n) PORT_MODE_MOVING = 1 ∧ t.rd (portPg n) PAGE_STAT_BUSY = 1 ∧ (∀ k, k ≠ n.val → t.port k = s.port k)) ∧
  (∀ (s : State) (pp : PPort) (n : Port), s.opens pp (portPg n) → s.pmodeOk n = true → s.arg0 (portPg n) % 16 = s.pmode n → s.pmode n < 8 →
    s.pmode n ≠ pmListen → (s.port n).move = none → s.rd (portPg n) PORT_MODE_MOVING = 0 →
    ∃ t : State, exec (.setPmode pp n) s = .next t ∧ t.reports (portPg n) stOk 1 ∧ t.rd (portPg n) PAGE_RESULT_DETAIL = s.pmode n ∧
      (∀ k, t.port k = s.port k) ∧ s.regsBut t (fieldKey (portPg n) PORT_MODE_MOVING 0 :: cmdKeys (portPg n)) ∧
      t = { s with moments := t.moments, regs := t.regs, srcs := t.srcs, ports := t.ports }) ∧
  (∀ (s : State) (pp : PPort) (n : Port) (m : Nat), s.opens pp (portPg n) → s.pmodeOk n = true → m = s.arg0 (portPg n) % 16 →
    (8 ≤ m ∨ (s.pmode n ≤ pmConfig ∧ m ≠ s.pmode n ∧ s.badTiming n (s.pmode n) m = true)) → (s.port n).move = none →
    s.rd (portPg n) PORT_MODE_MOVING = 0 →
    ∃ t : State, exec (.setPmode pp n) s = .next t ∧ t.reports (portPg n) stBadArg 1 ∧
      t.rd (portPg n) PAGE_RESULT_DETAIL = s.pmode n % 2 ^ 16 ∧ (∀ k, t.port k = s.port k) ∧ s.regsBut t (fieldKey (portPg n) PORT_MODE_MOVING 0 :: cmdKeys (portPg n)) ∧
      t = { s with moments := t.moments, regs := t.regs, srcs := t.srcs, ports := t.ports }) ∧
  (∀ (s : State) (n : Port) (m : Nat), s.faults = [] → s.portRuns n = true → s.stalled = false → (s.port n).move = some (.drain m true) →
    (s.port n).moveNext = none → s.moving = none → (s.port n).cur = none → (s.port n).nxt = none → (s.port n).cand = none →
    (m ≤ pmConfig ∨ m = pmSleep) → busMode (s.pmode n) = true → (s.port n).eye = none → s.rd (portPg n) PAGE_CMD_CODE = 1 →
    ∃ t : State, exec (.portDrainDone n) s = .next t ∧ t.pmode n = m ∧ t.rd (portPg n) PORT_MODE_PREV = s.pmode n % 16 ∧
      t.rd (portPg n) PORT_MODE_MOVING = 0 ∧ (t.port n).move = none ∧ t.reports (portPg n) stOk 1 ∧ t.estate n = esNone ∧
      (m = pmSleep → (t.port n).sleepCopy = s.wakeRegs n) ∧
      (∀ k, k ≠ n.val → t.port k = s.port k) ∧ t.jobs = s.jobs ∧ t.mode = s.mode) ∧
  (∀ (s : State) (n : Port) (m : Nat), s.faults = [] → s.portRuns n = true → s.stalled = false → (s.port n).move = some (.drain m true) →
    (s.port n).moveNext = none → s.moving = none → (s.port n).cur = none → (s.port n).nxt = none → (s.port n).cand = none →
    (m = pmNormal ∨ m = pmRestricted ∨ m = pmLoopInt ∨ m = pmLoopExt) → s.abtOk n = true → s.freeRuns = false →
    busMode (s.pmode n) = true → (s.port n).eye = none → (s.port n).sync = none → (s.port n).syncNext = none →
    s.rd (portPg n) PAGE_CMD_CODE = 1 →
    ∃ t : State, exec (.portDrainDone n) s = .next t ∧ t.pmode n = m ∧ t.rd (portPg n) PORT_MODE_PREV = pmConfig ∧
      t.rd (portPg n) PORT_MODE_MOVING = 0 ∧ (t.port n).move = none ∧ t.reports (portPg n) stOk 1 ∧ t.estate n = esIntegrating ∧
      (∀ k, k ≠ n.val → t.port k = s.port k) ∧ t.jobs = s.jobs ∧ t.mode = s.mode) ∧
  (∀ (s : State) (n : Port) (m : Nat), s.faults = [] → s.portRuns n = true → s.stalled = false → (s.port n).move = some (.drain m true) →
    (s.port n).moveNext = none → s.moving = none → (s.port n).cur = none → (s.port n).nxt = none → (s.port n).cand = none →
    (m ≤ pmConfig ∨ m = pmSleep) → busMode (s.pmode n) = true → (s.port n).eye = none → s.rd (portPg n) PAGE_CMD_CODE = 1 →
    ∃ u : State, exec (.forcedStop n) s = .next u.done ∧ u.pmode n = m ∧ u.rd (portPg n) PORT_MODE_MOVING = 0 ∧
      (u.port n).move = none ∧ u.reports (portPg n) 0x80 1 ∧ u.faults = [⟨16 + n.val / 16, .port n⟩] ∧
      (u.rd (portPg n) PAGE_ERRSRC_SRC).testBit 3 = true ∧ (∀ k, k ≠ n.val → u.port k = s.port k) ∧ u.jobs = s.jobs) ∧
  (∀ (s : State) (n : Port) (r : Instr), s.faults = [] → s.stalled = true →
    (r = .portDrainDone n ∨ r = .forcedStop n ∨ ∃ ok trim, r = .powerUpCalibrationDone n ok trim) → exec r s = .next s.noteMoment) ∧
  (∀ (s : State) (n : Port) (m : Nat) (trim : Fin 128), s.faults = [] → s.portRuns n = true → s.stalled = false →
    s.flag (phyPg n) PHY_CAL_RUNNING = true → (s.port n).move = some (.calibrate m true) → (s.port n).moveNext = none → s.moving = none →
    (m = pmConfig ∨ ((m = pmNormal ∨ m = pmRestricted ∨ m = pmSleep) ∧ s.abtOk n = true)) → (s.port n).window = false →
    (s.port n).eye = none → (s.port n).sync = none → (s.port n).syncNext = none → s.pmode n = pmOff →
    s.rd (portPg n) PAGE_CMD_CODE = 1 → s.freeRuns = false → (s.rd crpPg CRP_CLK_CL_LOCK).testBit (n.val / 16) = true →
    0 < trim.val → trim.val < 100 →
    ∃ t : State, exec (.powerUpCalibrationDone n true trim) s = .next t ∧ t.pmode n = m ∧
      t.rd (phyPg n) PHY_CAL_DONE = 1 ∧ t.rd (phyPg n) PHY_CAL_RUNNING = 0 ∧ t.rd (phyPg n) PHY_TERM_CODE = trim.val ∧
      t.rd (phyPg n) PHY_TERM_LIMIT = 0 ∧ t.rd (phyPg n) PHY_TERM_TRIMMED = 1 ∧ t.rd (portPg n) PORT_MODE_MOVING = 0 ∧
      (t.port n).move = none ∧ t.reports (portPg n) stOk 1 ∧ (∀ k, k ≠ n.val → t.port k = s.port k)) ∧
  (∀ (s : State) (n : Port) (m : Nat) (trim : Fin 128), s.faults = [] → s.portRuns n = true → s.stalled = false →
    s.flag (phyPg n) PHY_CAL_RUNNING = true → (s.port n).move = some (.calibrate m true) → (s.port n).moveNext = none → s.moving = none →
    s.freeRuns = false → (s.rd crpPg CRP_CLK_CL_LOCK).testBit (n.val / 16) = true → s.rd (portPg n) PAGE_CMD_CODE = 1 →
    ∃ u : State, exec (.powerUpCalibrationDone n false trim) s = .next u.done ∧ u.pmode n = s.pmode n ∧ (u.port n).move = none ∧
      u.rd (phyPg n) PHY_CAL_RUNNING = 0 ∧ u.reports (portPg n) stFault 1 ∧ (u.rd (phyPg n) PAGE_ERRSRC_SRC).testBit 0 = true ∧
      u.faults = [⟨16 + n.val / 16, .port n⟩] ∧ (∀ k, k ≠ n.val → u.port k = s.port k)) ∧
  (∀ (s : State) (n : Port) (ok : Bool) (trim : Fin 128), s.faults = [] → s.portRuns n = true → s.stalled = false →
    s.flag (phyPg n) PHY_CAL_RUNNING = true → (s.port n).move = none → s.flag (phyPg n) PAGE_STAT_BUSY = true →
    s.rd (phyPg n) PAGE_CMD_CODE = 2 → 0 < trim.val → trim.val < 100 →
    ∃ u : State, exec (.powerUpCalibrationDone n ok trim) s = .next u.done ∧ u.rd (phyPg n) PHY_CAL_RUNNING = 0 ∧
      u.reports (phyPg n) (if ok then stOk else stFault) 2 ∧
      (ok = true → u.rd (phyPg n) PHY_CAL_DONE = 1 ∧ u.rd (phyPg n) PHY_TERM_CODE = trim.val ∧ u.faults = []) ∧
      (ok = false → u.rd (phyPg n) PHY_TERM_CODE = s.rd (phyPg n) PHY_TERM_CODE ∧ u.faults = [⟨16 + n.val / 16, .port n⟩]) ∧
      u.ports = s.ports)

/-- FLT_COMMIT (R22, R211, R214, R392): a staged list of valid elements becomes the port's list; the first invalid element, or one with an
uncorrectable word, ends it with BAD_ARG and its index, a list that leaves the pool with 0xFFFF, and the list stays; while the management
cores are stalled the page stays BUSY.

CL_RXPOOL_WRITE, CL_BUFAREA_WRITE, CL_TXSOFT_WRITE and RXF_CFG_WRITE (R8, R10, R47, R226, R227, R231, R244, R256, R275): in CONFIGURE, a
value that its rule permits is what the register holds, and the lowest-free registers follow the pools; one that it does not permit is refused
for its value, and outside CONFIGURE one that would change the register for its access type. -/
def Obligations.FilterListsAndPoolsAreSet : Prop :=
  (∀ (s : State) (pp : PPort) (n : Port) (a k : Nat), s.opens pp (portPg n) → s.fltOk n = true → s.stalled = false →
    a = s.rd (portPg n) PORT_FLT_STAGE_FIRST → k = s.rd (portPg n) PORT_FLT_STAGE_COUNT → a < 2 ^ 11 → a + k ≤ 2048 →
    (∀ i < k, s.brokenIn (filterBase (n.val / 16) + 16 * (a + i)) 16 = false) →
    (∀ i < k, s.elemValid (n.val / 16) (s.elem (n.val / 16) (a + i)) = true) →
    ∃ t : State, exec (.fltCommit pp n) s = .next t ∧ t.rd (portPg n) PORT_FLT_LIST_FIRST = a ∧
      t.rd (portPg n) PORT_FLT_LIST_COUNT = k ∧ t.reports (portPg n) stOk 0x10 ∧ t.rd (portPg n) PAGE_RESULT_DETAIL = k ∧
      s.regsBut t (fieldKey (portPg n) PORT_FLT_LIST_FIRST 0 :: fieldKey (portPg n) PORT_FLT_LIST_COUNT 0 :: cmdKeys (portPg n)) ∧
      t = { s with moments := t.moments, regs := t.regs, srcs := t.srcs }) ∧
  (∀ (s : State) (pp : PPort) (n : Port) (a k i : Nat), s.opens pp (portPg n) → s.fltOk n = true → s.stalled = false →
    a = s.rd (portPg n) PORT_FLT_STAGE_FIRST → k = s.rd (portPg n) PORT_FLT_STAGE_COUNT → a + k ≤ 2048 → i < k →
    (s.brokenIn (filterBase (n.val / 16) + 16 * (a + i)) 16 = true ∨ s.elemValid (n.val / 16) (s.elem (n.val / 16) (a + i)) = false) →
    (∀ j < i, s.brokenIn (filterBase (n.val / 16) + 16 * (a + j)) 16 = false) →
    (∀ j < i, s.elemValid (n.val / 16) (s.elem (n.val / 16) (a + j)) = true) →
    ∃ t : State, exec (.fltCommit pp n) s = .next t ∧ t.reports (portPg n) stBadArg 0x10 ∧
      t.rd (portPg n) PAGE_RESULT_DETAIL = a + i ∧ s.regsBut t (cmdKeys (portPg n)) ∧
      t = { s with moments := t.moments, regs := t.regs, srcs := t.srcs }) ∧
  (∀ (s : State) (pp : PPort) (n : Port), s.opens pp (portPg n) → s.fltOk n = true → s.stalled = false →
    2048 < s.rd (portPg n) PORT_FLT_STAGE_FIRST + s.rd (portPg n) PORT_FLT_STAGE_COUNT →
    ∃ t : State, exec (.fltCommit pp n) s = .next t ∧ t.reports (portPg n) stBadArg 0x10 ∧
      t.rd (portPg n) PAGE_RESULT_DETAIL = 0xFFFF ∧ s.regsBut t (cmdKeys (portPg n)) ∧
      t = { s with moments := t.moments, regs := t.regs, srcs := t.srcs }) ∧
  (∀ (s : State) (pp : PPort) (n : Port), s.opens pp (portPg n) → s.fltOk n = true → s.stalled = true →
    ∃ t : State, exec (.fltCommit pp n) s = .next t ∧ t.rd (portPg n) PAGE_STAT_BUSY = 1 ∧
      t.rd (portPg n) PAGE_RESULT_STATUS = stRunning ∧ s.regsBut t (cmdKeys (portPg n)) ∧ t = { s with moments := t.moments, regs := t.regs }) ∧
  (∀ (s : State) (pp : PPort) (c : Cl) (val : Word), s.opens pp (clPg c) → s.mode = .configure → s.rxPoolBad c val.toNat = false →
    ∃ t : State, exec (.clRxpoolWrite pp c val) s = .next t ∧ t.rd (clPg c) CL_RXPOOL_BASE = val.toNat % 2 ^ 7 ∧
      t.rd (clPg c) CL_RXPOOL_SIZE = val.toNat / 2 ^ 8 % 2 ^ 8 ∧ t.rd (clPg c) CL_RXPOOL_ESS = val.toNat / 2 ^ 16 % 2 ^ 8 ∧
      s.regsBut t [fieldKey (clPg c) CL_RXPOOL_BASE 0, fieldKey (clPg c) CL_RXPOOL_SIZE 0, fieldKey (clPg c) CL_RXPOOL_ESS 0,
        fieldKey (clPg c) CL_POOL_MIN_COMMON 0, fieldKey (clPg c) CL_TXPOOL_MIN_FREE 0] ∧
      t = { s with moments := t.moments, regs := t.regs, sinceRead := t.sinceRead }) ∧
  (∀ (s : State) (pp : PPort) (c : Cl) (f : Fin 64) (val : Word) (r : Instr), s.opens pp (clPg c) → s.mode = .configure →
    ((r = .clRxpoolWrite pp c val ∧ s.rxPoolBad c val.toNat = true) ∨ (r = .clBufareaWrite pp c val ∧ s.bufAreaBad c val.toNat = true) ∨
      (r = .clTxsoftWrite pp c val ∧ s.txSoftBad c val.toNat = true) ∨ (r = .rxfCfgWrite pp c f val ∧ s.rxfCfgBad c f val.toNat = true)) →
    ∃ t : State, exec r s = .next t ∧ t.rd (clPg c) PAGE_STAT_REFCAUSE = 7 ∧ t.rd (clPg c) PAGE_STAT_ERR = 1 ∧
      s.regsBut t [fieldKey (clPg c) PAGE_STAT_ERR 0, fieldKey (clPg c) PAGE_STAT_REFCAUSE 0,
        fieldKey (clPg c) PAGE_STAT_REFUSALS 0, fieldKey (clPg c) PAGE_IRQ_PEND_PEND 0] ∧
      t = { s with moments := t.moments, regs := t.regs, srcs := t.srcs }) ∧
  (∀ (s : State) (pp : PPort) (c : Cl) (f : Fin 64) (val : Word) (r : Instr), s.opens pp (clPg c) → s.mode ≠ .configure →
    ((r = .clRxpoolWrite pp c val ∧ s.rd (clPg c) CL_RXPOOL_BASE ≠ val.toNat % 2 ^ 7) ∨
      (r = .clBufareaWrite pp c val ∧ s.rd (clPg c) CL_BUFAREA_EN ≠ val.toNat % 2) ∨
      (r = .clTxsoftWrite pp c val ∧ s.rd (clPg c) CL_TXSOFT_BASE ≠ val.toNat % 2 ^ 7) ∨
      (r = .rxfCfgWrite pp c f val ∧ s.rd (clPg c) RXF_CFG_EN f ≠ val.toNat % 2)) →
    ∃ t : State, exec r s = .next t ∧ t.rd (clPg c) PAGE_STAT_REFCAUSE = 3 ∧ t.rd (clPg c) PAGE_STAT_ERR = 1 ∧
      s.regsBut t [fieldKey (clPg c) PAGE_STAT_ERR 0, fieldKey (clPg c) PAGE_STAT_REFCAUSE 0,
        fieldKey (clPg c) PAGE_STAT_REFUSALS 0, fieldKey (clPg c) PAGE_IRQ_PEND_PEND 0] ∧
      t = { s with moments := t.moments, regs := t.regs, srcs := t.srcs }) ∧
  (∀ (s : State) (pp : PPort) (c : Cl) (val : Word), s.opens pp (clPg c) → s.mode = .configure → s.bufAreaBad c val.toNat = false →
    ∃ t : State, exec (.clBufareaWrite pp c val) s = .next t ∧ t.rd (clPg c) CL_BUFAREA_EN = val.toNat % 2 ∧
      s.regsBut t [fieldKey (clPg c) CL_BUFAREA_EN 0, fieldKey (clPg c) CL_POOL_MIN_COMMON 0,
        fieldKey (clPg c) CL_TXPOOL_MIN_FREE 0] ∧
      t = { s with moments := t.moments, regs := t.regs, sinceRead := t.sinceRead }) ∧
  (∀ (s : State) (pp : PPort) (c : Cl) (val : Word), s.opens pp (clPg c) → s.mode = .configure → s.txSoftBad c val.toNat = false →
    ∃ t : State, exec (.clTxsoftWrite pp c val) s = .next t ∧ t.rd (clPg c) CL_TXSOFT_BASE = val.toNat % 2 ^ 7 ∧
      t.rd (clPg c) CL_TXSOFT_SIZE = val.toNat / 2 ^ 8 % 2 ^ 8 ∧
      s.regsBut t [fieldKey (clPg c) CL_TXSOFT_BASE 0, fieldKey (clPg c) CL_TXSOFT_SIZE 0,
        fieldKey (clPg c) CL_POOL_MIN_COMMON 0, fieldKey (clPg c) CL_TXPOOL_MIN_FREE 0] ∧
      t = { s with moments := t.moments, regs := t.regs, sinceRead := t.sinceRead }) ∧
  (∀ (s : State) (pp : PPort) (c : Cl) (f : Fin 64) (val : Word), s.opens pp (clPg c) → s.mode = .configure →
    s.rxfCfgBad c f val.toNat = false →
    ∃ t : State, exec (.rxfCfgWrite pp c f val) s = .next t ∧ t.rd (clPg c) RXF_CFG_EN f = val.toNat % 2 ∧
      t.rd (clPg c) RXF_CFG_LOG2 f = val.toNat / 2 % 2 ^ 4 ∧ t.rd (clPg c) RXF_CFG_BASE f = val.toNat / 2 ^ 8 % 2 ^ 13 ∧
      t.rd (clPg c) RXF_CFG_TGT f = val.toNat / 2 ^ 24 % 2 ^ 4 ∧
      s.regsBut t [fieldKey (clPg c) RXF_CFG_EN f, fieldKey (clPg c) RXF_CFG_LOG2 f, fieldKey (clPg c) RXF_CFG_BASE f,
        fieldKey (clPg c) RXF_CFG_TGT f] ∧
      t = { s with moments := t.moments, regs := t.regs })

/-! ### The transmit path -/

/-- PORT_TX_DB (R250-R255, R258, R264, R279, R392): an object that R253 accepts is in use, pending on every port of its port set, with the
identifier, length, data and LIMIT that its table entry holds; a LOW or SYNC frame and a tail in the software area are resident at once, and a tail of
partner memory is a fetch at the end of its channel's queue; a port of a fenced cluster has its result at once. An object that R253 refuses is
reported with its reason and a record; a submission of one in use or of a broken entry is dropped and counted. Every run fires DOORBELL_DONE. -/
def Obligations.DoorbellsSubmitObjects : Prop :=
  (∀ (s : State) (pp : PPort) (n : Port) (val : Word) (c i : Nat) (o : TxObj), s.opens pp (portPg n) → c = n.val / 16 →
    i = val.toNat % 2 ^ 13 → val.toNat / 2 ^ 16 % 2 ^ 8 = 0 → s.objectInUse c i = none →
    s.brokenIn (objectBase c + 32 * i) 32 = false → o = s.txObj c i →
    s.refusal c o = 0 → o.kind ≠ 1 → (∀ q ∈ s.portSet c o, s.fencedCl (q / 16) = false) →
    ∃ (t : State) (uid : Nat) (j : Job), exec (.portTxDb pp n val []) s = .next t ∧ t.objectInUse c i = some uid ∧
      t.job? uid = some j ∧ j.fwd = false ∧ j.cl = c ∧ j.idx = i ∧ j.lead = n ∧ j.kind = kindOf o.kind ∧ j.id = o.id ∧ j.long = o.long ∧
      j.len = o.len ∧ j.data = o.data.take (payloadBytes (kindOf o.kind) o.len) ∧ j.tgt = o.tgt ∧ j.tag = o.tag ∧ j.limit = o.limit ∧
      j.aud = o.aud ∧ j.res = .resident ∧ j.ports = (s.portSet c o).map (fun q => { port := q }) ∧ (∀ v, v ≠ uid → t.job? v = s.job? v) ∧
      (s.icuRuns = true → ∀ k < 4, (s.src (privKey (4 * pp.val + k) 0)).en = true →
        (t.src (privKey (4 * pp.val + k) 0)).count = min ((s.src (privKey (4 * pp.val + k) 0)).count + 1) 255) ∧
      t = { s with moments := t.moments, regs := t.regs, srcs := t.srcs, pps := t.pps, jobs := t.jobs, nextUid := t.nextUid, tel := t.tel }) ∧
  (∀ (s : State) (pp : PPort) (n : Port) (val : Word) (c i : Nat) (o : TxObj), s.opens pp (portPg n) → c = n.val / 16 →
    i = val.toNat % 2 ^ 13 → val.toNat / 2 ^ 16 % 2 ^ 8 = 0 → s.objectInUse c i = none →
    s.brokenIn (objectBase c + 32 * i) 32 = false → o = s.txObj c i →
    s.refusal c o = 0 → o.kind = 1 → o.src = 2 → (∀ q ∈ s.portSet c o, s.fencedCl (q / 16) = false) →
    ∃ (t : State) (uid : Nat) (j : Job), exec (.portTxDb pp n val []) s = .next t ∧ t.objectInUse c i = some uid ∧
      t.job? uid = some j ∧ j.kind = .comet ∧ j.id = o.id ∧ j.len = o.len ∧ j.rung = o.rung ∧ j.store = some o.addrLo ∧ j.res = .resident ∧
      j.ports = (s.portSet c o).map (fun q => { port := q }) ∧
      (∃ b ∈ t.blocks, b.kind = .soft ∧ b.users = [.job uid] ∧ b.addr ≤ o.addrLo ∧
        o.addrLo + payloadBytes .comet o.len ≤ b.addr + b.len) ∧ (∀ v, v ≠ uid → t.job? v = s.job? v) ∧ s.sameMem t) ∧
  (∀ (s : State) (pp : PPort) (n : Port) (val : Word) (c i : Nat) (o : TxObj), s.opens pp (portPg n) → c = n.val / 16 →
    i = val.toNat % 2 ^ 13 → val.toNat / 2 ^ 16 % 2 ^ 8 = 0 → s.objectInUse c i = none →
    s.brokenIn (objectBase c + 32 * i) 32 = false → o = s.txObj c i →
    s.refusal c o = 0 → o.kind = 1 → o.src ≠ 2 → (∀ q ∈ s.portSet c o, s.fencedCl (q / 16) = false) →
    ∃ (t : State) (uid : Nat) (j : Job) (r : Req), exec (.portTxDb pp n val []) s = .next t ∧ t.objectInUse c i = some uid ∧
      t.job? uid = some j ∧ j.kind = .comet ∧ j.src = o.src ∧ j.chan = 32 * c + o.chan ∧
      j.res = (if (s.chan (32 * c + o.chan)).mode = .halted then .waitChan else .waitFetch) ∧
      (t.chan (32 * c + o.chan)).queue = (s.chan (32 * c + o.chan)).queue ++ [r] ∧ r.kind = .fetch uid ∧
      r.len = payloadBytes .comet o.len ∧ r.useDesc = (o.src == 1) ∧ r.paddr = o.addrLo + o.addrHi * 2 ^ 32 ∧ r.issued = 0 ∧
      (∀ v, v ≠ uid → t.job? v = s.job? v) ∧ (∀ k, k ≠ 32 * c + o.chan → t.chan k = s.chan k) ∧ s.sameMem t) ∧
  (∀ (s : State) (pp : PPort) (n : Port) (val : Word) (c i q : Nat) (o : TxObj), s.opens pp (portPg n) → c = n.val / 16 →
    i = val.toNat % 2 ^ 13 → val.toNat / 2 ^ 16 % 2 ^ 8 = 0 → s.objectInUse c i = none →
    s.brokenIn (objectBase c + 32 * i) 32 = false → o = s.txObj c i →
    s.refusal c o = 0 → q ∈ s.portSet c o → s.fencedCl (q / 16) = true →
    ∃ (t : State) (uid : Nat), exec (.portTxDb pp n val []) s = .next t ∧ t.objectInUse c i = some uid ∧
      t.onPort uid q = some { port := q, stage := .final .fenced } ∧ (∀ v, v ≠ uid → t.job? v = s.job? v)) ∧
  (∀ (s : State) (pp : PPort) (n : Port) (val : Word) (c i : Nat) (o : TxObj), s.opens pp (portPg n) → c = n.val / 16 →
    i = val.toNat % 2 ^ 13 → val.toNat / 2 ^ 16 % 2 ^ 8 = 0 → s.objectInUse c i = none →
    s.brokenIn (objectBase c + 32 * i) 32 = false → o = s.txObj c i → s.refusal c o ≠ 0 →
    ∃ (t : State) (r : Rec), exec (.portTxDb pp n val []) s = .next t ∧ t.rd (portPg n) PORT_TX_BAD_INDEX = i ∧
      t.rd (portPg n) PORT_TX_BAD_REASON = s.refusal c o ∧ (t.rd (portPg n) PAGE_IRQ_PEND_PEND).testBit 10 = true ∧
      (t.tgt o.tgt).recs = (s.tgt o.tgt).recs ++ [r] ∧
      r.words = List.replicate 13 0 ++ [i + c * 2 ^ 13, s.refusal c o + o.tag * 2 ^ 16, n.val + 10 * 2 ^ 24] ∧
      (∀ k, k ≠ o.tgt → t.tgt k = s.tgt k) ∧
      s.regsBut t [fieldKey (portPg n) PORT_TX_BAD_INDEX 0, fieldKey (portPg n) PORT_TX_BAD_REASON 0,
        fieldKey (portPg n) PAGE_IRQ_PEND_PEND 0] ∧
      t = { s with moments := t.moments, regs := t.regs, srcs := t.srcs, tgts := t.tgts }) ∧
  (∀ (s : State) (pp : PPort) (n : Port) (val : Word) (c : Nat) (finds : List (Nat × Find)), s.opens pp (portPg n) → c = n.val / 16 →
    (∀ k ≤ val.toNat / 2 ^ 16 % 2 ^ 8, (s.objectInUse c ((val.toNat % 2 ^ 13 + k) % 8192)).isSome = true ∨
      s.brokenIn (objectBase c + 32 * ((val.toNat % 2 ^ 13 + k) % 8192)) 32 = true) →
    ∃ t : State, exec (.portTxDb pp n val finds) s = .next t ∧
      t.rd (portPg n) PORT_TX_DBDROP_COUNT =
        min (s.rd (portPg n) PORT_TX_DBDROP_COUNT + (val.toNat / 2 ^ 16 % 2 ^ 8 + 1)) (2 ^ PORT_TX_DBDROP_COUNT.w - 1) ∧
      (t.rd (portPg n) PAGE_IRQ_PEND_PEND).testBit 15 = true ∧
      s.regsBut t [fieldKey (portPg n) PORT_TX_DBDROP_COUNT 0, fieldKey (portPg n) PAGE_IRQ_PEND_PEND 0] ∧
      t = { s with moments := t.moments, regs := t.regs, srcs := t.srcs }) ∧
  (∀ (s : State) (pp : PPort) (n : Port) (val : Word) (c i : Nat), s.opens pp (portPg n) → c = n.val / 16 →
    i = val.toNat % 2 ^ 13 → val.toNat / 2 ^ 16 % 2 ^ 8 = 0 → s.objectInUse c i = none →
    s.brokenIn (objectBase c + 32 * i) 32 = false →
    ∃ u : State, exec (.portTxDb pp n val [(i, .uncorrectable)]) s = .next u.done ∧ u.jobs = s.jobs ∧ u.faults = [⟨c, .cl c⟩] ∧
      u.rd (portPg n) PORT_TX_DBDROP_COUNT = min (s.rd (portPg n) PORT_TX_DBDROP_COUNT + 1) (2 ^ PORT_TX_DBDROP_COUNT.w - 1))

/-- TX_CANCEL, TX_FLUSH and CANCEL_SETTLED (R22, R130, R262, R266, R268): an object that is pending on the port is CANCELLED there and counted in
DETAIL, on all its ports where the command says so; one that is offered settles with its arbitration, and the page stays BUSY; one that is won is
LATE; a name that is not in use ends with NOT_IN_USE, and a port that is not the object's with BAD_ARG. A command that waited ends when nothing is
left to settle, with LATE where a frame was on its way. -/
def Obligations.CancelsSettle : Prop :=
  (∀ (s : State) (pp : PPort) (n : Port) (uid : Nat) (j : Job) (x : JobPort), s.opens pp (portPg n) → s.stalled = false →
    (s.arg0 (portPg n)).testBit 31 = false → s.objectInUse (n.val / 16) (s.arg0 (portPg n) % 2 ^ 13) = some uid →
    s.job? uid = some j → j.fwd = false → j.on n = some x → x.stage = .pending → j.res = .resident →
    s.reading j.chan (.fetch uid) = false → s.cancelWaits n = false →
    ∃ t : State, exec (.txCancel pp n) s = .next t ∧ t.reports (portPg n) stOk 0x20 ∧ t.rd (portPg n) PAGE_RESULT_DETAIL = 1 ∧
      t.onPort uid n = some { x with stage := .final .cancelled, doom := none, cancelBy := [] } ∧
      t.rd (portPg n) PORT_TX_CANCEL_COUNT = min (s.rd (portPg n) PORT_TX_CANCEL_COUNT + 1) (2 ^ 32 - 1) ∧
      (∀ v, v ≠ uid → t.job? v = s.job? v) ∧ (t.port n).cancel = none ∧ (∀ k, k ≠ n.val → t.port k = s.port k) ∧
      s.sameMem t ∧ t.mode = s.mode) ∧
  (∀ (s : State) (pp : PPort) (n : Port) (uid : Nat) (j : Job), s.opens pp (portPg n) → s.stalled = false →
    (s.arg0 (portPg n)).testBit 31 = true → s.objectInUse (n.val / 16) (s.arg0 (portPg n) % 2 ^ 13) = some uid →
    s.job? uid = some j → j.fwd = false → (j.ports.map (·.port)).Nodup → (∀ x ∈ j.ports, x.stage = .pending) → j.res = .resident →
    s.reading j.chan (.fetch uid) = false → s.cancelWaits n = false →
    ∃ t : State, exec (.txCancel pp n) s = .next t ∧ t.reports (portPg n) stOk 0x20 ∧
      t.rd (portPg n) PAGE_RESULT_DETAIL = j.ports.length % 256 ∧
      (∀ x ∈ j.ports, t.onPort uid x.port = some { x with stage := .final .cancelled, doom := none, cancelBy := [] }) ∧
      (∀ v, v ≠ uid → t.job? v = s.job? v) ∧ (t.port n).cancel = none ∧ s.sameMem t) ∧
  (∀ (s : State) (pp : PPort) (n : Port) (uid : Nat) (j : Job) (x : JobPort), s.opens pp (portPg n) →
    (s.arg0 (portPg n)).testBit 31 = false → s.objectInUse (n.val / 16) (s.arg0 (portPg n) % 2 ^ 13) = some uid →
    s.job? uid = some j → j.on n = some x → x.stage = .offered →
    ∃ t : State, exec (.txCancel pp n) s = .next t ∧ t.rd (portPg n) PAGE_STAT_BUSY = 1 ∧
      t.rd (portPg n) PAGE_RESULT_STATUS = stRunning ∧ t.onPort uid n = some { x with cancelBy := x.cancelBy ++ [n.val] } ∧
      t.port n = { s.port n with cancel := some { job := some uid } } ∧ (∀ k, k ≠ n.val → t.port k = s.port k) ∧
      (∀ v, v ≠ uid → t.job? v = s.job? v) ∧ s.regsBut t (cmdKeys (portPg n)) ∧
      t = { s with moments := t.moments, regs := t.regs, ports := t.ports, jobs := t.jobs }) ∧
  (∀ (s : State) (pp : PPort) (n : Port) (uid : Nat) (j : Job) (x : JobPort), s.opens pp (portPg n) → s.stalled = false →
    (s.arg0 (portPg n)).testBit 31 = false → s.objectInUse (n.val / 16) (s.arg0 (portPg n) % 2 ^ 13) = some uid →
    s.job? uid = some j → j.on n = some x → (x.stage = .won ∨ ∃ r, x.stage = .final r) → s.cancelWaits n = false → s.jobReads uid = false →
    ∃ t : State, exec (.txCancel pp n) s = .next t ∧ t.reports (portPg n) (if x.stage = .won then 0x90 else stOk) 0x20 ∧
      t.rd (portPg n) PAGE_RESULT_DETAIL = (if x.stage = .won then 256 else 0) ∧ t.jobs = s.jobs ∧
      t.port n = { s.port n with cancel := none } ∧ (∀ k, k ≠ n.val → t.port k = s.port k) ∧ s.regsBut t (cmdKeys (portPg n)) ∧
      t = { s with moments := t.moments, regs := t.regs, srcs := t.srcs, ports := t.ports }) ∧
  (∀ (s : State) (pp : PPort) (n : Port), s.opens pp (portPg n) →
    s.objectInUse (n.val / 16) (s.arg0 (portPg n) % 2 ^ 13) = none →
    ∃ t : State, exec (.txCancel pp n) s = .next t ∧ t.reports (portPg n) 0x91 0x20 ∧ s.regsBut t (cmdKeys (portPg n)) ∧
      t = { s with moments := t.moments, regs := t.regs, srcs := t.srcs }) ∧
  (∀ (s : State) (pp : PPort) (n : Port) (uid : Nat) (j : Job), s.opens pp (portPg n) → (s.arg0 (portPg n)).testBit 31 = false →
    s.objectInUse (n.val / 16) (s.arg0 (portPg n) % 2 ^ 13) = some uid → s.job? uid = some j → n.val ∉ j.ports.map (·.port) →
    ∃ t : State, exec (.txCancel pp n) s = .next t ∧ t.reports (portPg n) stBadArg 0x20 ∧ s.regsBut t (cmdKeys (portPg n)) ∧
      t = { s with moments := t.moments, regs := t.regs, srcs := t.srcs, freeCtr := t.freeCtr }) ∧
  (∀ (s : State) (pp : PPort) (n : Port) (uid : Nat) (j : Job) (x : JobPort), s.opens pp (portPg n) → s.stalled = false → s.jobs = [(uid, j)] →
    j.fwd = false → j.on n = some x → x.stage = .pending → j.res = .resident → s.reading j.chan (.fetch uid) = false →
    s.cancelWaits n = false →
    ∃ t : State, exec (.txFlush pp n) s = .next t ∧ t.reports (portPg n) stOk 0x21 ∧ t.rd (portPg n) PAGE_RESULT_DETAIL = 1 ∧
      t.onPort uid n = some { x with stage := .final .cancelled, doom := none, cancelBy := [] } ∧ (t.port n).cancel = none ∧
      (∀ k, k ≠ n.val → t.port k = s.port k) ∧ s.sameMem t ∧ t.mode = s.mode) ∧
  (∀ (s : State) (pp : PPort) (n : Port), s.opens pp (portPg n) → s.stalled = false → s.cancelWaits n = false →
    (∀ e ∈ s.jobs, e.2.on n = none) →
    ∃ t : State, exec (.txFlush pp n) s = .next t ∧ t.reports (portPg n) stOk 0x21 ∧ t.rd (portPg n) PAGE_RESULT_DETAIL = 0 ∧
      t.jobs = s.jobs ∧ t.port n = { s.port n with cancel := none } ∧ (∀ k, k ≠ n.val → t.port k = s.port k) ∧
      s.regsBut t (cmdKeys (portPg n)) ∧ t = { s with moments := t.moments, regs := t.regs, srcs := t.srcs, ports := t.ports }) ∧
  (∀ (s : State) (n : Port) (uid : Nat) (q : CancelRun), s.faults = [] → s.stalled = false →
    (s.port n).cancel = some q → q.job = some uid → s.cancelWaits n = false → s.jobReads uid = false →
    s.rd (portPg n) PAGE_CMD_CODE = 0x20 →
    ∃ t : State, exec (.cancelSettled n) s = .next t ∧ t.reports (portPg n) (if q.late ≠ 0 then 0x90 else stOk) 0x20 ∧
      t.rd (portPg n) PAGE_RESULT_DETAIL = q.cancelled % 256 + q.late % 256 * 256 ∧ t.port n = { s.port n with cancel := none } ∧
      (∀ k, k ≠ n.val → t.port k = s.port k) ∧ s.regsBut t (cmdKeys (portPg n)) ∧
      t = { s with moments := t.moments, regs := t.regs, srcs := t.srcs, ports := t.ports }) ∧
  (∀ (s : State) (n : Port) (q : CancelRun), s.faults = [] → s.stalled = false → (s.port n).cancel = some q → q.job = none →
    s.cancelWaits n = false →
    (∀ e ∈ s.jobs, e.2.res ≠ .resident ∨ e.2.elig < q.start ∨ (e.2.on n).map JobPort.stage ≠ some .pending) →
    s.rd (portPg n) PAGE_CMD_CODE = 0x21 →
    ∃ t : State, exec (.cancelSettled n) s = .next t ∧ t.reports (portPg n) (if q.late ≠ 0 then 0x90 else stOk) 0x21 ∧
      t.rd (portPg n) PAGE_RESULT_DETAIL = min q.cancelled 65535 ∧ t.port n = { s.port n with cancel := none } ∧
      (∀ k, k ≠ n.val → t.port k = s.port k) ∧ s.regsBut t (cmdKeys (portPg n)) ∧
      t = { s with moments := t.moments, regs := t.regs, srcs := t.srcs, ports := t.ports }) ∧
  (∀ (s : State) (n : Port) (uid : Nat) (q : CancelRun), s.faults = [] → (s.port n).cancel = some q → q.job = some uid →
    (s.cancelWaits n = true ∨ s.jobReads uid = true ∨ s.stalled = true) → exec (.cancelSettled n) s = .next s.noteMoment)

/-- FETCH_BLOCK_RESERVE and TAIL_RESIDENT (R224, R256-R258, R280): the fetch at the head of its channel takes the block that R224 chooses,
or, where none is free or the quota is used up, waits for one, counted once for its object; with all its data there, it leaves the queue and its
object is resident. -/
def Obligations.FetchesTakeBlocksAndEnd : Prop :=
  (∀ (s : State) (m : Chan) (r : Req) (uid a : Nat) (j : Job), s.faults = [] → s.moverRuns = true → (s.chan m).mode = .enabled →
    (s.chan m).head = some r → r.kind = .fetch uid → s.job? uid = some j → (j.res = .waitFetch ∨ j.res = .waitBlock) →
    s.quotaFits j.lead r.len = true → takeFrom (s.freeOf j.cl (s.txUnits j.cl)) (orderFor r.len) = some a →
    ∃ t : State, exec (.fetchBlockReserve m) s = .next t ∧ t.job? uid = some { j with store := some a, res := .fetching } ∧
      t.blocks = ⟨a, 256 * 2 ^ orderFor r.len, .tx, [.job uid], false⟩ :: s.blocks ∧
      (t.chan m).queue = (s.chan m).queue.map (fun q => if q.kind = .fetch uid then { q with store := a } else q) ∧
      (∀ v, v ≠ uid → t.job? v = s.job? v) ∧ (∀ k, k ≠ m.val → t.chan k = s.chan k) ∧
      s.regsBut t [fieldKey (clPg j.cl) CL_POOL_MIN_COMMON 0, fieldKey (clPg j.cl) CL_TXPOOL_MIN_FREE 0] ∧
      t = { s with moments := t.moments, regs := t.regs, blocks := t.blocks, jobs := t.jobs, chans := t.chans, sinceRead := t.sinceRead }) ∧
  (∀ (s : State) (m : Chan) (r : Req) (uid : Nat) (j : Job), s.faults = [] → s.moverRuns = true → (s.chan m).mode = .enabled →
    (s.chan m).head = some r → r.kind = .fetch uid → s.job? uid = some j → (j.res = .waitFetch ∨ j.res = .waitBlock) → j.cl < 8 →
    (s.quotaFits j.lead r.len = false ∨ takeFrom (s.freeOf j.cl (s.txUnits j.cl)) (orderFor r.len) = none) →
    ∃ t : State, exec (.fetchBlockReserve m) s = .next t ∧ t.job? uid = some { j with res := .waitBlock, waited := true } ∧
      t.rd (clPg j.cl) CL_TX_WAIT_COUNT =
        (if j.waited then s.rd (clPg j.cl) CL_TX_WAIT_COUNT else min (s.rd (clPg j.cl) CL_TX_WAIT_COUNT + 1) (2 ^ 32 - 1)) ∧
      (j.waited = false → (t.rd (clPg j.cl) PAGE_IRQ_PEND_PEND).testBit 3 = true) ∧ (∀ v, v ≠ uid → t.job? v = s.job? v) ∧
      s.regsBut t [fieldKey (clPg j.cl) CL_TX_WAIT_COUNT 0, fieldKey (clPg j.cl) PAGE_IRQ_PEND_PEND 0] ∧
      t = { s with moments := t.moments, regs := t.regs, srcs := t.srcs, jobs := t.jobs }) ∧
  (∀ (s : State) (m : Chan) (r : Req) (uid : Nat) (j : Job) (rest : List Req), s.faults = [] → s.down = false →
    (s.chan m).queue = r :: rest → r.kind = .fetch uid → r.withdrawn = false → r.len ≤ r.got → s.job? uid = some j → j.res = .fetching →
    ∃ t : State, exec (.tailResident m) s = .next t ∧ t.job? uid = some { j with res := .resident, elig := s.nextUid } ∧
      t.nextUid = s.nextUid + 1 ∧ (t.chan m).queue = rest.filter (fun q => q.kind ≠ .fetch uid) ∧
      t.rd (movPg m) MOV_REQS_COUNT = min (s.rd (movPg m) MOV_REQS_COUNT + 1) (2 ^ 32 - 1) ∧
      (∀ v, v ≠ uid → t.job? v = s.job? v) ∧ (∀ k, k ≠ m.val → t.chan k = s.chan k) ∧
      t = { s with moments := t.moments, regs := t.regs, srcs := t.srcs, pps := t.pps, jobs := t.jobs, chans := t.chans, nextUid := t.nextUid,
                   tel := t.tel })

/-- COMPLETION_RECORD_WRITE (R31, R42, R44, R238, R265, R274, R344, R360, R361): the oldest record that has a slot, or for which one is free, is
written at the ring position PUT, with the phase of its lap, and RECORD fires; PUT advances, and its object is no longer in use. A record whose
link is down, or which is to be dropped, passes its slot over unwritten; with the link up, a function that may not issue requests keeps it. Where
no record finds a slot, those that had not begun to wait do, and RING_WAIT fires for each.

TX_QUERY (R276): an object that is not in use reads 0; one in use reads its state and the number of its ports without a final
result; nothing but the command's own registers changes. One behind its channel's head reads as waiting for a block, which is the
model's choice (log 60). -/
def Obligations.RecordsAreWrittenAndObjectsShown : Prop :=
  (∀ (s : State) (k : Tgt) (r : Rec) (a b : List Rec), s.faults = [] → splitRec (s.ringFree k != 0) (s.tgt k).recs = some (a, r, b) →
    r.drop = false → s.linkUp (k.val / 4) = true → (s.pp (k.val / 4)).masters = true →
    ∃ t : State, exec (.completionRecordWrite k) s = .next t ∧
      t.out = .record k (s.slotAddr k (s.rd (tnPg k) T_RING_PUT_PUT)) (s.phased k (s.rd (tnPg k) T_RING_PUT_PUT) r.words)
        :: s.out ∧
      (t.tgt k).recs = a ++ b ∧ (∀ i, i ≠ k.val → t.tgt i = s.tgt i) ∧
      t.rd (tnPg k) T_RING_PUT_PUT = (s.rd (tnPg k) T_RING_PUT_PUT + 1) % 2 ^ 16 ∧
      t.rd (tnPg k) T_RING_RSV_SLOTS =
        (if r.slot then (s.rd (tnPg k) T_RING_RSV_SLOTS - 1) % 2 ^ 16 else s.rd (tnPg k) T_RING_RSV_SLOTS) ∧
      (s.icuRuns = true → (s.src (privKey k 1)).en = true →
        (t.src (privKey k 1)).count = min ((s.src (privKey k 1)).count + 1) 255) ∧
      (∀ uid, r.job = some uid → t.jobs = mapDel s.jobs uid) ∧ (r.job = none → t.jobs = s.jobs) ∧
      s.regsBut t [fieldKey (tnPg k) T_RING_PUT_PUT 0, fieldKey (tnPg k) T_RING_RSV_SLOTS 0] ∧
      t = { s with moments := t.moments, regs := t.regs, srcs := t.srcs, tgts := t.tgts, jobs := t.jobs, out := t.out }) ∧
  (∀ (s : State) (k : Tgt) (r : Rec) (a b : List Rec), s.faults = [] → splitRec (s.ringFree k != 0) (s.tgt k).recs = some (a, r, b) →
    (r.drop = true ∨ s.linkUp (k.val / 4) = false) →
    ∃ t : State, exec (.completionRecordWrite k) s = .next t ∧ (t.tgt k).recs = a ++ b ∧ (∀ i, i ≠ k.val → t.tgt i = s.tgt i) ∧
      t.rd (tnPg k) T_RING_PUT_PUT = (s.rd (tnPg k) T_RING_PUT_PUT + 1) % 2 ^ 16 ∧
      (∀ uid, r.job = some uid → t.jobs = mapDel s.jobs uid) ∧ (r.job = none → t.jobs = s.jobs) ∧
      s.regsBut t [fieldKey (tnPg k) T_RING_PUT_PUT 0, fieldKey (tnPg k) T_RING_RSV_SLOTS 0] ∧
      t = { s with moments := t.moments, regs := t.regs, tgts := t.tgts, jobs := t.jobs }) ∧
  (∀ (s : State) (k : Tgt) (r : Rec) (a b : List Rec), s.faults = [] → splitRec (s.ringFree k != 0) (s.tgt k).recs = some (a, r, b) →
    r.drop = false → s.linkUp (k.val / 4) = true → (s.pp (k.val / 4)).masters = false →
    exec (.completionRecordWrite k) s = .next s.noteMoment) ∧
  (∀ (s : State) (k : Tgt), s.faults = [] → splitRec (s.ringFree k != 0) (s.tgt k).recs = none →
    ∃ t : State, exec (.completionRecordWrite k) s = .next t ∧
      (t.tgt k).recs = (s.tgt k).recs.map (fun r => { r with waiting := true }) ∧ (∀ i, i ≠ k.val → t.tgt i = s.tgt i) ∧
      (s.icuRuns = true → (s.src (privKey k 2)).en = true → (s.src (privKey k 2)).count ≤ 255 → (t.src (privKey k 2)).count =
        min ((s.src (privKey k 2)).count + ((s.tgt k).recs.filter fun r => !r.waiting).length) 255) ∧
      t = { s with moments := t.moments, srcs := t.srcs, tgts := t.tgts }) ∧
  (∀ (s : State) (pp : PPort) (c : Cl), s.opens pp (clPg c) →
    ∃ t : State, exec (.txQuery pp c) s = .next t ∧ t.reports (clPg c) stOk 0x20 ∧
      (s.objectInUse c (s.arg0 (clPg c) % 2 ^ 13) = none → t.rd (clPg c) PAGE_RESULT_DETAIL = 0) ∧
      (∀ uid j, s.objectInUse c (s.arg0 (clPg c) % 2 ^ 13) = some uid → s.job? uid = some j →
        t.rd (clPg c) PAGE_RESULT_DETAIL = ((if j.res = .waitFetch ∨ j.res = .waitBlock then 1 else if j.res = .fetching then 2
          else if j.res = .waitChan then 3 else if j.res = .completing then 5 else 4) +
            (j.ports.filter fun x => !x.stage.isFinal).length * 256) % 2 ^ 16) ∧
      s.regsBut t (cmdKeys (clPg c)) ∧ t = { s with moments := t.moments, regs := t.regs, srcs := t.srcs })

/-! ### The receive path -/

/-- RXF_GET_WRITE, RXF_RESET and RX_RELEASE (R228-R230, R245): GET moves up to PUT and no further, and the entries that it passes no
longer hold their blocks; beyond PUT it is an error; a reset empties the FIFO in CONFIGURE; a release frees a block that a direct record holds,
and one that no direct record holds ends with BAD_ARG. -/
def Obligations.EntriesAreReleased : Prop :=
  (∀ (s : State) (pp : PPort) (c : Cl) (f : Fin 64) (val : Word) (d : Nat), s.opens pp (clPg c) →
    d = (val.toNat % 2 ^ 16 + 65536 - s.rd (clPg c) RXF_GET_GET f) % 65536 → d ≤ s.fifoFill c f →
    ∃ t : State, exec (.rxfGetWrite pp c f val) s = .next t ∧ t.rd (clPg c) RXF_GET_GET f = val.toNat % 2 ^ 16 ∧
      (∀ b ∈ t.blocks, ∀ q ps port, (User.entry c f q ps port) ∈ b.users →
        d ≤ (q + s.fifoFill c f + 2 ^ 32 - s.rd (clPg c) RXF_SEQ_SEQ f) % 2 ^ 32) ∧
      s.regsBut t [fieldKey (clPg c) RXF_GET_GET f] ∧ t = { s with moments := t.moments, regs := t.regs, blocks := t.blocks }) ∧
  (∀ (s : State) (pp : PPort) (c : Cl) (f : Fin 64) (val : Word), s.opens pp (clPg c) →
    s.fifoFill c f < (val.toNat % 2 ^ 16 + 65536 - s.rd (clPg c) RXF_GET_GET f) % 65536 →
    ∃ u : State, exec (.rxfGetWrite pp c f val) s = .next u.done ∧ u.faults = [⟨24 + c.val, .cl c⟩] ∧
      u.rd (clPg c) PAGE_ERRSRC_SRC = (s.rd (clPg c) PAGE_ERRSRC_SRC ||| 1) % 2 ^ 16 ∧
      s.regsBut u [fieldKey (clPg c) PAGE_ERRSRC_SRC 0] ∧ u = { s with regs := u.regs, faults := u.faults }) ∧
  (∀ (s : State) (pp : PPort) (c : Cl) (f : Nat), s.opens pp (clPg c) → s.mode = .configure → f = s.arg0 (clPg c) % 64 →
    ∃ t : State, exec (.rxfReset pp c) s = .next t ∧ t.rd (clPg c) RXF_PUT_PUT f = 0 ∧ t.rd (clPg c) RXF_GET_GET f = 0 ∧
      t.fifoFill c f = 0 ∧ (∀ b ∈ t.blocks, ∀ q ps port, (User.entry c f q ps port) ∈ b.users →
        s.fifoFill c f ≤ (q + s.fifoFill c f + 2 ^ 32 - s.rd (clPg c) RXF_SEQ_SEQ f) % 2 ^ 32) ∧ t.reports (clPg c) stOk 0x10 ∧ t.rd (clPg c) PAGE_RESULT_DETAIL = s.fifoFill c f ∧
      s.regsBut t (fieldKey (clPg c) RXF_PUT_PUT f :: fieldKey (clPg c) RXF_GET_GET f :: cmdKeys (clPg c)) ∧
      t = { s with moments := t.moments, regs := t.regs, srcs := t.srcs, blocks := t.blocks }) ∧
  (∀ (s : State) (pp : PPort) (c : Cl) (pseq port n : Nat) (rest : List Block), s.opens pp (clPg c) →
    s.blocks = ⟨s.arg0 (clPg c), n, .rx, [.direct pseq port], false⟩ :: rest → s.arg0 (clPg c) / 0x800000 = c.val →
    (∀ b ∈ rest, b.users ≠ []) → (∀ b ∈ rest, b.addr ≠ s.arg0 (clPg c)) →
    ∃ t : State, exec (.rxRelease pp c) s = .next t ∧ t.blocks = rest ∧ t.reports (clPg c) stOk 0x11 ∧
      t.rd (clPg c) PAGE_RESULT_DETAIL = orderFor n ∧ s.regsBut t (cmdKeys (clPg c)) ∧
      t = { s with moments := t.moments, regs := t.regs, srcs := t.srcs, blocks := t.blocks }) ∧
  (∀ (s : State) (pp : PPort) (c : Cl), s.opens pp (clPg c) → s.mode ≠ .configure →
    exec (.rxfReset pp c) s = .next (s.refuse (clPg c) .badCmd).noteMoment) ∧
  (∀ (s : State) (pp : PPort) (c : Cl), s.opens pp (clPg c) →
    (∀ b ∈ s.blocks, b.addr = s.arg0 (clPg c) → ∀ q p, User.direct q p ∉ b.users) →
    ∃ t : State, exec (.rxRelease pp c) s = .next t ∧ t.reports (clPg c) stBadArg 0x11 ∧ s.regsBut t (cmdKeys (clPg c)) ∧
      t = { s with moments := t.moments, regs := t.regs, srcs := t.srcs, freeCtr := t.freeCtr })

/-! ### Transceivers -/

/-- SET_RUNG, HELD_RUNG_START and CALIBRATE (R47, R199, R206, R330): CEIL and RX_EN take effect at once, or wait for the training window
that runs, by command and for a rung change that the ephemeris held, which starts once the page is free and not before; CALIBRATE begins
power-up calibration; SET_RUNG where no rung may change, CALIBRATE outside CONFIG and EYE_SCAN where its source has no suitable mode are
refused.

LT_CLEAR (R194, R195, R198, R206): the entries that the argument names are no longer VALID, keep LOCKED and are written in the training
window; DETAIL is their number; no other byte changes.

TERMINATION_TRIM, DBAND_TX_CALIBRATION and SAMPLER_CALIBRATION (R22, R23, R200, R201, R205): a step that succeeds counts, and the trim code
moves by one, between 0 and 100, at either of which it is at its limit, an event of the cluster's PHY line; a step that fails keeps the
values and is one event of that line; where calibration does not run, nothing happens. -/
def Obligations.RungsEntriesAndTrimsChange : Prop :=
  (∀ (s : State) (pp : PPort) (n : Port), s.opens pp (phyPg n) → s.rungOk n = true → s.flag (phyPg n) PHY_REFINE_RUNNING = false →
    ∃ t : State, exec (.setRung pp n) s = .next t ∧ t.rd (phyPg n) PHY_RUNG_CEIL = s.arg0 (phyPg n) % 4 ∧
      t.rd (phyPg n) PHY_RUNG_RX_EN = s.arg0 (phyPg n) / 16 % 16 ∧ t.reports (phyPg n) stOk 1 ∧
      t.rd (phyPg n) PAGE_RESULT_DETAIL = s.arg0 (phyPg n) % 4 + s.arg0 (phyPg n) / 16 % 16 * 16 ∧
      s.regsBut t (fieldKey (phyPg n) PHY_RUNG_CEIL 0 :: fieldKey (phyPg n) PHY_RUNG_RX_EN 0 :: cmdKeys (phyPg n)) ∧
      t = { s with moments := t.moments, regs := t.regs, srcs := t.srcs }) ∧
  (∀ (s : State) (pp : PPort) (n : Port), s.opens pp (phyPg n) → s.rungOk n = true → s.flag (phyPg n) PHY_REFINE_RUNNING = true →
    ∃ t : State, exec (.setRung pp n) s = .next t ∧
      (t.port n).rungWait = some (s.arg0 (phyPg n) % 4, s.arg0 (phyPg n) / 16 % 16) ∧ t.rd (phyPg n) PHY_RUNG_PENDING = 1 ∧
      t.rd (phyPg n) PAGE_STAT_BUSY = 1 ∧ (∀ k, k ≠ n.val → t.port k = s.port k) ∧
      s.regsBut t (fieldKey (phyPg n) PHY_RUNG_PENDING 0 :: cmdKeys (phyPg n)) ∧
      t = { s with moments := t.moments, regs := t.regs, ports := t.ports }) ∧
  (∀ (s : State) (n : Port) (ceil rx : Nat) (rest : List (Nat × Nat)), s.faults = [] → s.down = false →
    s.fencedCl (n.val / 16) = false → s.flag (phyPg n) PAGE_STAT_BUSY = false → s.flag (phyPg n) PHY_REFINE_RUNNING = false →
    (s.port n).heldRung = (ceil, rx) :: rest → ceil < 4 → rx < 16 →
    ∃ t : State, exec (.heldRungStart n) s = .next t ∧ t.rd (phyPg n) PHY_RUNG_CEIL = ceil ∧
      t.rd (phyPg n) PHY_RUNG_RX_EN = rx ∧ t.reports (phyPg n) stOk 1 ∧ t.port n = { s.port n with heldRung := rest } ∧
      (∀ k, k ≠ n.val → t.port k = s.port k) ∧
      s.regsBut t (fieldKey (phyPg n) PHY_RUNG_CEIL 0 :: fieldKey (phyPg n) PHY_RUNG_RX_EN 0 :: cmdKeys (phyPg n)) ∧
      t = { s with moments := t.moments, regs := t.regs, srcs := t.srcs, ports := t.ports }) ∧
  (∀ (s : State) (n : Port) (ceil rx : Nat) (rest : List (Nat × Nat)), s.faults = [] → s.down = false →
    s.fencedCl (n.val / 16) = false → s.flag (phyPg n) PAGE_STAT_BUSY = false → s.flag (phyPg n) PHY_REFINE_RUNNING = true →
    (s.port n).heldRung = (ceil, rx) :: rest →
    ∃ t : State, exec (.heldRungStart n) s = .next t ∧
      t.port n = { s.port n with heldRung := rest, rungWait := some (ceil, rx) } ∧ t.rd (phyPg n) PHY_RUNG_PENDING = 1 ∧
      t.rd (phyPg n) PAGE_STAT_BUSY = 1 ∧ (∀ k, k ≠ n.val → t.port k = s.port k) ∧
      s.regsBut t (fieldKey (phyPg n) PHY_RUNG_PENDING 0 :: cmdKeys (phyPg n)) ∧
      t = { s with moments := t.moments, regs := t.regs, ports := t.ports }) ∧
  (∀ (s : State) (n : Port), s.faults = [] → ((s.port n).heldRung = [] ∨ s.flag (phyPg n) PAGE_STAT_BUSY = true) →
    exec (.heldRungStart n) s = .next s.noteMoment) ∧
  (∀ (s : State) (pp : PPort) (n : Port), s.opens pp (phyPg n) → s.pmode n = pmConfig →
    ∃ t : State, exec (.calibrate pp n) s = .next t ∧ t.rd (phyPg n) PHY_CAL_RUNNING = 1 ∧
      t.rd (phyPg n) PAGE_STAT_BUSY = 1 ∧ t.rd (phyPg n) PAGE_RESULT_STATUS = stRunning ∧
      s.regsBut t (fieldKey (phyPg n) PHY_CAL_RUNNING 0 :: cmdKeys (phyPg n)) ∧ t = { s with moments := t.moments, regs := t.regs }) ∧
  (∀ (s : State) (pp : PPort) (n : Port) (r : Instr), s.opens pp (phyPg n) →
    ((r = .setRung pp n ∧ s.rungOk n = false) ∨ (r = .calibrate pp n ∧ s.pmode n ≠ pmConfig) ∨
      (r = .eyeScan pp n ∧ s.eyeOk n = false)) → exec r s = .next (s.refuse (phyPg n) .badCmd).noteMoment) ∧
  (∀ (s : State) (pp : PPort) (n : Port) (a : Nat) (named : Nat → Nat → Prop), s.opens pp (phyPg n) → a = s.arg0 (phyPg n) →
    s.ueWords = [] → s.poison = [] →
    (∀ snd rung, named snd rung ↔ snd < 64 ∧ rung < 4 ∧ (a.testBit 8 = true ∨ snd = a % 64) ∧ (a / 2 ^ 12 % 16).testBit rung = true) →
    ∃ t : State, exec (.ltClear pp n) s = .next t ∧ t.reports (phyPg n) stOk 4 ∧
      t.rd (phyPg n) PAGE_RESULT_DETAIL = (if a.testBit 8 then 64 else 1) *
        ((a / 2 ^ 12 % 2) + (a / 2 ^ 13 % 2) + (a / 2 ^ 14 % 2) + (a / 2 ^ 15 % 2)) ∧
      (∀ snd rung, named snd rung → 64 * rung + snd ∈ (t.port n).writtenInWindow) ∧
      (∀ k, k ≠ n.val → t.port k = s.port k) ∧
      (∀ snd rung, named snd rung → t.ltValid (lastEntry n snd rung) = false ∧
        t.ltLocked (lastEntry n snd rung) = s.ltLocked (lastEntry n snd rung)) ∧
      (∀ x, (∀ snd rung, named snd rung → x < lastEntry n snd rung ∨ lastEntry n snd rung + 2 ≤ x) → t.mb x = s.mb x) ∧
      s.regsBut t (cmdKeys (phyPg n)) ∧
      t = { s with moments := t.moments, regs := t.regs, srcs := t.srcs, ports := t.ports, mem := t.mem, undef := t.undef }) ∧
  (∀ (s : State) (n : Port) (up : Bool) (c : Nat), s.faults = [] → s.calibrates n = true → c = s.rd (phyPg n) PHY_TERM_CODE →
    1 < c → c < 99 →
    ∃ t : State, exec (.terminationTrim n up true) s = .next t ∧ t.rd (phyPg n) PHY_TERM_CODE = (if up then c + 1 else c - 1) ∧
      t.rd (phyPg n) PHY_TERM_LIMIT = 0 ∧ t.rd (phyPg n) PHY_TERM_TRIMMED = 1 ∧
      t.rd (phyPg n) PHY_CAL_TEMP = s.rd crpPg CRP_THERM_TJ % 2 ^ 8 ∧
      t.rd (phyPg n) PHY_CAL_PERIODIC = (s.rd (phyPg n) PHY_CAL_PERIODIC + 1) % 2 ^ 16 ∧
      s.regsBut t [fieldKey (phyPg n) PHY_TERM_CODE 0, fieldKey (phyPg n) PHY_TERM_LIMIT 0, fieldKey (phyPg n) PHY_TERM_TRIMMED 0,
        fieldKey (phyPg n) PHY_CAL_TEMP 0, fieldKey (phyPg n) PHY_CAL_PERIODIC 0] ∧
      t = { s with moments := t.moments, regs := t.regs }) ∧
  (∀ (s : State) (n : Port) (up : Bool) (c d : Nat), s.faults = [] → s.calibrates n = true → c = s.rd (phyPg n) PHY_TERM_CODE →
    d = (if up then min (c + 1) 100 else c - 1) → d = 0 ∨ d = 100 →
    ∃ u : State, exec (.terminationTrim n up true) s = .next u.done ∧ u.faults = [⟨16 + n.val / 16, .port n⟩] ∧
      u.rd (phyPg n) PHY_TERM_CODE = d ∧ u.rd (phyPg n) PHY_TERM_LIMIT = 1 ∧ u.rd (phyPg n) PHY_TERM_TRIMMED = 1 ∧
      u.rd (phyPg n) PAGE_ERRSRC_SRC = (s.rd (phyPg n) PAGE_ERRSRC_SRC ||| 2) % 2 ^ 16 ∧
      (u.rd (phyPg n) PAGE_IRQ_PEND_PEND).testBit 3 = true ∧
      u.rd (phyPg n) PHY_CAL_PERIODIC = (s.rd (phyPg n) PHY_CAL_PERIODIC + 1) % 2 ^ 16 ∧
      s.regsBut u [fieldKey (phyPg n) PHY_TERM_CODE 0, fieldKey (phyPg n) PHY_TERM_LIMIT 0, fieldKey (phyPg n) PHY_TERM_TRIMMED 0,
        fieldKey (phyPg n) PHY_CAL_TEMP 0, fieldKey (phyPg n) PHY_CAL_PERIODIC 0, fieldKey (phyPg n) PAGE_ERRSRC_SRC 0,
        fieldKey (phyPg n) PAGE_IRQ_PEND_PEND 0] ∧
      u = { s with regs := u.regs, srcs := u.srcs, faults := u.faults }) ∧
  (∀ (s : State) (n : Port) (up ok : Bool) (r : Instr), s.faults = [] → s.calibrates n = false →
    (r = .terminationTrim n up ok ∨ r = .dbandTxCalibration n ok ∨ r = .samplerCalibration n ok) → exec r s = .next s.noteMoment) ∧
  (∀ (s : State) (n : Port) (r : Instr), s.faults = [] → s.calibrates n = true →
    (r = .dbandTxCalibration n true ∨ r = .samplerCalibration n true) →
    ∃ t : State, exec r s = .next t ∧ t.rd (phyPg n) PHY_CAL_PERIODIC = (s.rd (phyPg n) PHY_CAL_PERIODIC + 1) % 2 ^ 16 ∧
      s.regsBut t [fieldKey (phyPg n) PHY_CAL_PERIODIC 0] ∧ t = { s with moments := t.moments, regs := t.regs }) ∧
  (∀ (s : State) (n : Port) (r : Instr), s.faults = [] → s.calibrates n = true →
    (r = .dbandTxCalibration n false ∨ r = .samplerCalibration n false ∨ ∃ up, r = .terminationTrim n up false) →
    ∃ u : State, exec r s = .next u.done ∧ u.faults = [⟨16 + n.val / 16, .port n⟩] ∧
      u.rd (phyPg n) PAGE_ERRSRC_SRC = (s.rd (phyPg n) PAGE_ERRSRC_SRC ||| 1) % 2 ^ 16 ∧
      s.regsBut u [fieldKey (phyPg n) PAGE_ERRSRC_SRC 0] ∧ u = { s with regs := u.regs, faults := u.faults })

/-- EYE_SCAN, EYE_SCAN_DONE and EYE_SCAN_TIMEOUT (R22, R202, R203): a scan with good arguments runs, and a PATTERN scan lets a SYNC frame
that stood as candidate lapse; bad arguments end the command; the end of a scan writes the counts to the result area and nowhere else, shows
how many points it did, and ends the command; without a scan, or while the management cores are stalled, nothing ends.

TRAINING_WINDOW_END (R22, R196-R199), while the time base is FREE: the first contribution to an entry that is neither VALID nor LOCKED
becomes its coefficients, with the margin and the frame of the fold; an entry that is LOCKED or was written in the window keeps its coefficients
and counts its tails; whatever a window gathered is forgotten with it, and no byte outside the entries it touched changes; a rung change that
waited is applied and its command ends. While the time base is not FREE, windows end with its own steps, and the row does nothing. -/
def Obligations.EyeScansAndWindowsFillTheirMemory : Prop :=
  (∀ (s : State) (pp : PPort) (n : Port) (a area : Nat), s.opens pp (phyPg n) → s.eyeOk n = true → a = s.arg0 (phyPg n) →
    area = s.arg1 (phyPg n) → a / 4 % 4 ≠ 3 → a / 16 % 4 ≤ 1 → area % 64 = 0 → area / 0x800000 = n.val / 16 →
    (area + 16255) / 0x800000 = n.val / 16 → (a / 16 % 4 = 1 ∨ (s.port n).cand = none ∨ (s.port n).cand = some .sync) →
    ∃ t : State, exec (.eyeScan pp n) s = .next t ∧ (a / 16 % 4 = 0 → (t.port n).cand = none) ∧
      (t.port n).eye = some (area, decide (a / 16 % 4 = 1), a % 4, a / 2 ^ 16 % 64, a / 2 ^ 8 % 16) ∧
      t.rd (phyPg n) PHY_EYE_PROG_POINTS = 0 ∧ t.rd (phyPg n) PAGE_STAT_BUSY = 1 ∧ (∀ k, k ≠ n.val → t.port k = s.port k) ∧
      s.regsBut t (fieldKey (phyPg n) PHY_EYE_PROG_POINTS 0 :: cmdKeys (phyPg n)) ∧
      t = { s with moments := t.moments, regs := t.regs, ports := t.ports }) ∧
  (∀ (s : State) (pp : PPort) (n : Port) (a area : Nat), s.opens pp (phyPg n) → s.eyeOk n = true → a = s.arg0 (phyPg n) →
    area = s.arg1 (phyPg n) → (s.port n).eye = none → (a / 4 % 4 = 3 ∨ 1 < a / 16 % 4 ∨ area % 64 ≠ 0 ∨ area / 0x800000 ≠ n.val / 16 ∨
      (area + 16255) / 0x800000 ≠ n.val / 16) →
    ∃ t : State, exec (.eyeScan pp n) s = .next t ∧ t.reports (phyPg n) stBadArg 3 ∧ t.rd (phyPg n) PAGE_RESULT_DETAIL = 0 ∧
      s.regsBut t (cmdKeys (phyPg n)) ∧ t = { s with moments := t.moments, regs := t.regs, srcs := t.srcs }) ∧
  (∀ (s : State) (n : Port) (counts : List Byte) (r : Instr), s.faults = [] →
    (r = .eyeScanDone n counts ∨ r = .eyeScanTimeout n counts) → ((s.port n).eye = none ∨ s.stalled = true) →
    exec r s = .next s.noteMoment) ∧
  (∀ (s : State) (n : Port) (counts : List Byte) (area : Nat) (tails late : Bool) (x : Nat × Nat × Nat), s.faults = [] →
    s.stalled = false → area + 16256 ≤ 0x4000000 → (s.port n).eye = some (area, tails, x) → s.ueWords = [] → s.poison = [] → s.rd (phyPg n) PAGE_CMD_CODE = 3 →
    (if late = true then tails = true ∧ counts.length < 16256 else counts.length = 16256) →
    ∃ t : State, exec (if late = true then .eyeScanTimeout n counts else .eyeScanDone n counts) s = .next t ∧
      t.mbs area counts.length = counts ∧ s.memBut t area counts.length ∧
      t.rd (phyPg n) PHY_EYE_PROG_POINTS = counts.length / 2 ∧ t.port n = { s.port n with eye := none } ∧
      (∀ k, k ≠ n.val → t.port k = s.port k) ∧ t.reports (phyPg n) (if late = true then stTimeout else stOk) 3 ∧
      s.regsBut t (fieldKey (phyPg n) PHY_EYE_PROG_POINTS 0 :: cmdKeys (phyPg n)) ∧
      t = { s with moments := t.moments, regs := t.regs, srcs := t.srcs, ports := t.ports, mem := t.mem, undef := t.undef }) ∧
  (∀ (s : State) (n : Port), s.faults = [] → s.rt.tb ≠ .free → exec (.trainingWindowEnd n) s = .next s.noteMoment) ∧
  (∀ (s : State) (n : Port), s.faults = [] → s.rt.tb = .free → (s.port n).rungWait = none →
    ∃ t : State, exec (.trainingWindowEnd n) s = .next t ∧ (∀ j, j ≠ n.val → t.port j = s.port j) ∧
      t.port n = (if (s.port n).window = true then { s.port n with contribs := [], tailErrs := [], writtenInWindow := [] }
        else { s.port n with writtenInWindow := [] }) ∧
      (∀ x, (∀ i ∈ (s.port n).touched, x < lastEntry n (i % 64) (i / 64) ∨ lastEntry n (i % 64) (i / 64) + 32 ≤ x) → t.mb x = s.mb x) ∧
      ((s.port n).window = false → t.mem = s.mem) ∧
      s.regsBut t [fieldKey (phyPg n) PHY_REFINE_FOLDS 0, fieldKey (phyPg n) PAGE_IRQ_PEND_PEND 0] ∧
      t.rd (phyPg n) PHY_REFINE_FOLDS = (if (s.port n).window = true ∧ (s.port n).touched ≠ [] then
        (s.rd (phyPg n) PHY_REFINE_FOLDS + 1) % 2 ^ 16 else s.rd (phyPg n) PHY_REFINE_FOLDS) ∧
      t = { s with
        moments := t.moments, regs := t.regs, srcs := t.srcs, ports := t.ports, mem := t.mem, undef := t.undef, freeCtr := t.freeCtr
        ueWords := t.ueWords, poison := t.poison }) ∧
  (∀ (s : State) (n : Port) (k : Contribution) (a : Nat), s.faults = [] → s.rt.tb = .free → (s.port n).window = true →
    (s.port n).contribs = [k] → (s.port n).tailErrs = [] → (s.port n).rungWait = none → k.entry < 256 →
    a = lastEntry n (k.entry % 64) (k.entry / 64) → (s.ltLocked a = true ∨ k.entry ∈ (s.port n).writtenInWindow) → s.ueWords = [] →
    s.poison = [] →
    ∃ t : State, exec (.trainingWindowEnd n) s = .next t ∧ s.memBut t (a + 0x18) 8 ∧ t.mw (a + 0x18) = s.rt.frame % 2 ^ 32 ∧
      t.mw (a + 0x1C) % 2 ^ 16 = min (s.mw (a + 0x1C) % 2 ^ 16 + 1) 65535 ∧
      t.mw (a + 0x1C) / 2 ^ 16 = s.mw (a + 0x1C) / 2 ^ 16) ∧
  (∀ (s : State) (n : Port) (k : Contribution) (a : Nat), s.faults = [] → s.rt.tb = .free → (s.port n).window = true → (s.port n).contribs = [k] →
    (s.port n).tailErrs = [] → (s.port n).writtenInWindow = [] → (s.port n).rungWait = none → k.entry < 256 →
    a = lastEntry n (k.entry % 64) (k.entry / 64) → s.ltLocked a = false → s.ltValid a = false → s.ueWords = [] → s.poison = [] →
    k.ctle < 32 → k.vga < 64 → k.phase < 256 → k.ffe < 2 ^ 32 → k.dfe < 2 ^ 32 → k.thr < 2 ^ 30 → k.eyeH < 256 → k.eyeW < 256 →
    k.snr < 256 →
    ∃ t : State, exec (.trainingWindowEnd n) s = .next t ∧ t.ltValid a = true ∧ t.ltLocked a = false ∧
      t.mw (a + 0x04) = k.ctle + k.vga * 2 ^ 8 + k.phase * 2 ^ 16 ∧ t.mw (a + 0x08) = k.ffe ∧ t.mw (a + 0x0C) = k.dfe ∧
      t.mw (a + 0x10) = k.thr ∧ t.mw (a + 0x14) = k.eyeH + k.eyeW * 2 ^ 8 + k.snr * 2 ^ 16 ∧
      t.mw (a + 0x18) = s.rt.frame % 2 ^ 32 ∧ t.mw (a + 0x1C) % 2 ^ 16 = min (s.mw (a + 0x1C) % 2 ^ 16 + 1) 65535 ∧
      s.memBut t a 32 ∧ t.rd (phyPg n) PHY_REFINE_FOLDS = (s.rd (phyPg n) PHY_REFINE_FOLDS + 1) % 2 ^ 16 ∧
      t.port n = { s.port n with contribs := [] } ∧ (∀ j, j ≠ n.val → t.port j = s.port j) ∧
      s.regsBut t [fieldKey (phyPg n) PHY_REFINE_FOLDS 0, fieldKey (phyPg n) PAGE_IRQ_PEND_PEND 0] ∧
      t = { s with moments := t.moments, regs := t.regs, srcs := t.srcs, ports := t.ports, mem := t.mem, undef := t.undef }) ∧
  (∀ (s : State) (n : Port) (ceil rx : Nat), s.faults = [] → s.rt.tb = .free → s.stalled = false → (s.port n).window = true →
    (s.port n).contribs = [] → (s.port n).tailErrs = [] → (s.port n).rungWait = some (ceil, rx) → ceil < 4 → rx < 16 →
    s.rd (phyPg n) PAGE_CMD_CODE = 1 →
    ∃ t : State, exec (.trainingWindowEnd n) s = .next t ∧ t.rd (phyPg n) PHY_RUNG_CEIL = ceil ∧
      t.rd (phyPg n) PHY_RUNG_RX_EN = rx ∧ t.rd (phyPg n) PHY_RUNG_PENDING = 0 ∧
      t.port n = { s.port n with rungWait := none, writtenInWindow := [] } ∧
      t.reports (phyPg n) stOk 1 ∧ (∀ j, j ≠ n.val → t.port j = s.port j) ∧
      s.regsBut t (fieldKey (phyPg n) PHY_RUNG_CEIL 0 :: fieldKey (phyPg n) PHY_RUNG_RX_EN 0 ::
        fieldKey (phyPg n) PHY_RUNG_PENDING 0 :: cmdKeys (phyPg n)) ∧
      t = { s with moments := t.moments, regs := t.regs, srcs := t.srcs, ports := t.ports })

/-! ### The slice mover -/

/-- ENABLE, DISABLE, RESUME, SET_DESC and ABORT (R47, R281, R294, R295, R302): a channel takes the configuration in its registers, is
disabled, goes on after a halt, with the fetches that waited for it, takes a new descriptor, or gives up what it holds, its pushes among it; each
reports how it ended. A configuration or descriptor that the rules forbid ends the command with BAD_ARG, and a command that the channel's state
does not permit is refused.

XFER and XFER_DONE (R283, R296, R297): an accepted transfer is queued and holds its range, a read transfer in the software area of its
slice; bad arguments end the command; a transfer whose bursts are all done shows its end and leaves the queue, and without one the row does
nothing. -/
def Obligations.ChannelsFollowTheirCommands : Prop :=
  (∀ (s : State) (pp : PPort) (m : Chan) (md : Nat), s.opens pp (movPg m) → (s.chan m).mode = .disabled →
    md = s.rd (movPg m) MOV_CFG_MODE → (md = 1 ∨ md = 2) → 6 ≤ s.rd (movPg m) MOV_CFG_BURST → s.rd (movPg m) MOV_CFG_BURST ≤ 12 →
    (s.chanCfg m).descBad = false →
    ∃ t : State, exec (.enable pp m) s = .next t ∧ (t.chan m).mode = .enabled ∧ (t.chan m).cfg = some (s.chanCfg m) ∧
      (t.chan m).pos = 0 ∧ (t.chan m).queue = [] ∧ (t.chan m).outst = [] ∧ t.rd (movPg m) MOV_CREDIT_ELEMS = 0 ∧
      t.rd (movPg m) MOV_STATE_CAUSE = 0 ∧ t.rd (movPg m) MOV_XFER_STATE = 0 ∧ t.reports (movPg m) stOk 1 ∧
      (∀ k, k ≠ m.val → t.chan k = s.chan k) ∧
      s.regsBut t (fieldKey (movPg m) MOV_POS01_I0 0 :: fieldKey (movPg m) MOV_POS01_I1 0 :: fieldKey (movPg m) MOV_POS2_I2 0 ::
        fieldKey (movPg m) MOV_CREDIT_ELEMS 0 :: fieldKey (movPg m) MOV_STATE_CAUSE 0 :: fieldKey (movPg m) MOV_XFER_STATE 0 ::
        cmdKeys (movPg m)) ∧
      t = { s with moments := t.moments, regs := t.regs, srcs := t.srcs, chans := t.chans }) ∧
  (∀ (s : State) (pp : PPort) (m : Chan), s.opens pp (movPg m) → s.disableOk m = true →
    ∃ t : State, exec (.disable pp m) s = .next t ∧ t.chan m = { s.chan m with mode := .disabled } ∧
      (∀ k, k ≠ m.val → t.chan k = s.chan k) ∧ t.reports (movPg m) stOk 2 ∧ s.regsBut t (cmdKeys (movPg m)) ∧
      t = { s with moments := t.moments, regs := t.regs, srcs := t.srcs, chans := t.chans }) ∧
  (∀ (s : State) (pp : PPort) (m : Chan), s.opens pp (movPg m) → s.resumeOk m = true →
    ∃ t : State, exec (.resume pp m) s = .next t ∧ t.chan m = { s.chan m with mode := .enabled, setDesc := false } ∧
      (∀ k, k ≠ m.val → t.chan k = s.chan k) ∧ t.reports (movPg m) stOk 3 ∧
      t.rd (movPg m) PAGE_RESULT_DETAIL = s.rd (movPg m) MOV_STATE_CAUSE % 2 ^ 16 ∧
      (∀ q ∈ (s.chan m).queue, ∀ uid j, q.kind = .fetch uid → s.job? uid = some j → j.res = .waitChan →
        t.job? uid = some { j with res := if j.store.isSome then .fetching else .waitFetch }) ∧
      s.regsBut t (cmdKeys (movPg m) ++ (List.range 128).flatMap panicKeys) ∧
      t = { s with
        moments := t.moments, regs := t.regs, srcs := t.srcs, chans := t.chans, jobs := t.jobs, pps := t.pps, tel := t.tel }) ∧
  (∀ (s : State) (pp : PPort) (m : Chan) (h : ChanCfg), s.opens pp (movPg m) → s.setDescOk m = true → (s.chan m).cfg = some h →
    (s.chanCfg m).descBad = false →
    ∃ t : State, exec (.setDesc pp m) s = .next t ∧ (t.chan m).pos = 0 ∧ (t.chan m).setDesc = true ∧
      (t.chan m).cfg = some { s.chanCfg m with
        pp := h.pp, push := h.push, noSnoop := h.noSnoop, wrap := h.wrap, credit := h.credit, burst := h.burst } ∧
      (t.chan m).mode = (s.chan m).mode ∧ (t.chan m).queue = (s.chan m).queue ∧ (∀ k, k ≠ m.val → t.chan k = s.chan k) ∧
      t.reports (movPg m) stOk 4 ∧
      s.regsBut t (fieldKey (movPg m) MOV_POS01_I0 0 :: fieldKey (movPg m) MOV_POS01_I1 0 :: fieldKey (movPg m) MOV_POS2_I2 0 ::
        cmdKeys (movPg m)) ∧
      t = { s with moments := t.moments, regs := t.regs, srcs := t.srcs, chans := t.chans }) ∧
  (∀ (s : State) (pp : PPort) (m : Chan), s.opens pp (movPg m) → s.setDescOk m = true → (s.chan m).cfg = none →
    (s.chanCfg m).descBad = false →
    ∃ t : State, exec (.setDesc pp m) s = .next t ∧ t.chan m = { s.chan m with setDesc := true } ∧
      (∀ k, k ≠ m.val → t.chan k = s.chan k) ∧ t.reports (movPg m) stOk 4 ∧ s.regsBut t (cmdKeys (movPg m)) ∧
      t = { s with moments := t.moments, regs := t.regs, srcs := t.srcs, chans := t.chans }) ∧
  (∀ (s : State) (pp : PPort) (m : Chan) (r : Instr) (code : Nat), s.opens pp (movPg m) →
    ((r = .enable pp m ∧ code = 1 ∧ (s.chan m).mode = .disabled ∧
        (s.rd (movPg m) MOV_CFG_MODE = 0 ∨ s.rd (movPg m) MOV_CFG_MODE = 3 ∨ s.rd (movPg m) MOV_CFG_BURST < 6 ∨
          12 < s.rd (movPg m) MOV_CFG_BURST ∨ (s.chanCfg m).descBad = true)) ∨
      (r = .setDesc pp m ∧ code = 4 ∧ s.setDescOk m = true ∧ (s.chanCfg m).descBad = true)) →
    ∃ t : State, exec r s = .next t ∧ t.reports (movPg m) stBadArg code ∧ t.rd (movPg m) PAGE_RESULT_DETAIL = 0 ∧
      s.regsBut t (cmdKeys (movPg m)) ∧ t = { s with moments := t.moments, regs := t.regs, srcs := t.srcs }) ∧
  (∀ (s : State) (pp : PPort) (m : Chan) (r : Instr), s.opens pp (movPg m) →
    ((r = .enable pp m ∧ (s.chan m).mode ≠ .disabled) ∨ (r = .disable pp m ∧ s.disableOk m = false) ∨
      (r = .resume pp m ∧ s.resumeOk m = false) ∨ (r = .setDesc pp m ∧ s.setDescOk m = false) ∨
      (r = .abort pp m ∧ s.abortOk m = false) ∨ (r = .xfer pp m ∧ s.xferOk m = false)) →
    exec r s = .next (s.refuse (movPg m) .badCmd).noteMoment) ∧
  (∀ (s : State) (pp : PPort) (m : Chan), s.opens pp (movPg m) → s.abortOk m = true →
    ∃ t : State, exec (.abort pp m) s = .next t ∧ (t.chan m).mode = .disabled ∧ (t.chan m).queue = [] ∧ (t.chan m).outst = [] ∧
      (t.chan m).failed = [] ∧ (∀ k, k ≠ m.val → t.chan k = s.chan k) ∧ t.reports (movPg m) stOk 5 ∧
      (s.reqOf m .xfer ≠ none → t.rd (movPg m) MOV_XFER_STATE = 4) ∧
      (∀ q ∈ (s.chan m).queue, ∀ uid, q.kind = .push uid → mapGet? t.pushes uid = none) ∧
      t.rd (movPg m) PAGE_RESULT_DETAIL = ((s.chan m).queue.filter fun q =>
        match q.kind with | .push _ => true | _ => false).length % 2 ^ 16 ∧
      s.regsBut t (fieldKey (movPg m) MOV_XFER_STATE 0 :: fieldKey (movPg m) MOV_REQS_COUNT 0 :: cmdKeys (movPg m)) ∧
      t = { s with
        moments := t.moments, regs := t.regs, srcs := t.srcs, chans := t.chans, blocks := t.blocks, pushes := t.pushes
        tgts := t.tgts }) ∧
  (∀ (s : State) (pp : PPort) (m : Chan) (g : ChanCfg) (a n : Nat), s.opens pp (movPg m) → s.xferOk m = true →
    (s.chan m).cfg = some g →
    (g.push = true ∨ (s.softRange (m.val / 32) a n = true ∧ s.heldIn a ((a + n + 63) / 64 * 64 - a) = false)) →
    a = s.arg0 (movPg m) → n = s.arg1 (movPg m) → a % 64 = 0 → n % 4 = 0 → 4 ≤ n →
    n ≤ 0x800000 → sliceBase (m.val / 32) ≤ a → a + n ≤ sliceBase (m.val / 32 + 1) →
    ∃ (t : State) (r : Req), exec (.xfer pp m) s = .next t ∧ (t.chan m).queue = (s.chan m).queue ++ [r] ∧ r.kind = .xfer ∧
      r.store = a ∧ r.len = n ∧ r.useDesc = true ∧ r.issued = 0 ∧ r.got = 0 ∧
      t.blocks = ⟨a, (a + n + 63) / 64 * 64 - a, .soft, [.xfer m], false⟩ :: s.blocks ∧
      t.rd (movPg m) MOV_XFER_STATE = 1 ∧ t.reports (movPg m) stOk 6 ∧
      t.rd (movPg m) PAGE_RESULT_DETAIL = g.elems n % 2 ^ 16 ∧ (∀ k, k ≠ m.val → t.chan k = s.chan k) ∧
      s.regsBut t (fieldKey (movPg m) MOV_XFER_STATE 0 :: cmdKeys (movPg m)) ∧
      t = { s with moments := t.moments, regs := t.regs, srcs := t.srcs, chans := t.chans, blocks := t.blocks }) ∧
  (∀ (s : State) (pp : PPort) (m : Chan) (g : ChanCfg) (a n : Nat), s.opens pp (movPg m) → s.xferOk m = true →
    (s.chan m).cfg = some g → a = s.arg0 (movPg m) → n = s.arg1 (movPg m) →
    (a % 64 ≠ 0 ∨ n % 4 ≠ 0 ∨ n < 4 ∨ 0x800000 < n ∨ a < sliceBase (m.val / 32) ∨ sliceBase (m.val / 32 + 1) < a + n ∨
      (g.push = false ∧ (s.softRange (m.val / 32) a n = false ∨
        s.heldIn (a / 64 * 64) ((a + n + 63) / 64 * 64 - a / 64 * 64) = true))) →
    ∃ t : State, exec (.xfer pp m) s = .next t ∧ t.reports (movPg m) stBadArg 6 ∧ s.regsBut t (cmdKeys (movPg m)) ∧
      t = { s with moments := t.moments, regs := t.regs, srcs := t.srcs, freeCtr := t.freeCtr }) ∧
  (∀ (s : State) (m : Chan), s.faults = [] → (s.reqOf m .xfer = none ∨ (s.chan m).cfg = none ∨
      ∃ r g, s.reqOf m .xfer = some r ∧ (s.chan m).cfg = some g ∧ (if g.push then r.issued else r.got) < r.len) →
    exec (.xferDone m) s = .next s.noteMoment) ∧
  (∀ (s : State) (m : Chan) (r : Req) (g : ChanCfg), s.faults = [] → s.down = false → s.reqOf m .xfer = some r →
    (s.chan m).cfg = some g → r.withdrawn = false → r.len ≤ (if g.push then r.issued else r.got) →
    ∃ t : State, exec (.xferDone m) s = .next t ∧ t.rd (movPg m) MOV_XFER_STATE = (if r.lost then 3 else 2) ∧
      (t.rd (movPg m) PAGE_IRQ_PEND_PEND).testBit 3 = true ∧
      (t.chan m).queue = (s.chan m).queue.filter (fun q => q.kind ≠ .xfer) ∧ (∀ b ∈ t.blocks, User.xfer m.val ∉ b.users) ∧
      t.rd (movPg m) MOV_REQS_COUNT = min (s.rd (movPg m) MOV_REQS_COUNT + 1) (2 ^ 32 - 1) ∧
      (∀ k, k ≠ m.val → t.chan k = s.chan k) ∧
      s.regsBut t [fieldKey (movPg m) MOV_XFER_STATE 0, fieldKey (movPg m) MOV_REQS_COUNT 0,
        fieldKey (movPg m) PAGE_IRQ_PEND_PEND 0] ∧
      t = { s with moments := t.moments, regs := t.regs, srcs := t.srcs, chans := t.chans, blocks := t.blocks })

/-- BURST_ISSUE (R257, R283, R284, R286-R288, R292, R294): the granted channel sends the next burst of the request that it serves, a read as
its requests, a write as the store's bytes, and takes the credits of a request that begins; a burst that had failed is issued again first; without
elements left the channel halts, and without credits it waits; a channel that does not run, has nothing to serve, or serves a fetch without a
block issues nothing. -/
def Obligations.BurstsLeaveOrWait : Prop :=
  (∀ (s : State) (m : Chan) (g : ChanCfg) (r : Req) (a n : Nat), s.faults = [] → s.moverRuns = true → (s.chan m).mode = .enabled →
    (s.chan m).cfg = some g → g.push = false → (s.chan m).failed = [] → (s.chan m).head = some r →
    s.granted? m g.pp = true → (a, n) = g.burstOf r (r.start.getD (s.chan m).pos) →
    ∃ t : State, exec (.burstIssue m []) s = .next t ∧
      t.out = ((chunks a n (s.pp g.pp).mrrs).map fun q => Out.read g.pp q.1 q.2 (g.noSnoop && (s.pp g.pp).noSnoop)).reverse ++ s.out ∧
      (t.chan m).outst = (s.chan m).outst ++
        [{ num := (s.chan m).bursts, req := r.kind, paddr := a, store := r.store + r.issued, off := r.issued, len := n }] ∧
      (t.chan m).bursts = (s.chan m).bursts + 1 ∧ (t.chan m).mode = .enabled ∧ (∀ k, k ≠ m.val → t.chan k = s.chan k) ∧
      t.rd (movPg m) MOV_CREDIT_ELEMS = (if r.start = none ∧ r.useDesc = true ∧ g.credit = true then
        (s.rd (movPg m) MOV_CREDIT_ELEMS - g.needs r) % 2 ^ 18 else s.rd (movPg m) MOV_CREDIT_ELEMS) ∧
      t = { s with moments := t.moments, regs := t.regs, chans := t.chans, granted := t.granted, out := t.out }) ∧
  (∀ (s : State) (m : Chan) (g : ChanCfg) (b : Burst) (rest : List Burst) (finds : List (Nat × Find)), s.faults = [] →
    s.moverRuns = true → (s.chan m).mode = .enabled → (s.chan m).cfg = some g → (s.chan m).failed = b :: rest →
    s.granted? m g.pp = true →
    ∃ t : State, exec (.burstIssue m finds) s = .next t ∧
      t.out = ((chunks b.paddr b.len (s.pp g.pp).mrrs).map fun q =>
        Out.read g.pp q.1 q.2 (g.noSnoop && (s.pp g.pp).noSnoop)).reverse ++ s.out ∧
      t.chan m = { s.chan m with failed := rest, outst := (s.chan m).outst ++ [b] } ∧ (∀ k, k ≠ m.val → t.chan k = s.chan k) ∧
      t = { s with moments := t.moments, chans := t.chans, granted := t.granted, out := t.out }) ∧
  (∀ (s : State) (m : Chan) (finds : List (Nat × Find)), s.faults = [] →
    (s.moverRuns = false ∨ (s.chan m).mode ≠ .enabled ∨ (s.chan m).cfg = none ∨
      ((s.chan m).failed = [] ∧ ((s.chan m).head = none ∨ ∃ r, (s.chan m).head = some r ∧ s.unfetched r = true))) →
    exec (.burstIssue m finds) s = .next s.noteMoment) ∧
  (∀ (s : State) (m : Chan) (g : ChanCfg) (r : Req) (a n : Nat), s.faults = [] → s.moverRuns = true → (s.chan m).mode = .enabled →
    (s.chan m).cfg = some g → g.push = true → (s.chan m).failed = [] → (s.chan m).head = some r →
    s.granted? m g.pp = true → (a, n) = g.burstOf r (r.start.getD (s.chan m).pos) → s.ueWords = [] → s.poison = [] →
    ∃ t : State, exec (.burstIssue m []) s = .next t ∧
      t.out = ((chunks a n (s.pp g.pp).mps).map fun q => Out.write g.pp q.1 (s.pp g.pp).ro (g.noSnoop && (s.pp g.pp).noSnoop) false
        (s.mbs (r.store + r.issued + (q.1 + 2 ^ 64 - a) % 2 ^ 64) q.2)).reverse ++ s.out ∧
      (t.chan m).bursts = (s.chan m).bursts + 1 ∧ (t.chan m).mode = .enabled ∧ (∀ k, k ≠ m.val → t.chan k = s.chan k) ∧
      t = { s with moments := t.moments, regs := t.regs, chans := t.chans, granted := t.granted, out := t.out }) ∧
  (∀ (s : State) (m : Chan) (g : ChanCfg) (r : Req) (finds : List (Nat × Find)), s.faults = [] → s.moverRuns = true →
    (s.chan m).mode = .enabled → (s.chan m).cfg = some g → (s.chan m).failed = [] → (s.chan m).head = some r → s.unfetched r = false →
    r.start = none → r.useDesc = true → g.wrap = false → g.total < (s.chan m).pos + g.needs r →
    ∃ t : State, exec (.burstIssue m finds) s = .next t ∧ (t.chan m).mode = .halted ∧ t.rd (movPg m) MOV_STATE_CAUSE = 6 ∧
      (t.chan m).pos = (s.chan m).pos ∧ (t.rd (movPg m) PAGE_IRQ_PEND_PEND).testBit 2 = true ∧ t.out = s.out ∧ s.sameMem t ∧
      (∀ k, k ≠ m.val → t.chan k = s.chan k)) ∧
  (∀ (s : State) (m : Chan) (g : ChanCfg) (r : Req) (finds : List (Nat × Find)), s.faults = [] → s.moverRuns = true →
    (s.chan m).mode = .enabled → (s.chan m).cfg = some g → (s.chan m).failed = [] → (s.chan m).head = some r → s.unfetched r = false →
    r.start = none → r.useDesc = true → (g.wrap = true ∨ (s.chan m).pos + g.needs r ≤ g.total) → g.credit = true → s.rd (movPg m) MOV_CREDIT_ELEMS < g.needs r →
    (s.chan m).waiting = false →
    ∃ t : State, exec (.burstIssue m finds) s = .next t ∧ t.chan m = { s.chan m with waiting := true } ∧
      (t.rd (movPg m) PAGE_IRQ_PEND_PEND).testBit 4 = true ∧ (∀ k, k ≠ m.val → t.chan k = s.chan k) ∧
      s.regsBut t [fieldKey (movPg m) PAGE_IRQ_PEND_PEND 0] ∧ t = { s with moments := t.moments, regs := t.regs, srcs := t.srcs, chans := t.chans })

/-- READ_COMPLETION, PUSH_DONE and MOV_CREDIT_ADD (R234, R235, R241, R286, R287, R289, R300): a burst's data lands in the store and nowhere
else, or nowhere where its request was withdrawn; data of no burst or of another length is no completion; the first push in the queue, once it
has been sent, frees its block and queues its record with STATUS and PADDR; credits add up, and a wait for them ends when they suffice. -/
def Obligations.CompletionsAndPushesLand : Prop :=
  (∀ (s : State) (m : Chan) (b : Burst) (data : List Byte) (ns : Nat), s.faults = [] → s.down = false →
    ((s.chan m).outst.find? fun x => x.num == b.num) = some b → b.discard = false → data.length = b.len → s.ueWords = [] →
    s.poison = [] → b.store + b.len ≤ 0x4000000 →
    ∃ t : State, exec (.readCompletion m b.num data ns) s = .next t ∧ t.mbs b.store b.len = data ∧ s.memBut t b.store b.len ∧
      (t.chan m).outst = (s.chan m).outst.filter (fun x => x.num ≠ b.num) ∧
      (t.chan m).queue = (s.chan m).queue.map (fun q => if q.kind = b.req then { q with got := q.got + b.len } else q) ∧
      t.rd (movPg m) MOV_LAT_MAX_NS = max (s.rd (movPg m) MOV_LAT_MAX_NS) (min ns (2 ^ 32 - 1)) % 2 ^ 32 ∧
      (∀ k, k ≠ m.val → t.chan k = s.chan k) ∧
      s.regsBut t [fieldKey (movPg m) MOV_LAT_MAX_NS 0, fieldKey (movPg m) MOV_BYTES_COUNT 0] ∧
      t = { s with moments := t.moments, regs := t.regs, chans := t.chans, mem := t.mem, undef := t.undef }) ∧
  (∀ (s : State) (m : Chan) (b : Burst) (data : List Byte) (ns : Nat), s.faults = [] → s.down = false →
    ((s.chan m).outst.find? fun x => x.num == b.num) = some b → b.discard = true → data.length = b.len →
    ∃ u : State, exec (.readCompletion m b.num data ns) s = .next u.done ∧ s.sameMem u ∧
      (u.chan m).outst = (s.chan m).outst.filter (fun x => x.num ≠ b.num) ∧ (∀ k, k ≠ m.val → u.chan k = s.chan k)) ∧
  (∀ (s : State) (m : Chan) (num : Nat) (data : List Byte) (ns : Nat), s.faults = [] →
    (∀ b, ((s.chan m).outst.find? fun x => x.num == num) = some b → data.length ≠ b.len) →
    exec (.readCompletion m num data ns) s = .next s.noteMoment) ∧
  (∀ (s : State) (m : Chan), s.faults = [] →
    (∀ r ∈ (s.chan m).queue, ∀ uid, r.kind = .push uid → r.withdrawn = true ∨ r.issued < r.len) →
    exec (.pushDone m) s = .next s.noteMoment) ∧
  (∀ (s : State) (m : Chan) (r : Req) (uid : Nat) (pre rest : List Req) (j : PushJob), s.faults = [] → s.down = false →
    (s.chan m).queue = pre ++ r :: rest → (∀ q ∈ pre, ∀ v, q.kind ≠ .push v) → r.withdrawn = false → r.kind = .push uid → r.len ≤ r.issued → mapGet? s.pushes uid = some j →
    ∃ (t : State) (c : Rec), exec (.pushDone m) s = .next t ∧ (t.tgt j.tgt).recs = (s.tgt j.tgt).recs ++ [c] ∧ c.slot = true ∧
      c.drop = false ∧ c.words = pushWords j.words (if j.lost then 2 else 0) r.paddr false ∧ t.pushes = mapDel s.pushes uid ∧
      (∀ b ∈ t.blocks, ¬(b.addr = j.blk ∧ User.push uid ∈ b.users)) ∧
      (t.chan m).queue = (s.chan m).queue.filter (fun q => q.kind ≠ .push uid) ∧ (∀ k, k ≠ m.val → t.chan k = s.chan k) ∧
      t.rd (movPg m) MOV_REQS_COUNT = min (s.rd (movPg m) MOV_REQS_COUNT + 1) (2 ^ 32 - 1) ∧
      (∀ k, k ≠ j.tgt → t.tgt k = s.tgt k) ∧ s.regsBut t [fieldKey (movPg m) MOV_REQS_COUNT 0] ∧
      t = { s with moments := t.moments, regs := t.regs, chans := t.chans, blocks := t.blocks, pushes := t.pushes, tgts := t.tgts }) ∧
  (∀ (s : State) (pp : PPort) (m : Chan) (val : Word), s.opens pp (movPg m) →
    ∃ t : State, exec (.movCreditAdd pp m val) s = .next t ∧
      t.rd (movPg m) MOV_CREDIT_ELEMS = min (s.rd (movPg m) MOV_CREDIT_ELEMS + val.toNat % 2 ^ 17) (2 ^ 18 - 1) ∧
      (∀ g r, (s.chan m).cfg = some g → (s.chan m).head = some r → g.needs r ≤ t.rd (movPg m) MOV_CREDIT_ELEMS →
        (t.chan m).waiting = false) ∧
      (∀ k, k ≠ m.val → t.chan k = s.chan k) ∧ s.regsBut t [fieldKey (movPg m) MOV_CREDIT_ELEMS 0] ∧
      t = { s with moments := t.moments, regs := t.regs, chans := t.chans })

/-! ### The interrupt controller -/

/-- T_CLAIM and F_CLAIM (R351, R352, R354, R356): the read returns the first claimable source of the class with its count and level, and
makes it active; every other source is unchanged, and a source that no decision had pinned starts its group's hold-off. Without a claimable
source the read returns 0 and ends the outstanding message, at a full stack it returns 0 and is an error, and F_CLAIM in STACK mode, or a read
by another partner port, returns 0 with no effect.

T_COMPLETE, F_COMPLETE and T_EOI (R351, R352): the claim ends, and with T_EOI the top of the stack goes; only that source
changes. A complete that names no active claim of the class on the target, one in STACK mode, and a T_EOI on an empty stack are errors with no
other effect. -/
def Obligations.ClaimsBeginAndEnd : Prop :=
  (∀ (s : State) (pp : PPort) (k : Tgt) (fast : Bool) (key : Nat) (x : IntSrc),
    s.faults = [] → s.down = false → s.icuRuns = true → pp.val = k.val / 4 → (fast && s.stackMode k) = false →
    (s.stackMode k = true → (s.tgt k).stack.length ≠ 8) → s.claimTop k fast = some (key, x) →
    ∃ t : State, exec (if fast = true then .fClaim pp k else .tClaim pp k) s = .next t ∧
      t.src key = { s.src key with
        count := 0, active := true, atgt := k, afast := fast, alevel := x.level, pin := false, delay := false } ∧
      (∀ j, j ≠ key → t.src j = s.src j) ∧
      t.out = .regData pp (if fast = true then tfPg k * 4096 + 0x040 else tnPg k * 4096 + 0x048)
        (srcNum key + x.count * 2 ^ 12 + x.level * 2 ^ 20) :: s.out ∧
      (if fast = true then (t.tgt k).outF = false else (t.tgt k).outN = false) ∧
      (t.tgt k).stack = (if s.stackMode k then [(x.level, key)] else []) ++ (s.tgt k).stack ∧
      t.holdOff = (if x.pin = true then s else s.startHoldOff x.group).holdOff ∧ (∀ j, j ≠ k.val → t.tgt j = s.tgt j) ∧
      t = { s with moments := t.moments, srcs := t.srcs, tgts := t.tgts, holdOff := t.holdOff, out := t.out }) ∧
  (∀ (s : State) (pp : PPort) (k : Tgt) (fast : Bool), s.faults = [] → s.down = false → s.icuRuns = true → pp.val = k.val / 4 →
    (fast && s.stackMode k) = false → (s.stackMode k = true → (s.tgt k).stack.length ≠ 8) → s.claimTop k fast = none →
    ∃ t : State, exec (if fast = true then .fClaim pp k else .tClaim pp k) s = .next t ∧
      t.out = .regData pp (if fast = true then tfPg k * 4096 + 0x040 else tnPg k * 4096 + 0x048) 0 :: s.out ∧
      t.tgt k = (if fast = true then { s.tgt k with outF := false, msgF := false } else { s.tgt k with outN := false, msgN := false }) ∧
      (∀ j, j ≠ k.val → t.tgt j = s.tgt j) ∧ t = { s with moments := t.moments, tgts := t.tgts, out := t.out }) ∧
  (∀ (s : State) (pp : PPort) (k : Tgt), s.faults = [] → s.down = false → s.icuRuns = true → pp.val = k.val / 4 →
    s.stackMode k = true → (s.tgt k).stack.length = 8 →
    ∃ u : State, exec (.tClaim pp k) s = .next u.done ∧ u.faults = [⟨44, .dev⟩] ∧
      u.rd (tnPg k) PAGE_ERRSRC_SRC = (s.rd (tnPg k) PAGE_ERRSRC_SRC ||| 2) % 2 ^ 16 ∧
      u.out = .regData pp (tnPg k * 4096 + 0x048) 0 :: s.out ∧ u.tgt k = { s.tgt k with outN := false, msgN := false } ∧
      s.regsBut u [fieldKey (tnPg k) PAGE_ERRSRC_SRC 0] ∧
      u = { s with regs := u.regs, faults := u.faults, tgts := u.tgts, out := u.out }) ∧
  (∀ (s : State) (pp : PPort) (k : Tgt) (fast : Bool), s.faults = [] → s.down = false →
    (s.icuRuns = false ∨ pp.val ≠ k.val / 4 ∨ (fast && s.stackMode k) = true) →
    exec (if fast = true then .fClaim pp k else .tClaim pp k) s = .next ({ s with
      out := .regData pp (if fast = true then tfPg k * 4096 + 0x040 else tnPg k * 4096 + 0x048) 0 :: s.out }).noteMoment) ∧
  (∀ (s : State) (pp : PPort) (k : Tgt) (fast : Bool) (val : Word) (key : Nat),
    s.opens pp (if fast = true then tfPg k else tnPg k) → s.stackMode k = false → key = keyOn k (val.toNat % 4096) →
    (s.src key).active = true → (s.src key).atgt = k.val → (s.src key).afast = fast →
    ∃ t : State, exec (if fast = true then .fComplete pp k val else .tComplete pp k val) s = .next t ∧
      (t.src key).active = false ∧ (∀ j, j ≠ key → t.src j = s.src j) ∧ t = { s with moments := t.moments, srcs := t.srcs }) ∧
  (∀ (s : State) (pp : PPort) (k : Tgt) (level key : Nat) (rest : List (Nat × Nat)),
    s.opens pp (tnPg k) → (s.tgt k).stack = (level, key) :: rest →
    ∃ t : State, exec (.tEoi pp k) s = .next t ∧ (t.src key).active = false ∧ (∀ j, j ≠ key → t.src j = s.src j) ∧
      t.tgt k = { s.tgt k with stack := rest } ∧ (∀ j, j ≠ k.val → t.tgt j = s.tgt j) ∧
      t = { s with moments := t.moments, srcs := t.srcs, tgts := t.tgts }) ∧
  (∀ (s : State) (pp : PPort) (k : Tgt) (fast : Bool) (val : Word) (x : IntSrc),
    s.opens pp (if fast = true then tfPg k else tnPg k) → x = s.src (keyOn k (val.toNat % 4096)) →
    (s.stackMode k = true ∨ x.active = false ∨ x.atgt ≠ k.val ∨ x.afast ≠ fast) →
    ∃ u : State, exec (if fast = true then .fComplete pp k val else .tComplete pp k val) s = .next u.done ∧
      u.faults = [⟨44, .dev⟩] ∧ u.rd (if fast = true then tfPg k else tnPg k) PAGE_ERRSRC_SRC =
        (s.rd (if fast = true then tfPg k else tnPg k) PAGE_ERRSRC_SRC ||| 1) % 2 ^ 16 ∧
      s.regsBut u [fieldKey (if fast = true then tfPg k else tnPg k) PAGE_ERRSRC_SRC 0] ∧
      u = { s with regs := u.regs, faults := u.faults }) ∧
  (∀ (s : State) (pp : PPort) (k : Tgt), s.opens pp (tnPg k) → (s.tgt k).stack = [] →
    ∃ u : State, exec (.tEoi pp k) s = .next u.done ∧ u.faults = [⟨44, .dev⟩] ∧
      u.rd (tnPg k) PAGE_ERRSRC_SRC = (s.rd (tnPg k) PAGE_ERRSRC_SRC ||| 4) % 2 ^ 16 ∧
      s.regsBut u [fieldKey (tnPg k) PAGE_ERRSRC_SRC 0] ∧ u = { s with regs := u.regs, faults := u.faults })

/-- The source that a claim returns is claimable, and no claimable source of the target has a higher level, or the same level and
a lower number (R349, R354). -/
def Obligations.ClaimReturnsHighestRank : Prop :=
  ∀ (s : State) (k : Tgt) (fast : Bool) (key : Nat) (x : IntSrc), s.claimTop k fast = some (key, x) →
    (key, x) ∈ s.targetSources k ∧ s.claimable k fast x = true ∧
    ∀ e ∈ s.targetSources k, s.claimable k fast e.2 = true →
      e.2.level < x.level ∨ (e.2.level = x.level ∧ srcNum key ≤ srcNum e.1)

/-- DELIVERY_DECISION and MSI_X_SEND (R41, R42, R349-R351, R356): the decision pins the source, marks the target's class outstanding,
clears IDLE and starts the group's hold-off; without an eligible source, or while a message of the class is outstanding, none is made; the
message leaves and is counted, vector 8 leaves uncounted; one that could claim nothing is withdrawn, and one that is held, or of a normal class
while a fast claim is active, does not leave.

T_MASK, the ends of hold-offs and coalescing delays, timers and T_SELF (R347, R348, R356, R357, R363): each changes the one
source or group it names, and counts an event of the target's private source where one is enabled; a mask of a source that is not routed to the
target is an error; a delay that does not run, and a timer without a period, change nothing. -/
def Obligations.SourcesCountAndMessagesAreSent : Prop :=
  (∀ (s : State) (k : Tgt) (fast : Bool) (key : Nat) (x : IntSrc),
    s.faults = [] → s.icuRuns = true → (if fast = true then (s.tgt k).outF else (s.tgt k).outN) = false →
    (fast = true ∨ s.stackMode k = true ∨ s.activeClaims k (some true) = 0) → s.decisionTop k fast = some (key, x) →
    ∃ t : State, exec (.deliveryDecision k fast) s = .next t ∧ (t.src key).pin = true ∧ (∀ j, j ≠ key → t.src j = s.src j) ∧
      (if fast = true then (t.tgt k).outF ∧ (t.tgt k).msgF else (t.tgt k).outN ∧ (t.tgt k).msgN) ∧
      t.rd (tnPg k) T_IDLE_IDLE = 0 ∧ s.regsBut t [fieldKey (tnPg k) T_IDLE_IDLE 0] ∧
      t.holdOff = (s.startHoldOff x.group).holdOff ∧ (∀ j, j ≠ k.val → t.tgt j = s.tgt j) ∧
      t = { s with moments := t.moments, regs := t.regs, srcs := t.srcs, tgts := t.tgts, holdOff := t.holdOff }) ∧
  (∀ (s : State) (k : Tgt) (fast : Bool) (pp : PPort) (v : Fin 9),
    s.faults = [] → pp.val = k.val / 4 → v.val = 2 * (k.val % 4) + (if fast = true then 1 else 0) →
    s.delivers pp = true → (s.pp pp).vecMasked v = false → (if fast = true then (s.tgt k).msgF else (s.tgt k).msgN) = true →
    s.msgWaits k fast = false → s.claimTop k fast ≠ none →
    ∃ t : State, exec (.msiXSend pp v) s = .next t ∧ t.out = .msix pp v :: s.out ∧
      t.tgt k = (if fast = true then { s.tgt k with msgF := false } else { s.tgt k with msgN := false }) ∧
      (∀ j, j ≠ k.val → t.tgt j = s.tgt j) ∧
      (if fast = true then t.rd (tfPg k) F_MSG_CNT_COUNT = min (s.rd (tfPg k) F_MSG_CNT_COUNT + 1) (2 ^ 32 - 1)
        else t.rd (tnPg k) T_MSG_CNT_COUNT = min (s.rd (tnPg k) T_MSG_CNT_COUNT + 1) (2 ^ 32 - 1)) ∧
      t = { s with moments := t.moments, regs := t.regs, tgts := t.tgts, out := t.out }) ∧
  (∀ (s : State) (k : Tgt) (fast : Bool), s.faults = [] → (s.icuRuns = false ∨
      (if fast = true then (s.tgt k).outF else (s.tgt k).outN) = true ∨ s.decisionTop k fast = none ∨
      (fast = false ∧ s.stackMode k = false ∧ s.activeClaims k (some true) ≠ 0)) →
    exec (.deliveryDecision k fast) s = .next s.noteMoment) ∧
  (∀ (s : State) (k : Tgt) (fast : Bool) (pp : PPort) (v : Fin 9),
    s.faults = [] → pp.val = k.val / 4 → v.val = 2 * (k.val % 4) + (if fast = true then 1 else 0) →
    s.delivers pp = true → (s.pp pp).vecMasked v = false → (if fast = true then (s.tgt k).msgF else (s.tgt k).msgN) = true →
    s.msgWaits k fast = false → s.claimTop k fast = none →
    ∃ t : State, exec (.msiXSend pp v) s = .next t ∧
      t.tgt k = (if fast = true then { s.tgt k with outF := false, msgF := false } else { s.tgt k with outN := false, msgN := false }) ∧
      (∀ j, j ≠ k.val → t.tgt j = s.tgt j) ∧ t = { s with moments := t.moments, tgts := t.tgts }) ∧
  (∀ (s : State) (pp : PPort), s.faults = [] → s.delivers pp = true → (s.pp pp).vecMasked 8 = false → (s.pp pp).vec8 = true →
    ∃ t : State, exec (.msiXSend pp 8) s = .next t ∧ t.out = .msix pp 8 :: s.out ∧ t.pp pp = { s.pp pp with vec8 := false } ∧
      (∀ q, q ≠ pp.val → t.pp q = s.pp q) ∧ t = { s with moments := t.moments, pps := t.pps, out := t.out }) ∧
  (∀ (s : State) (pp : PPort) (v : Fin 9) (k : Nat) (fast : Bool), s.faults = [] → k = 4 * pp.val + v.val / 2 →
    fast = (v.val % 2 == 1) →
    (s.delivers pp = false ∨ (s.pp pp).vecMasked v = true ∨ (v.val = 8 ∧ (s.pp pp).vec8 = false) ∨
      (v.val < 8 ∧ ((if fast = true then (s.tgt k).msgF else (s.tgt k).msgN) = false ∨ s.msgWaits k fast = true))) →
    exec (.msiXSend pp v) s = .next s.noteMoment) ∧
  (∀ (s : State) (pp : PPort) (k : Tgt) (val : Word), s.opens pp (tnPg k) → s.routedTo k (val.toNat % 4096) = true →
    ∃ t : State, exec (.tMask pp k val) s = .next t ∧
      t.src (keyOn k (val.toNat % 4096)) = { s.src (keyOn k (val.toNat % 4096)) with mask := val.toNat.testBit 31 } ∧
      (∀ j, j ≠ keyOn k (val.toNat % 4096) → t.src j = s.src j) ∧ t = { s with moments := t.moments, srcs := t.srcs }) ∧
  (∀ (s : State) (g : Group), s.faults = [] →
    ∃ t : State, exec (.holdOffExpiry g) s = .next t ∧ (∀ h, h ∈ t.holdOff ↔ h ∈ s.holdOff ∧ h ≠ g.val) ∧
      t = { s with moments := t.moments, holdOff := t.holdOff }) ∧
  (∀ (s : State) (key : Fin 4352), s.faults = [] → (s.src key).delay = true →
    ∃ t : State, exec (.coalescingDelayExpiry key) s = .next t ∧ t.src key = { s.src key with delay := false } ∧
      (∀ j, j ≠ key.val → t.src j = s.src j) ∧ t = { s with moments := t.moments, srcs := t.srcs }) ∧
  (∀ (s : State) (k : Tgt), s.faults = [] → s.down = false → s.rd (tnPg k) T_TIMER_PERIOD ≠ 0 → s.icuRuns = true →
    (s.src (privKey k 4)).en = true →
    ∃ t : State, exec (.timerExpiry k) s = .next t ∧
      (t.src (privKey k 4)).count = min ((s.src (privKey k 4)).count + 1) 255 ∧
      (∀ j, j ≠ privKey k 4 → t.src j = s.src j) ∧ t = { s with moments := t.moments, srcs := t.srcs }) ∧
  (∀ (s : State) (pp : PPort) (k : Tgt), s.opens pp (tnPg k) → s.icuRuns = true → (s.src (privKey k 6)).en = true →
    ∃ t : State, exec (.tSelfFire pp k) s = .next t ∧
      (t.src (privKey k 6)).count = min ((s.src (privKey k 6)).count + 1) 255 ∧
      (∀ j, j ≠ privKey k 6 → t.src j = s.src j) ∧ t = { s with moments := t.moments, srcs := t.srcs }) ∧
  (∀ (s : State) (pp : PPort) (k : Tgt) (val : Word), s.opens pp (tnPg k) → s.routedTo k (val.toNat % 4096) = false →
    ∃ u : State, exec (.tMask pp k val) s = .next u.done ∧ u.faults = [⟨44, .dev⟩] ∧
      u.rd (tnPg k) PAGE_ERRSRC_SRC = (s.rd (tnPg k) PAGE_ERRSRC_SRC ||| 8) % 2 ^ 16 ∧
      s.regsBut u [fieldKey (tnPg k) PAGE_ERRSRC_SRC 0] ∧ u = { s with regs := u.regs, faults := u.faults }) ∧
  (∀ (s : State) (pp : PPort) (k : Tgt) (key : Fin 4352) (r : Instr), s.faults = [] →
    ((r = .coalescingDelayExpiry key ∧ (s.src key).delay = false) ∨ (r = .timerExpiry k ∧ s.rd (tnPg k) T_TIMER_PERIOD = 0) ∨
      (r = .timerExpiry k ∧ (s.src (privKey k 4)).en = false) ∨
      (r = .tSelfFire pp k ∧ s.opens pp (tnPg k) ∧ (s.src (privKey k 6)).en = false)) → exec r s = .next s.noteMoment)

/-! ### Raster time and the ephemeris -/

/-- LINE_EDGE, FRAME_PULSE, MISSING_LINE_EDGE and LINE_END (R22, R309, R311-R314, R318): a valid edge begins the next line and moves the
estimate by a sixteenth of its error, rounded either way (log 2); a frame pulse at the end of a frame begins the next, one before it is a slip,
with one event for line 43, and one that measures the same length as the pulse before it sets LINES; an edge outside its window moves no time, and
neither does one that only acquires; the pulse that ends acquisition takes lock; a missing edge counts and makes the time base FLYWHEEL, the 65th
one FREE, with one event for line 42; without pins to follow, lines and frames end by themselves, and an edge means nothing; SET_FRAME takes effect
at a frame boundary, unless the cores are stalled. -/
def Obligations.LinesAndFramesFollowEachOther : Prop :=
  (∀ (s : State) (e : Nat), s.faults = [] → s.tbRuns = true → s.rtSrc = 1 → s.rt.tb = .locked → s.rt.est = true →
    s.armed = [] → s.rd (ephPg 0) RT_STAT_MISS_F = 0 → ((e : Int) - s.rt.period).natAbs ≤ s.rtWin → s.rt.line + 1 < s.rt.lines →
    ∃ t : State, exec (.lineEdge e) s = .next t ∧
      t.rt = { s.rt with
        line := s.rt.line + 1, period := t.rt.period, sinceEdge := 0, outEdges := 0, outPeriod := none
        sincePulse := s.rt.sincePulse + 1, sumPulse := t.rt.sumPulse, sub := 0, fine := 0 } ∧
      (16 * ((t.rt.period : Int) - s.rt.period) - ((e : Int) - s.rt.period)).natAbs < 16 ∧
      t.rd (ephPg 0) RT_MEAS_PERIOD_PERIOD = t.rt.period % 2 ^ 22 ∧ t.rd (ephPg 0) RT_STAT_MISS_L = 0 ∧
      s.regsBut t [fieldKey (ephPg 0) RT_MEAS_PERIOD_PERIOD 0, fieldKey (ephPg 0) RT_STAT_MISS_L 0] ∧
      t = { s with moments := t.moments, regs := t.regs, rt := t.rt, freeCtr := t.freeCtr }) ∧
  (∀ (s : State) (e : Nat), s.faults = [] → s.tbRuns = true → s.rtSrc = 1 → s.rt.tb = .locked → s.rt.est = true →
    s.armed = [] → s.rt.pulseSeen = false → s.rt.setFrame = none → ((e : Int) - s.rt.period).natAbs ≤ s.rtWin →
    s.rt.line + 1 = s.rt.lines → (s.rt.frame % 2 = 0 ∨ s.noWindows) →
    ∃ t : State, exec (.framePulse e) s = .next t ∧
      t.rt = { s.rt with
        frame := (s.rt.frame + 1) % 2 ^ 32, line := 0, period := t.rt.period, sinceEdge := 0, outEdges := 0
        outPeriod := none, pulseSeen := true, sincePulse := 0, sumPulse := 0, slew := s.rt.slewNext, slewNext := 0, sub := 0, fine := 0 } ∧
      (16 * ((t.rt.period : Int) - s.rt.period) - ((e : Int) - s.rt.period)).natAbs < 16 ∧
      t.rd (ephPg 0) RT_STAT_MISS_L = 0 ∧ t.rd (ephPg 0) RT_STAT_MISS_F = 0 ∧ t.frameTicks = s.frameTicks + 1 ∧
      s.regsBut t [fieldKey (ephPg 0) RT_MEAS_PERIOD_PERIOD 0, fieldKey (ephPg 0) RT_STAT_MISS_L 0,
        fieldKey (ephPg 0) RT_STAT_MISS_F 0] ∧
      t = { s with moments := t.moments, regs := t.regs, rt := t.rt, freeCtr := t.freeCtr, frameTicks := t.frameTicks }) ∧
  (∀ (s : State) (e : Nat), s.faults = [] → s.tbRuns = true → s.rtSrc = 1 → s.rt.tb = .locked → s.rt.est = true →
    s.armed = [] → s.rt.pulseSeen = false → s.rt.setFrame = none → ((e : Int) - s.rt.period).natAbs ≤ s.rtWin →
    s.rt.line + 1 < s.rt.lines → s.noWindows →
    ∃ u : State, exec (.framePulse e) s = .next u.done ∧ u.faults = [⟨43, .dev⟩] ∧
      u.rt.frame = (s.rt.frame + 1) % 2 ^ 32 ∧ u.rt.line = 0 ∧ u.rt.lines = s.rt.lines ∧ u.rt.tb = .locked ∧
      u.rt.discs = s.rt.discs + 1 ∧
      u.rd (ephPg 0) RT_CNT_SLIP_COUNT = min (s.rd (ephPg 0) RT_CNT_SLIP_COUNT + 1) (2 ^ RT_CNT_SLIP_COUNT.w - 1) ∧
      u.rd (ephPg 0) RT_CNT_DISC_COUNT = min (s.rd (ephPg 0) RT_CNT_DISC_COUNT + 1) (2 ^ RT_CNT_DISC_COUNT.w - 1) ∧
      u.rd (ephPg 0) PAGE_ERRSRC_SRC = (s.rd (ephPg 0) PAGE_ERRSRC_SRC ||| 4) % 2 ^ 16 ∧
      u = { s with
        regs := u.regs, srcs := u.srcs, rt := u.rt, freeCtr := u.freeCtr, frameTicks := u.frameTicks, faults := u.faults }) ∧
  (∀ (s : State) (e n : Nat), s.faults = [] → s.tbRuns = true → s.rtSrc = 1 → s.rt.tb ≠ .free → s.rt.est = true → s.armed = [] →
    s.rt.pulseSeen = true → s.rt.setFrame = none → ((e : Int) - s.rt.period).natAbs ≤ s.rtWin → n = s.rt.sincePulse + 1 →
    s.rt.lastLen = some n → 2 ≤ n → n ≤ 4096 → n ≤ s.rt.line + 1 →
    ∃ t : State, exec (.framePulse e) s = .next t ∧ t.rt.lines = n ∧ t.rt.line = 0 ∧ t.rt.frame = (s.rt.frame + 1) % 2 ^ 32 ∧
      t.rt.tb = .locked ∧ t.rd (ephPg 0) RT_MEAS_LINES = n) ∧
  (∀ (s : State) (e : Nat), s.faults = [] → s.tbRuns = true → s.rtSrc = 1 →
    (s.rt.tb = .free ∨ (s.rtWin < ((e : Int) - s.rt.period).natAbs ∧ s.rt.outEdges < 7)) →
    ∃ t : State, exec (.lineEdge e) s = .next t ∧ t.rt.frame = s.rt.frame ∧ t.rt.line = s.rt.line ∧ t.rt.tb = s.rt.tb ∧
      t.rt.period = s.rt.period ∧ t.rt.lines = s.rt.lines ∧ t.rt.sinceEdge = -(e : Int) ∧
      t = { s with moments := t.moments, rt := t.rt }) ∧
  (∀ (s : State) (e m q k : Nat), s.faults = [] → s.tbRuns = true → s.rtSrc = 1 → s.rt.tb = .free → s.rt.setFrame = none →
    s.armed = [] → s.rt.edgeSeen = true → m = (s.rt.sinceEdge + e).toNat → 81920 ≤ m → m ≤ 4096000 → s.rt.prevPeriod = some q →
    s.agree m q = true → 16 ≤ s.rt.acqEdges → s.rt.acqF1 = some k → 1 ≤ k → k ≤ 4095 →
    ∃ t : State, exec (.framePulse e) s = .next t ∧ t.rt.tb = .locked ∧ t.rt.lines = k + 1 ∧ t.rt.period = m ∧ t.rt.est = true ∧
      t.rt.line = 0 ∧ t.rt.frame = (s.rt.frame + 1) % 2 ^ 32 ∧ t.rt.acqF1 = none ∧ s.rt.discs < t.rt.discs) ∧
  (∀ (s : State), s.faults = [] → s.tbRuns = true → s.rtSrc = 1 → s.rt.tb = .locked → s.rt.est = true →
    s.rd (ephPg 0) RT_STAT_MISS_L < 64 → s.rd (ephPg 0) RT_STAT_MISS_F < 3 → s.rt.line + 1 < s.rt.lines →
    ∃ t : State, exec .missingLineEdge s = .next t ∧
      t.rt = { s.rt with line := s.rt.line + 1, tb := .flywheel, sinceEdge := s.rt.sinceEdge + s.rt.period, sub := 0, fine := 0 } ∧
      t.rd (ephPg 0) RT_STAT_MISS_L = s.rd (ephPg 0) RT_STAT_MISS_L + 1 ∧
      t.rd (ephPg 0) PAGE_IRQ_PEND_PEND = (s.rd (ephPg 0) PAGE_IRQ_PEND_PEND ||| 2 ^ 5) % 2 ^ 16 ∧
      s.regsBut t [fieldKey (ephPg 0) RT_STAT_MISS_L 0, fieldKey (ephPg 0) PAGE_IRQ_PEND_PEND 0] ∧
      t = { s with moments := t.moments, regs := t.regs, srcs := t.srcs, rt := t.rt }) ∧
  (∀ (s : State), s.faults = [] → s.tbRuns = true → s.rtSrc = 1 → s.rt.tb = .flywheel → s.rt.est = true →
    s.rd (ephPg 0) RT_STAT_MISS_L = 64 → s.rt.setFrame = none → s.rt.line + 1 < s.rt.lines → s.noWindows →
    ∃ u : State, exec .missingLineEdge s = .next u.done ∧ u.rt.tb = .free ∧ u.rt.frame = s.rt.frame ∧
      u.rt.line = s.rt.line + 1 ∧ u.rt.period = s.rt.period ∧ u.rt.lines = s.rt.lines ∧ u.faults = [⟨42, .dev⟩] ∧
      u.rd (ephPg 0) RT_CNT_LOSS_COUNT = min (s.rd (ephPg 0) RT_CNT_LOSS_COUNT + 1) (2 ^ RT_CNT_LOSS_COUNT.w - 1) ∧
      u.rd (ephPg 0) PAGE_ERRSRC_SRC = (s.rd (ephPg 0) PAGE_ERRSRC_SRC ||| 2) % 2 ^ 16 ∧
      u.rd (ephPg 0) RT_STAT_MISS_L = 0 ∧ u.rd (ephPg 0) RT_STAT_MISS_F = 0 ∧ u.armed = s.armed ∧
      u = { s with regs := u.regs, srcs := u.srcs, rt := u.rt, faults := u.faults }) ∧
  (∀ (s : State), s.faults = [] → s.tbRuns = true → (s.rt.tb = .free ∨ s.rtSrc ≠ 1) → s.rt.line + 1 < s.rt.lines →
    ∃ t : State, exec .lineEnd s = .next t ∧ t.rt.frame = s.rt.frame ∧ t.rt.line = s.rt.line + 1 ∧ t.rt.tb = s.rt.tb ∧
      t = { s with moments := t.moments, rt := t.rt }) ∧
  (∀ (s : State), s.faults = [] → s.tbRuns = true → s.rt.tb = .free → s.armed = [] → s.rt.lines ≤ s.rt.line + 1 →
    (s.rt.setFrame = none ∨ s.stalled = true) →
    ((s.rtSrc = 1 ∧ s.rt.est = true) ∨ s.rd (ephPg 0) RT_NOM_LINES = s.rt.lines) →
    ∃ t : State, exec .lineEnd s = .next t ∧ t.rt.frame = (s.rt.frame + 1) % 2 ^ 32 ∧ t.rt.line = 0 ∧ t.rt.tb = .free ∧
      t.rt.setFrame = s.rt.setFrame ∧ t = { s with moments := t.moments, rt := t.rt }) ∧
  (∀ (s : State) (f : Nat), s.faults = [] → s.tbRuns = true → s.rt.tb = .free → s.armed = [] → s.stalled = false →
    s.rt.lines ≤ s.rt.line + 1 → s.rt.setFrame = some f →
    ∃ t : State, exec .lineEnd s = .next t ∧ t.rt.frame = f ∧ t.rt.line = 0 ∧ t.rt.setFrame = none ∧
      t.reports (ephPg 0) stOk (s.rd (ephPg 0) PAGE_CMD_CODE % 2 ^ 8) ∧
      t = { s with moments := t.moments, regs := t.regs, srcs := t.srcs, rt := t.rt }) ∧
  (∀ (s : State), s.tbRuns = true → s.rt.tb ≠ .free → s.rtSrc = 1 → exec .lineEnd s = exec .missingLineEdge s) ∧
  (∀ (s : State) (e : Nat) (r : Instr), s.faults = [] →
    (((r = .lineEdge e ∨ r = .framePulse e ∨ r = .missingLineEdge) ∧ s.rtSrc ≠ 1) ∨ (r = .missingLineEdge ∧ s.rt.tb = .free) ∨
      (r = .lineEnd ∧ s.tbRuns = false)) → exec r s = .next s.noteMoment)

/-- RT_MARK_LINE_WRITE, RT_CFG_WRITE and SET_FRAME (R307, R314, R317, R318, R338): an accepted mark slews the next frame by at most 1/1000
and keeps the time; another steps to the mark; without SRC = LINK a mark does nothing; a write that changes SRC enters FREE without a step and
without a loss, as one discontinuity, and another where the rate code changes with it; reserved values are refused; SET_FRAME waits for the frame
boundary. -/
def Obligations.TheTimeBaseIsControlled : Prop :=
  (∀ (s : State) (pp : PPort) (val : Word) (e : Nat) (m : RTime) (d : Int), s.opens pp (ephPg 0) → s.tbRuns = true → s.rtSrc = 2 →
    m = (s.rd (ephPg 0) RT_MARK_FRAME_FRAME, bits val.toNat 0 12, bits val.toNat 12 8) →
    d = (s.rtNow e).distance s.rt.lines m → d.natAbs ≤ 256 * s.rd (ephPg 0) RT_CFG_MARK_WIN →
    (s.rt.tb ≠ .free ∨ s.rt.markRun = 0 ∨ s.noWindows) →
    ∃ t : State, exec (.rtMarkLineWrite pp val e) s = .next t ∧ t.rt.frame = s.rt.frame ∧ t.rt.line = s.rt.line ∧
      t.rt.period = s.rt.period ∧ t.rt.slewNext.natAbs ≤ s.rt.period / 1000 ∧ t.rt.markSeen = true ∧
      t.rt.tb = (if 1 ≤ s.rt.markRun then .locked else s.rt.tb) ∧ t.rd (ephPg 0) RT_MARK_ERR_STEPPED = 0 ∧
      (d.natAbs < 2 ^ 23 → signed 24 (t.rd (ephPg 0) RT_MARK_ERR_ERR) = d) ∧
      s.regsBut t [fieldKey (ephPg 0) RT_MARK_ERR_ERR 0, fieldKey (ephPg 0) RT_MARK_ERR_STEPPED 0,
        fieldKey (ephPg 0) PAGE_IRQ_PEND_PEND 0] ∧
      t = { s with moments := t.moments, regs := t.regs, srcs := t.srcs, rt := t.rt, freeCtr := t.freeCtr }) ∧
  (∀ (s : State) (pp : PPort) (val : Word) (e : Nat) (m : RTime) (d : Int), s.opens pp (ephPg 0) → s.tbRuns = true → s.rtSrc = 2 →
    m = (s.rd (ephPg 0) RT_MARK_FRAME_FRAME, bits val.toNat 0 12, bits val.toNat 12 8) → s.armed = [] →
    d = (s.rtNow e).distance s.rt.lines m → 256 * s.rd (ephPg 0) RT_CFG_MARK_WIN < d.natAbs → s.noWindows →
    ∃ t : State, exec (.rtMarkLineWrite pp val e) s = .next t ∧ t.rt.frame = m.1 ∧ t.rt.line = m.2.1 ∧
      t.rt.period = s.rt.period ∧ t.rt.markSeen = true ∧ t.rt.tb = (if 1 ≤ s.rt.markRun then .locked else s.rt.tb) ∧
      t.rd (ephPg 0) RT_MARK_ERR_STEPPED = 1 ∧
      t.rd (ephPg 0) RT_CNT_DISC_COUNT = min (s.rd (ephPg 0) RT_CNT_DISC_COUNT + 1) (2 ^ RT_CNT_DISC_COUNT.w - 1) ∧
      s.regsBut t [fieldKey (ephPg 0) RT_MARK_ERR_ERR 0, fieldKey (ephPg 0) RT_MARK_ERR_STEPPED 0,
        fieldKey (ephPg 0) RT_CNT_DISC_COUNT 0, fieldKey (ephPg 0) PAGE_IRQ_PEND_PEND 0] ∧
      t = { s with moments := t.moments, regs := t.regs, srcs := t.srcs, rt := t.rt }) ∧
  (∀ (s : State) (pp : PPort) (val : Word) (e : Nat), s.opens pp (ephPg 0) → (s.tbRuns = false ∨ s.rtSrc ≠ 2) →
    exec (.rtMarkLineWrite pp val e) s = .next s.noteMoment) ∧
  (∀ (s : State) (pp : PPort) (val : Word), s.opens pp (ephPg 0) →
    (bits val.toNat 0 2 = 3 ∨ bits val.toNat 8 8 = 0 ∨ bits val.toNat 16 4 = 0) →
    exec (.rtCfgWrite pp val) s = .next (s.refuse (ephPg 0) .badValue).noteMoment) ∧
  (∀ (s : State) (pp : PPort) (val : Word), s.opens pp (ephPg 0) → bits val.toNat 0 2 ≠ 3 → bits val.toNat 8 8 ≠ 0 →
    bits val.toNat 16 4 ≠ 0 →
    (bits val.toNat 0 2 = s.rtSrc ∨ (s.rt.setFrame = none ∧ s.noWindows)) →
    ∃ t : State, exec (.rtCfgWrite pp val) s = .next t ∧ t.rd (ephPg 0) RT_CFG_SRC = bits val.toNat 0 2 ∧
      t.rd (ephPg 0) RT_CFG_FPOL = bits val.toNat 2 1 ∧ t.rd (ephPg 0) RT_CFG_LPOL = bits val.toNat 3 1 ∧
      t.rd (ephPg 0) RT_CFG_TERM = bits val.toNat 4 1 ∧ t.rd (ephPg 0) RT_CFG_WIN = bits val.toNat 8 8 ∧
      t.rd (ephPg 0) RT_CFG_MARK_WIN = bits val.toNat 16 4 ∧
      (bits val.toNat 0 2 = s.rtSrc → t = { s with moments := t.moments, regs := t.regs }) ∧
      (bits val.toNat 0 2 ≠ s.rtSrc → t.rt.tb = .free ∧ t.rt.frame = s.rt.frame ∧ t.rt.line = s.rt.line ∧
        t.rt.period = s.rt.period ∧ t.rt.lines = s.rt.lines ∧
        t.rd (ephPg 0) RT_CNT_LOSS_COUNT = s.rd (ephPg 0) RT_CNT_LOSS_COUNT ∧
        t.rd (ephPg 0) RT_CNT_DISC_COUNT = min (s.rd (ephPg 0) RT_CNT_DISC_COUNT +
          if s.rateCode = s.rd (ephPg 0) RT_NOM_CODE then 1 else 2) (2 ^ RT_CNT_DISC_COUNT.w - 1)) ∧
      s.regsBut t [fieldKey (ephPg 0) RT_CFG_SRC 0, fieldKey (ephPg 0) RT_CFG_FPOL 0, fieldKey (ephPg 0) RT_CFG_LPOL 0,
        fieldKey (ephPg 0) RT_CFG_TERM 0, fieldKey (ephPg 0) RT_CFG_WIN 0, fieldKey (ephPg 0) RT_CFG_MARK_WIN 0,
        fieldKey (ephPg 0) RT_STAT_MISS_L 0, fieldKey (ephPg 0) RT_STAT_MISS_F 0, fieldKey (ephPg 0) RT_CNT_DISC_COUNT 0,
        fieldKey (ephPg 0) PAGE_IRQ_PEND_PEND 0] ∧
      t = { s with moments := t.moments, regs := t.regs, srcs := t.srcs, rt := t.rt }) ∧
  (∀ (s : State) (pp : PPort), s.opens pp (ephPg 0) →
    ∃ t : State, exec (.setFrame pp) s = .next t ∧ t.rt = { s.rt with setFrame := some (s.arg0 (ephPg 0)) } ∧
      t.rd (ephPg 0) PAGE_STAT_BUSY = 1 ∧ t.rd (ephPg 0) PAGE_RESULT_STATUS = stRunning ∧
      s.regsBut t (cmdKeys (ephPg 0)) ∧ t = { s with moments := t.moments, regs := t.regs, rt := t.rt })

/-- ENTRY_FIRE, ARM and DISARM (R322-R326, R328, R331, R338, R340, R392): an entry that is due is counted and shown, its action is taken, a ONCE
entry is disarmed and a FRAMES entry moves on by its period; an EVENT counts at its source and does nothing else, ECL_OPEN and ECL_CLOSE set the
windows of its ports, SYNC fills their slots; an entry that is not armed, not due, not first or in an ephemeris that does not run does not fire;
ARM takes the next occurrence from the table, at the raster time that it finds, or for every entry at once, disarms an entry without an action, and
ends with BAD_ARG for one that is invalid; DISARM removes one occurrence, or all of the cluster. -/
def Obligations.EntriesAreArmedAndFire : Prop :=
  (∀ (s : State) (c : Cl) (i : Fin 1024) (e K : Nat) (begun : List Port) (x : EphEntry) (t0 : RTime), s.faults = [] →
    mapRising s.armed = true → s.ephRuns c = true → mapGet? s.armed (1024 * c.val + i.val) = some t0 →
    (s.rtNow e).before t0 = false → (∀ y ∈ s.armedOf c, y.1 = i.val ∨ firesFirst (i.val, t0) y = true) →
    s.brokenIn (ephBase c + 32 * i.val) 32 = false →
    x = s.ephEntry c i → x.action = 6 → K = 128 + 16 * c.val + bits x.arg0 0 4 → s.icuRuns = true → (s.src K).en = true →
    ∃ t : State, exec (.entryFire c i e none begun) s = .next t ∧ (t.src K).count = min ((s.src K).count + 1) 255 ∧
      (∀ j, j ≠ K → t.src j = s.src j) ∧
      mapGet? t.armed (1024 * c.val + i.val) =
        (if x.rep = 1 then some ((t0.1 + x.period) % 2 ^ 32, t0.2.1, t0.2.2) else none) ∧
      (∀ k, k ≠ 1024 * c.val + i.val → mapGet? t.armed k = mapGet? s.armed k) ∧
      t.rd (ephPg c) EPH_FIRED_COUNT = min (s.rd (ephPg c) EPH_FIRED_COUNT + 1) (2 ^ 32 - 1) ∧
      t.rd (ephPg c) EPH_LAST_INDEX = i.val ∧ t.rd (ephPg c) EPH_LAST_LATE = 0 ∧
      s.regsBut t [fieldKey (ephPg c) EPH_FIRED_COUNT 0, fieldKey (ephPg c) EPH_LAST_INDEX 0,
        fieldKey (ephPg c) EPH_LAST_LATE 0] ∧ t.rt = { s.rt with sub := t.rt.sub, fine := t.rt.fine } ∧
      t = { s with moments := t.moments, regs := t.regs, srcs := t.srcs, armed := t.armed, rt := t.rt, tel := t.tel }) ∧
  (∀ (s : State) (c : Cl) (i : Fin 1024) (e : Nat) (begun : List Port) (x : EphEntry) (t0 : RTime), s.faults = [] →
    mapRising s.armed = true → s.ephRuns c = true → mapGet? s.armed (1024 * c.val + i.val) = some t0 →
    (s.rtNow e).before t0 = false → (∀ y ∈ s.armedOf c, y.1 = i.val ∨ firesFirst (i.val, t0) y = true) →
    s.brokenIn (ephBase c + 32 * i.val) 32 = false → x = s.ephEntry c i →
    ∃ u : State, exec (.entryFire c i e none begun) s = .next u.done ∧
      mapGet? u.armed (1024 * c.val + i.val) =
        (if x.rep = 1 then some ((t0.1 + x.period) % 2 ^ 32, t0.2.1, t0.2.2) else none) ∧
      u.rd (ephPg c) EPH_FIRED_COUNT = min (s.rd (ephPg c) EPH_FIRED_COUNT + 1) (2 ^ 32 - 1) ∧
      u.rd (ephPg c) EPH_LAST_INDEX = i.val ∧ u.rd (ephPg c) EPH_LAST_LATE = 0 ∧ u.mem = s.mem ∧
      (∀ n ∈ x.ports c, (x.action = 2 → u.rd (portPg n) PORT_ECL_EPH_OPEN = 1) ∧
        (x.action = 3 → u.rd (portPg n) PORT_ECL_EPH_OPEN = 0) ∧
        (x.action = 4 → offersMode (s.pmode n) = true → (u.port n).sync ≠ none)) ∧
      (x.action = 5 → s.telRuns = true → u.telExtra = s.telExtra + 1)) ∧
  (∀ (s : State) (c : Cl) (i : Fin 1024) (e : Nat) (find : Option Find) (begun : List Port), s.faults = [] →
    (∀ t0, mapGet? s.armed (1024 * c.val + i.val) = some t0 → s.ephRuns c = false ∨ (s.rtNow e).before t0 = true ∨
      ∃ y ∈ s.armedOf c, y.1 ≠ i.val ∧ firesFirst (i.val, t0) y = false) →
    ∃ t : State, exec (.entryFire c i e find begun) s = .next t ∧ t.rt = { s.rt with sub := t.rt.sub, fine := t.rt.fine } ∧
      t = { s with moments := t.moments, rt := t.rt }) ∧
  (∀ (s : State) (pp : PPort) (c : Cl) (i : Fin 1024) (x : EphEntry), s.opens pp (ephPg c) →
    (s.arg0 (ephPg c)).testBit 31 = false → i.val = s.arg0 (ephPg c) % 1024 →
    mapRising s.armed = true → s.brokenIn (ephBase c + 32 * i.val) 32 = false → x = s.ephEntry c i → x.action ≠ 0 →
    x.valid = true →
    (x.rep = 0 → s.ephRuns c = false ∨ RTime.before (s.rt.frame, s.rt.line, 255) (x.frame, x.line, x.sub) = true) →
    ∃ t : State, exec (.arm pp c) s = .next t ∧ s.rt.sub ≤ t.rt.sub ∧
      mapGet? t.armed (1024 * c.val + i.val) =
        some (if x.rep = 1 then x.firstFrom (s.rt.frame, s.rt.line, t.rt.sub) else (x.frame, x.line, x.sub)) ∧
      (∀ k, k ≠ 1024 * c.val + i.val → mapGet? t.armed k = mapGet? s.armed k) ∧
      t.reports (ephPg c) stOk 2 ∧ t.rd (ephPg c) PAGE_RESULT_DETAIL = 1 ∧ s.regsBut t (cmdKeys (ephPg c)) ∧
      t.rt = { s.rt with cut := s.rt.cut.filter (· ≠ 1024 * c.val + i.val), sub := t.rt.sub, fine := t.rt.fine } ∧
      t = { s with
        moments := t.moments, regs := t.regs, srcs := t.srcs, armed := t.armed, rt := t.rt, freeCtr := t.freeCtr }) ∧
  (∀ (s : State) (pp : PPort) (c : Cl) (i : Fin 1024) (x : EphEntry), s.opens pp (ephPg c) →
    (s.arg0 (ephPg c)).testBit 31 = false → i.val = s.arg0 (ephPg c) % 1024 → mapRising s.armed = true → x = s.ephEntry c i →
    s.brokenIn (ephBase c + 32 * i.val) 32 = false → (x.action = 0 ∨ x.valid = false) →
    ∃ u : State, exec (.arm pp c) s = .next u.done ∧ mapGet? u.armed (1024 * c.val + i.val) = none ∧
      (∀ k, k ≠ 1024 * c.val + i.val → mapGet? u.armed k = mapGet? s.armed k) ∧
      u.reports (ephPg c) (if x.action = 0 then stOk else stBadArg) 2 ∧
      (x.action = 0 → u.faults = [] ∧ u.rd (ephPg c) PAGE_RESULT_DETAIL = 0) ∧
      (x.action ≠ 0 → u.faults = [⟨24 + c.val, .eph c⟩] ∧ u.rd (ephPg c) EPH_BAD_INDEX = i.val ∧
        u.rd (ephPg c) PAGE_ERRSRC_SRC = (s.rd (ephPg c) PAGE_ERRSRC_SRC ||| 1) % 2 ^ 16)) ∧
  (∀ (s : State) (pp : PPort) (c : Cl), s.opens pp (ephPg c) → (s.arg0 (ephPg c)).testBit 31 = true → s.ephRuns c = false →
    mapRising s.armed = true →
    ∃ u : State, exec (.arm pp c) s = .next u.done ∧ u.reports (ephPg c) stOk 2 ∧
      (∀ i < 1024, (s.ephEntry c i).action = 0 → mapGet? u.armed (1024 * c.val + i) = mapGet? s.armed (1024 * c.val + i)) ∧
      (∀ i < 1024, (s.ephEntry c i).action ≠ 0 → ((mapGet? u.armed (1024 * c.val + i)).isSome = true ↔
        (s.ephEntry c i).valid = true ∧ s.brokenIn (ephBase c + 32 * i) 32 = false))) ∧
  (∀ (s : State) (pp : PPort) (c : Cl) (i : Fin 1024), s.opens pp (ephPg c) → (s.arg0 (ephPg c)).testBit 31 = false →
    i.val = s.arg0 (ephPg c) % 1024 → mapRising s.armed = true →
    ∃ t : State, exec (.disarm pp c) s = .next t ∧ mapGet? t.armed (1024 * c.val + i.val) = none ∧
      (∀ k, k ≠ 1024 * c.val + i.val → mapGet? t.armed k = mapGet? s.armed k) ∧
      t.reports (ephPg c) stOk 3 ∧
      t.rd (ephPg c) PAGE_RESULT_DETAIL = (if (mapGet? s.armed (1024 * c.val + i.val)).isSome then 1 else 0) ∧
      s.regsBut t (cmdKeys (ephPg c)) ∧ t = { s with moments := t.moments, regs := t.regs, srcs := t.srcs, armed := t.armed }) ∧
  (∀ (s : State) (pp : PPort) (c : Cl), s.opens pp (ephPg c) → (s.arg0 (ephPg c)).testBit 31 = true → mapRising s.armed = true →
    ∃ t : State, exec (.disarm pp c) s = .next t ∧ (∀ i < 1024, mapGet? t.armed (1024 * c.val + i) = none) ∧
      (∀ k, k / 1024 ≠ c.val → mapGet? t.armed k = mapGet? s.armed k) ∧ t.reports (ephPg c) stOk 3 ∧
      t.rd (ephPg c) PAGE_RESULT_DETAIL = (s.armedOf c).length % 2 ^ 16 ∧ s.regsBut t (cmdKeys (ephPg c)) ∧
      t = { s with moments := t.moments, regs := t.regs, srcs := t.srcs, armed := t.armed })

/-- A backward step of raster time (R326), made by SET_FRAME at a frame boundary or by a mark: a FRAMES entry moves to its first
occurrence not before the new time, an armed ONCE entry keeps its occurrence, and no entry is armed, disarmed or fires. -/
def Obligations.BackwardStepsMoveFramesEntries : Prop :=
  (∀ (s : State) (f : Nat), s.faults = [] → s.tbRuns = true → s.rt.tb = .free → s.stalled = false → s.rt.lines ≤ s.rt.line + 1 →
    s.rt.setFrame = some f → RTime.before (f, 0, 0) (s.rt.frame, s.rt.line, 255) = true →
    ∃ t : State, exec .lineEnd s = .next t ∧ t.lineStart = (f, 0, 0) ∧
      (∀ c < 8, ∀ i < 1024, mapGet? t.armed (1024 * c + i) = (mapGet? s.armed (1024 * c + i)).map fun t0 =>
        if (s.ephEntry c i).rep = 1 then (s.ephEntry c i).firstFrom (f, 0, 0) else t0) ∧
      t = { s with moments := t.moments, regs := t.regs, srcs := t.srcs, rt := t.rt, armed := t.armed }) ∧
  (∀ (s : State) (pp : PPort) (val : Word) (e : Nat) (m : RTime), s.opens pp (ephPg 0) → s.tbRuns = true → s.rtSrc = 2 →
    m = (s.rd (ephPg 0) RT_MARK_FRAME_FRAME, bits val.toNat 0 12, bits val.toNat 12 8) → m.before (s.rtNow e) = true →
    256 * s.rd (ephPg 0) RT_CFG_MARK_WIN < ((s.rtNow e).distance s.rt.lines m).natAbs →
    (s.rt.tb ≠ .free ∨ s.rt.markRun = 0 ∨ s.noWindows) →
    ∃ t : State, exec (.rtMarkLineWrite pp val e) s = .next t ∧ t.rt.frame = m.1 ∧ t.rt.line = m.2.1 ∧
      (∀ c < 8, ∀ i < 1024, mapGet? t.armed (1024 * c + i) = (mapGet? s.armed (1024 * c + i)).map fun t0 =>
        if (t.ephEntry c i).rep = 1 then (t.ephEntry c i).firstFrom m else t0) ∧
      t = { s with
        moments := t.moments, regs := t.regs, srcs := t.srcs, ports := t.ports, rt := t.rt, armed := t.armed, mem := t.mem
        undef := t.undef, freeCtr := t.freeCtr, ueWords := t.ueWords, poison := t.poison })

/-- T_CFG_WRITE (R353): a change is accepted only in CONFIGURE; it ends every active claim of the target, empties the stack (RP is
the level at its top, else 0) and withdraws outstanding and held messages; counts and the other sources stay; elsewhere it is refused
with no change of the target; a write that changes nothing has no effect. -/
def Obligations.TargetConfigurationEndsClaims : Prop :=
  (∀ (s : State) (pp : PPort) (k : Tgt) (val : Word), s.opens pp (tnPg k) → mapRising s.srcs = true → s.mode = .configure →
    (bits val.toNat 0 1 ≠ s.rd (tnPg k) T_CFG_MODE ∨ bits val.toNat 4 4 ≠ s.rd (tnPg k) T_CFG_FAST) →
    ∃ t : State, exec (.tCfgWrite pp k val) s = .next t ∧ t.rd (tnPg k) T_CFG_MODE = bits val.toNat 0 1 ∧
      t.rd (tnPg k) T_CFG_FAST = bits val.toNat 4 4 ∧
      t.tgt k = { s.tgt k with stack := [], outN := false, outF := false, msgN := false, msgF := false } ∧
      (∀ j, (s.src j).active = true → (s.src j).atgt = k.val → (t.src j).active = false) ∧
      t.runPrio k = 0 ∧ (∀ j, (t.src j).en = (s.src j).en) ∧ (∀ j, (s.src j).count ≠ 0 → (t.src j).count ≠ 0) ∧
      ((∀ p, s.pageIrq p = false) → ∀ j, (t.src j).count = (s.src j).count) ∧
      (∀ j, ¬((s.src j).active = true ∧ (s.src j).atgt = k.val) → t.src j = s.src j) ∧
      (∀ j, j ≠ k.val → t.tgt j = s.tgt j) ∧ t.holdOff = s.holdOff ∧
      s.regsBut t [fieldKey (tnPg k) T_CFG_MODE 0, fieldKey (tnPg k) T_CFG_FAST 0] ∧
      t = { s with moments := t.moments, regs := t.regs, srcs := t.srcs, tgts := t.tgts }) ∧
  (∀ (s : State) (pp : PPort) (k : Tgt) (val : Word), s.opens pp (tnPg k) → s.mode ≠ .configure →
    (bits val.toNat 0 1 ≠ s.rd (tnPg k) T_CFG_MODE ∨ bits val.toNat 4 4 ≠ s.rd (tnPg k) T_CFG_FAST) →
    ∃ t : State, exec (.tCfgWrite pp k val) s = .next t ∧ t.rd (tnPg k) PAGE_STAT_REFCAUSE = RefCause.rwc.code ∧
      t.rd (tnPg k) T_CFG_MODE = s.rd (tnPg k) T_CFG_MODE ∧ t.rd (tnPg k) T_CFG_FAST = s.rd (tnPg k) T_CFG_FAST ∧
      t.tgts = s.tgts) ∧
  (∀ (s : State) (pp : PPort) (k : Tgt) (val : Word), s.opens pp (tnPg k) → s.rd (tnPg k) T_CFG_MODE = bits val.toNat 0 1 →
    s.rd (tnPg k) T_CFG_FAST = bits val.toNat 4 4 → exec (.tCfgWrite pp k val) s = .next s.noteMoment)

/-- ICU_SRC_CFG_WRITE, T_RING_CFG_WRITE, T_RING_GET_WRITE, T_MAIL_OUT and T_MAIL_IN_READ (R342, R345, R360-R362, R364): the selected source
takes its configuration, and disabled it loses its count; a level source whose condition holds counts one event as it is enabled; level 0 is
refused, and a reserved number ignores the write; the ring's registers follow when the ring permits, else the write is an error with no effect, and
a LOG2 below 4 is refused; a message lands in the target's mailbox and counts there, a read takes it. -/
def Obligations.SourcesRingsAndMailboxesAreWritten : Prop :=
  (∀ (s : State) (pp : PPort) (val : Word) (n : Nat), s.opens pp icuPg → n = s.rd icuPg ICU_SRC_SEL_SRC → sharedExists n = true →
    bits val.toNat 16 4 ≠ 0 → (val.toNat.testBit 0 = false ∨ (s.src n).en = true ∨ sourcePage n = none ∨
      ∃ p, sourcePage n = some p ∧ s.pageCond p = false) →
    ∃ t : State, exec (.icuSrcCfgWrite pp val) s = .next t ∧
      t.src n = { s.src n with
        en := val.toNat.testBit 0, tgt := bits val.toNat 4 4, group := bits val.toNat 8 6, level := bits val.toNat 16 4
        count := if val.toNat.testBit 0 = true then (s.src n).count else 0
        pin := (s.src n).pin && val.toNat.testBit 0 && (s.src n).tgt == bits val.toNat 4 4
        delay := (s.src n).delay && val.toNat.testBit 0 } ∧
      (∀ j, j ≠ n → t.src j = s.src j) ∧ t = { s with moments := t.moments, srcs := t.srcs }) ∧
  (∀ (s : State) (pp : PPort) (val : Word) (n p : Nat), s.opens pp icuPg → n = s.rd icuPg ICU_SRC_SEL_SRC → sharedExists n = true →
    bits val.toNat 16 4 ≠ 0 → val.toNat.testBit 0 = true → (s.src n).en = false → sourcePage n = some p → s.pageCond p = true →
    s.icuRuns = true →
    ∃ t : State, exec (.icuSrcCfgWrite pp val) s = .next t ∧ (t.src n).en = true ∧ (t.src n).tgt = bits val.toNat 4 4 ∧
      (t.src n).group = bits val.toNat 8 6 ∧ (t.src n).level = bits val.toNat 16 4 ∧
      (t.src n).count = min ((s.src n).count + 1) 255 ∧ (∀ j, j ≠ n → t.src j = s.src j) ∧
      t = { s with moments := t.moments, srcs := t.srcs }) ∧
  (∀ (s : State) (pp : PPort) (val : Word), s.opens pp icuPg →
    (sharedExists (s.rd icuPg ICU_SRC_SEL_SRC) = false ∨ bits val.toNat 16 4 = 0) →
    exec (.icuSrcCfgWrite pp val) s = .next (if sharedExists (s.rd icuPg ICU_SRC_SEL_SRC) then s.refuse icuPg .badValue
      else s).noteMoment) ∧
  (∀ (s : State) (pp : PPort) (k : Tgt) (val : Word), s.opens pp (tnPg k) → bits val.toNat 0 4 < 4 →
    exec (.tRingCfgWrite pp k val) s = .next (s.refuse (tnPg k) .badValue).noteMoment) ∧
  (∀ (s : State) (pp : PPort) (k : Tgt) (val : Word), s.opens pp (tnPg k) → 4 ≤ bits val.toNat 0 4 →
    (s.flag (tnPg k) T_RING_CFG_EN = false ∨ (bits val.toNat 0 4 = s.rd (tnPg k) T_RING_CFG_LOG2 ∧
      (val.toNat.testBit 8 = true ∨ s.rd (tnPg k) T_RING_RSV_SLOTS = 0))) →
    ∃ t : State, exec (.tRingCfgWrite pp k val) s = .next t ∧ t.rd (tnPg k) T_RING_CFG_LOG2 = bits val.toNat 0 4 ∧
      t.rd (tnPg k) T_RING_CFG_EN = bits val.toNat 8 1 ∧
      t.rd (tnPg k) T_RING_PUT_PUT = (if val.toNat.testBit 8 = true then 0 else s.rd (tnPg k) T_RING_PUT_PUT) ∧
      t.rd (tnPg k) T_RING_GET_GET = (if val.toNat.testBit 8 = true then 0 else s.rd (tnPg k) T_RING_GET_GET) ∧
      s.regsBut t [fieldKey (tnPg k) T_RING_CFG_LOG2 0, fieldKey (tnPg k) T_RING_CFG_EN 0, fieldKey (tnPg k) T_RING_PUT_PUT 0,
        fieldKey (tnPg k) T_RING_GET_GET 0] ∧ t = { s with moments := t.moments, regs := t.regs }) ∧
  (∀ (s : State) (pp : PPort) (k : Tgt) (val : Word), s.opens pp (tnPg k) → 4 ≤ bits val.toNat 0 4 →
    s.flag (tnPg k) T_RING_CFG_EN = true → (bits val.toNat 0 4 ≠ s.rd (tnPg k) T_RING_CFG_LOG2 ∨
      (val.toNat.testBit 8 = false ∧ s.rd (tnPg k) T_RING_RSV_SLOTS ≠ 0)) →
    ∃ u : State, exec (.tRingCfgWrite pp k val) s = .next u.done ∧ u.faults = [⟨44, .dev⟩] ∧
      u.rd (tnPg k) PAGE_ERRSRC_SRC = (s.rd (tnPg k) PAGE_ERRSRC_SRC ||| 16) % 2 ^ 16 ∧
      s.regsBut u [fieldKey (tnPg k) PAGE_ERRSRC_SRC 0] ∧ u = { s with regs := u.regs, faults := u.faults }) ∧
  (∀ (s : State) (pp : PPort) (k : Tgt) (val : Word), s.opens pp (tnPg k) →
    ((bits val.toNat 0 16 + 65536 - s.rd (tnPg k) T_RING_GET_GET) % 65536 ≤ s.ringFill k →
      ∃ t : State, exec (.tRingGetWrite pp k val) s = .next t ∧ t.rd (tnPg k) T_RING_GET_GET = bits val.toNat 0 16 ∧
        s.regsBut t [fieldKey (tnPg k) T_RING_GET_GET 0] ∧ t = { s with moments := t.moments, regs := t.regs }) ∧
    (s.ringFill k < (bits val.toNat 0 16 + 65536 - s.rd (tnPg k) T_RING_GET_GET) % 65536 →
      ∃ u : State, exec (.tRingGetWrite pp k val) s = .next u.done ∧ u.faults = [⟨44, .dev⟩] ∧
        u.rd (tnPg k) PAGE_ERRSRC_SRC = (s.rd (tnPg k) PAGE_ERRSRC_SRC ||| 32) % 2 ^ 16 ∧
        s.regsBut u [fieldKey (tnPg k) PAGE_ERRSRC_SRC 0] ∧ u = { s with regs := u.regs, faults := u.faults })) ∧
  (∀ (s : State) (pp : PPort) (k : Tgt) (val : Word) (d : Nat), s.opens pp (tnPg k) → d = bits val.toNat 0 4 →
    ∃ t : State, exec (.tMailOut pp k val) s = .next t ∧ t.rd (tnPg d) T_MAIL_IN_FROM = k.val ∧
      t.rd (tnPg d) T_MAIL_IN_VALID = 1 ∧ t.rd (tnPg d) T_MAIL_IN_VALUE = bits val.toNat 16 16 ∧
      (s.flag (tnPg d) T_MAIL_IN_VALID = true →
        t.rd (tnPg d) T_MAIL_IN_LOST = min (s.rd (tnPg d) T_MAIL_IN_LOST + 1) (2 ^ T_MAIL_IN_LOST.w - 1)) ∧
      (s.icuRuns = true → (s.src (privKey d 3)).en = true →
        (t.src (privKey d 3)).count = min ((s.src (privKey d 3)).count + 1) 255) ∧
      (∀ j, j ≠ privKey d 3 → t.src j = s.src j) ∧
      s.regsBut t ([fieldKey (tnPg d) T_MAIL_IN_FROM 0, fieldKey (tnPg d) T_MAIL_IN_VALID 0, fieldKey (tnPg d) T_MAIL_IN_VALUE 0] ++
        if s.flag (tnPg d) T_MAIL_IN_VALID then [fieldKey (tnPg d) T_MAIL_IN_LOST 0] else []) ∧
      t = { s with moments := t.moments, regs := t.regs, srcs := t.srcs }) ∧
  (∀ (s : State) (pp : PPort) (k : Tgt), s.faults = [] → s.down = false →
    ∃ t : State, exec (.tMailInRead pp k) s = .next t ∧
      t.out = .regData pp (tnPg k * 4096 + 0x084) (s.rd (tnPg k) T_MAIL_IN_FROM + s.rd (tnPg k) T_MAIL_IN_VALID * 2 ^ 7 +
        s.rd (tnPg k) T_MAIL_IN_LOST * 2 ^ 8 + s.rd (tnPg k) T_MAIL_IN_VALUE * 2 ^ 16) :: s.out ∧
      t.rd (tnPg k) T_MAIL_IN_VALID = 0 ∧ t.rd (tnPg k) T_MAIL_IN_LOST = 0 ∧
      s.regsBut t [fieldKey (tnPg k) T_MAIL_IN_VALID 0, fieldKey (tnPg k) T_MAIL_IN_LOST 0] ∧
      t = { s with moments := t.moments, regs := t.regs, out := t.out })

/-! ### Faults -/

/-- An event that the collector takes (R26, R371, R372), an injected one whatever masks or disables its line: the window count, the window
start, the level with its escalation, and the sticky bit are as the rule's text computes them, at least the level that was injected, and the
reaction is that of the level; in UPDATE the line is carried over the restart; FCO_STICKY_CLEAR ends the sticky bit and the level of the lines it
names, and leaves their counts and window starts. -/
def Obligations.EventsAreClassified : Prop :=
  (∀ (s : State) (l : Nat) (src : FaultSrc) (x : LineState) (now c0 c1 l1 lvl : Nat), s.collects = true →
    ((∃ f, src = .inject f) ∨ (s.masked ⟨l, src⟩ = false ∧ (l = 58 ∨ s.lcfg l FCO_LCFG_A_EN ≠ 0))) → x = s.line l →
    now = s.windowNow l →
    c0 = (if s.lcfg l FCO_LCFG_A_W ≠ 0 ∧ 0 < x.count ∧ s.lcfg l FCO_LCFG_A_W ≤ now - x.wstart then 0 else x.count) →
    c1 = min (c0 + 1) 255 →
    l1 = (if s.lcfg l FCO_LCFG_A_N ≤ c1 then max (s.lcfg l FCO_LCFG_A_BASE) (s.lcfg l FCO_LCFG_A_CNT)
      else s.lcfg l FCO_LCFG_A_BASE) →
    lvl = max (if x.sticky = true then max (max l1 (min (x.level + 1) (s.lcfg l FCO_LCFG_A_CAP))) x.level else l1)
      (match src with | .inject (some v) => v | _ => 0) →
    ∃ u : State, s.takeEvent ⟨l, src⟩ = u.react ⟨l, src⟩ lvl ∧
      u.line l = { sticky := true, level := lvl, count := c1, wstart := if c0 = 0 then now else x.wstart
                   total := (x.total + 1) % 65536 } ∧
      (∀ j, j ≠ l → u.line j = s.line j) ∧ u.carried = (if s.mode = .update then mapPut s.carried l lvl else s.carried) ∧
      u.rd fcoPg FCO_EVENTS_COUNT = min (s.rd fcoPg FCO_EVENTS_COUNT + 1) (2 ^ 32 - 1) ∧
      s.regsBut u [fieldKey fcoPg FCO_EVENTS_COUNT 0, fieldKey fcoPg PAGE_IRQ_PEND_PEND 0] ∧
      u = { s with regs := u.regs, srcs := u.srcs, lines := u.lines, tel := u.tel, carried := u.carried }) ∧
  (∀ (s : State) (pp : PPort) (hi : Bool) (val : Word), s.opens pp fcoPg →
    ∃ t : State, exec (.fcoStickyClear pp hi val) s = .next t ∧
      (∀ i < 32, val.toNat.testBit i = true →
        t.line (i + if hi = true then 32 else 0) = { s.line (i + if hi = true then 32 else 0) with sticky := false, level := 0 }) ∧
      (∀ j, (∀ i < 32, val.toNat.testBit i = true → j ≠ i + if hi = true then 32 else 0) → t.line j = s.line j) ∧
      t = { s with moments := t.moments, lines := t.lines, carried := t.carried })

/-- What an event of one line leads to (R22, R374-R376, R384, R388): a masked one is only counted; one whose reaction is NONE or IRQ ends with
its classification; one whose reaction is FENCE fences the line's cluster, which leaves DEGRADED or SAFE; RESET of the management cores lets them
run again; at level SAFE the device is in SAFE, whatever follows. -/
def Obligations.ReactionsFollowTheLevel : Prop :=
  (∀ (s : State) (e : FaultEvent), s.collects = true → s.masked e = true →
    ∃ t : State, ({ s with faults := [e] }).done = t ∧
      t.rd fcoPg FCO_MASKED_COUNT = min (s.rd fcoPg FCO_MASKED_COUNT + 1) (2 ^ 32 - 1) ∧
      s.regsBut t [fieldKey fcoPg FCO_MASKED_COUNT 0] ∧ t = { s with moments := t.moments, regs := t.regs, tel := t.tel, faults := [] }) ∧
  (∀ (s : State) (l lvl : Nat), s.faults = [] → s.mode ≠ .safe → s.mode ≠ .update → s.unfencing = none → lvl ≤ 3 →
    (if lvl = 0 then s.lcfg l FCO_LCFG_B_NOTE else if lvl = 1 then s.lcfg l FCO_LCFG_B_MINOR
      else if lvl = 2 then s.lcfg l FCO_LCFG_B_MAJOR else s.lcfg l FCO_LCFG_B_SEVERE) = 1 →
    s.icuRuns = true → (s.src (64 + l)).en = true →
    ∀ src : FaultSrc, ∃ t : State, (s.react ⟨l, src⟩ lvl).done = t ∧
      (t.src (64 + l)).count = min ((s.src (64 + l)).count + 1) 255 ∧ (∀ j, j ≠ 64 + l → t.src j = s.src j) ∧
      t = { s with moments := t.moments, srcs := t.srcs }) ∧
  (∀ (s : State) (l lvl : Nat) (src : FaultSrc), s.faults = [] → s.mode ≠ .safe → s.mode ≠ .update → s.unfencing = none → lvl ≤ 3 →
    s.reaction l lvl = 0 → (s.react ⟨l, src⟩ lvl).done = s.noteMoment) ∧
  (∀ (s : State) (l c lvl : Nat) (src : FaultSrc), (s.mode = .run ∨ s.mode = .degraded) → s.moving = none → lineCluster l = some c →
    s.fencedCl c = false → s.reaction l lvl = 3 →
    ∃ u : State, s.react ⟨l, src⟩ lvl = u ∧ u.fencedCl c = true ∧ (u.mode = .degraded ∨ u.mode = .safe)) ∧
  (∀ (s : State) (l lvl : Nat) (src : FaultSrc), s.mode ≠ .safe → s.mode ≠ .update → s.reaction l lvl = 2 → (l = 45 ∨ l = 46) →
    ∃ u : State, s.react ⟨l, src⟩ lvl = u ∧ u.stalled = false ∧ ResetJob.cores ∈ u.resets ∧ u.mode = s.mode ∧
      u.moving = none ∧ u.unfencing = none) ∧
  (∀ (s : State) (l : Nat) (src : FaultSrc), s.faults = [] → s.collects = true → s.mode ≠ .update →
    (s.react ⟨l, src⟩ 4).done.mode = .safe)

/-- REACT_FAIL, LEVEL_LINE_TICK, MC_WATCHDOG, INTERNAL_CHECK_FAILURE, PARITY_SCAN, FCO_INJECT and RESET_DONE (R22, R64, R368, R369, R372,
R375-R377, R379, R381-R383, R386): each detector raises the event of its line, the watchdog's leaves the management cores stalled, and one whose
condition does not hold raises none; a parity scan advances core time and the time in panic, and one that finds a bad word shows its index; an
injection of line 58 or of a reserved level is refused; the masks of a reset end with it, and the ports of a port reset are in the mode they were
in. -/
def Obligations.DetectorsRaiseEvents : Prop :=
  (∀ (s : State) (w : ResetWhat), s.faults = [] → s.down = false → w ≠ .safe →
    (s.resets.contains (resetJobOf w) = true ∨ ∃ c : Cl, w = .fence c ∧ s.unfencing = some c.val) →
    exec (.reactFail w) s = .next ({ s with faults := [⟨61, .dev⟩] }).done) ∧
  (∀ (s : State) (l : Line), s.faults = [] → s.down = false → s.lineCond l = true →
    exec (.levelLineTick l) s = .next ({ s with faults := [⟨l, .dev⟩] }).done) ∧
  (∀ (s : State) (w : ResetWhat) (l : Line) (r : Instr), s.faults = [] →
    ((r = .reactFail w ∧ (w = .safe ∨ (s.resets.contains (resetJobOf w) = false ∧ s.unfencing = none))) ∨
      (r = .levelLineTick l ∧ s.lineCond l = false) ∨ (r = .resetDone w ∧ s.resets.contains (resetJobOf w) = false)) →
    exec r s = .next s.noteMoment) ∧
  (∀ (s : State), s.faults = [] → s.down = false →
    exec .mcWatchdog s = .next ({ s with faults := [⟨45, .dev⟩], stalled := true }).done) ∧
  (∀ (s : State), s.faults = [] → s.down = false →
    exec (.internalCheckFailure .crossbar) s = .next ({ s with faults := [⟨41, .dev⟩] }).done ∧
    (∀ c : Cl, exec (.internalCheckFailure (.cluster c)) s = .next ({ s with faults := [⟨c, .cl c⟩] }).done) ∧
    exec (.internalCheckFailure .coreMemory) s = .next ({ s with faults := [⟨46, .dev⟩] }).done ∧
    exec (.internalCheckFailure (.fuses true)) s =
      .next ({ s with faults := [⟨48, .dev⟩], fuses := { s.fuses with mismatch := true } }).done ∧
    exec (.internalCheckFailure (.fuses false)) s = .next ({ s with fuses := { s.fuses with mismatch := false } }).noteMoment ∧
    ∀ (pp : PPort) (e : LinkErr), ∃ u : State, exec (.internalCheckFailure (.link pp e)) s = .next u.done ∧
      u.faults = [⟨32 + pp.val, .dev⟩] ∧ u.pp pp = { s.pp pp with aerStatus := (s.pp pp).aerStatus ||| 2 ^ linkAer e } ∧
      (∀ q, q ≠ pp.val → u.pp q = s.pp q) ∧ u = { s with pps := u.pps, faults := u.faults }) ∧
  (∀ (s : State), s.faults = [] → s.down = false → s.parityBad = [] →
    ∃ t : State, exec (.parityScan []) s = .next t ∧ t.coreUs = (if s.mode = .loader then s.coreUs else s.coreUs + 100) ∧
      t.frameTicks = (if s.mode ≠ .loader ∧ s.rt.tb = .free ∧ (s.coreUs + 100) % 20000 = 0 then s.frameTicks + 1 else s.frameTicks) ∧
      (∀ n < 4, t.rd (ppPg n) PP_PANIC_TIME_MICROS = (if s.flag (ppPg n) PP_PANIC_STATE = true then
        min (s.rd (ppPg n) PP_PANIC_TIME_MICROS + 100) (2 ^ PP_PANIC_TIME_MICROS.w - 1) else s.rd (ppPg n) PP_PANIC_TIME_MICROS)) ∧
      s.regsBut t ([0, 1, 2, 3].map fun n => fieldKey (ppPg n) PP_PANIC_TIME_MICROS 0) ∧
      t = { s with
        moments := t.moments, regs := t.regs, tel := t.tel, coreUs := t.coreUs, frameTicks := t.frameTicks }) ∧
  (∀ (s : State), s.faults = [] → s.down = false → s.mode ≠ .loader → s.parityBad = [] →
    (∀ n < 4, s.rd (ppPg n) PP_PANIC_STATE = 0) → ∀ i : Fin 128, ∃ u : State, exec (.parityScan [i]) s = .next u.done ∧ u.parityBad = [i.val] ∧
      u.rd fcoPg FCO_STAT_PIDX = i.val ∧ u.rd fcoPg PAGE_ERRSRC_SRC = (s.rd fcoPg PAGE_ERRSRC_SRC ||| 1) % 2 ^ 16 ∧
      u.rd fcoPg PAGE_IRQ_PEND_PEND = (s.rd fcoPg PAGE_IRQ_PEND_PEND ||| 16) % 2 ^ 16 ∧ u.faults = [⟨58, .dev⟩] ∧
      s.regsBut u [fieldKey fcoPg FCO_STAT_PIDX 0, fieldKey fcoPg PAGE_ERRSRC_SRC 0, fieldKey fcoPg PAGE_IRQ_PEND_PEND 0] ∧
      u = { s with regs := u.regs, srcs := u.srcs, parityBad := u.parityBad, coreUs := u.coreUs, frameTicks := u.frameTicks
                   faults := u.faults }) ∧
  (∀ (s : State) (pp : PPort) (val : Word), s.opens pp fcoPg → bits val.toNat 0 6 ≠ 58 → bits val.toNat 8 3 ≤ 4 →
    exec (.fcoInject pp val) s = .next ({ s with faults := [⟨bits val.toNat 0 6,
      .inject (if val.toNat.testBit 11 = true then some (bits val.toNat 8 3) else none)⟩] }).done) ∧
  (∀ (s : State) (pp : PPort) (val : Word), s.opens pp fcoPg → (bits val.toNat 0 6 = 58 ∨ 4 < bits val.toNat 8 3) →
    exec (.fcoInject pp val) s = .next (s.refuse fcoPg .badValue).noteMoment) ∧
  (∀ (s : State) (w : ResetWhat) (n : Port), s.faults = [] → s.down = false → s.resets.contains (resetJobOf w) = true →
    (w = .port n ∨ ∃ c : Cl, w = .ports c ∧ n.val / 16 = c.val) →
    ∃ u : State, exec (.resetDone w) s = .next u.done ∧ (∀ j, j ∈ u.resets ↔ j ∈ s.resets ∧ j ≠ resetJobOf w) ∧
      (s.pmode n < 8 → u.pmode n = s.pmode n) ∧ u.mode = s.mode ∧
      ((s.pmode n = pmNormal ∨ s.pmode n = pmRestricted) → (s.port n).move = none → u.estate n = esIntegrating)) ∧
  (∀ (s : State) (w : ResetWhat), s.faults = [] → s.down = false → s.resets.contains (resetJobOf w) = true →
    (∀ n, w ≠ .port n) → (∀ c, w ≠ .ports c) →
    ∃ t : State, exec (.resetDone w) s = .next t ∧ (∀ j, j ∈ t.resets ↔ j ∈ s.resets ∧ j ≠ resetJobOf w) ∧
      t = { s with moments := t.moments, resets := t.resets })

/-- UNFENCE, UNFENCE_DONE, SAFE_EXIT_DONE and DEFAULTS (R22, R24, R25, R47, R385, R386, R389, R400): UNFENCE clears the cluster's slice, tables
and FIFOs and stays BUSY; at its end the cluster is in service, the last one takes DEGRADED to RUN and any other DEGRADED to DEGRADED, or the
command ends with FAULT; SAFE ends in CONFIGURE once no burst is outstanding; DEFAULTS gives every configuration word its reset value; UNFENCE and
DEFAULTS are refused where they are not permitted; without an UNFENCE or a safe-state exit, or while the cores are stalled, nothing ends. -/
def Obligations.FencesAndSafeEnd : Prop :=
  (∀ (s : State) (pp : PPort) (c : Nat), s.opens pp fcoPg → s.unfenceOk = true → c = s.arg0 fcoPg % 8 →
    ∃ t : State, exec (.unfence pp) s = .next t ∧ t.unfencing = some c ∧ t.rd fcoPg PAGE_STAT_BUSY = 1 ∧
      t.rd fcoPg PAGE_RESULT_STATUS = stRunning ∧
      t.rd crpPg CRP_CLK_CL_LOCK = clearBits (s.rd crpPg CRP_CLK_CL_LOCK) (2 ^ c) % 2 ^ 8 ∧ t.fencedCl c = true ∧
      (∀ f < 64, t.rd (clPg c) RXF_PUT_PUT f = 0 ∧ t.rd (clPg c) RXF_GET_GET f = 0) ∧
      (∀ e ∈ t.armed, e.1 / 1024 ≠ c) ∧ (∀ e ∈ t.bufCount, e.1 / 1024 ≠ c) ∧
      (∀ a, sliceBase c ≤ a → a < sliceBase c + 0x800000 → t.mb a = 0) ∧
      (∀ a, (a < sliceBase c ∨ sliceBase c + 0x800000 ≤ a) → (a < filterBase c ∨ filterBase c + 0x8000 ≤ a) →
        (a < ephBase c ∨ ephBase c + 0x8000 ≤ a) → (∀ n ∈ clusterPorts c, a < lastBase n ∨ lastBase n + 0x4000 ≤ a) →
        t.mb a = s.mb a) ∧
      t.mode = s.mode ∧ t.jobs = s.jobs ∧ t.ports = s.ports) ∧
  (∀ (s : State) (pp : PPort) (r : Instr), s.opens pp fcoPg →
    ((r = .unfence pp ∧ s.unfenceOk = false) ∨ (r = .defaults pp ∧ s.defaultsOk = false)) →
    exec r s = .next (s.refuse fcoPg .badCmd).noteMoment) ∧
  (∀ (s : State) (locked : Bool) (r : Instr), s.faults = [] →
    ((r = .unfenceDone locked ∧ (s.unfencing = none ∨ s.stalled = true)) ∨
      (r = .safeExitDone ∧ (s.moving ≠ some .safeExit ∨ s.stalled = true ∨ (s.chans.any fun e => !e.2.outst.isEmpty) = true))) →
    exec r s = .next s.noteMoment) ∧
  (∀ (s : State) (c : Nat), s.faults = [] → s.stalled = false → s.mode ≠ .degraded → s.mode ≠ .run → s.unfencing = some c → c < 8 →
    ∃ t : State, exec (.unfenceDone true) s = .next t ∧ t.unfencing = none ∧
      t.rd devPg DEV_CLUSTERS_FENCED = clearBits (s.rd devPg DEV_CLUSTERS_FENCED) (2 ^ c) % 2 ^ 8 ∧
      t.rd crpPg CRP_CLK_CL_LOCK = (s.rd crpPg CRP_CLK_CL_LOCK ||| 2 ^ c) % 2 ^ 8 ∧
      t.reports fcoPg stOk (s.rd fcoPg PAGE_CMD_CODE % 2 ^ 8) ∧
      s.regsBut t (fieldKey devPg DEV_CLUSTERS_FENCED 0 :: fieldKey crpPg CRP_CLK_CL_LOCK 0 :: cmdKeys fcoPg) ∧
      t = { s with moments := t.moments, regs := t.regs, srcs := t.srcs, unfencing := none }) ∧
  (∀ (s : State) (c left : Nat), s.faults = [] → s.stalled = false → s.mode = .degraded → s.unfencing = some c →
    left = clearBits (s.rd devPg DEV_CLUSTERS_FENCED) (2 ^ c) →
    ∃ u : State, exec (.unfenceDone true) s = .next u.done ∧ u.mode = (if left = 0 then .run else .degraded) ∧ u.prev = .degraded ∧
      u.unfencing = none ∧ u.moving = s.moving ∧ u.rd devPg DEV_CLUSTERS_FENCED = left % 2 ^ 8 ∧
      u.rd devPg DEV_MODE_PREV = Mode.degraded.code ∧ u.reports fcoPg stOk (s.rd fcoPg PAGE_CMD_CODE % 2 ^ 8)) ∧
  (∀ (s : State) (c : Nat), s.faults = [] → s.stalled = false → s.unfencing = some c →
    ∃ u : State, exec (.unfenceDone false) s = .next u.done ∧ u.unfencing = none ∧ u.faults = [⟨c, .unmasked⟩] ∧
      u.reports fcoPg stFault (s.rd fcoPg PAGE_CMD_CODE % 2 ^ 8) ∧ s.regsBut u (cmdKeys fcoPg) ∧
      u = { s with regs := u.regs, srcs := u.srcs, unfencing := none, faults := u.faults }) ∧
  (∀ (s : State), s.faults = [] → s.stalled = false → s.moving = some .safeExit →
    (s.chans.any fun e => !e.2.outst.isEmpty) = false →
    ∃ u : State, exec .safeExitDone s = .next u.done ∧ u.mode = .configure ∧ u.prev = s.mode ∧ u.moving = none ∧
      u.rd devPg DEV_MODE_MODE = Mode.configure.code ∧ u.rd devPg DEV_MODE_MOVING = 0 ∧
      u.reports devPg stOk (s.rd devPg PAGE_CMD_CODE % 2 ^ 8)) ∧
  (∀ (s : State) (pp : PPort), s.opens pp fcoPg → s.defaultsOk = true →
    ∃ t : State, exec (.defaults pp) s = .next t ∧ t.parityBad = [] ∧
      (∀ l < 64, ∀ f ∈ [FCO_LCFG_A_EN, FCO_LCFG_A_BASE, FCO_LCFG_A_CNT, FCO_LCFG_A_CAP, FCO_LCFG_A_UNIT, FCO_LCFG_A_N,
        FCO_LCFG_A_W, FCO_LCFG_B_NOTE, FCO_LCFG_B_MINOR, FCO_LCFG_B_MAJOR, FCO_LCFG_B_SEVERE],
        t.rd fcoPg f l = f.rstAt l ∧ t.lcfg l f = f.rstAt l) ∧
      t.reports fcoPg stOk 2 ∧
      (∀ k, k ∉ cmdKeys fcoPg → (k / 32 < fcoPg * 4096 + 0x80 ∨ fcoPg * 4096 + 0x280 ≤ k / 32) →
        mapGet? t.regs k = mapGet? s.regs k) ∧
      t = { s with moments := t.moments, regs := t.regs, srcs := t.srcs, parityBad := [] })

/-! ### Telemetry and check values -/

/-- SNAPSHOT_DUE, SNAPSHOT_WRITTEN and SNAP_NOW (R23, R31, R299, R394, R396-R398, R401): a snapshot that is due is sampled with its sequence
number and slot, or skipped and counted while another is on its way or the link is down; its data leaves in writes of at most Max Payload Size, and
TEL_SEQ names it then; SNAP_NOW asks for an extra one; while telemetry does not run, or nothing can be written, nothing happens. -/
def Obligations.SnapshotsAreTakenAndWritten : Prop :=
  (∀ (s : State) (volts : List (BitVec 16)), s.faults = [] → s.telRuns = true → s.snap = none →
    s.linkUp (s.rd telPg TEL_CFG_PP) = true →
    ∃ (t : State) (x : Snapshot), exec (.snapshotDue volts) s = .next t ∧ t.snap = some x ∧ x.seq = s.telNext ∧
      x.pp = s.rd telPg TEL_CFG_PP ∧
      x.addr = (s.rd telPg TEL_BASE_LO_ADDR * 4096 + s.rd telPg TEL_BASE_HI_ADDR * 2 ^ 32 +
        s.telNext % 2 ^ s.rd telPg TEL_CFG_LOG2 * 12288) % 2 ^ 64 ∧
      x.data.length = 9216 ∧ wordOf x.data 0 = s.telNext % 2 ^ 32 ∧ wordOf x.data 1 = s.rt.frame % 2 ^ 32 ∧
      (∀ i, 0x300 ≤ 4 * i → i < 0x8C0 → (4 * i - 0x300) % 64 ≠ 0x3C → wordOf x.data i = s.portWord ((4 * i - 0x300) / 64) ((4 * i - 0x300) % 64) % 2 ^ 32) ∧
      t.telNext = (s.telNext + 1) % 2 ^ 32 ∧ t.telExtra = s.telExtra - 1 ∧
      t.chip = { s.chip with tjMax := s.rd crpPg CRP_THERM_TJ } ∧ t.rt = { s.rt with sub := t.rt.sub, fine := t.rt.fine } ∧
      t = { s with
        moments := t.moments, snap := t.snap, telNext := t.telNext, telExtra := t.telExtra, chip := t.chip, rt := t.rt
        freeCtr := t.freeCtr }) ∧
  (∀ (s : State) (volts : List (BitVec 16)), s.faults = [] → s.telRuns = true →
    (s.snap ≠ none ∨ s.linkUp (s.rd telPg TEL_CFG_PP) = false) →
    ∃ u : State, exec (.snapshotDue volts) s = .next u.done ∧ u.faults = [⟨57, .dev⟩] ∧ u.telExtra = s.telExtra - 1 ∧
      u.rd telPg TEL_SKIPPED_COUNT = min (s.rd telPg TEL_SKIPPED_COUNT + 1) (2 ^ 32 - 1) ∧
      u.rd telPg PAGE_ERRSRC_SRC = (s.rd telPg PAGE_ERRSRC_SRC ||| 1) % 2 ^ 16 ∧
      s.regsBut u [fieldKey telPg TEL_SKIPPED_COUNT 0, fieldKey telPg PAGE_ERRSRC_SRC 0] ∧
      u = { s with regs := u.regs, telExtra := u.telExtra, faults := u.faults }) ∧
  (∀ (s : State) (x : Snapshot), s.faults = [] → s.down = false → s.snap = some x → s.serves x.pp = true →
    ∃ t : State, exec .snapshotWritten s = .next t ∧ t.snap = none ∧ t.rd telPg TEL_SEQ_SEQ = x.seq % 2 ^ 32 ∧
      t.out = ((chunks x.addr x.data.length (s.pp x.pp).mps).map fun q => Out.write x.pp q.1 (s.pp x.pp).ro false false
        ((x.data.drop ((q.1 + 2 ^ 64 - x.addr) % 2 ^ 64)).take q.2)).reverse ++ s.out ∧
      t.rd telPg PAGE_IRQ_PEND_PEND = (s.rd telPg PAGE_IRQ_PEND_PEND ||| 4) % 2 ^ 16 ∧
      s.regsBut t [fieldKey telPg TEL_SEQ_SEQ 0, fieldKey telPg PAGE_IRQ_PEND_PEND 0] ∧
      t = { s with moments := t.moments, regs := t.regs, srcs := t.srcs, snap := t.snap, out := t.out }) ∧
  (∀ (s : State) (pp : PPort), s.opens pp telPg →
    ∃ t : State, exec (.snapNow pp) s = .next t ∧ t.telExtra = (if s.telRuns = true then s.telExtra + 1 else s.telExtra) ∧ t.reports telPg stOk 1 ∧
      s.regsBut t (cmdKeys telPg) ∧ t = { s with moments := t.moments, regs := t.regs, srcs := t.srcs, telExtra := t.telExtra }) ∧
  (∀ (s : State) (volts : List (BitVec 16)) (r : Instr), s.faults = [] →
    ((r = .snapshotDue volts ∧ s.telRuns = false) ∨
      (r = .snapshotWritten ∧ (s.down = true ∨ ∀ x, s.snap = some x → s.serves x.pp = false))) → exec r s = .next s.noteMoment)

/-- CV_START, SCAN_DONE and CV_LIMIT_EXPIRY (R22, R31, R467-R474): a scan starts when its algorithm is defined and its range lies in the store,
or, of partner memory, with its reads, where the partner port takes them; at its end the register and the result are those of the algorithm over the
bytes, and the status says whether the result is the expected one; an uncorrectable word and a read that failed end it with their status and their
address, and the limit, where one is set, with TIMEOUT; without a scan, or while the cores are stalled, nothing ends. -/
def Obligations.ScansComputeCheckValues : Prop :=
  (∀ (s : State) (pp : PPort) (u : Unit16) (g : Alg), s.opens pp (cvPg u) → s.cvAlg u = some g → s.rd (cvPg u) CV_LEN_BYTES ≠ 0 →
    s.rd (cvPg u) CV_CFG_SRC = 0 →
    s.rd64 (cvPg u) CV_ADDR_LO_ADDR CV_ADDR_HI_ADDR + s.rd (cvPg u) CV_LEN_BYTES ≤ 0x4000000 →
    ∃ t : State, exec (.cvStart pp u) s = .next t ∧ t.rd (cvPg u) PAGE_STAT_BUSY = 1 ∧
      t.rd (cvPg u) PAGE_RESULT_STATUS = stRunning ∧ s.regsBut t (cmdKeys (cvPg u)) ∧ t = { s with moments := t.moments, regs := t.regs }) ∧
  (∀ (s : State) (pp : PPort) (u : Unit16) (g : Alg) (a n q : Nat), s.opens pp (cvPg u) → s.cvAlg u = some g →
    n = s.rd (cvPg u) CV_LEN_BYTES → n ≠ 0 → s.rd (cvPg u) CV_CFG_SRC = 1 → q = s.rd (cvPg u) CV_CFG_PP →
    a = s.rd64 (cvPg u) CV_ADDR_LO_ADDR CV_ADDR_HI_ADDR → s.serves q = true →
    ∃ t : State, exec (.cvStart pp u) s = .next t ∧ t.rd (cvPg u) PAGE_STAT_BUSY = 1 ∧
      t.out = ((requests (s.pp q).mrrs (n / 64 + 2) a n).map fun x => Out.read q x.1 x.2 false).reverse ++ s.out ∧
      s.regsBut t (cmdKeys (cvPg u)) ∧ t = { s with moments := t.moments, regs := t.regs, out := t.out }) ∧
  (∀ (s : State) (pp : PPort) (u : Unit16) (g : Alg), s.opens pp (cvPg u) → s.cvAlg u = some g →
    s.rd (cvPg u) CV_LEN_BYTES ≠ 0 → s.rd (cvPg u) CV_CFG_SRC = 1 → s.serves (s.rd (cvPg u) CV_CFG_PP) = false →
    ∃ t : State, exec (.cvStart pp u) s = .next t ∧ t.reports (cvPg u) stFault 1 ∧ t.rd (cvPg u) CV_DONE_BYTES = 0 ∧
      t = { s with moments := t.moments, regs := t.regs, srcs := t.srcs, scanFail := t.scanFail }) ∧
  (∀ (s : State) (pp : PPort) (u : Unit16), s.opens pp (cvPg u) → (s.cvAlg u = none ∨ s.rd (cvPg u) CV_LEN_BYTES = 0 ∨
      (s.rd (cvPg u) CV_CFG_SRC = 0 ∧
        0x4000000 < s.rd64 (cvPg u) CV_ADDR_LO_ADDR CV_ADDR_HI_ADDR + s.rd (cvPg u) CV_LEN_BYTES)) →
    ∃ t : State, exec (.cvStart pp u) s = .next t ∧ t.reports (cvPg u) stBadArg 1 ∧
      s.regsBut t (fieldKey (cvPg u) CV_SCANS_COUNT 0 :: cmdKeys (cvPg u)) ∧ t = { s with moments := t.moments, regs := t.regs, srcs := t.srcs }) ∧
  (∀ (s : State) (u : Unit16) (g : Alg) (data : List Byte) (us a w : Nat), s.faults = [] → s.down = false → s.stalled = false →
    s.scanning u = true → s.cvAlg u = some g → data.length ≤ s.rd (cvPg u) CV_LEN_BYTES → s.rd (cvPg u) CV_CFG_SRC = 0 →
    s.ueWords = [] → s.poison = [] → a = s.rd64 (cvPg u) CV_ADDR_LO_ADDR CV_ADDR_HI_ADDR → a / 32 * 32 ≤ w → w % 32 = 0 →
    w < a + s.rd (cvPg u) CV_LEN_BYTES → a + s.rd (cvPg u) CV_LEN_BYTES ≤ 0x4000000 →
    ∃ v : State, exec (.scanDone u data [(w, .uncorrectable)] us) s = .next v.done ∧
      v.rd64 (cvPg u) CV_ERR_ADDR_LO_ADDR CV_ERR_ADDR_HI_ADDR = w ∧ v.rd (cvPg u) CV_DONE_BYTES = min (w - a) data.length ∧
      v.reports (cvPg u) 0x81 (s.rd (cvPg u) PAGE_CMD_CODE % 2 ^ 8) ∧ v.rd (cvPg u) PAGE_RESULT_DETAIL = 0) ∧
  (∀ (s : State) (u : Unit16) (g : Alg) (data : List Byte) (us f : Nat) (late : Bool), s.faults = [] → s.down = false →
    s.stalled = false → s.scanning u = true → s.cvAlg u = some g → data.length ≤ s.rd (cvPg u) CV_LEN_BYTES →
    mapGet? s.scanFail u = some f → (s.rd (cvPg u) CV_CFG_SRC = 1 ∨ (s.ueWords = [] ∧ s.poison = [])) →
    (late = true → s.rd (cvPg u) CV_LIMIT_MS ≠ 0) →
    ∃ v : State, exec (if late = true then .cvLimitExpiry u data us else .scanDone u data [] us) s = .next v.done ∧
      v.faults = [⟨53, .dev⟩] ∧ v.rd64 (cvPg u) CV_ERR_ADDR_LO_ADDR CV_ERR_ADDR_HI_ADDR = f % 2 ^ 64 ∧
      v.rd (cvPg u) CV_DONE_BYTES = data.length % 2 ^ CV_DONE_BYTES.w ∧
      v.reports (cvPg u) stFault (s.rd (cvPg u) PAGE_CMD_CODE % 2 ^ 8) ∧
      v = { s with regs := v.regs, srcs := v.srcs, scanFail := v.scanFail, faults := v.faults }) ∧
  (∀ (s : State) (u : Unit16) (data : List Byte) (finds : List (Nat × Find)) (us : Nat) (r : Instr), s.faults = [] →
    (r = .scanDone u data finds us ∨ r = .cvLimitExpiry u data us) →
    (s.stalled = true ∨ s.scanning u = false ∨ (r = .cvLimitExpiry u data us ∧ s.rd (cvPg u) CV_LIMIT_MS = 0)) →
    exec r s = .next s.noteMoment) ∧
  (∀ (s : State) (u : Unit16) (g : Alg) (data : List Byte) (us reg res : Nat), s.faults = [] → s.down = false → s.stalled = false →
    s.scanning u = true → s.cvAlg u = some g → data.length = s.rd (cvPg u) CV_LEN_BYTES → mapGet? s.scanFail u = none →
    (s.rd (cvPg u) CV_CFG_SRC = 1 ∨ (s.ueWords = [] ∧ s.poison = [])) →
    reg = g.run (s.rd (cvPg u) CV_CFG_TAIL)
      (if s.rd (cvPg u) CV_CFG_CONT = 0 then g.init else s.rd64 (cvPg u) CV_RAW_LO_REG CV_RAW_HI_REG % 2 ^ g.w) data →
    res = g.result reg →
    ∃ t : State, exec (.scanDone u data [] us) s = .next t ∧ t.rd (cvPg u) CV_DONE_BYTES = data.length % 2 ^ CV_DONE_BYTES.w ∧
      t.rd64 (cvPg u) CV_RAW_LO_REG CV_RAW_HI_REG = reg % 2 ^ 64 ∧
      t.rd64 (cvPg u) CV_RESULT_LO_VALUE CV_RESULT_HI_VALUE = res % 2 ^ 64 ∧
      t.rd (cvPg u) CV_SCANS_COUNT = min (s.rd (cvPg u) CV_SCANS_COUNT + 1) (2 ^ 32 - 1) ∧
      t.reports (cvPg u) (if s.rd (cvPg u) CV_CFG_CMP = 0 ∨
        res = s.rd64 (cvPg u) CV_EXPECT_LO_VALUE CV_EXPECT_HI_VALUE % 2 ^ g.w then stOk else 0x80)
        (s.rd (cvPg u) PAGE_CMD_CODE % 2 ^ 8) ∧
      s.regsBut t ([fieldKey (cvPg u) CV_DONE_BYTES 0, fieldKey (cvPg u) CV_RAW_LO_REG 0, fieldKey (cvPg u) CV_RAW_HI_REG 0,
        fieldKey (cvPg u) CV_RESULT_LO_VALUE 0, fieldKey (cvPg u) CV_RESULT_HI_VALUE 0, fieldKey (cvPg u) CV_TIME_MICROS 0,
        fieldKey (cvPg u) CV_SCANS_COUNT 0] ++ cmdKeys (cvPg u)) ∧
      t = { s with moments := t.moments, regs := t.regs, srcs := t.srcs, scanFail := t.scanFail }) ∧
  (∀ (s : State) (u : Unit16) (g : Alg) (data : List Byte) (us : Nat), s.faults = [] → s.down = false → s.stalled = false →
    s.scanning u = true → s.cvAlg u = some g → s.rd (cvPg u) CV_LIMIT_MS ≠ 0 → data.length ≤ s.rd (cvPg u) CV_LEN_BYTES → mapGet? s.scanFail u = none →
    (s.rd (cvPg u) CV_CFG_SRC = 1 ∨ (s.ueWords = [] ∧ s.poison = [])) →
    ∃ v : State, exec (.cvLimitExpiry u data us) s = .next v.done ∧ v.faults = [⟨53, .dev⟩] ∧
      v.rd (cvPg u) PAGE_ERRSRC_SRC = (s.rd (cvPg u) PAGE_ERRSRC_SRC ||| 4) % 2 ^ 16 ∧
      v.rd (cvPg u) CV_DONE_BYTES = data.length % 2 ^ CV_DONE_BYTES.w ∧
      v.reports (cvPg u) stTimeout (s.rd (cvPg u) PAGE_CMD_CODE % 2 ^ 8) ∧
      v = { s with regs := v.regs, srcs := v.srcs, scanFail := v.scanFail, faults := v.faults })

/-! ### Security and the test access port -/

/-- IDCODE (R511): the identification register reads 0x1012_876F: version 1, part number 0x0128, manufacturer 0x3B7, and 1 in bit 0. -/
def Obligations.IdentificationRegisterReads : Prop :=
  ∀ s : State, s.faults = [] → s.chip.aonDown = false →
    ∃ t : State, exec .idcode s = .next t ∧ t.tap.dr = 0x1012876F ∧ bits t.tap.dr 28 4 = 1 ∧ bits t.tap.dr 12 16 = 0x0128 ∧
      bits t.tap.dr 1 11 = 0x3B7 ∧ bits t.tap.dr 0 1 = 1 ∧ t = { s with moments := t.moments, tap := { s.tap with ir := .idcode, dr := t.tap.dr } }

/-- The test access port (R458, R509-R514): each instruction becomes current with what its data register captures, IDCODE with
0x1012_876F and CHAL with the challenge; the debug instructions select BYPASS while DEBUG_OPEN is 0; with it, DBG_PAGE reads or writes a
register as its page's owner, and does nothing where there is none. DBG_CORE captures free values (log 3). -/
def Obligations.TapInstructionsSelectTheirRegister : Prop :=
  ∀ s : State, s.faults = [] → s.chip.aonDown = false →
    exec .tapReset s = .next ({ s with tap := { s.tap with ir := .idcode } }).noteMoment ∧
    exec .idcode s = .next ({ s with tap := { s.tap with ir := .idcode, dr := 0x1012876F } }).noteMoment ∧
    exec .bypass s = .next ({ s with tap := { s.tap with ir := .bypass, dr := 0 } }).noteMoment ∧
    exec .extest s = .next ({ s with tap := { s.tap with ir := .extest, dr := s.tap.boundary } }).noteMoment ∧
    exec .clamp s = .next ({ s with tap := { s.tap with ir := .clamp, dr := 0 } }).noteMoment ∧
    exec .highz s = .next ({ s with tap := { s.tap with ir := .highz, dr := 0 } }).noteMoment ∧
    (∀ pins : BitVec 35, exec (.samplePreload pins) s =
      .next ({ s with tap := { s.tap with ir := .samplePreload, dr := pins.toNat, boundary := pins.toNat } }).noteMoment) ∧
    exec .chal s = .next ({ s with tap := { s.tap with
      ir := .chal
      dr := s.rd secPg SEC_CHAL_BYTES 0 + s.rd secPg SEC_CHAL_BYTES 1 * 2 ^ 32 + s.rd secPg SEC_CHAL_BYTES 2 * 2 ^ 64 +
        s.rd secPg SEC_CHAL_BYTES 3 * 2 ^ 96 } }).noteMoment ∧
    (s.fuses.debugOpen = false → ∀ (write : Bool) (off : BitVec 22) (val : Word),
      exec (.dbgPage write off val) s = .next ({ s with tap := { s.tap with ir := .bypass, dr := 0 } }).noteMoment ∧
      exec .dbgCore s = .next ({ s with tap := { s.tap with ir := .bypass, dr := 0 } }).noteMoment) ∧
    (s.fuses.debugOpen = true → ∀ (off : BitVec 22) (val : Word) (x : Nat × State), s.down = false → barOk off.toNat false = true →
      x = (s.readTime off.toNat).readWord (s.owner (off.toNat / 4096)) off.toNat →
      ∃ u : State, exec (.dbgPage false off val) s = .next u.done ∧ u.tap = { s.tap with ir := .dbgPage, dr := x.1 * 2 ^ 32 } ∧
        u = { x.2 with tap := u.tap }) ∧
    (s.fuses.debugOpen = true → ∀ (off : BitVec 22) (val : Word) (y : State), s.down = false → barOk off.toNat false = true →
      y = s.regWrite (s.owner (off.toNat / 4096)) off.toNat false val.toNat →
      ∃ u : State, exec (.dbgPage true off val) s = .next u.done ∧ u.tap.ir = .dbgPage ∧ u.tap.dr = val.toNat * 2 ^ 32 ∧
        u = { y with tap := u.tap }) ∧
    (s.fuses.debugOpen = true → ∀ (write : Bool) (off : BitVec 22) (val : Word), (s.down = true ∨ barOk off.toNat false = false) →
      exec (.dbgPage write off val) s = .next ({ s with tap := { s.tap with ir := .dbgPage, dr := 0 } }).noteMoment) ∧
    (s.fuses.debugOpen = true →
      ∃ t : State, exec .dbgCore s = .next t ∧ t.tap.ir = .dbgCore ∧ t = { s with moments := t.moments, tap := t.tap, freeCtr := t.freeCtr })

/-- ATTEST (R22, R455, R456): the quote's magic, format, digest words and nonce stand in SEC_QUOTE, and either the count of quotes rises
and the command ends with OK, or the engine withheld a signature that failed its check (a free value, log 2; the end with 0x80 is
the model's reading, log 54); with the key destroyed the command ends with status 0x80 and SEC_SIG reads 0; while the cores are stalled it stays
BUSY.

UNLOCK, TOKEN and UNLOCK_DONE (R22, R458-R460, R512): a token that passes, from the page or from JTAG, blows UNLOCK_PEND and the command
runs; at its end the key is destroyed and JTAG is open; a token that does not match, or whose signature is wrong, ends the command with its
status, counts a failure and blows no fuse; where UNLOCK is not permitted it is refused, and a TOKEN starts nothing and shows 0; while one runs, a
TOKEN shows that it runs. -/
def Obligations.QuotesAndUnlocksFollowTheKey : Prop :=
  (∀ (s : State) (pp : PPort), s.opens pp secPg → s.stalled = true → exec (.attest pp) s = .next (s.cmdStart secPg 1).noteMoment) ∧
  (∀ (s : State) (pp : PPort), s.opens pp secPg → s.stalled = false → s.fuses.keyDead = false →
    ∃ t : State, exec (.attest pp) s = .next t ∧ t.rd secPg SEC_QUOTE_BYTES 0 = 0x54415847 ∧ t.rd secPg SEC_QUOTE_BYTES 1 = 1 ∧
      (∀ i < 12, t.rd secPg SEC_QUOTE_BYTES (8 + i) = s.runDigest.getD i 0 % 2 ^ 32) ∧
      (∀ i < 8, t.rd secPg SEC_QUOTE_BYTES (20 + i) = s.rd secPg SEC_NONCE_BYTES i % 2 ^ 32) ∧
      ((t.rd secPg SEC_CNT_ATTESTS = (s.rd secPg SEC_CNT_ATTESTS + 1) % 2 ^ 16 ∧ t.reports secPg stOk 1) ∨
        ((∀ i < 16, t.rd secPg SEC_SIG_BYTES i = 0) ∧ t.rd secPg SEC_CNT_ATTESTS = s.rd secPg SEC_CNT_ATTESTS ∧
          t.reports secPg 0x80 1)) ∧
      t = { s with moments := t.moments, regs := t.regs, srcs := t.srcs, freeCtr := t.freeCtr }) ∧
  (∀ (s : State) (pp : PPort), s.opens pp secPg → s.stalled = false → s.fuses.keyDead = true →
    ∃ t : State, exec (.attest pp) s = .next t ∧ (∀ i < 16, t.rd secPg SEC_SIG_BYTES i = 0) ∧
      t.rd secPg SEC_CNT_ATTESTS = s.rd secPg SEC_CNT_ATTESTS ∧ t.reports secPg 0x80 1 ∧
      t = { s with moments := t.moments, regs := t.regs, srcs := t.srcs, freeCtr := t.freeCtr }) ∧
  (∀ (s : State) (pp : PPort) (sig : Bool), s.opens pp secPg → s.unlockOk = false →
    exec (.unlock pp sig) s = .next (s.refuse secPg .badCmd).noteMoment) ∧
  (∀ (s : State) (ws : List Word) (sig : Bool), s.faults = [] → s.chip.aonDown = false → ws.length = 32 →
    (s.flag secPg PAGE_STAT_BUSY = true ∨ s.down = true ∨ s.unlockOk = false) →
    ∃ t : State, exec (.token ws sig) s = .next t ∧ t.tap.ir = .token ∧
      t.tap.status = (if s.flag secPg PAGE_STAT_BUSY = false then 0 else if s.runningCode secPg = some 2 then stRunning
        else s.tap.status) ∧ t = { s with moments := t.moments, tap := t.tap }) ∧
  (∀ (s : State) (ws : List Word) (sig : Bool), s.faults = [] → (s.chip.aonDown = true ∨ ws.length ≠ 32) →
    exec (.token ws sig) s = .next s.noteMoment) ∧
  (∀ (s : State), s.faults = [] → (s.stalled = true ∨ s.runningCode secPg ≠ some 2 ∨ s.fuses.unlockPend = false) →
    exec .unlockDone s = .next s.noteMoment) ∧
  (∀ (s : State) (pp : PPort), s.opens pp secPg → s.stalled = false → s.unlockOk = true → s.tokenMatches (s.rd secPg SEC_TOKEN_BYTES ·) = true →
    ∃ t : State, exec (.unlock pp true) s = .next t ∧ t.fuses = { s.fuses with unlockPend := true } ∧
      t.rd secPg PAGE_STAT_BUSY = 1 ∧ t.rd secPg PAGE_RESULT_STATUS = stRunning ∧ t.tap = { s.tap with status := stRunning } ∧
      s.regsBut t (cmdKeys secPg) ∧ t = { s with moments := t.moments, regs := t.regs, fuses := t.fuses, tap := t.tap }) ∧
  (∀ (s : State) (ws : List Word), s.faults = [] → s.chip.aonDown = false → s.stalled = false → ws.length = 32 → s.down = false →
    s.unlockOk = true →
    s.flag secPg PAGE_STAT_BUSY = false → s.tokenMatches ((ws.map BitVec.toNat).getD · 0) = true →
    ∃ t : State, exec (.token ws true) s = .next t ∧ t.fuses = { s.fuses with unlockPend := true } ∧
      t.rd secPg PAGE_STAT_BUSY = 1 ∧ t.rd secPg PAGE_RESULT_STATUS = stRunning ∧ t.tap.ir = .token ∧
      t.tap.status = stRunning ∧ s.regsBut t (cmdKeys secPg) ∧ t = { s with moments := t.moments, regs := t.regs, fuses := t.fuses, tap := t.tap }) ∧
  (∀ (s : State) (pp : PPort) (sig good : Bool) (st : Nat), s.opens pp secPg → s.stalled = false → s.unlockOk = true →
    good = s.tokenMatches (s.rd secPg SEC_TOKEN_BYTES ·) → (good && sig) = false → st = (if good = true then 0x82 else 0x81) →
    ∃ u : State, exec (.unlock pp sig) s = .next u.done ∧ u.fuses = s.fuses ∧ u.reports secPg st 2 ∧ u.tap.status = st ∧
      u.rd secPg SEC_STATE_FAILS = (s.rd secPg SEC_STATE_FAILS + 1) % 2 ^ SEC_STATE_FAILS.w ∧ u.faults = [⟨55, .dev⟩] ∧
      u.rd secPg PAGE_ERRSRC_SRC = (s.rd secPg PAGE_ERRSRC_SRC ||| 1) % 2 ^ 16 ∧
      u = { s with regs := u.regs, srcs := u.srcs, tap := u.tap, freeCtr := u.freeCtr, faults := u.faults }) ∧
  (∀ (s : State), s.faults = [] → s.down = false → s.stalled = false → s.runningCode secPg = some 2 → s.fuses.unlockPend = true →
    ∃ u : State, exec .unlockDone s = .next u.done ∧
      u.fuses = { s.fuses with keyDead := true, idkeyBlown := true, debugOpen := true } ∧ u.reports secPg stOk 2 ∧
      u.rd secPg PAGE_ERRSRC_SRC = (s.rd secPg PAGE_ERRSRC_SRC ||| 2) % 2 ^ 16 ∧ u.faults = [⟨55, .dev⟩] ∧
      u = { s with regs := u.regs, srcs := u.srcs, tap := u.tap, fuses := u.fuses, freeCtr := u.freeCtr, faults := u.faults })

/-! ### The Moon domain -/

/-- MOON_WAKE_CONDITION, WAKE_TIMER_EXPIRY, PERST_RISE_IN_DORMANT and WAKE_LIMIT (R67, R417-R424): the first wake in DORMANT, by an edge or by
a frame that matches, is recorded with its port and source, drives the WAKEn_N pins of its mask and will end DORMANT; one on the way to DORMANT ends
SET_MODE with BAD_STATE and disarms; an unarmed detector, a timer that is off or does not count, and a PERSTn_N that rises in another mode do
nothing; after 500 ms a pin is released and reported. -/
def Obligations.MoonWakesAreRecorded : Prop :=
  (∀ (s : State) (n : Port) (r : List Nat) (mask : Nat), s.faults = [] → s.chip.aonDown = false → s.mode = .dormant →
    s.moving = none → s.chip.wake = none → mapGet? s.chip.moon n = some r → r.getD 0 0 = 1 →
    mask = s.rd aonPg AON_WAKE_PP_PPS / 2 ^ (4 * (n.val / 16)) % 2 ^ 4 →
    ∃ t : State, exec (.moonWakeCondition n .edge) s = .next t ∧
      t.chip = { s.chip with wake := some .wake, driven := mask } ∧
      t.rd aonPg AON_WAKE_SEEN_PORT = n.val ∧ t.rd aonPg AON_WAKE_SEEN_SOURCE = 1 ∧ t.rd aonPg AON_WAKE_SEEN_NOPORT = 0 ∧
      t.rd aonPg AON_WAKE_SEEN_VALID = 1 ∧ t.rd aonPg AON_WAKE_SEEN_COUNT = (s.rd aonPg AON_WAKE_SEEN_COUNT + 1) % 2 ^ 8 ∧
      (∀ k < 4, t.pp k = if mask.testBit k = true then { s.pp k with moonWake := true } else s.pp k) ∧
      s.regsBut t [fieldKey aonPg AON_WAKE_SEEN_PORT 0, fieldKey aonPg AON_WAKE_SEEN_SOURCE 0,
        fieldKey aonPg AON_WAKE_SEEN_NOPORT 0, fieldKey aonPg AON_WAKE_SEEN_VALID 0, fieldKey aonPg AON_WAKE_SEEN_COUNT 0,
        fieldKey aonPg AON_WAKE_ID_VALUE 0] ∧
      t = { s with moments := t.moments, regs := t.regs, pps := t.pps, chip := t.chip }) ∧
  (∀ (s : State) (n : Port) (r : List Nat), s.faults = [] → s.chip.aonDown = false → s.moving = some .toDormant →
    mapGet? s.chip.moon n = some r → r.getD 0 0 = 1 →
    ∃ t : State, exec (.moonWakeCondition n .edge) s = .next t ∧ t.moving = none ∧ t.chip = { s.chip with moon := [] } ∧
      t.rd aonPg AON_STAT_SLEEP_ABORTED = 1 ∧ t.rd aonPg AON_STAT_ARMED = 0 ∧ t.rd devPg DEV_MODE_MOVING = 0 ∧
      t.reports devPg stBadState (s.rd devPg PAGE_CMD_CODE % 2 ^ 8) ∧ t.mode = s.mode ∧ t.jobs = s.jobs ∧ s.sameMem t) ∧
  (∀ (s : State) (n : Port) (h : Head) (d : List Byte) (r : List Nat) (mask : Nat), s.faults = [] → s.chip.aonDown = false →
    s.mode = .dormant → s.moving = none → s.chip.wake = none → mapGet? s.chip.moon n = some r → moonFrames r = true →
    wakeMatches r h d = true → r.getD 0 0 = 0 → mask = s.rd aonPg AON_WAKE_PP_PPS / 2 ^ (4 * (n.val / 16)) % 2 ^ 4 →
    ∃ t : State, exec (.moonWakeCondition n (.frame h d)) s = .next t ∧
      t.chip = { s.chip with wake := some .wake, driven := mask } ∧ t.rd aonPg AON_WAKE_SEEN_PORT = n.val ∧
      t.rd aonPg AON_WAKE_SEEN_SOURCE = 2 ∧ t.rd aonPg AON_WAKE_SEEN_NOPORT = 0 ∧ t.rd aonPg AON_WAKE_SEEN_VALID = 1 ∧
      t.rd aonPg AON_WAKE_ID_VALUE = (if h.long then h.id.toNat + 2 ^ 29 else h.id.toNat * 2 ^ 18) % 2 ^ AON_WAKE_ID_VALUE.w ∧
      t = { s with moments := t.moments, regs := t.regs, pps := t.pps, chip := t.chip }) ∧
  (∀ (s : State) (n : Port) (w : WakeSeen) (r : Instr), s.faults = [] →
    ((r = .moonWakeCondition n w ∧ (mapGet? s.chip.moon n = none ∨ s.chip.aonDown = true)) ∨
      (r = .wakeTimerExpiry ∧ (s.rd aonPg AON_TIMER_SECONDS = 0 ∨ (s.mode ≠ .dormant ∧ s.moving ≠ some .toDormant))) ∨
      (r = .perstRiseInDormant ∧ (s.mode ≠ .dormant ∨ s.chip.aonDown = true))) → exec r s = .next s.noteMoment) ∧
  (∀ (s : State) (n : PPort), s.faults = [] → (s.pp n).moonWake = false → exec (.wakeLimit n) s = .next s.noteMoment) ∧
  (∀ (s : State), s.faults = [] → s.chip.aonDown = false → s.mode = .dormant → s.moving = none → s.chip.wake = none →
    s.rd aonPg AON_TIMER_SECONDS ≠ 0 →
    ∃ t : State, exec .wakeTimerExpiry s = .next t ∧
      t.chip = { s.chip with wake := some .wake, driven := s.rd aonPg AON_TIMER_PP } ∧
      t.rd aonPg AON_WAKE_SEEN_SOURCE = 3 ∧ t.rd aonPg AON_WAKE_SEEN_NOPORT = 1 ∧ t.rd aonPg AON_WAKE_SEEN_VALID = 1 ∧
      t = { s with moments := t.moments, regs := t.regs, pps := t.pps, chip := t.chip }) ∧
  (∀ (s : State), s.faults = [] → s.chip.aonDown = false → s.mode = .dormant → s.chip.wake = none →
    ∃ t : State, exec .perstRiseInDormant s = .next t ∧ t.chip = { s.chip with wake := some .perst } ∧
      t.rd aonPg AON_WAKE_SEEN_SOURCE = 4 ∧ t.rd aonPg AON_WAKE_SEEN_NOPORT = 1 ∧ t.rd aonPg AON_WAKE_SEEN_VALID = 1 ∧
      t = { s with moments := t.moments, regs := t.regs, pps := t.pps, chip := t.chip }) ∧
  (∀ (s : State) (n : PPort), s.faults = [] → (s.pp n).moonWake = true →
    ∃ u : State, exec (.wakeLimit n) s = .next u.done ∧ u.pp n = { s.pp n with moonWake := false } ∧
      (∀ k, k ≠ n.val → u.pp k = s.pp k) ∧ u.faults = [⟨56, .dev⟩] ∧
      u.rd aonPg PAGE_ERRSRC_SRC = (s.rd aonPg PAGE_ERRSRC_SRC ||| 2) % 2 ^ 16 ∧
      s.regsBut u [fieldKey aonPg PAGE_ERRSRC_SRC 0] ∧ u = { s with regs := u.regs, pps := u.pps, faults := u.faults })

/-! ### The block as a whole -/

/-- A step with a command at the front of the queue is that command on the rest of the queue; on an empty queue the block idles, which
changes nothing unless an entry to DORMANT waits to be completed (log 5: model's own). -/
def Obligations.StepsRunTheCommandInFront : Prop :=
  (∀ (s : State) (c : Instr) (rest : List Instr), s.pending = c :: rest → step s = exec c { s with pending := rest }) ∧
  (∀ s : State, s.pending = [] → (s.stalled = true ∨ s.moving ≠ some .toDormant) → step s = .next s) ∧
  (∀ s : State, s.pending = [] → s.stalled = false → s.moving = some .toDormant →
    ∃ t : State, step s = .next t ∧ t.mode = .dormant ∧ t.prev = s.mode ∧ t.inReset = false ∧ t.moving = none ∧ t.jobs = [] ∧
      t.blocks = [] ∧ t.mem = [] ∧ t.lines = [] ∧ t.mram = s.mram ∧ t.fuses = s.fuses ∧ t.chip.moon = s.chip.moon ∧
      t.rd aonPg AON_STAT_ARMED = 1)

/-- Every command of the table, in every state and with every operand, has a next state, and it leaves the rest of the queue as it is. -/
def Obligations.EveryCommandHasANextState : Prop :=
  ∀ (c : Instr) (s : State), ∃ t : State, exec c s = .next t ∧ t.pending = s.pending

/-- The state right after reset is sound; it is held in reset, in LOADER, with no command waiting, no port, line or target active, no
fuse blown, and every register at its reset value, AON_RST_CAUSE at POWER_ON (R405-R407, R429, R524). -/
def Obligations.ResetIsSound : Prop :=
  State.reset.sound ∧ State.reset.pending = [] ∧ State.reset.inReset = true ∧ State.reset.mode = .loader ∧
  State.reset.lines = [] ∧ (∀ k, State.reset.tgt k = {}) ∧ State.reset.fuses = {} ∧ State.reset.faultN = true ∧ State.reset.rd aonPg AON_RST_CAUSE_CAUSE = RstCause.powerOn.code ∧
  (∀ p f i, State.reset.rd p f i = f.rstAt i) ∧ ∀ n, State.reset.port n = {}

/-- Every step keeps a sound state sound: the registers, BAR2 and MRAM stay in canonical form, and JTAG is never open while the
identity key can sign (R460). -/
def Obligations.StepsKeepTheStateSound : Prop :=
  ∀ s t : State, s.sound → step s = .next t → t.sound

/-- A fuse field goes from 0 to 1 only, whatever the block is commanded (R454). -/
def Obligations.FusesOnlyGrow : Prop :=
  ∀ s t : State, step s = .next t → s.fuses.grown t.fuses
end

