-- ==== Sys2Proof/Laws/Maps.lean ====
section
/-!
SUPPORT. Laws of the sparse maps: a read after a write, and the canonical form, which every write keeps.
-/
set_option Elab.async false

namespace Sys2Proof.Machine

variable {α : Type}

/-- Every key of the list is above `k`. -/
def keysAbove (k : Nat) (m : SMap α) : Prop := ∀ e ∈ m, k < e.1

/-- Rising keys, head and tail apart. -/
theorem mapRising_cons (e : Nat × α) (t : SMap α) :
    mapRising (e :: t) = true ↔ keysAbove e.1 t ∧ mapRising t = true := by
  induction t generalizing e with
  | nil => simp [mapRising, keysAbove]
  | cons f u ih =>
    obtain ⟨j, v⟩ := e
    obtain ⟨k, w⟩ := f
    simp only [mapRising, Bool.and_eq_true, decide_eq_true_eq, ih, keysAbove, List.mem_cons, forall_eq_or_imp]
    constructor
    · rintro ⟨h, h1, h2⟩
      exact ⟨⟨h, fun e he => Nat.lt_trans h (h1 e he)⟩, h1, h2⟩
    · rintro ⟨⟨h, -⟩, h1, h2⟩
      exact ⟨h, h1, h2⟩

/-- Reading the key that was listed. -/
@[simp] theorem mapGet?_mapPut_self (m : SMap α) (k : Nat) (v : α) : mapGet? (mapPut m k v) k = some v := by
  induction m with
  | nil => simp [mapPut, mapGet?]
  | cons e t ih =>
    obtain ⟨j, w⟩ := e
    simp only [mapPut]
    split
    · simp [mapGet?]
    · split
      · simp [mapGet?]
      · rename_i h; simp [mapGet?, h, ih]

/-- Reading another key than the one that was listed. -/
theorem mapGet?_mapPut_ne (m : SMap α) {k i : Nat} (v : α) (h : k ≠ i) : mapGet? (mapPut m k v) i = mapGet? m i := by
  induction m with
  | nil => simp [mapPut, mapGet?, h]
  | cons e t ih =>
    obtain ⟨j, w⟩ := e
    simp only [mapPut]
    split
    · simp [mapGet?, h]
    · split
      · subst j; simp [mapGet?, h]
      · simp [mapGet?, ih]

/-- Reading the key that was taken off. -/
@[simp] theorem mapGet?_mapDel_self (m : SMap α) (k : Nat) : mapGet? (mapDel m k) k = none := by
  induction m with
  | nil => rfl
  | cons e t ih =>
    obtain ⟨j, w⟩ := e
    by_cases h : j = k
    · simpa [mapDel, h] using ih
    · simpa [mapDel, mapGet?, h] using ih

/-- Reading another key than the one that was taken off. -/
theorem mapGet?_mapDel_ne (m : SMap α) {k i : Nat} (h : k ≠ i) : mapGet? (mapDel m k) i = mapGet? m i := by
  induction m with
  | nil => rfl
  | cons e t ih =>
    obtain ⟨j, w⟩ := e
    by_cases hj : j = k
    · subst j; simpa [mapDel, mapGet?, h] using ih
    · by_cases hi : j = i
      · subst j; simp [mapDel, mapGet?, hj]
      · simpa [mapDel, mapGet?, hj, hi] using ih

section Default
variable [DecidableEq α]

/-- Reading the key that was written. -/
@[simp] theorem mapGet_mapSet_self (d : α) (m : SMap α) (k : Nat) (v : α) : mapGet d (mapSet d m k v) k = v := by
  by_cases h : v = d
  · simp [mapSet, mapGet, h]
  · simp [mapSet, mapGet, h]

/-- As `mapGet?_mapPut_ne`, for `mapSet`. -/
theorem mapGet?_mapSet_ne (d : α) (m : SMap α) {k i : Nat} (v : α) (h : k ≠ i) :
    mapGet? (mapSet d m k v) i = mapGet? m i := by
  by_cases hv : v = d
  · simp [mapSet, hv, mapGet?_mapDel_ne m h]
  · simp [mapSet, hv, mapGet?_mapPut_ne m v h]

/-- Reading another key than the one that was written. -/
theorem mapGet_mapSet_ne (d d' : α) (m : SMap α) {k i : Nat} (v : α) (h : k ≠ i) :
    mapGet d (mapSet d' m k v) i = mapGet d m i := by
  by_cases hv : v = d'
  · simp [mapSet, mapGet, hv, mapGet?_mapDel_ne m h]
  · simp [mapSet, mapGet, hv, mapGet?_mapPut_ne m v h]

/-- Reading a key of a map of which one value was changed. -/
theorem mapGet_mapMod (d : α) (m : SMap α) (k i : Nat) (f : α → α) :
    mapGet d (mapMod d m k f) i = if k = i then f (mapGet d m k) else mapGet d m i := by
  by_cases h : k = i
  · subst h; simp [mapMod]
  · simp [mapMod, h, mapGet_mapSet_ne d d m _ h]

end Default

/-! ### The canonical form -/

theorem keysAbove_mapPut {m : SMap α} {j k : Nat} {v : α} (h : keysAbove j m) (hk : j < k) : keysAbove j (mapPut m k v) := by
  induction m with
  | nil => simpa [mapPut, keysAbove] using hk
  | cons e t ih =>
    obtain ⟨i, w⟩ := e
    have hi : j < i := h (i, w) (by simp)
    have ht : keysAbove j t := fun x hx => h x (by simp [hx])
    simp only [mapPut]
    split
    · intro x hx
      simp only [List.mem_cons] at hx
      rcases hx with rfl | rfl | hx
      · exact hk
      · exact hi
      · exact ht x hx
    · split
      · intro x hx
        simp only [List.mem_cons] at hx
        rcases hx with rfl | hx
        · exact hk
        · exact ht x hx
      · intro x hx
        simp only [List.mem_cons] at hx
        rcases hx with rfl | hx
        · exact hi
        · exact ih ht x hx

/-- Listing a key keeps the keys rising. -/
theorem mapRising_mapPut {m : SMap α} (h : mapRising m = true) (k : Nat) (v : α) : mapRising (mapPut m k v) = true := by
  induction m with
  | nil => rfl
  | cons e t ih =>
    obtain ⟨j, w⟩ := e
    rw [mapRising_cons] at h
    simp only [mapPut]
    split
    · rename_i hk
      rw [mapRising_cons]
      refine ⟨?_, (mapRising_cons (j, w) t).2 h⟩
      intro x hx
      simp only [List.mem_cons] at hx
      rcases hx with rfl | hx
      · exact hk
      · exact Nat.lt_trans hk (h.1 x hx)
    · split
      · rename_i hk hj
        subst hj
        exact (mapRising_cons (j, v) t).2 h
      · rename_i hk hj
        rw [mapRising_cons]
        exact ⟨keysAbove_mapPut h.1 (by show j < k; omega), ih h.2⟩

/-- Taking entries off keeps the keys rising. -/
theorem mapRising_filter {m : SMap α} (h : mapRising m = true) (f : Nat × α → Bool) : mapRising (m.filter f) = true := by
  induction m with
  | nil => rfl
  | cons e t ih =>
    rw [mapRising_cons] at h
    simp only [List.filter_cons]
    split
    · rw [mapRising_cons]
      exact ⟨fun x hx => h.1 x (List.mem_of_mem_filter hx), ih h.2⟩
    · exact ih h.2

/-- Writing a key keeps the keys rising. -/
theorem mapRising_mapSet [DecidableEq α] {m : SMap α} (h : mapRising m = true) (d : α) (k : Nat) (v : α) :
    mapRising (mapSet d m k v) = true := by
  by_cases hv : v = d
  · simpa [mapSet, hv, mapDel] using mapRising_filter h _
  · simpa [mapSet, hv] using mapRising_mapPut h k v

theorem mem_mapPut {m : SMap α} {k : Nat} {v : α} {e : Nat × α} (h : e ∈ mapPut m k v) : e = (k, v) ∨ e ∈ m := by
  induction m with
  | nil => simpa [mapPut] using h
  | cons f t ih =>
    obtain ⟨j, w⟩ := f
    simp only [mapPut] at h
    split at h
    · simpa using h
    · split at h
      · simp only [List.mem_cons] at h ⊢; tauto
      · simp only [List.mem_cons] at h ⊢
        rcases h with h | h
        · tauto
        · rcases ih h with h | h <;> tauto

/-- Taking entries off lists no default. -/
theorem mapClean_filter [DecidableEq α] {d : Nat → α} {m : SMap α} (h : mapClean d m = true) (f : Nat × α → Bool) :
    mapClean d (m.filter f) = true := by
  simp only [mapClean, List.all_eq_true] at h ⊢
  exact fun e he => h e (List.mem_of_mem_filter he)

/-- Writing a key lists no default. -/
theorem mapClean_mapSet [DecidableEq α] {d : Nat → α} {m : SMap α} (h : mapClean d m = true) (k : Nat) (v : α) :
    mapClean d (mapSet (d k) m k v) = true := by
  by_cases hv : v = d k
  · simpa [mapSet, hv, mapDel] using mapClean_filter h _
  · simp only [mapSet, hv, if_false, mapClean, List.all_eq_true] at h ⊢
    intro e he
    rcases mem_mapPut he with rfl | he
    · simpa using hv
    · exact h e he

end Sys2Proof.Machine
end

