-- ==== Sys2Proof/Laws/State.lean ====
section
/-!
SUPPORT. Laws of the state's own operations: what the field accessors and the named updates change, and the relation that every
operation keeps (`State.keeps`).
-/
set_option Elab.async false

namespace Sys2Proof.Machine

/-! ### `keeps` -/

theorem Fuses.grown_refl (f : Fuses) : f.grown f := ⟨id, id, id, id, Nat.le_refl _, rfl⟩

theorem State.keeps_refl (s : State) : s.keeps s := ⟨rfl, s.fuses.grown_refl, id⟩

theorem State.keeps_trans {a b c : State} (h : a.keeps b) (g : b.keeps c) : a.keeps c := by
  obtain ⟨h1, ⟨f1, f2, f3, f4, f5, f6⟩, h3⟩ := h
  obtain ⟨g1, ⟨e1, e2, e3, e4, e5, e6⟩, g3⟩ := g
  exact ⟨g1.trans h1, ⟨e1 ∘ f1, e2 ∘ f2, e3 ∘ f3, e4 ∘ f4, Nat.le_trans f5 e5, f6.trans e6⟩, g3 ∘ h3⟩

/-- What `keeps` reads of a state. -/
theorem State.keeps_like {a s t : State} (h : a.keeps s) (hp : t.pending = s.pending) (hf : t.fuses = s.fuses)
    (hm : t.mem = s.mem) (hr : t.regs = s.regs) (hn : t.mram = s.mram) : a.keeps t := by
  obtain ⟨h1, h2, h3⟩ := h
  refine ⟨hp.trans h1, by rw [hf]; exact h2, fun x => ?_⟩
  obtain ⟨x1, x2, x3, x4⟩ := h3 x
  exact ⟨by rw [hm]; exact x1, by rw [hr]; exact x2, by rw [hn]; exact x3, by rw [hf]; exact x4⟩

/-- As `keeps_like`, where the registers change and keep their form. -/
theorem State.keeps_regs {a s t : State} (h : a.keeps s) (hr : mapRising s.regs = true → mapRising t.regs = true)
    (hp : t.pending = s.pending) (hf : t.fuses = s.fuses) (hm : t.mem = s.mem) (hn : t.mram = s.mram) : a.keeps t := by
  obtain ⟨h1, h2, h3⟩ := h
  refine ⟨hp.trans h1, by rw [hf]; exact h2, fun x => ?_⟩
  obtain ⟨x1, x2, x3, x4⟩ := h3 x
  exact ⟨by rw [hm]; exact x1, hr x2, by rw [hn]; exact x3, by rw [hf]; exact x4⟩

/-- As `keeps_like`, where the memory changes and keeps its form. -/
theorem State.keeps_mem {a s t : State} (h : a.keeps s) (hm : Memory.wf s.mem → Memory.wf t.mem)
    (hp : t.pending = s.pending) (hf : t.fuses = s.fuses) (hr : t.regs = s.regs) (hn : t.mram = s.mram) : a.keeps t := by
  obtain ⟨h1, h2, h3⟩ := h
  refine ⟨hp.trans h1, by rw [hf]; exact h2, fun x => ?_⟩
  obtain ⟨x1, x2, x3, x4⟩ := h3 x
  exact ⟨hm x1, by rw [hr]; exact x2, by rw [hn]; exact x3, by rw [hf]; exact x4⟩

/-- As `keeps_like`, where MRAM changes and keeps its form. -/
theorem State.keeps_mram {a s t : State} (h : a.keeps s) (hn : mapRising s.mram = true → mapRising t.mram = true)
    (hp : t.pending = s.pending) (hf : t.fuses = s.fuses) (hm : t.mem = s.mem) (hr : t.regs = s.regs) : a.keeps t := by
  obtain ⟨h1, h2, h3⟩ := h
  refine ⟨hp.trans h1, by rw [hf]; exact h2, fun x => ?_⟩
  obtain ⟨x1, x2, x3, x4⟩ := h3 x
  exact ⟨by rw [hm]; exact x1, by rw [hr]; exact x2, hn x3, by rw [hf]; exact x4⟩

/-- As `keeps_like`, where fuses are blown in the order of R460. -/
theorem State.keeps_fuses {a s t : State} (h : a.keeps s) (hf : s.fuses.grown t.fuses) (hl : s.fuses.locked → t.fuses.locked)
    (hp : t.pending = s.pending) (hm : t.mem = s.mem) (hr : t.regs = s.regs) (hn : t.mram = s.mram) : a.keeps t := by
  refine State.keeps_trans h ⟨hp, hf, fun x => ?_⟩
  obtain ⟨x1, x2, x3, x4⟩ := x
  exact ⟨by rw [hm]; exact x1, by rw [hr]; exact x2, by rw [hn]; exact x3, hl x4⟩

/-! ### Record updates: one lemma for the fields that `keeps` does not read, one for each of those it reads -/

theorem State.keeps_mk {a s : State}
    {x_owners : SMap Nat} {x_undef : List (Nat × Nat × Nat)} {x_freeCtr : Nat} {x_mode : Mode} {x_prev : Mode}
    {x_moving : Option Moving} {x_inReset : Bool} {x_pps : SMap PpState} {x_srcs : SMap IntSrc}
    {x_tgts : SMap TgtState} {x_holdOff : List Nat} {x_lines : SMap LineState} {x_faults : List FaultEvent}
    {x_carried : SMap Nat} {x_parityBad : List Nat} {x_resets : List ResetJob} {x_stalled : Bool}
    {x_ports : SMap PortState} {x_blocks : List Block} {x_jobs : SMap Job} {x_pushes : SMap PushJob}
    {x_nextUid : Nat} {x_chans : SMap ChanState} {x_granted : SMap Nat} {x_unfencing : Option Nat}
    {x_bufCount : SMap Nat} {x_rt : Raster} {x_moments : List Moment} {x_armed : SMap (Nat × Nat × Nat)}
    {x_ueWords : List Nat} {x_poison : List Nat} {x_wbq : List Nat} {x_sinceRead : SMap Nat} {x_frameTicks : Nat}
    {x_loaderFault : Bool} {x_telExtra : Nat} {x_restored : Bool} {x_tel : SMap Nat} {x_coreUs : Nat}
    {x_scanFail : SMap Nat} {x_snap : Option Snapshot} {x_telNext : Nat} {x_chip : Chip} {x_tap : Tap}
    {x_mramBad : List Nat} {x_load : Option SetLoad} {x_saving : List Byte} {x_runDigest : List Nat}
    {x_bootGen : Nat} {x_out : List Out}
    (h : a.keeps s) :
    a.keeps
      {
        pending := s.pending, regs := s.regs, owners := x_owners, mem := s.mem, undef := x_undef,
        freeCtr := x_freeCtr, mode := x_mode, prev := x_prev, moving := x_moving, inReset := x_inReset, pps := x_pps,
        srcs := x_srcs, tgts := x_tgts, holdOff := x_holdOff, lines := x_lines, faults := x_faults,
        carried := x_carried, parityBad := x_parityBad, resets := x_resets, stalled := x_stalled, ports := x_ports,
        blocks := x_blocks, jobs := x_jobs, pushes := x_pushes, nextUid := x_nextUid, chans := x_chans,
        granted := x_granted, unfencing := x_unfencing, bufCount := x_bufCount, rt := x_rt, moments := x_moments,
        armed := x_armed, ueWords := x_ueWords, poison := x_poison, wbq := x_wbq, sinceRead := x_sinceRead,
        frameTicks := x_frameTicks, loaderFault := x_loaderFault, telExtra := x_telExtra, restored := x_restored,
        tel := x_tel, coreUs := x_coreUs, scanFail := x_scanFail, snap := x_snap, telNext := x_telNext,
        chip := x_chip, fuses := s.fuses, tap := x_tap, mram := s.mram, mramBad := x_mramBad, load := x_load,
        saving := x_saving, runDigest := x_runDigest, bootGen := x_bootGen, out := x_out } :=
  h

theorem State.keeps_mk_regs {a s : State}
    {x_regs : SMap Nat} {x_owners : SMap Nat} {x_undef : List (Nat × Nat × Nat)} {x_freeCtr : Nat} {x_mode : Mode}
    {x_prev : Mode} {x_moving : Option Moving} {x_inReset : Bool} {x_pps : SMap PpState} {x_srcs : SMap IntSrc}
    {x_tgts : SMap TgtState} {x_holdOff : List Nat} {x_lines : SMap LineState} {x_faults : List FaultEvent}
    {x_carried : SMap Nat} {x_parityBad : List Nat} {x_resets : List ResetJob} {x_stalled : Bool}
    {x_ports : SMap PortState} {x_blocks : List Block} {x_jobs : SMap Job} {x_pushes : SMap PushJob}
    {x_nextUid : Nat} {x_chans : SMap ChanState} {x_granted : SMap Nat} {x_unfencing : Option Nat}
    {x_bufCount : SMap Nat} {x_rt : Raster} {x_moments : List Moment} {x_armed : SMap (Nat × Nat × Nat)}
    {x_ueWords : List Nat} {x_poison : List Nat} {x_wbq : List Nat} {x_sinceRead : SMap Nat} {x_frameTicks : Nat}
    {x_loaderFault : Bool} {x_telExtra : Nat} {x_restored : Bool} {x_tel : SMap Nat} {x_coreUs : Nat}
    {x_scanFail : SMap Nat} {x_snap : Option Snapshot} {x_telNext : Nat} {x_chip : Chip} {x_tap : Tap}
    {x_mramBad : List Nat} {x_load : Option SetLoad} {x_saving : List Byte} {x_runDigest : List Nat}
    {x_bootGen : Nat} {x_out : List Out}
    (h : a.keeps s) (hr : mapRising s.regs = true → mapRising x_regs = true) :
    a.keeps
      {
        pending := s.pending, regs := x_regs, owners := x_owners, mem := s.mem, undef := x_undef,
        freeCtr := x_freeCtr, mode := x_mode, prev := x_prev, moving := x_moving, inReset := x_inReset, pps := x_pps,
        srcs := x_srcs, tgts := x_tgts, holdOff := x_holdOff, lines := x_lines, faults := x_faults,
        carried := x_carried, parityBad := x_parityBad, resets := x_resets, stalled := x_stalled, ports := x_ports,
        blocks := x_blocks, jobs := x_jobs, pushes := x_pushes, nextUid := x_nextUid, chans := x_chans,
        granted := x_granted, unfencing := x_unfencing, bufCount := x_bufCount, rt := x_rt, moments := x_moments,
        armed := x_armed, ueWords := x_ueWords, poison := x_poison, wbq := x_wbq, sinceRead := x_sinceRead,
        frameTicks := x_frameTicks, loaderFault := x_loaderFault, telExtra := x_telExtra, restored := x_restored,
        tel := x_tel, coreUs := x_coreUs, scanFail := x_scanFail, snap := x_snap, telNext := x_telNext,
        chip := x_chip, fuses := s.fuses, tap := x_tap, mram := s.mram, mramBad := x_mramBad, load := x_load,
        saving := x_saving, runDigest := x_runDigest, bootGen := x_bootGen, out := x_out } :=
  State.keeps_regs h hr rfl rfl rfl rfl

theorem State.keeps_mk_mem {a s : State}
    {x_owners : SMap Nat} {x_mem : List Host.Cell} {x_undef : List (Nat × Nat × Nat)} {x_freeCtr : Nat}
    {x_mode : Mode} {x_prev : Mode} {x_moving : Option Moving} {x_inReset : Bool} {x_pps : SMap PpState}
    {x_srcs : SMap IntSrc} {x_tgts : SMap TgtState} {x_holdOff : List Nat} {x_lines : SMap LineState}
    {x_faults : List FaultEvent} {x_carried : SMap Nat} {x_parityBad : List Nat} {x_resets : List ResetJob}
    {x_stalled : Bool} {x_ports : SMap PortState} {x_blocks : List Block} {x_jobs : SMap Job}
    {x_pushes : SMap PushJob} {x_nextUid : Nat} {x_chans : SMap ChanState} {x_granted : SMap Nat}
    {x_unfencing : Option Nat} {x_bufCount : SMap Nat} {x_rt : Raster} {x_moments : List Moment}
    {x_armed : SMap (Nat × Nat × Nat)} {x_ueWords : List Nat} {x_poison : List Nat} {x_wbq : List Nat}
    {x_sinceRead : SMap Nat} {x_frameTicks : Nat} {x_loaderFault : Bool} {x_telExtra : Nat} {x_restored : Bool}
    {x_tel : SMap Nat} {x_coreUs : Nat} {x_scanFail : SMap Nat} {x_snap : Option Snapshot} {x_telNext : Nat}
    {x_chip : Chip} {x_tap : Tap} {x_mramBad : List Nat} {x_load : Option SetLoad} {x_saving : List Byte}
    {x_runDigest : List Nat} {x_bootGen : Nat} {x_out : List Out}
    (h : a.keeps s) (hm : Memory.wf s.mem → Memory.wf x_mem) :
    a.keeps
      {
        pending := s.pending, regs := s.regs, owners := x_owners, mem := x_mem, undef := x_undef,
        freeCtr := x_freeCtr, mode := x_mode, prev := x_prev, moving := x_moving, inReset := x_inReset, pps := x_pps,
        srcs := x_srcs, tgts := x_tgts, holdOff := x_holdOff, lines := x_lines, faults := x_faults,
        carried := x_carried, parityBad := x_parityBad, resets := x_resets, stalled := x_stalled, ports := x_ports,
        blocks := x_blocks, jobs := x_jobs, pushes := x_pushes, nextUid := x_nextUid, chans := x_chans,
        granted := x_granted, unfencing := x_unfencing, bufCount := x_bufCount, rt := x_rt, moments := x_moments,
        armed := x_armed, ueWords := x_ueWords, poison := x_poison, wbq := x_wbq, sinceRead := x_sinceRead,
        frameTicks := x_frameTicks, loaderFault := x_loaderFault, telExtra := x_telExtra, restored := x_restored,
        tel := x_tel, coreUs := x_coreUs, scanFail := x_scanFail, snap := x_snap, telNext := x_telNext,
        chip := x_chip, fuses := s.fuses, tap := x_tap, mram := s.mram, mramBad := x_mramBad, load := x_load,
        saving := x_saving, runDigest := x_runDigest, bootGen := x_bootGen, out := x_out } :=
  State.keeps_mem h hm rfl rfl rfl rfl

theorem State.keeps_mk_mram {a s : State}
    {x_owners : SMap Nat} {x_undef : List (Nat × Nat × Nat)} {x_freeCtr : Nat} {x_mode : Mode} {x_prev : Mode}
    {x_moving : Option Moving} {x_inReset : Bool} {x_pps : SMap PpState} {x_srcs : SMap IntSrc}
    {x_tgts : SMap TgtState} {x_holdOff : List Nat} {x_lines : SMap LineState} {x_faults : List FaultEvent}
    {x_carried : SMap Nat} {x_parityBad : List Nat} {x_resets : List ResetJob} {x_stalled : Bool}
    {x_ports : SMap PortState} {x_blocks : List Block} {x_jobs : SMap Job} {x_pushes : SMap PushJob}
    {x_nextUid : Nat} {x_chans : SMap ChanState} {x_granted : SMap Nat} {x_unfencing : Option Nat}
    {x_bufCount : SMap Nat} {x_rt : Raster} {x_moments : List Moment} {x_armed : SMap (Nat × Nat × Nat)}
    {x_ueWords : List Nat} {x_poison : List Nat} {x_wbq : List Nat} {x_sinceRead : SMap Nat} {x_frameTicks : Nat}
    {x_loaderFault : Bool} {x_telExtra : Nat} {x_restored : Bool} {x_tel : SMap Nat} {x_coreUs : Nat}
    {x_scanFail : SMap Nat} {x_snap : Option Snapshot} {x_telNext : Nat} {x_chip : Chip} {x_tap : Tap}
    {x_mram : SMap Nat} {x_mramBad : List Nat} {x_load : Option SetLoad} {x_saving : List Byte}
    {x_runDigest : List Nat} {x_bootGen : Nat} {x_out : List Out}
    (h : a.keeps s) (hn : mapRising s.mram = true → mapRising x_mram = true) :
    a.keeps
      {
        pending := s.pending, regs := s.regs, owners := x_owners, mem := s.mem, undef := x_undef,
        freeCtr := x_freeCtr, mode := x_mode, prev := x_prev, moving := x_moving, inReset := x_inReset, pps := x_pps,
        srcs := x_srcs, tgts := x_tgts, holdOff := x_holdOff, lines := x_lines, faults := x_faults,
        carried := x_carried, parityBad := x_parityBad, resets := x_resets, stalled := x_stalled, ports := x_ports,
        blocks := x_blocks, jobs := x_jobs, pushes := x_pushes, nextUid := x_nextUid, chans := x_chans,
        granted := x_granted, unfencing := x_unfencing, bufCount := x_bufCount, rt := x_rt, moments := x_moments,
        armed := x_armed, ueWords := x_ueWords, poison := x_poison, wbq := x_wbq, sinceRead := x_sinceRead,
        frameTicks := x_frameTicks, loaderFault := x_loaderFault, telExtra := x_telExtra, restored := x_restored,
        tel := x_tel, coreUs := x_coreUs, scanFail := x_scanFail, snap := x_snap, telNext := x_telNext,
        chip := x_chip, fuses := s.fuses, tap := x_tap, mram := x_mram, mramBad := x_mramBad, load := x_load,
        saving := x_saving, runDigest := x_runDigest, bootGen := x_bootGen, out := x_out } :=
  State.keeps_mram h hn rfl rfl rfl rfl

theorem State.keeps_mk_fuses {a s : State}
    {x_owners : SMap Nat} {x_undef : List (Nat × Nat × Nat)} {x_freeCtr : Nat} {x_mode : Mode} {x_prev : Mode}
    {x_moving : Option Moving} {x_inReset : Bool} {x_pps : SMap PpState} {x_srcs : SMap IntSrc}
    {x_tgts : SMap TgtState} {x_holdOff : List Nat} {x_lines : SMap LineState} {x_faults : List FaultEvent}
    {x_carried : SMap Nat} {x_parityBad : List Nat} {x_resets : List ResetJob} {x_stalled : Bool}
    {x_ports : SMap PortState} {x_blocks : List Block} {x_jobs : SMap Job} {x_pushes : SMap PushJob}
    {x_nextUid : Nat} {x_chans : SMap ChanState} {x_granted : SMap Nat} {x_unfencing : Option Nat}
    {x_bufCount : SMap Nat} {x_rt : Raster} {x_moments : List Moment} {x_armed : SMap (Nat × Nat × Nat)}
    {x_ueWords : List Nat} {x_poison : List Nat} {x_wbq : List Nat} {x_sinceRead : SMap Nat} {x_frameTicks : Nat}
    {x_loaderFault : Bool} {x_telExtra : Nat} {x_restored : Bool} {x_tel : SMap Nat} {x_coreUs : Nat}
    {x_scanFail : SMap Nat} {x_snap : Option Snapshot} {x_telNext : Nat} {x_chip : Chip} {x_fuses : Fuses}
    {x_tap : Tap} {x_mramBad : List Nat} {x_load : Option SetLoad} {x_saving : List Byte} {x_runDigest : List Nat}
    {x_bootGen : Nat} {x_out : List Out}
    (h : a.keeps s) (hf : s.fuses.grown x_fuses) (hl : s.fuses.locked → x_fuses.locked) :
    a.keeps
      {
        pending := s.pending, regs := s.regs, owners := x_owners, mem := s.mem, undef := x_undef,
        freeCtr := x_freeCtr, mode := x_mode, prev := x_prev, moving := x_moving, inReset := x_inReset, pps := x_pps,
        srcs := x_srcs, tgts := x_tgts, holdOff := x_holdOff, lines := x_lines, faults := x_faults,
        carried := x_carried, parityBad := x_parityBad, resets := x_resets, stalled := x_stalled, ports := x_ports,
        blocks := x_blocks, jobs := x_jobs, pushes := x_pushes, nextUid := x_nextUid, chans := x_chans,
        granted := x_granted, unfencing := x_unfencing, bufCount := x_bufCount, rt := x_rt, moments := x_moments,
        armed := x_armed, ueWords := x_ueWords, poison := x_poison, wbq := x_wbq, sinceRead := x_sinceRead,
        frameTicks := x_frameTicks, loaderFault := x_loaderFault, telExtra := x_telExtra, restored := x_restored,
        tel := x_tel, coreUs := x_coreUs, scanFail := x_scanFail, snap := x_snap, telNext := x_telNext,
        chip := x_chip, fuses := x_fuses, tap := x_tap, mram := s.mram, mramBad := x_mramBad, load := x_load,
        saving := x_saving, runDigest := x_runDigest, bootGen := x_bootGen, out := x_out } :=
  State.keeps_fuses h hf hl rfl rfl rfl rfl

theorem State.each_keeps {α : Type} {a s : State} (l : List α) (f : State → α → State)
    (hf : ∀ s x, a.keeps s → a.keeps (f s x)) (h : a.keeps s) : a.keeps (s.each l f) := by
  unfold State.each
  induction l generalizing s with
  | nil => exact h
  | cons x t ih => exact ih (hf s x h)

end Sys2Proof.Machine
end

