-- ==== Sys2Proof/Laws/Fields.lean ====
section
/-!
SUPPORT. One lemma per field of the state and named update that leaves it alone, each true by unfolding the update, and the
register laws: a field read after a write.
-/
set_option Elab.async false

namespace Sys2Proof.Machine

/-! #### wr -/

@[simp] theorem State.wr_pending (s : State) (p : Nat) (f : Field) (v : Nat) (i : Nat) : (s.wr p f v i).pending = s.pending := rfl
@[simp] theorem State.wr_owners (s : State) (p : Nat) (f : Field) (v : Nat) (i : Nat) : (s.wr p f v i).owners = s.owners := rfl
@[simp] theorem State.wr_mem (s : State) (p : Nat) (f : Field) (v : Nat) (i : Nat) : (s.wr p f v i).mem = s.mem := rfl
@[simp] theorem State.wr_undef (s : State) (p : Nat) (f : Field) (v : Nat) (i : Nat) : (s.wr p f v i).undef = s.undef := rfl
@[simp] theorem State.wr_freeCtr (s : State) (p : Nat) (f : Field) (v : Nat) (i : Nat) : (s.wr p f v i).freeCtr = s.freeCtr := rfl
@[simp] theorem State.wr_mode (s : State) (p : Nat) (f : Field) (v : Nat) (i : Nat) : (s.wr p f v i).mode = s.mode := rfl
@[simp] theorem State.wr_prev (s : State) (p : Nat) (f : Field) (v : Nat) (i : Nat) : (s.wr p f v i).prev = s.prev := rfl
@[simp] theorem State.wr_moving (s : State) (p : Nat) (f : Field) (v : Nat) (i : Nat) : (s.wr p f v i).moving = s.moving := rfl
@[simp] theorem State.wr_inReset (s : State) (p : Nat) (f : Field) (v : Nat) (i : Nat) : (s.wr p f v i).inReset = s.inReset := rfl
@[simp] theorem State.wr_pps (s : State) (p : Nat) (f : Field) (v : Nat) (i : Nat) : (s.wr p f v i).pps = s.pps := rfl
@[simp] theorem State.wr_srcs (s : State) (p : Nat) (f : Field) (v : Nat) (i : Nat) : (s.wr p f v i).srcs = s.srcs := rfl
@[simp] theorem State.wr_tgts (s : State) (p : Nat) (f : Field) (v : Nat) (i : Nat) : (s.wr p f v i).tgts = s.tgts := rfl
@[simp] theorem State.wr_holdOff (s : State) (p : Nat) (f : Field) (v : Nat) (i : Nat) : (s.wr p f v i).holdOff = s.holdOff := rfl
@[simp] theorem State.wr_lines (s : State) (p : Nat) (f : Field) (v : Nat) (i : Nat) : (s.wr p f v i).lines = s.lines := rfl
@[simp] theorem State.wr_faults (s : State) (p : Nat) (f : Field) (v : Nat) (i : Nat) : (s.wr p f v i).faults = s.faults := rfl
@[simp] theorem State.wr_carried (s : State) (p : Nat) (f : Field) (v : Nat) (i : Nat) : (s.wr p f v i).carried = s.carried := rfl
@[simp] theorem State.wr_parityBad (s : State) (p : Nat) (f : Field) (v : Nat) (i : Nat) : (s.wr p f v i).parityBad = s.parityBad := rfl
@[simp] theorem State.wr_resets (s : State) (p : Nat) (f : Field) (v : Nat) (i : Nat) : (s.wr p f v i).resets = s.resets := rfl
@[simp] theorem State.wr_stalled (s : State) (p : Nat) (f : Field) (v : Nat) (i : Nat) : (s.wr p f v i).stalled = s.stalled := rfl
@[simp] theorem State.wr_ports (s : State) (p : Nat) (f : Field) (v : Nat) (i : Nat) : (s.wr p f v i).ports = s.ports := rfl
@[simp] theorem State.wr_blocks (s : State) (p : Nat) (f : Field) (v : Nat) (i : Nat) : (s.wr p f v i).blocks = s.blocks := rfl
@[simp] theorem State.wr_jobs (s : State) (p : Nat) (f : Field) (v : Nat) (i : Nat) : (s.wr p f v i).jobs = s.jobs := rfl
@[simp] theorem State.wr_pushes (s : State) (p : Nat) (f : Field) (v : Nat) (i : Nat) : (s.wr p f v i).pushes = s.pushes := rfl
@[simp] theorem State.wr_nextUid (s : State) (p : Nat) (f : Field) (v : Nat) (i : Nat) : (s.wr p f v i).nextUid = s.nextUid := rfl
@[simp] theorem State.wr_chans (s : State) (p : Nat) (f : Field) (v : Nat) (i : Nat) : (s.wr p f v i).chans = s.chans := rfl
@[simp] theorem State.wr_granted (s : State) (p : Nat) (f : Field) (v : Nat) (i : Nat) : (s.wr p f v i).granted = s.granted := rfl
@[simp] theorem State.wr_unfencing (s : State) (p : Nat) (f : Field) (v : Nat) (i : Nat) : (s.wr p f v i).unfencing = s.unfencing := rfl
@[simp] theorem State.wr_bufCount (s : State) (p : Nat) (f : Field) (v : Nat) (i : Nat) : (s.wr p f v i).bufCount = s.bufCount := rfl
@[simp] theorem State.wr_rt (s : State) (p : Nat) (f : Field) (v : Nat) (i : Nat) : (s.wr p f v i).rt = s.rt := rfl
@[simp] theorem State.wr_moments (s : State) (p : Nat) (f : Field) (v : Nat) (i : Nat) : (s.wr p f v i).moments = s.moments := rfl
@[simp] theorem State.wr_armed (s : State) (p : Nat) (f : Field) (v : Nat) (i : Nat) : (s.wr p f v i).armed = s.armed := rfl
@[simp] theorem State.wr_ueWords (s : State) (p : Nat) (f : Field) (v : Nat) (i : Nat) : (s.wr p f v i).ueWords = s.ueWords := rfl
@[simp] theorem State.wr_poison (s : State) (p : Nat) (f : Field) (v : Nat) (i : Nat) : (s.wr p f v i).poison = s.poison := rfl
@[simp] theorem State.wr_wbq (s : State) (p : Nat) (f : Field) (v : Nat) (i : Nat) : (s.wr p f v i).wbq = s.wbq := rfl
@[simp] theorem State.wr_sinceRead (s : State) (p : Nat) (f : Field) (v : Nat) (i : Nat) : (s.wr p f v i).sinceRead = s.sinceRead := rfl
@[simp] theorem State.wr_frameTicks (s : State) (p : Nat) (f : Field) (v : Nat) (i : Nat) : (s.wr p f v i).frameTicks = s.frameTicks := rfl
@[simp] theorem State.wr_loaderFault (s : State) (p : Nat) (f : Field) (v : Nat) (i : Nat) : (s.wr p f v i).loaderFault = s.loaderFault := rfl
@[simp] theorem State.wr_telExtra (s : State) (p : Nat) (f : Field) (v : Nat) (i : Nat) : (s.wr p f v i).telExtra = s.telExtra := rfl
@[simp] theorem State.wr_restored (s : State) (p : Nat) (f : Field) (v : Nat) (i : Nat) : (s.wr p f v i).restored = s.restored := rfl
@[simp] theorem State.wr_tel (s : State) (p : Nat) (f : Field) (v : Nat) (i : Nat) : (s.wr p f v i).tel = s.tel := rfl
@[simp] theorem State.wr_coreUs (s : State) (p : Nat) (f : Field) (v : Nat) (i : Nat) : (s.wr p f v i).coreUs = s.coreUs := rfl
@[simp] theorem State.wr_scanFail (s : State) (p : Nat) (f : Field) (v : Nat) (i : Nat) : (s.wr p f v i).scanFail = s.scanFail := rfl
@[simp] theorem State.wr_snap (s : State) (p : Nat) (f : Field) (v : Nat) (i : Nat) : (s.wr p f v i).snap = s.snap := rfl
@[simp] theorem State.wr_telNext (s : State) (p : Nat) (f : Field) (v : Nat) (i : Nat) : (s.wr p f v i).telNext = s.telNext := rfl
@[simp] theorem State.wr_chip (s : State) (p : Nat) (f : Field) (v : Nat) (i : Nat) : (s.wr p f v i).chip = s.chip := rfl
@[simp] theorem State.wr_fuses (s : State) (p : Nat) (f : Field) (v : Nat) (i : Nat) : (s.wr p f v i).fuses = s.fuses := rfl
@[simp] theorem State.wr_tap (s : State) (p : Nat) (f : Field) (v : Nat) (i : Nat) : (s.wr p f v i).tap = s.tap := rfl
@[simp] theorem State.wr_mram (s : State) (p : Nat) (f : Field) (v : Nat) (i : Nat) : (s.wr p f v i).mram = s.mram := rfl
@[simp] theorem State.wr_mramBad (s : State) (p : Nat) (f : Field) (v : Nat) (i : Nat) : (s.wr p f v i).mramBad = s.mramBad := rfl
@[simp] theorem State.wr_load (s : State) (p : Nat) (f : Field) (v : Nat) (i : Nat) : (s.wr p f v i).load = s.load := rfl
@[simp] theorem State.wr_saving (s : State) (p : Nat) (f : Field) (v : Nat) (i : Nat) : (s.wr p f v i).saving = s.saving := rfl
@[simp] theorem State.wr_runDigest (s : State) (p : Nat) (f : Field) (v : Nat) (i : Nat) : (s.wr p f v i).runDigest = s.runDigest := rfl
@[simp] theorem State.wr_bootGen (s : State) (p : Nat) (f : Field) (v : Nat) (i : Nat) : (s.wr p f v i).bootGen = s.bootGen := rfl
@[simp] theorem State.wr_out (s : State) (p : Nat) (f : Field) (v : Nat) (i : Nat) : (s.wr p f v i).out = s.out := rfl

/-! #### modPp -/

@[simp] theorem State.modPp_pending (s : State) (n : Nat) (f : PpState → PpState) : (s.modPp n f).pending = s.pending := rfl
@[simp] theorem State.modPp_regs (s : State) (n : Nat) (f : PpState → PpState) : (s.modPp n f).regs = s.regs := rfl
@[simp] theorem State.modPp_owners (s : State) (n : Nat) (f : PpState → PpState) : (s.modPp n f).owners = s.owners := rfl
@[simp] theorem State.modPp_mem (s : State) (n : Nat) (f : PpState → PpState) : (s.modPp n f).mem = s.mem := rfl
@[simp] theorem State.modPp_undef (s : State) (n : Nat) (f : PpState → PpState) : (s.modPp n f).undef = s.undef := rfl
@[simp] theorem State.modPp_freeCtr (s : State) (n : Nat) (f : PpState → PpState) : (s.modPp n f).freeCtr = s.freeCtr := rfl
@[simp] theorem State.modPp_mode (s : State) (n : Nat) (f : PpState → PpState) : (s.modPp n f).mode = s.mode := rfl
@[simp] theorem State.modPp_prev (s : State) (n : Nat) (f : PpState → PpState) : (s.modPp n f).prev = s.prev := rfl
@[simp] theorem State.modPp_moving (s : State) (n : Nat) (f : PpState → PpState) : (s.modPp n f).moving = s.moving := rfl
@[simp] theorem State.modPp_inReset (s : State) (n : Nat) (f : PpState → PpState) : (s.modPp n f).inReset = s.inReset := rfl
@[simp] theorem State.modPp_srcs (s : State) (n : Nat) (f : PpState → PpState) : (s.modPp n f).srcs = s.srcs := rfl
@[simp] theorem State.modPp_tgts (s : State) (n : Nat) (f : PpState → PpState) : (s.modPp n f).tgts = s.tgts := rfl
@[simp] theorem State.modPp_holdOff (s : State) (n : Nat) (f : PpState → PpState) : (s.modPp n f).holdOff = s.holdOff := rfl
@[simp] theorem State.modPp_lines (s : State) (n : Nat) (f : PpState → PpState) : (s.modPp n f).lines = s.lines := rfl
@[simp] theorem State.modPp_faults (s : State) (n : Nat) (f : PpState → PpState) : (s.modPp n f).faults = s.faults := rfl
@[simp] theorem State.modPp_carried (s : State) (n : Nat) (f : PpState → PpState) : (s.modPp n f).carried = s.carried := rfl
@[simp] theorem State.modPp_parityBad (s : State) (n : Nat) (f : PpState → PpState) : (s.modPp n f).parityBad = s.parityBad := rfl
@[simp] theorem State.modPp_resets (s : State) (n : Nat) (f : PpState → PpState) : (s.modPp n f).resets = s.resets := rfl
@[simp] theorem State.modPp_stalled (s : State) (n : Nat) (f : PpState → PpState) : (s.modPp n f).stalled = s.stalled := rfl
@[simp] theorem State.modPp_ports (s : State) (n : Nat) (f : PpState → PpState) : (s.modPp n f).ports = s.ports := rfl
@[simp] theorem State.modPp_blocks (s : State) (n : Nat) (f : PpState → PpState) : (s.modPp n f).blocks = s.blocks := rfl
@[simp] theorem State.modPp_jobs (s : State) (n : Nat) (f : PpState → PpState) : (s.modPp n f).jobs = s.jobs := rfl
@[simp] theorem State.modPp_pushes (s : State) (n : Nat) (f : PpState → PpState) : (s.modPp n f).pushes = s.pushes := rfl
@[simp] theorem State.modPp_nextUid (s : State) (n : Nat) (f : PpState → PpState) : (s.modPp n f).nextUid = s.nextUid := rfl
@[simp] theorem State.modPp_chans (s : State) (n : Nat) (f : PpState → PpState) : (s.modPp n f).chans = s.chans := rfl
@[simp] theorem State.modPp_granted (s : State) (n : Nat) (f : PpState → PpState) : (s.modPp n f).granted = s.granted := rfl
@[simp] theorem State.modPp_unfencing (s : State) (n : Nat) (f : PpState → PpState) : (s.modPp n f).unfencing = s.unfencing := rfl
@[simp] theorem State.modPp_bufCount (s : State) (n : Nat) (f : PpState → PpState) : (s.modPp n f).bufCount = s.bufCount := rfl
@[simp] theorem State.modPp_rt (s : State) (n : Nat) (f : PpState → PpState) : (s.modPp n f).rt = s.rt := rfl
@[simp] theorem State.modPp_moments (s : State) (n : Nat) (f : PpState → PpState) : (s.modPp n f).moments = s.moments := rfl
@[simp] theorem State.modPp_armed (s : State) (n : Nat) (f : PpState → PpState) : (s.modPp n f).armed = s.armed := rfl
@[simp] theorem State.modPp_ueWords (s : State) (n : Nat) (f : PpState → PpState) : (s.modPp n f).ueWords = s.ueWords := rfl
@[simp] theorem State.modPp_poison (s : State) (n : Nat) (f : PpState → PpState) : (s.modPp n f).poison = s.poison := rfl
@[simp] theorem State.modPp_wbq (s : State) (n : Nat) (f : PpState → PpState) : (s.modPp n f).wbq = s.wbq := rfl
@[simp] theorem State.modPp_sinceRead (s : State) (n : Nat) (f : PpState → PpState) : (s.modPp n f).sinceRead = s.sinceRead := rfl
@[simp] theorem State.modPp_frameTicks (s : State) (n : Nat) (f : PpState → PpState) : (s.modPp n f).frameTicks = s.frameTicks := rfl
@[simp] theorem State.modPp_loaderFault (s : State) (n : Nat) (f : PpState → PpState) : (s.modPp n f).loaderFault = s.loaderFault := rfl
@[simp] theorem State.modPp_telExtra (s : State) (n : Nat) (f : PpState → PpState) : (s.modPp n f).telExtra = s.telExtra := rfl
@[simp] theorem State.modPp_restored (s : State) (n : Nat) (f : PpState → PpState) : (s.modPp n f).restored = s.restored := rfl
@[simp] theorem State.modPp_tel (s : State) (n : Nat) (f : PpState → PpState) : (s.modPp n f).tel = s.tel := rfl
@[simp] theorem State.modPp_coreUs (s : State) (n : Nat) (f : PpState → PpState) : (s.modPp n f).coreUs = s.coreUs := rfl
@[simp] theorem State.modPp_scanFail (s : State) (n : Nat) (f : PpState → PpState) : (s.modPp n f).scanFail = s.scanFail := rfl
@[simp] theorem State.modPp_snap (s : State) (n : Nat) (f : PpState → PpState) : (s.modPp n f).snap = s.snap := rfl
@[simp] theorem State.modPp_telNext (s : State) (n : Nat) (f : PpState → PpState) : (s.modPp n f).telNext = s.telNext := rfl
@[simp] theorem State.modPp_chip (s : State) (n : Nat) (f : PpState → PpState) : (s.modPp n f).chip = s.chip := rfl
@[simp] theorem State.modPp_fuses (s : State) (n : Nat) (f : PpState → PpState) : (s.modPp n f).fuses = s.fuses := rfl
@[simp] theorem State.modPp_tap (s : State) (n : Nat) (f : PpState → PpState) : (s.modPp n f).tap = s.tap := rfl
@[simp] theorem State.modPp_mram (s : State) (n : Nat) (f : PpState → PpState) : (s.modPp n f).mram = s.mram := rfl
@[simp] theorem State.modPp_mramBad (s : State) (n : Nat) (f : PpState → PpState) : (s.modPp n f).mramBad = s.mramBad := rfl
@[simp] theorem State.modPp_load (s : State) (n : Nat) (f : PpState → PpState) : (s.modPp n f).load = s.load := rfl
@[simp] theorem State.modPp_saving (s : State) (n : Nat) (f : PpState → PpState) : (s.modPp n f).saving = s.saving := rfl
@[simp] theorem State.modPp_runDigest (s : State) (n : Nat) (f : PpState → PpState) : (s.modPp n f).runDigest = s.runDigest := rfl
@[simp] theorem State.modPp_bootGen (s : State) (n : Nat) (f : PpState → PpState) : (s.modPp n f).bootGen = s.bootGen := rfl
@[simp] theorem State.modPp_out (s : State) (n : Nat) (f : PpState → PpState) : (s.modPp n f).out = s.out := rfl

/-! #### modTgt -/

@[simp] theorem State.modTgt_pending (s : State) (n : Nat) (f : TgtState → TgtState) : (s.modTgt n f).pending = s.pending := rfl
@[simp] theorem State.modTgt_regs (s : State) (n : Nat) (f : TgtState → TgtState) : (s.modTgt n f).regs = s.regs := rfl
@[simp] theorem State.modTgt_owners (s : State) (n : Nat) (f : TgtState → TgtState) : (s.modTgt n f).owners = s.owners := rfl
@[simp] theorem State.modTgt_mem (s : State) (n : Nat) (f : TgtState → TgtState) : (s.modTgt n f).mem = s.mem := rfl
@[simp] theorem State.modTgt_undef (s : State) (n : Nat) (f : TgtState → TgtState) : (s.modTgt n f).undef = s.undef := rfl
@[simp] theorem State.modTgt_freeCtr (s : State) (n : Nat) (f : TgtState → TgtState) : (s.modTgt n f).freeCtr = s.freeCtr := rfl
@[simp] theorem State.modTgt_mode (s : State) (n : Nat) (f : TgtState → TgtState) : (s.modTgt n f).mode = s.mode := rfl
@[simp] theorem State.modTgt_prev (s : State) (n : Nat) (f : TgtState → TgtState) : (s.modTgt n f).prev = s.prev := rfl
@[simp] theorem State.modTgt_moving (s : State) (n : Nat) (f : TgtState → TgtState) : (s.modTgt n f).moving = s.moving := rfl
@[simp] theorem State.modTgt_inReset (s : State) (n : Nat) (f : TgtState → TgtState) : (s.modTgt n f).inReset = s.inReset := rfl
@[simp] theorem State.modTgt_pps (s : State) (n : Nat) (f : TgtState → TgtState) : (s.modTgt n f).pps = s.pps := rfl
@[simp] theorem State.modTgt_srcs (s : State) (n : Nat) (f : TgtState → TgtState) : (s.modTgt n f).srcs = s.srcs := rfl
@[simp] theorem State.modTgt_holdOff (s : State) (n : Nat) (f : TgtState → TgtState) : (s.modTgt n f).holdOff = s.holdOff := rfl
@[simp] theorem State.modTgt_lines (s : State) (n : Nat) (f : TgtState → TgtState) : (s.modTgt n f).lines = s.lines := rfl
@[simp] theorem State.modTgt_faults (s : State) (n : Nat) (f : TgtState → TgtState) : (s.modTgt n f).faults = s.faults := rfl
@[simp] theorem State.modTgt_carried (s : State) (n : Nat) (f : TgtState → TgtState) : (s.modTgt n f).carried = s.carried := rfl
@[simp] theorem State.modTgt_parityBad (s : State) (n : Nat) (f : TgtState → TgtState) : (s.modTgt n f).parityBad = s.parityBad := rfl
@[simp] theorem State.modTgt_resets (s : State) (n : Nat) (f : TgtState → TgtState) : (s.modTgt n f).resets = s.resets := rfl
@[simp] theorem State.modTgt_stalled (s : State) (n : Nat) (f : TgtState → TgtState) : (s.modTgt n f).stalled = s.stalled := rfl
@[simp] theorem State.modTgt_ports (s : State) (n : Nat) (f : TgtState → TgtState) : (s.modTgt n f).ports = s.ports := rfl
@[simp] theorem State.modTgt_blocks (s : State) (n : Nat) (f : TgtState → TgtState) : (s.modTgt n f).blocks = s.blocks := rfl
@[simp] theorem State.modTgt_jobs (s : State) (n : Nat) (f : TgtState → TgtState) : (s.modTgt n f).jobs = s.jobs := rfl
@[simp] theorem State.modTgt_pushes (s : State) (n : Nat) (f : TgtState → TgtState) : (s.modTgt n f).pushes = s.pushes := rfl
@[simp] theorem State.modTgt_nextUid (s : State) (n : Nat) (f : TgtState → TgtState) : (s.modTgt n f).nextUid = s.nextUid := rfl
@[simp] theorem State.modTgt_chans (s : State) (n : Nat) (f : TgtState → TgtState) : (s.modTgt n f).chans = s.chans := rfl
@[simp] theorem State.modTgt_granted (s : State) (n : Nat) (f : TgtState → TgtState) : (s.modTgt n f).granted = s.granted := rfl
@[simp] theorem State.modTgt_unfencing (s : State) (n : Nat) (f : TgtState → TgtState) : (s.modTgt n f).unfencing = s.unfencing := rfl
@[simp] theorem State.modTgt_bufCount (s : State) (n : Nat) (f : TgtState → TgtState) : (s.modTgt n f).bufCount = s.bufCount := rfl
@[simp] theorem State.modTgt_rt (s : State) (n : Nat) (f : TgtState → TgtState) : (s.modTgt n f).rt = s.rt := rfl
@[simp] theorem State.modTgt_moments (s : State) (n : Nat) (f : TgtState → TgtState) : (s.modTgt n f).moments = s.moments := rfl
@[simp] theorem State.modTgt_armed (s : State) (n : Nat) (f : TgtState → TgtState) : (s.modTgt n f).armed = s.armed := rfl
@[simp] theorem State.modTgt_ueWords (s : State) (n : Nat) (f : TgtState → TgtState) : (s.modTgt n f).ueWords = s.ueWords := rfl
@[simp] theorem State.modTgt_poison (s : State) (n : Nat) (f : TgtState → TgtState) : (s.modTgt n f).poison = s.poison := rfl
@[simp] theorem State.modTgt_wbq (s : State) (n : Nat) (f : TgtState → TgtState) : (s.modTgt n f).wbq = s.wbq := rfl
@[simp] theorem State.modTgt_sinceRead (s : State) (n : Nat) (f : TgtState → TgtState) : (s.modTgt n f).sinceRead = s.sinceRead := rfl
@[simp] theorem State.modTgt_frameTicks (s : State) (n : Nat) (f : TgtState → TgtState) : (s.modTgt n f).frameTicks = s.frameTicks := rfl
@[simp] theorem State.modTgt_loaderFault (s : State) (n : Nat) (f : TgtState → TgtState) : (s.modTgt n f).loaderFault = s.loaderFault := rfl
@[simp] theorem State.modTgt_telExtra (s : State) (n : Nat) (f : TgtState → TgtState) : (s.modTgt n f).telExtra = s.telExtra := rfl
@[simp] theorem State.modTgt_restored (s : State) (n : Nat) (f : TgtState → TgtState) : (s.modTgt n f).restored = s.restored := rfl
@[simp] theorem State.modTgt_tel (s : State) (n : Nat) (f : TgtState → TgtState) : (s.modTgt n f).tel = s.tel := rfl
@[simp] theorem State.modTgt_coreUs (s : State) (n : Nat) (f : TgtState → TgtState) : (s.modTgt n f).coreUs = s.coreUs := rfl
@[simp] theorem State.modTgt_scanFail (s : State) (n : Nat) (f : TgtState → TgtState) : (s.modTgt n f).scanFail = s.scanFail := rfl
@[simp] theorem State.modTgt_snap (s : State) (n : Nat) (f : TgtState → TgtState) : (s.modTgt n f).snap = s.snap := rfl
@[simp] theorem State.modTgt_telNext (s : State) (n : Nat) (f : TgtState → TgtState) : (s.modTgt n f).telNext = s.telNext := rfl
@[simp] theorem State.modTgt_chip (s : State) (n : Nat) (f : TgtState → TgtState) : (s.modTgt n f).chip = s.chip := rfl
@[simp] theorem State.modTgt_fuses (s : State) (n : Nat) (f : TgtState → TgtState) : (s.modTgt n f).fuses = s.fuses := rfl
@[simp] theorem State.modTgt_tap (s : State) (n : Nat) (f : TgtState → TgtState) : (s.modTgt n f).tap = s.tap := rfl
@[simp] theorem State.modTgt_mram (s : State) (n : Nat) (f : TgtState → TgtState) : (s.modTgt n f).mram = s.mram := rfl
@[simp] theorem State.modTgt_mramBad (s : State) (n : Nat) (f : TgtState → TgtState) : (s.modTgt n f).mramBad = s.mramBad := rfl
@[simp] theorem State.modTgt_load (s : State) (n : Nat) (f : TgtState → TgtState) : (s.modTgt n f).load = s.load := rfl
@[simp] theorem State.modTgt_saving (s : State) (n : Nat) (f : TgtState → TgtState) : (s.modTgt n f).saving = s.saving := rfl
@[simp] theorem State.modTgt_runDigest (s : State) (n : Nat) (f : TgtState → TgtState) : (s.modTgt n f).runDigest = s.runDigest := rfl
@[simp] theorem State.modTgt_bootGen (s : State) (n : Nat) (f : TgtState → TgtState) : (s.modTgt n f).bootGen = s.bootGen := rfl
@[simp] theorem State.modTgt_out (s : State) (n : Nat) (f : TgtState → TgtState) : (s.modTgt n f).out = s.out := rfl

/-! #### modSrc -/

@[simp] theorem State.modSrc_pending (s : State) (n : Nat) (f : IntSrc → IntSrc) : (s.modSrc n f).pending = s.pending := rfl
@[simp] theorem State.modSrc_regs (s : State) (n : Nat) (f : IntSrc → IntSrc) : (s.modSrc n f).regs = s.regs := rfl
@[simp] theorem State.modSrc_owners (s : State) (n : Nat) (f : IntSrc → IntSrc) : (s.modSrc n f).owners = s.owners := rfl
@[simp] theorem State.modSrc_mem (s : State) (n : Nat) (f : IntSrc → IntSrc) : (s.modSrc n f).mem = s.mem := rfl
@[simp] theorem State.modSrc_undef (s : State) (n : Nat) (f : IntSrc → IntSrc) : (s.modSrc n f).undef = s.undef := rfl
@[simp] theorem State.modSrc_freeCtr (s : State) (n : Nat) (f : IntSrc → IntSrc) : (s.modSrc n f).freeCtr = s.freeCtr := rfl
@[simp] theorem State.modSrc_mode (s : State) (n : Nat) (f : IntSrc → IntSrc) : (s.modSrc n f).mode = s.mode := rfl
@[simp] theorem State.modSrc_prev (s : State) (n : Nat) (f : IntSrc → IntSrc) : (s.modSrc n f).prev = s.prev := rfl
@[simp] theorem State.modSrc_moving (s : State) (n : Nat) (f : IntSrc → IntSrc) : (s.modSrc n f).moving = s.moving := rfl
@[simp] theorem State.modSrc_inReset (s : State) (n : Nat) (f : IntSrc → IntSrc) : (s.modSrc n f).inReset = s.inReset := rfl
@[simp] theorem State.modSrc_pps (s : State) (n : Nat) (f : IntSrc → IntSrc) : (s.modSrc n f).pps = s.pps := rfl
@[simp] theorem State.modSrc_tgts (s : State) (n : Nat) (f : IntSrc → IntSrc) : (s.modSrc n f).tgts = s.tgts := rfl
@[simp] theorem State.modSrc_holdOff (s : State) (n : Nat) (f : IntSrc → IntSrc) : (s.modSrc n f).holdOff = s.holdOff := rfl
@[simp] theorem State.modSrc_lines (s : State) (n : Nat) (f : IntSrc → IntSrc) : (s.modSrc n f).lines = s.lines := rfl
@[simp] theorem State.modSrc_faults (s : State) (n : Nat) (f : IntSrc → IntSrc) : (s.modSrc n f).faults = s.faults := rfl
@[simp] theorem State.modSrc_carried (s : State) (n : Nat) (f : IntSrc → IntSrc) : (s.modSrc n f).carried = s.carried := rfl
@[simp] theorem State.modSrc_parityBad (s : State) (n : Nat) (f : IntSrc → IntSrc) : (s.modSrc n f).parityBad = s.parityBad := rfl
@[simp] theorem State.modSrc_resets (s : State) (n : Nat) (f : IntSrc → IntSrc) : (s.modSrc n f).resets = s.resets := rfl
@[simp] theorem State.modSrc_stalled (s : State) (n : Nat) (f : IntSrc → IntSrc) : (s.modSrc n f).stalled = s.stalled := rfl
@[simp] theorem State.modSrc_ports (s : State) (n : Nat) (f : IntSrc → IntSrc) : (s.modSrc n f).ports = s.ports := rfl
@[simp] theorem State.modSrc_blocks (s : State) (n : Nat) (f : IntSrc → IntSrc) : (s.modSrc n f).blocks = s.blocks := rfl
@[simp] theorem State.modSrc_jobs (s : State) (n : Nat) (f : IntSrc → IntSrc) : (s.modSrc n f).jobs = s.jobs := rfl
@[simp] theorem State.modSrc_pushes (s : State) (n : Nat) (f : IntSrc → IntSrc) : (s.modSrc n f).pushes = s.pushes := rfl
@[simp] theorem State.modSrc_nextUid (s : State) (n : Nat) (f : IntSrc → IntSrc) : (s.modSrc n f).nextUid = s.nextUid := rfl
@[simp] theorem State.modSrc_chans (s : State) (n : Nat) (f : IntSrc → IntSrc) : (s.modSrc n f).chans = s.chans := rfl
@[simp] theorem State.modSrc_granted (s : State) (n : Nat) (f : IntSrc → IntSrc) : (s.modSrc n f).granted = s.granted := rfl
@[simp] theorem State.modSrc_unfencing (s : State) (n : Nat) (f : IntSrc → IntSrc) : (s.modSrc n f).unfencing = s.unfencing := rfl
@[simp] theorem State.modSrc_bufCount (s : State) (n : Nat) (f : IntSrc → IntSrc) : (s.modSrc n f).bufCount = s.bufCount := rfl
@[simp] theorem State.modSrc_rt (s : State) (n : Nat) (f : IntSrc → IntSrc) : (s.modSrc n f).rt = s.rt := rfl
@[simp] theorem State.modSrc_moments (s : State) (n : Nat) (f : IntSrc → IntSrc) : (s.modSrc n f).moments = s.moments := rfl
@[simp] theorem State.modSrc_armed (s : State) (n : Nat) (f : IntSrc → IntSrc) : (s.modSrc n f).armed = s.armed := rfl
@[simp] theorem State.modSrc_ueWords (s : State) (n : Nat) (f : IntSrc → IntSrc) : (s.modSrc n f).ueWords = s.ueWords := rfl
@[simp] theorem State.modSrc_poison (s : State) (n : Nat) (f : IntSrc → IntSrc) : (s.modSrc n f).poison = s.poison := rfl
@[simp] theorem State.modSrc_wbq (s : State) (n : Nat) (f : IntSrc → IntSrc) : (s.modSrc n f).wbq = s.wbq := rfl
@[simp] theorem State.modSrc_sinceRead (s : State) (n : Nat) (f : IntSrc → IntSrc) : (s.modSrc n f).sinceRead = s.sinceRead := rfl
@[simp] theorem State.modSrc_frameTicks (s : State) (n : Nat) (f : IntSrc → IntSrc) : (s.modSrc n f).frameTicks = s.frameTicks := rfl
@[simp] theorem State.modSrc_loaderFault (s : State) (n : Nat) (f : IntSrc → IntSrc) : (s.modSrc n f).loaderFault = s.loaderFault := rfl
@[simp] theorem State.modSrc_telExtra (s : State) (n : Nat) (f : IntSrc → IntSrc) : (s.modSrc n f).telExtra = s.telExtra := rfl
@[simp] theorem State.modSrc_restored (s : State) (n : Nat) (f : IntSrc → IntSrc) : (s.modSrc n f).restored = s.restored := rfl
@[simp] theorem State.modSrc_tel (s : State) (n : Nat) (f : IntSrc → IntSrc) : (s.modSrc n f).tel = s.tel := rfl
@[simp] theorem State.modSrc_coreUs (s : State) (n : Nat) (f : IntSrc → IntSrc) : (s.modSrc n f).coreUs = s.coreUs := rfl
@[simp] theorem State.modSrc_scanFail (s : State) (n : Nat) (f : IntSrc → IntSrc) : (s.modSrc n f).scanFail = s.scanFail := rfl
@[simp] theorem State.modSrc_snap (s : State) (n : Nat) (f : IntSrc → IntSrc) : (s.modSrc n f).snap = s.snap := rfl
@[simp] theorem State.modSrc_telNext (s : State) (n : Nat) (f : IntSrc → IntSrc) : (s.modSrc n f).telNext = s.telNext := rfl
@[simp] theorem State.modSrc_chip (s : State) (n : Nat) (f : IntSrc → IntSrc) : (s.modSrc n f).chip = s.chip := rfl
@[simp] theorem State.modSrc_fuses (s : State) (n : Nat) (f : IntSrc → IntSrc) : (s.modSrc n f).fuses = s.fuses := rfl
@[simp] theorem State.modSrc_tap (s : State) (n : Nat) (f : IntSrc → IntSrc) : (s.modSrc n f).tap = s.tap := rfl
@[simp] theorem State.modSrc_mram (s : State) (n : Nat) (f : IntSrc → IntSrc) : (s.modSrc n f).mram = s.mram := rfl
@[simp] theorem State.modSrc_mramBad (s : State) (n : Nat) (f : IntSrc → IntSrc) : (s.modSrc n f).mramBad = s.mramBad := rfl
@[simp] theorem State.modSrc_load (s : State) (n : Nat) (f : IntSrc → IntSrc) : (s.modSrc n f).load = s.load := rfl
@[simp] theorem State.modSrc_saving (s : State) (n : Nat) (f : IntSrc → IntSrc) : (s.modSrc n f).saving = s.saving := rfl
@[simp] theorem State.modSrc_runDigest (s : State) (n : Nat) (f : IntSrc → IntSrc) : (s.modSrc n f).runDigest = s.runDigest := rfl
@[simp] theorem State.modSrc_bootGen (s : State) (n : Nat) (f : IntSrc → IntSrc) : (s.modSrc n f).bootGen = s.bootGen := rfl
@[simp] theorem State.modSrc_out (s : State) (n : Nat) (f : IntSrc → IntSrc) : (s.modSrc n f).out = s.out := rfl

/-! #### modLine -/

@[simp] theorem State.modLine_pending (s : State) (n : Nat) (f : LineState → LineState) : (s.modLine n f).pending = s.pending := rfl
@[simp] theorem State.modLine_regs (s : State) (n : Nat) (f : LineState → LineState) : (s.modLine n f).regs = s.regs := rfl
@[simp] theorem State.modLine_owners (s : State) (n : Nat) (f : LineState → LineState) : (s.modLine n f).owners = s.owners := rfl
@[simp] theorem State.modLine_mem (s : State) (n : Nat) (f : LineState → LineState) : (s.modLine n f).mem = s.mem := rfl
@[simp] theorem State.modLine_undef (s : State) (n : Nat) (f : LineState → LineState) : (s.modLine n f).undef = s.undef := rfl
@[simp] theorem State.modLine_freeCtr (s : State) (n : Nat) (f : LineState → LineState) : (s.modLine n f).freeCtr = s.freeCtr := rfl
@[simp] theorem State.modLine_mode (s : State) (n : Nat) (f : LineState → LineState) : (s.modLine n f).mode = s.mode := rfl
@[simp] theorem State.modLine_prev (s : State) (n : Nat) (f : LineState → LineState) : (s.modLine n f).prev = s.prev := rfl
@[simp] theorem State.modLine_moving (s : State) (n : Nat) (f : LineState → LineState) : (s.modLine n f).moving = s.moving := rfl
@[simp] theorem State.modLine_inReset (s : State) (n : Nat) (f : LineState → LineState) : (s.modLine n f).inReset = s.inReset := rfl
@[simp] theorem State.modLine_pps (s : State) (n : Nat) (f : LineState → LineState) : (s.modLine n f).pps = s.pps := rfl
@[simp] theorem State.modLine_srcs (s : State) (n : Nat) (f : LineState → LineState) : (s.modLine n f).srcs = s.srcs := rfl
@[simp] theorem State.modLine_tgts (s : State) (n : Nat) (f : LineState → LineState) : (s.modLine n f).tgts = s.tgts := rfl
@[simp] theorem State.modLine_holdOff (s : State) (n : Nat) (f : LineState → LineState) : (s.modLine n f).holdOff = s.holdOff := rfl
@[simp] theorem State.modLine_faults (s : State) (n : Nat) (f : LineState → LineState) : (s.modLine n f).faults = s.faults := rfl
@[simp] theorem State.modLine_carried (s : State) (n : Nat) (f : LineState → LineState) : (s.modLine n f).carried = s.carried := rfl
@[simp] theorem State.modLine_parityBad (s : State) (n : Nat) (f : LineState → LineState) : (s.modLine n f).parityBad = s.parityBad := rfl
@[simp] theorem State.modLine_resets (s : State) (n : Nat) (f : LineState → LineState) : (s.modLine n f).resets = s.resets := rfl
@[simp] theorem State.modLine_stalled (s : State) (n : Nat) (f : LineState → LineState) : (s.modLine n f).stalled = s.stalled := rfl
@[simp] theorem State.modLine_ports (s : State) (n : Nat) (f : LineState → LineState) : (s.modLine n f).ports = s.ports := rfl
@[simp] theorem State.modLine_blocks (s : State) (n : Nat) (f : LineState → LineState) : (s.modLine n f).blocks = s.blocks := rfl
@[simp] theorem State.modLine_jobs (s : State) (n : Nat) (f : LineState → LineState) : (s.modLine n f).jobs = s.jobs := rfl
@[simp] theorem State.modLine_pushes (s : State) (n : Nat) (f : LineState → LineState) : (s.modLine n f).pushes = s.pushes := rfl
@[simp] theorem State.modLine_nextUid (s : State) (n : Nat) (f : LineState → LineState) : (s.modLine n f).nextUid = s.nextUid := rfl
@[simp] theorem State.modLine_chans (s : State) (n : Nat) (f : LineState → LineState) : (s.modLine n f).chans = s.chans := rfl
@[simp] theorem State.modLine_granted (s : State) (n : Nat) (f : LineState → LineState) : (s.modLine n f).granted = s.granted := rfl
@[simp] theorem State.modLine_unfencing (s : State) (n : Nat) (f : LineState → LineState) : (s.modLine n f).unfencing = s.unfencing := rfl
@[simp] theorem State.modLine_bufCount (s : State) (n : Nat) (f : LineState → LineState) : (s.modLine n f).bufCount = s.bufCount := rfl
@[simp] theorem State.modLine_rt (s : State) (n : Nat) (f : LineState → LineState) : (s.modLine n f).rt = s.rt := rfl
@[simp] theorem State.modLine_moments (s : State) (n : Nat) (f : LineState → LineState) : (s.modLine n f).moments = s.moments := rfl
@[simp] theorem State.modLine_armed (s : State) (n : Nat) (f : LineState → LineState) : (s.modLine n f).armed = s.armed := rfl
@[simp] theorem State.modLine_ueWords (s : State) (n : Nat) (f : LineState → LineState) : (s.modLine n f).ueWords = s.ueWords := rfl
@[simp] theorem State.modLine_poison (s : State) (n : Nat) (f : LineState → LineState) : (s.modLine n f).poison = s.poison := rfl
@[simp] theorem State.modLine_wbq (s : State) (n : Nat) (f : LineState → LineState) : (s.modLine n f).wbq = s.wbq := rfl
@[simp] theorem State.modLine_sinceRead (s : State) (n : Nat) (f : LineState → LineState) : (s.modLine n f).sinceRead = s.sinceRead := rfl
@[simp] theorem State.modLine_frameTicks (s : State) (n : Nat) (f : LineState → LineState) : (s.modLine n f).frameTicks = s.frameTicks := rfl
@[simp] theorem State.modLine_loaderFault (s : State) (n : Nat) (f : LineState → LineState) : (s.modLine n f).loaderFault = s.loaderFault := rfl
@[simp] theorem State.modLine_telExtra (s : State) (n : Nat) (f : LineState → LineState) : (s.modLine n f).telExtra = s.telExtra := rfl
@[simp] theorem State.modLine_restored (s : State) (n : Nat) (f : LineState → LineState) : (s.modLine n f).restored = s.restored := rfl
@[simp] theorem State.modLine_tel (s : State) (n : Nat) (f : LineState → LineState) : (s.modLine n f).tel = s.tel := rfl
@[simp] theorem State.modLine_coreUs (s : State) (n : Nat) (f : LineState → LineState) : (s.modLine n f).coreUs = s.coreUs := rfl
@[simp] theorem State.modLine_scanFail (s : State) (n : Nat) (f : LineState → LineState) : (s.modLine n f).scanFail = s.scanFail := rfl
@[simp] theorem State.modLine_snap (s : State) (n : Nat) (f : LineState → LineState) : (s.modLine n f).snap = s.snap := rfl
@[simp] theorem State.modLine_telNext (s : State) (n : Nat) (f : LineState → LineState) : (s.modLine n f).telNext = s.telNext := rfl
@[simp] theorem State.modLine_chip (s : State) (n : Nat) (f : LineState → LineState) : (s.modLine n f).chip = s.chip := rfl
@[simp] theorem State.modLine_fuses (s : State) (n : Nat) (f : LineState → LineState) : (s.modLine n f).fuses = s.fuses := rfl
@[simp] theorem State.modLine_tap (s : State) (n : Nat) (f : LineState → LineState) : (s.modLine n f).tap = s.tap := rfl
@[simp] theorem State.modLine_mram (s : State) (n : Nat) (f : LineState → LineState) : (s.modLine n f).mram = s.mram := rfl
@[simp] theorem State.modLine_mramBad (s : State) (n : Nat) (f : LineState → LineState) : (s.modLine n f).mramBad = s.mramBad := rfl
@[simp] theorem State.modLine_load (s : State) (n : Nat) (f : LineState → LineState) : (s.modLine n f).load = s.load := rfl
@[simp] theorem State.modLine_saving (s : State) (n : Nat) (f : LineState → LineState) : (s.modLine n f).saving = s.saving := rfl
@[simp] theorem State.modLine_runDigest (s : State) (n : Nat) (f : LineState → LineState) : (s.modLine n f).runDigest = s.runDigest := rfl
@[simp] theorem State.modLine_bootGen (s : State) (n : Nat) (f : LineState → LineState) : (s.modLine n f).bootGen = s.bootGen := rfl
@[simp] theorem State.modLine_out (s : State) (n : Nat) (f : LineState → LineState) : (s.modLine n f).out = s.out := rfl

/-! #### modPort -/

@[simp] theorem State.modPort_pending (s : State) (n : Nat) (f : PortState → PortState) : (s.modPort n f).pending = s.pending := rfl
@[simp] theorem State.modPort_regs (s : State) (n : Nat) (f : PortState → PortState) : (s.modPort n f).regs = s.regs := rfl
@[simp] theorem State.modPort_owners (s : State) (n : Nat) (f : PortState → PortState) : (s.modPort n f).owners = s.owners := rfl
@[simp] theorem State.modPort_mem (s : State) (n : Nat) (f : PortState → PortState) : (s.modPort n f).mem = s.mem := rfl
@[simp] theorem State.modPort_undef (s : State) (n : Nat) (f : PortState → PortState) : (s.modPort n f).undef = s.undef := rfl
@[simp] theorem State.modPort_freeCtr (s : State) (n : Nat) (f : PortState → PortState) : (s.modPort n f).freeCtr = s.freeCtr := rfl
@[simp] theorem State.modPort_mode (s : State) (n : Nat) (f : PortState → PortState) : (s.modPort n f).mode = s.mode := rfl
@[simp] theorem State.modPort_prev (s : State) (n : Nat) (f : PortState → PortState) : (s.modPort n f).prev = s.prev := rfl
@[simp] theorem State.modPort_moving (s : State) (n : Nat) (f : PortState → PortState) : (s.modPort n f).moving = s.moving := rfl
@[simp] theorem State.modPort_inReset (s : State) (n : Nat) (f : PortState → PortState) : (s.modPort n f).inReset = s.inReset := rfl
@[simp] theorem State.modPort_pps (s : State) (n : Nat) (f : PortState → PortState) : (s.modPort n f).pps = s.pps := rfl
@[simp] theorem State.modPort_srcs (s : State) (n : Nat) (f : PortState → PortState) : (s.modPort n f).srcs = s.srcs := rfl
@[simp] theorem State.modPort_tgts (s : State) (n : Nat) (f : PortState → PortState) : (s.modPort n f).tgts = s.tgts := rfl
@[simp] theorem State.modPort_holdOff (s : State) (n : Nat) (f : PortState → PortState) : (s.modPort n f).holdOff = s.holdOff := rfl
@[simp] theorem State.modPort_lines (s : State) (n : Nat) (f : PortState → PortState) : (s.modPort n f).lines = s.lines := rfl
@[simp] theorem State.modPort_faults (s : State) (n : Nat) (f : PortState → PortState) : (s.modPort n f).faults = s.faults := rfl
@[simp] theorem State.modPort_carried (s : State) (n : Nat) (f : PortState → PortState) : (s.modPort n f).carried = s.carried := rfl
@[simp] theorem State.modPort_parityBad (s : State) (n : Nat) (f : PortState → PortState) : (s.modPort n f).parityBad = s.parityBad := rfl
@[simp] theorem State.modPort_resets (s : State) (n : Nat) (f : PortState → PortState) : (s.modPort n f).resets = s.resets := rfl
@[simp] theorem State.modPort_stalled (s : State) (n : Nat) (f : PortState → PortState) : (s.modPort n f).stalled = s.stalled := rfl
@[simp] theorem State.modPort_blocks (s : State) (n : Nat) (f : PortState → PortState) : (s.modPort n f).blocks = s.blocks := rfl
@[simp] theorem State.modPort_jobs (s : State) (n : Nat) (f : PortState → PortState) : (s.modPort n f).jobs = s.jobs := rfl
@[simp] theorem State.modPort_pushes (s : State) (n : Nat) (f : PortState → PortState) : (s.modPort n f).pushes = s.pushes := rfl
@[simp] theorem State.modPort_nextUid (s : State) (n : Nat) (f : PortState → PortState) : (s.modPort n f).nextUid = s.nextUid := rfl
@[simp] theorem State.modPort_chans (s : State) (n : Nat) (f : PortState → PortState) : (s.modPort n f).chans = s.chans := rfl
@[simp] theorem State.modPort_granted (s : State) (n : Nat) (f : PortState → PortState) : (s.modPort n f).granted = s.granted := rfl
@[simp] theorem State.modPort_unfencing (s : State) (n : Nat) (f : PortState → PortState) : (s.modPort n f).unfencing = s.unfencing := rfl
@[simp] theorem State.modPort_bufCount (s : State) (n : Nat) (f : PortState → PortState) : (s.modPort n f).bufCount = s.bufCount := rfl
@[simp] theorem State.modPort_rt (s : State) (n : Nat) (f : PortState → PortState) : (s.modPort n f).rt = s.rt := rfl
@[simp] theorem State.modPort_moments (s : State) (n : Nat) (f : PortState → PortState) : (s.modPort n f).moments = s.moments := rfl
@[simp] theorem State.modPort_armed (s : State) (n : Nat) (f : PortState → PortState) : (s.modPort n f).armed = s.armed := rfl
@[simp] theorem State.modPort_ueWords (s : State) (n : Nat) (f : PortState → PortState) : (s.modPort n f).ueWords = s.ueWords := rfl
@[simp] theorem State.modPort_poison (s : State) (n : Nat) (f : PortState → PortState) : (s.modPort n f).poison = s.poison := rfl
@[simp] theorem State.modPort_wbq (s : State) (n : Nat) (f : PortState → PortState) : (s.modPort n f).wbq = s.wbq := rfl
@[simp] theorem State.modPort_sinceRead (s : State) (n : Nat) (f : PortState → PortState) : (s.modPort n f).sinceRead = s.sinceRead := rfl
@[simp] theorem State.modPort_frameTicks (s : State) (n : Nat) (f : PortState → PortState) : (s.modPort n f).frameTicks = s.frameTicks := rfl
@[simp] theorem State.modPort_loaderFault (s : State) (n : Nat) (f : PortState → PortState) : (s.modPort n f).loaderFault = s.loaderFault := rfl
@[simp] theorem State.modPort_telExtra (s : State) (n : Nat) (f : PortState → PortState) : (s.modPort n f).telExtra = s.telExtra := rfl
@[simp] theorem State.modPort_restored (s : State) (n : Nat) (f : PortState → PortState) : (s.modPort n f).restored = s.restored := rfl
@[simp] theorem State.modPort_tel (s : State) (n : Nat) (f : PortState → PortState) : (s.modPort n f).tel = s.tel := rfl
@[simp] theorem State.modPort_coreUs (s : State) (n : Nat) (f : PortState → PortState) : (s.modPort n f).coreUs = s.coreUs := rfl
@[simp] theorem State.modPort_scanFail (s : State) (n : Nat) (f : PortState → PortState) : (s.modPort n f).scanFail = s.scanFail := rfl
@[simp] theorem State.modPort_snap (s : State) (n : Nat) (f : PortState → PortState) : (s.modPort n f).snap = s.snap := rfl
@[simp] theorem State.modPort_telNext (s : State) (n : Nat) (f : PortState → PortState) : (s.modPort n f).telNext = s.telNext := rfl
@[simp] theorem State.modPort_chip (s : State) (n : Nat) (f : PortState → PortState) : (s.modPort n f).chip = s.chip := rfl
@[simp] theorem State.modPort_fuses (s : State) (n : Nat) (f : PortState → PortState) : (s.modPort n f).fuses = s.fuses := rfl
@[simp] theorem State.modPort_tap (s : State) (n : Nat) (f : PortState → PortState) : (s.modPort n f).tap = s.tap := rfl
@[simp] theorem State.modPort_mram (s : State) (n : Nat) (f : PortState → PortState) : (s.modPort n f).mram = s.mram := rfl
@[simp] theorem State.modPort_mramBad (s : State) (n : Nat) (f : PortState → PortState) : (s.modPort n f).mramBad = s.mramBad := rfl
@[simp] theorem State.modPort_load (s : State) (n : Nat) (f : PortState → PortState) : (s.modPort n f).load = s.load := rfl
@[simp] theorem State.modPort_saving (s : State) (n : Nat) (f : PortState → PortState) : (s.modPort n f).saving = s.saving := rfl
@[simp] theorem State.modPort_runDigest (s : State) (n : Nat) (f : PortState → PortState) : (s.modPort n f).runDigest = s.runDigest := rfl
@[simp] theorem State.modPort_bootGen (s : State) (n : Nat) (f : PortState → PortState) : (s.modPort n f).bootGen = s.bootGen := rfl
@[simp] theorem State.modPort_out (s : State) (n : Nat) (f : PortState → PortState) : (s.modPort n f).out = s.out := rfl

/-! #### modChan -/

@[simp] theorem State.modChan_pending (s : State) (n : Nat) (f : ChanState → ChanState) : (s.modChan n f).pending = s.pending := rfl
@[simp] theorem State.modChan_regs (s : State) (n : Nat) (f : ChanState → ChanState) : (s.modChan n f).regs = s.regs := rfl
@[simp] theorem State.modChan_owners (s : State) (n : Nat) (f : ChanState → ChanState) : (s.modChan n f).owners = s.owners := rfl
@[simp] theorem State.modChan_mem (s : State) (n : Nat) (f : ChanState → ChanState) : (s.modChan n f).mem = s.mem := rfl
@[simp] theorem State.modChan_undef (s : State) (n : Nat) (f : ChanState → ChanState) : (s.modChan n f).undef = s.undef := rfl
@[simp] theorem State.modChan_freeCtr (s : State) (n : Nat) (f : ChanState → ChanState) : (s.modChan n f).freeCtr = s.freeCtr := rfl
@[simp] theorem State.modChan_mode (s : State) (n : Nat) (f : ChanState → ChanState) : (s.modChan n f).mode = s.mode := rfl
@[simp] theorem State.modChan_prev (s : State) (n : Nat) (f : ChanState → ChanState) : (s.modChan n f).prev = s.prev := rfl
@[simp] theorem State.modChan_moving (s : State) (n : Nat) (f : ChanState → ChanState) : (s.modChan n f).moving = s.moving := rfl
@[simp] theorem State.modChan_inReset (s : State) (n : Nat) (f : ChanState → ChanState) : (s.modChan n f).inReset = s.inReset := rfl
@[simp] theorem State.modChan_pps (s : State) (n : Nat) (f : ChanState → ChanState) : (s.modChan n f).pps = s.pps := rfl
@[simp] theorem State.modChan_srcs (s : State) (n : Nat) (f : ChanState → ChanState) : (s.modChan n f).srcs = s.srcs := rfl
@[simp] theorem State.modChan_tgts (s : State) (n : Nat) (f : ChanState → ChanState) : (s.modChan n f).tgts = s.tgts := rfl
@[simp] theorem State.modChan_holdOff (s : State) (n : Nat) (f : ChanState → ChanState) : (s.modChan n f).holdOff = s.holdOff := rfl
@[simp] theorem State.modChan_lines (s : State) (n : Nat) (f : ChanState → ChanState) : (s.modChan n f).lines = s.lines := rfl
@[simp] theorem State.modChan_faults (s : State) (n : Nat) (f : ChanState → ChanState) : (s.modChan n f).faults = s.faults := rfl
@[simp] theorem State.modChan_carried (s : State) (n : Nat) (f : ChanState → ChanState) : (s.modChan n f).carried = s.carried := rfl
@[simp] theorem State.modChan_parityBad (s : State) (n : Nat) (f : ChanState → ChanState) : (s.modChan n f).parityBad = s.parityBad := rfl
@[simp] theorem State.modChan_resets (s : State) (n : Nat) (f : ChanState → ChanState) : (s.modChan n f).resets = s.resets := rfl
@[simp] theorem State.modChan_stalled (s : State) (n : Nat) (f : ChanState → ChanState) : (s.modChan n f).stalled = s.stalled := rfl
@[simp] theorem State.modChan_ports (s : State) (n : Nat) (f : ChanState → ChanState) : (s.modChan n f).ports = s.ports := rfl
@[simp] theorem State.modChan_blocks (s : State) (n : Nat) (f : ChanState → ChanState) : (s.modChan n f).blocks = s.blocks := rfl
@[simp] theorem State.modChan_jobs (s : State) (n : Nat) (f : ChanState → ChanState) : (s.modChan n f).jobs = s.jobs := rfl
@[simp] theorem State.modChan_pushes (s : State) (n : Nat) (f : ChanState → ChanState) : (s.modChan n f).pushes = s.pushes := rfl
@[simp] theorem State.modChan_nextUid (s : State) (n : Nat) (f : ChanState → ChanState) : (s.modChan n f).nextUid = s.nextUid := rfl
@[simp] theorem State.modChan_granted (s : State) (n : Nat) (f : ChanState → ChanState) : (s.modChan n f).granted = s.granted := rfl
@[simp] theorem State.modChan_unfencing (s : State) (n : Nat) (f : ChanState → ChanState) : (s.modChan n f).unfencing = s.unfencing := rfl
@[simp] theorem State.modChan_bufCount (s : State) (n : Nat) (f : ChanState → ChanState) : (s.modChan n f).bufCount = s.bufCount := rfl
@[simp] theorem State.modChan_rt (s : State) (n : Nat) (f : ChanState → ChanState) : (s.modChan n f).rt = s.rt := rfl
@[simp] theorem State.modChan_moments (s : State) (n : Nat) (f : ChanState → ChanState) : (s.modChan n f).moments = s.moments := rfl
@[simp] theorem State.modChan_armed (s : State) (n : Nat) (f : ChanState → ChanState) : (s.modChan n f).armed = s.armed := rfl
@[simp] theorem State.modChan_ueWords (s : State) (n : Nat) (f : ChanState → ChanState) : (s.modChan n f).ueWords = s.ueWords := rfl
@[simp] theorem State.modChan_poison (s : State) (n : Nat) (f : ChanState → ChanState) : (s.modChan n f).poison = s.poison := rfl
@[simp] theorem State.modChan_wbq (s : State) (n : Nat) (f : ChanState → ChanState) : (s.modChan n f).wbq = s.wbq := rfl
@[simp] theorem State.modChan_sinceRead (s : State) (n : Nat) (f : ChanState → ChanState) : (s.modChan n f).sinceRead = s.sinceRead := rfl
@[simp] theorem State.modChan_frameTicks (s : State) (n : Nat) (f : ChanState → ChanState) : (s.modChan n f).frameTicks = s.frameTicks := rfl
@[simp] theorem State.modChan_loaderFault (s : State) (n : Nat) (f : ChanState → ChanState) : (s.modChan n f).loaderFault = s.loaderFault := rfl
@[simp] theorem State.modChan_telExtra (s : State) (n : Nat) (f : ChanState → ChanState) : (s.modChan n f).telExtra = s.telExtra := rfl
@[simp] theorem State.modChan_restored (s : State) (n : Nat) (f : ChanState → ChanState) : (s.modChan n f).restored = s.restored := rfl
@[simp] theorem State.modChan_tel (s : State) (n : Nat) (f : ChanState → ChanState) : (s.modChan n f).tel = s.tel := rfl
@[simp] theorem State.modChan_coreUs (s : State) (n : Nat) (f : ChanState → ChanState) : (s.modChan n f).coreUs = s.coreUs := rfl
@[simp] theorem State.modChan_scanFail (s : State) (n : Nat) (f : ChanState → ChanState) : (s.modChan n f).scanFail = s.scanFail := rfl
@[simp] theorem State.modChan_snap (s : State) (n : Nat) (f : ChanState → ChanState) : (s.modChan n f).snap = s.snap := rfl
@[simp] theorem State.modChan_telNext (s : State) (n : Nat) (f : ChanState → ChanState) : (s.modChan n f).telNext = s.telNext := rfl
@[simp] theorem State.modChan_chip (s : State) (n : Nat) (f : ChanState → ChanState) : (s.modChan n f).chip = s.chip := rfl
@[simp] theorem State.modChan_fuses (s : State) (n : Nat) (f : ChanState → ChanState) : (s.modChan n f).fuses = s.fuses := rfl
@[simp] theorem State.modChan_tap (s : State) (n : Nat) (f : ChanState → ChanState) : (s.modChan n f).tap = s.tap := rfl
@[simp] theorem State.modChan_mram (s : State) (n : Nat) (f : ChanState → ChanState) : (s.modChan n f).mram = s.mram := rfl
@[simp] theorem State.modChan_mramBad (s : State) (n : Nat) (f : ChanState → ChanState) : (s.modChan n f).mramBad = s.mramBad := rfl
@[simp] theorem State.modChan_load (s : State) (n : Nat) (f : ChanState → ChanState) : (s.modChan n f).load = s.load := rfl
@[simp] theorem State.modChan_saving (s : State) (n : Nat) (f : ChanState → ChanState) : (s.modChan n f).saving = s.saving := rfl
@[simp] theorem State.modChan_runDigest (s : State) (n : Nat) (f : ChanState → ChanState) : (s.modChan n f).runDigest = s.runDigest := rfl
@[simp] theorem State.modChan_bootGen (s : State) (n : Nat) (f : ChanState → ChanState) : (s.modChan n f).bootGen = s.bootGen := rfl
@[simp] theorem State.modChan_out (s : State) (n : Nat) (f : ChanState → ChanState) : (s.modChan n f).out = s.out := rfl

/-! #### modRt -/

@[simp] theorem State.modRt_pending (s : State) (f : Raster → Raster) : (s.modRt f).pending = s.pending := rfl
@[simp] theorem State.modRt_regs (s : State) (f : Raster → Raster) : (s.modRt f).regs = s.regs := rfl
@[simp] theorem State.modRt_owners (s : State) (f : Raster → Raster) : (s.modRt f).owners = s.owners := rfl
@[simp] theorem State.modRt_mem (s : State) (f : Raster → Raster) : (s.modRt f).mem = s.mem := rfl
@[simp] theorem State.modRt_undef (s : State) (f : Raster → Raster) : (s.modRt f).undef = s.undef := rfl
@[simp] theorem State.modRt_freeCtr (s : State) (f : Raster → Raster) : (s.modRt f).freeCtr = s.freeCtr := rfl
@[simp] theorem State.modRt_mode (s : State) (f : Raster → Raster) : (s.modRt f).mode = s.mode := rfl
@[simp] theorem State.modRt_prev (s : State) (f : Raster → Raster) : (s.modRt f).prev = s.prev := rfl
@[simp] theorem State.modRt_moving (s : State) (f : Raster → Raster) : (s.modRt f).moving = s.moving := rfl
@[simp] theorem State.modRt_inReset (s : State) (f : Raster → Raster) : (s.modRt f).inReset = s.inReset := rfl
@[simp] theorem State.modRt_pps (s : State) (f : Raster → Raster) : (s.modRt f).pps = s.pps := rfl
@[simp] theorem State.modRt_srcs (s : State) (f : Raster → Raster) : (s.modRt f).srcs = s.srcs := rfl
@[simp] theorem State.modRt_tgts (s : State) (f : Raster → Raster) : (s.modRt f).tgts = s.tgts := rfl
@[simp] theorem State.modRt_holdOff (s : State) (f : Raster → Raster) : (s.modRt f).holdOff = s.holdOff := rfl
@[simp] theorem State.modRt_lines (s : State) (f : Raster → Raster) : (s.modRt f).lines = s.lines := rfl
@[simp] theorem State.modRt_faults (s : State) (f : Raster → Raster) : (s.modRt f).faults = s.faults := rfl
@[simp] theorem State.modRt_carried (s : State) (f : Raster → Raster) : (s.modRt f).carried = s.carried := rfl
@[simp] theorem State.modRt_parityBad (s : State) (f : Raster → Raster) : (s.modRt f).parityBad = s.parityBad := rfl
@[simp] theorem State.modRt_resets (s : State) (f : Raster → Raster) : (s.modRt f).resets = s.resets := rfl
@[simp] theorem State.modRt_stalled (s : State) (f : Raster → Raster) : (s.modRt f).stalled = s.stalled := rfl
@[simp] theorem State.modRt_ports (s : State) (f : Raster → Raster) : (s.modRt f).ports = s.ports := rfl
@[simp] theorem State.modRt_blocks (s : State) (f : Raster → Raster) : (s.modRt f).blocks = s.blocks := rfl
@[simp] theorem State.modRt_jobs (s : State) (f : Raster → Raster) : (s.modRt f).jobs = s.jobs := rfl
@[simp] theorem State.modRt_pushes (s : State) (f : Raster → Raster) : (s.modRt f).pushes = s.pushes := rfl
@[simp] theorem State.modRt_nextUid (s : State) (f : Raster → Raster) : (s.modRt f).nextUid = s.nextUid := rfl
@[simp] theorem State.modRt_chans (s : State) (f : Raster → Raster) : (s.modRt f).chans = s.chans := rfl
@[simp] theorem State.modRt_granted (s : State) (f : Raster → Raster) : (s.modRt f).granted = s.granted := rfl
@[simp] theorem State.modRt_unfencing (s : State) (f : Raster → Raster) : (s.modRt f).unfencing = s.unfencing := rfl
@[simp] theorem State.modRt_bufCount (s : State) (f : Raster → Raster) : (s.modRt f).bufCount = s.bufCount := rfl
@[simp] theorem State.modRt_moments (s : State) (f : Raster → Raster) : (s.modRt f).moments = s.moments := rfl
@[simp] theorem State.modRt_armed (s : State) (f : Raster → Raster) : (s.modRt f).armed = s.armed := rfl
@[simp] theorem State.modRt_ueWords (s : State) (f : Raster → Raster) : (s.modRt f).ueWords = s.ueWords := rfl
@[simp] theorem State.modRt_poison (s : State) (f : Raster → Raster) : (s.modRt f).poison = s.poison := rfl
@[simp] theorem State.modRt_wbq (s : State) (f : Raster → Raster) : (s.modRt f).wbq = s.wbq := rfl
@[simp] theorem State.modRt_sinceRead (s : State) (f : Raster → Raster) : (s.modRt f).sinceRead = s.sinceRead := rfl
@[simp] theorem State.modRt_frameTicks (s : State) (f : Raster → Raster) : (s.modRt f).frameTicks = s.frameTicks := rfl
@[simp] theorem State.modRt_loaderFault (s : State) (f : Raster → Raster) : (s.modRt f).loaderFault = s.loaderFault := rfl
@[simp] theorem State.modRt_telExtra (s : State) (f : Raster → Raster) : (s.modRt f).telExtra = s.telExtra := rfl
@[simp] theorem State.modRt_restored (s : State) (f : Raster → Raster) : (s.modRt f).restored = s.restored := rfl
@[simp] theorem State.modRt_tel (s : State) (f : Raster → Raster) : (s.modRt f).tel = s.tel := rfl
@[simp] theorem State.modRt_coreUs (s : State) (f : Raster → Raster) : (s.modRt f).coreUs = s.coreUs := rfl
@[simp] theorem State.modRt_scanFail (s : State) (f : Raster → Raster) : (s.modRt f).scanFail = s.scanFail := rfl
@[simp] theorem State.modRt_snap (s : State) (f : Raster → Raster) : (s.modRt f).snap = s.snap := rfl
@[simp] theorem State.modRt_telNext (s : State) (f : Raster → Raster) : (s.modRt f).telNext = s.telNext := rfl
@[simp] theorem State.modRt_chip (s : State) (f : Raster → Raster) : (s.modRt f).chip = s.chip := rfl
@[simp] theorem State.modRt_fuses (s : State) (f : Raster → Raster) : (s.modRt f).fuses = s.fuses := rfl
@[simp] theorem State.modRt_tap (s : State) (f : Raster → Raster) : (s.modRt f).tap = s.tap := rfl
@[simp] theorem State.modRt_mram (s : State) (f : Raster → Raster) : (s.modRt f).mram = s.mram := rfl
@[simp] theorem State.modRt_mramBad (s : State) (f : Raster → Raster) : (s.modRt f).mramBad = s.mramBad := rfl
@[simp] theorem State.modRt_load (s : State) (f : Raster → Raster) : (s.modRt f).load = s.load := rfl
@[simp] theorem State.modRt_saving (s : State) (f : Raster → Raster) : (s.modRt f).saving = s.saving := rfl
@[simp] theorem State.modRt_runDigest (s : State) (f : Raster → Raster) : (s.modRt f).runDigest = s.runDigest := rfl
@[simp] theorem State.modRt_bootGen (s : State) (f : Raster → Raster) : (s.modRt f).bootGen = s.bootGen := rfl
@[simp] theorem State.modRt_out (s : State) (f : Raster → Raster) : (s.modRt f).out = s.out := rfl

/-! #### emit -/

@[simp] theorem State.emit_pending (s : State) (o : Out) : (s.emit o).pending = s.pending := rfl
@[simp] theorem State.emit_regs (s : State) (o : Out) : (s.emit o).regs = s.regs := rfl
@[simp] theorem State.emit_owners (s : State) (o : Out) : (s.emit o).owners = s.owners := rfl
@[simp] theorem State.emit_mem (s : State) (o : Out) : (s.emit o).mem = s.mem := rfl
@[simp] theorem State.emit_undef (s : State) (o : Out) : (s.emit o).undef = s.undef := rfl
@[simp] theorem State.emit_freeCtr (s : State) (o : Out) : (s.emit o).freeCtr = s.freeCtr := rfl
@[simp] theorem State.emit_mode (s : State) (o : Out) : (s.emit o).mode = s.mode := rfl
@[simp] theorem State.emit_prev (s : State) (o : Out) : (s.emit o).prev = s.prev := rfl
@[simp] theorem State.emit_moving (s : State) (o : Out) : (s.emit o).moving = s.moving := rfl
@[simp] theorem State.emit_inReset (s : State) (o : Out) : (s.emit o).inReset = s.inReset := rfl
@[simp] theorem State.emit_pps (s : State) (o : Out) : (s.emit o).pps = s.pps := rfl
@[simp] theorem State.emit_srcs (s : State) (o : Out) : (s.emit o).srcs = s.srcs := rfl
@[simp] theorem State.emit_tgts (s : State) (o : Out) : (s.emit o).tgts = s.tgts := rfl
@[simp] theorem State.emit_holdOff (s : State) (o : Out) : (s.emit o).holdOff = s.holdOff := rfl
@[simp] theorem State.emit_lines (s : State) (o : Out) : (s.emit o).lines = s.lines := rfl
@[simp] theorem State.emit_faults (s : State) (o : Out) : (s.emit o).faults = s.faults := rfl
@[simp] theorem State.emit_carried (s : State) (o : Out) : (s.emit o).carried = s.carried := rfl
@[simp] theorem State.emit_parityBad (s : State) (o : Out) : (s.emit o).parityBad = s.parityBad := rfl
@[simp] theorem State.emit_resets (s : State) (o : Out) : (s.emit o).resets = s.resets := rfl
@[simp] theorem State.emit_stalled (s : State) (o : Out) : (s.emit o).stalled = s.stalled := rfl
@[simp] theorem State.emit_ports (s : State) (o : Out) : (s.emit o).ports = s.ports := rfl
@[simp] theorem State.emit_blocks (s : State) (o : Out) : (s.emit o).blocks = s.blocks := rfl
@[simp] theorem State.emit_jobs (s : State) (o : Out) : (s.emit o).jobs = s.jobs := rfl
@[simp] theorem State.emit_pushes (s : State) (o : Out) : (s.emit o).pushes = s.pushes := rfl
@[simp] theorem State.emit_nextUid (s : State) (o : Out) : (s.emit o).nextUid = s.nextUid := rfl
@[simp] theorem State.emit_chans (s : State) (o : Out) : (s.emit o).chans = s.chans := rfl
@[simp] theorem State.emit_granted (s : State) (o : Out) : (s.emit o).granted = s.granted := rfl
@[simp] theorem State.emit_unfencing (s : State) (o : Out) : (s.emit o).unfencing = s.unfencing := rfl
@[simp] theorem State.emit_bufCount (s : State) (o : Out) : (s.emit o).bufCount = s.bufCount := rfl
@[simp] theorem State.emit_rt (s : State) (o : Out) : (s.emit o).rt = s.rt := rfl
@[simp] theorem State.emit_moments (s : State) (o : Out) : (s.emit o).moments = s.moments := rfl
@[simp] theorem State.emit_armed (s : State) (o : Out) : (s.emit o).armed = s.armed := rfl
@[simp] theorem State.emit_ueWords (s : State) (o : Out) : (s.emit o).ueWords = s.ueWords := rfl
@[simp] theorem State.emit_poison (s : State) (o : Out) : (s.emit o).poison = s.poison := rfl
@[simp] theorem State.emit_wbq (s : State) (o : Out) : (s.emit o).wbq = s.wbq := rfl
@[simp] theorem State.emit_sinceRead (s : State) (o : Out) : (s.emit o).sinceRead = s.sinceRead := rfl
@[simp] theorem State.emit_frameTicks (s : State) (o : Out) : (s.emit o).frameTicks = s.frameTicks := rfl
@[simp] theorem State.emit_loaderFault (s : State) (o : Out) : (s.emit o).loaderFault = s.loaderFault := rfl
@[simp] theorem State.emit_telExtra (s : State) (o : Out) : (s.emit o).telExtra = s.telExtra := rfl
@[simp] theorem State.emit_restored (s : State) (o : Out) : (s.emit o).restored = s.restored := rfl
@[simp] theorem State.emit_tel (s : State) (o : Out) : (s.emit o).tel = s.tel := rfl
@[simp] theorem State.emit_coreUs (s : State) (o : Out) : (s.emit o).coreUs = s.coreUs := rfl
@[simp] theorem State.emit_scanFail (s : State) (o : Out) : (s.emit o).scanFail = s.scanFail := rfl
@[simp] theorem State.emit_snap (s : State) (o : Out) : (s.emit o).snap = s.snap := rfl
@[simp] theorem State.emit_telNext (s : State) (o : Out) : (s.emit o).telNext = s.telNext := rfl
@[simp] theorem State.emit_chip (s : State) (o : Out) : (s.emit o).chip = s.chip := rfl
@[simp] theorem State.emit_fuses (s : State) (o : Out) : (s.emit o).fuses = s.fuses := rfl
@[simp] theorem State.emit_tap (s : State) (o : Out) : (s.emit o).tap = s.tap := rfl
@[simp] theorem State.emit_mram (s : State) (o : Out) : (s.emit o).mram = s.mram := rfl
@[simp] theorem State.emit_mramBad (s : State) (o : Out) : (s.emit o).mramBad = s.mramBad := rfl
@[simp] theorem State.emit_load (s : State) (o : Out) : (s.emit o).load = s.load := rfl
@[simp] theorem State.emit_saving (s : State) (o : Out) : (s.emit o).saving = s.saving := rfl
@[simp] theorem State.emit_runDigest (s : State) (o : Out) : (s.emit o).runDigest = s.runDigest := rfl
@[simp] theorem State.emit_bootGen (s : State) (o : Out) : (s.emit o).bootGen = s.bootGen := rfl

/-! #### fault -/

@[simp] theorem State.fault_pending (s : State) (l : Nat) (x : FaultSrc) : (s.fault l x).pending = s.pending := rfl
@[simp] theorem State.fault_regs (s : State) (l : Nat) (x : FaultSrc) : (s.fault l x).regs = s.regs := rfl
@[simp] theorem State.fault_owners (s : State) (l : Nat) (x : FaultSrc) : (s.fault l x).owners = s.owners := rfl
@[simp] theorem State.fault_mem (s : State) (l : Nat) (x : FaultSrc) : (s.fault l x).mem = s.mem := rfl
@[simp] theorem State.fault_undef (s : State) (l : Nat) (x : FaultSrc) : (s.fault l x).undef = s.undef := rfl
@[simp] theorem State.fault_freeCtr (s : State) (l : Nat) (x : FaultSrc) : (s.fault l x).freeCtr = s.freeCtr := rfl
@[simp] theorem State.fault_mode (s : State) (l : Nat) (x : FaultSrc) : (s.fault l x).mode = s.mode := rfl
@[simp] theorem State.fault_prev (s : State) (l : Nat) (x : FaultSrc) : (s.fault l x).prev = s.prev := rfl
@[simp] theorem State.fault_moving (s : State) (l : Nat) (x : FaultSrc) : (s.fault l x).moving = s.moving := rfl
@[simp] theorem State.fault_inReset (s : State) (l : Nat) (x : FaultSrc) : (s.fault l x).inReset = s.inReset := rfl
@[simp] theorem State.fault_pps (s : State) (l : Nat) (x : FaultSrc) : (s.fault l x).pps = s.pps := rfl
@[simp] theorem State.fault_srcs (s : State) (l : Nat) (x : FaultSrc) : (s.fault l x).srcs = s.srcs := rfl
@[simp] theorem State.fault_tgts (s : State) (l : Nat) (x : FaultSrc) : (s.fault l x).tgts = s.tgts := rfl
@[simp] theorem State.fault_holdOff (s : State) (l : Nat) (x : FaultSrc) : (s.fault l x).holdOff = s.holdOff := rfl
@[simp] theorem State.fault_lines (s : State) (l : Nat) (x : FaultSrc) : (s.fault l x).lines = s.lines := rfl
@[simp] theorem State.fault_carried (s : State) (l : Nat) (x : FaultSrc) : (s.fault l x).carried = s.carried := rfl
@[simp] theorem State.fault_parityBad (s : State) (l : Nat) (x : FaultSrc) : (s.fault l x).parityBad = s.parityBad := rfl
@[simp] theorem State.fault_resets (s : State) (l : Nat) (x : FaultSrc) : (s.fault l x).resets = s.resets := rfl
@[simp] theorem State.fault_stalled (s : State) (l : Nat) (x : FaultSrc) : (s.fault l x).stalled = s.stalled := rfl
@[simp] theorem State.fault_ports (s : State) (l : Nat) (x : FaultSrc) : (s.fault l x).ports = s.ports := rfl
@[simp] theorem State.fault_blocks (s : State) (l : Nat) (x : FaultSrc) : (s.fault l x).blocks = s.blocks := rfl
@[simp] theorem State.fault_jobs (s : State) (l : Nat) (x : FaultSrc) : (s.fault l x).jobs = s.jobs := rfl
@[simp] theorem State.fault_pushes (s : State) (l : Nat) (x : FaultSrc) : (s.fault l x).pushes = s.pushes := rfl
@[simp] theorem State.fault_nextUid (s : State) (l : Nat) (x : FaultSrc) : (s.fault l x).nextUid = s.nextUid := rfl
@[simp] theorem State.fault_chans (s : State) (l : Nat) (x : FaultSrc) : (s.fault l x).chans = s.chans := rfl
@[simp] theorem State.fault_granted (s : State) (l : Nat) (x : FaultSrc) : (s.fault l x).granted = s.granted := rfl
@[simp] theorem State.fault_unfencing (s : State) (l : Nat) (x : FaultSrc) : (s.fault l x).unfencing = s.unfencing := rfl
@[simp] theorem State.fault_bufCount (s : State) (l : Nat) (x : FaultSrc) : (s.fault l x).bufCount = s.bufCount := rfl
@[simp] theorem State.fault_rt (s : State) (l : Nat) (x : FaultSrc) : (s.fault l x).rt = s.rt := rfl
@[simp] theorem State.fault_moments (s : State) (l : Nat) (x : FaultSrc) : (s.fault l x).moments = s.moments := rfl
@[simp] theorem State.fault_armed (s : State) (l : Nat) (x : FaultSrc) : (s.fault l x).armed = s.armed := rfl
@[simp] theorem State.fault_ueWords (s : State) (l : Nat) (x : FaultSrc) : (s.fault l x).ueWords = s.ueWords := rfl
@[simp] theorem State.fault_poison (s : State) (l : Nat) (x : FaultSrc) : (s.fault l x).poison = s.poison := rfl
@[simp] theorem State.fault_wbq (s : State) (l : Nat) (x : FaultSrc) : (s.fault l x).wbq = s.wbq := rfl
@[simp] theorem State.fault_sinceRead (s : State) (l : Nat) (x : FaultSrc) : (s.fault l x).sinceRead = s.sinceRead := rfl
@[simp] theorem State.fault_frameTicks (s : State) (l : Nat) (x : FaultSrc) : (s.fault l x).frameTicks = s.frameTicks := rfl
@[simp] theorem State.fault_loaderFault (s : State) (l : Nat) (x : FaultSrc) : (s.fault l x).loaderFault = s.loaderFault := rfl
@[simp] theorem State.fault_telExtra (s : State) (l : Nat) (x : FaultSrc) : (s.fault l x).telExtra = s.telExtra := rfl
@[simp] theorem State.fault_restored (s : State) (l : Nat) (x : FaultSrc) : (s.fault l x).restored = s.restored := rfl
@[simp] theorem State.fault_tel (s : State) (l : Nat) (x : FaultSrc) : (s.fault l x).tel = s.tel := rfl
@[simp] theorem State.fault_coreUs (s : State) (l : Nat) (x : FaultSrc) : (s.fault l x).coreUs = s.coreUs := rfl
@[simp] theorem State.fault_scanFail (s : State) (l : Nat) (x : FaultSrc) : (s.fault l x).scanFail = s.scanFail := rfl
@[simp] theorem State.fault_snap (s : State) (l : Nat) (x : FaultSrc) : (s.fault l x).snap = s.snap := rfl
@[simp] theorem State.fault_telNext (s : State) (l : Nat) (x : FaultSrc) : (s.fault l x).telNext = s.telNext := rfl
@[simp] theorem State.fault_chip (s : State) (l : Nat) (x : FaultSrc) : (s.fault l x).chip = s.chip := rfl
@[simp] theorem State.fault_fuses (s : State) (l : Nat) (x : FaultSrc) : (s.fault l x).fuses = s.fuses := rfl
@[simp] theorem State.fault_tap (s : State) (l : Nat) (x : FaultSrc) : (s.fault l x).tap = s.tap := rfl
@[simp] theorem State.fault_mram (s : State) (l : Nat) (x : FaultSrc) : (s.fault l x).mram = s.mram := rfl
@[simp] theorem State.fault_mramBad (s : State) (l : Nat) (x : FaultSrc) : (s.fault l x).mramBad = s.mramBad := rfl
@[simp] theorem State.fault_load (s : State) (l : Nat) (x : FaultSrc) : (s.fault l x).load = s.load := rfl
@[simp] theorem State.fault_saving (s : State) (l : Nat) (x : FaultSrc) : (s.fault l x).saving = s.saving := rfl
@[simp] theorem State.fault_runDigest (s : State) (l : Nat) (x : FaultSrc) : (s.fault l x).runDigest = s.runDigest := rfl
@[simp] theorem State.fault_bootGen (s : State) (l : Nat) (x : FaultSrc) : (s.fault l x).bootGen = s.bootGen := rfl
@[simp] theorem State.fault_out (s : State) (l : Nat) (x : FaultSrc) : (s.fault l x).out = s.out := rfl

/-! #### tally -/

@[simp] theorem State.tally_pending (s : State) (o n : Nat) : (s.tally o n).pending = s.pending := rfl
@[simp] theorem State.tally_regs (s : State) (o n : Nat) : (s.tally o n).regs = s.regs := rfl
@[simp] theorem State.tally_owners (s : State) (o n : Nat) : (s.tally o n).owners = s.owners := rfl
@[simp] theorem State.tally_mem (s : State) (o n : Nat) : (s.tally o n).mem = s.mem := rfl
@[simp] theorem State.tally_undef (s : State) (o n : Nat) : (s.tally o n).undef = s.undef := rfl
@[simp] theorem State.tally_freeCtr (s : State) (o n : Nat) : (s.tally o n).freeCtr = s.freeCtr := rfl
@[simp] theorem State.tally_mode (s : State) (o n : Nat) : (s.tally o n).mode = s.mode := rfl
@[simp] theorem State.tally_prev (s : State) (o n : Nat) : (s.tally o n).prev = s.prev := rfl
@[simp] theorem State.tally_moving (s : State) (o n : Nat) : (s.tally o n).moving = s.moving := rfl
@[simp] theorem State.tally_inReset (s : State) (o n : Nat) : (s.tally o n).inReset = s.inReset := rfl
@[simp] theorem State.tally_pps (s : State) (o n : Nat) : (s.tally o n).pps = s.pps := rfl
@[simp] theorem State.tally_srcs (s : State) (o n : Nat) : (s.tally o n).srcs = s.srcs := rfl
@[simp] theorem State.tally_tgts (s : State) (o n : Nat) : (s.tally o n).tgts = s.tgts := rfl
@[simp] theorem State.tally_holdOff (s : State) (o n : Nat) : (s.tally o n).holdOff = s.holdOff := rfl
@[simp] theorem State.tally_lines (s : State) (o n : Nat) : (s.tally o n).lines = s.lines := rfl
@[simp] theorem State.tally_faults (s : State) (o n : Nat) : (s.tally o n).faults = s.faults := rfl
@[simp] theorem State.tally_carried (s : State) (o n : Nat) : (s.tally o n).carried = s.carried := rfl
@[simp] theorem State.tally_parityBad (s : State) (o n : Nat) : (s.tally o n).parityBad = s.parityBad := rfl
@[simp] theorem State.tally_resets (s : State) (o n : Nat) : (s.tally o n).resets = s.resets := rfl
@[simp] theorem State.tally_stalled (s : State) (o n : Nat) : (s.tally o n).stalled = s.stalled := rfl
@[simp] theorem State.tally_ports (s : State) (o n : Nat) : (s.tally o n).ports = s.ports := rfl
@[simp] theorem State.tally_blocks (s : State) (o n : Nat) : (s.tally o n).blocks = s.blocks := rfl
@[simp] theorem State.tally_jobs (s : State) (o n : Nat) : (s.tally o n).jobs = s.jobs := rfl
@[simp] theorem State.tally_pushes (s : State) (o n : Nat) : (s.tally o n).pushes = s.pushes := rfl
@[simp] theorem State.tally_nextUid (s : State) (o n : Nat) : (s.tally o n).nextUid = s.nextUid := rfl
@[simp] theorem State.tally_chans (s : State) (o n : Nat) : (s.tally o n).chans = s.chans := rfl
@[simp] theorem State.tally_granted (s : State) (o n : Nat) : (s.tally o n).granted = s.granted := rfl
@[simp] theorem State.tally_unfencing (s : State) (o n : Nat) : (s.tally o n).unfencing = s.unfencing := rfl
@[simp] theorem State.tally_bufCount (s : State) (o n : Nat) : (s.tally o n).bufCount = s.bufCount := rfl
@[simp] theorem State.tally_rt (s : State) (o n : Nat) : (s.tally o n).rt = s.rt := rfl
@[simp] theorem State.tally_moments (s : State) (o n : Nat) : (s.tally o n).moments = s.moments := rfl
@[simp] theorem State.tally_armed (s : State) (o n : Nat) : (s.tally o n).armed = s.armed := rfl
@[simp] theorem State.tally_ueWords (s : State) (o n : Nat) : (s.tally o n).ueWords = s.ueWords := rfl
@[simp] theorem State.tally_poison (s : State) (o n : Nat) : (s.tally o n).poison = s.poison := rfl
@[simp] theorem State.tally_wbq (s : State) (o n : Nat) : (s.tally o n).wbq = s.wbq := rfl
@[simp] theorem State.tally_sinceRead (s : State) (o n : Nat) : (s.tally o n).sinceRead = s.sinceRead := rfl
@[simp] theorem State.tally_frameTicks (s : State) (o n : Nat) : (s.tally o n).frameTicks = s.frameTicks := rfl
@[simp] theorem State.tally_loaderFault (s : State) (o n : Nat) : (s.tally o n).loaderFault = s.loaderFault := rfl
@[simp] theorem State.tally_telExtra (s : State) (o n : Nat) : (s.tally o n).telExtra = s.telExtra := rfl
@[simp] theorem State.tally_restored (s : State) (o n : Nat) : (s.tally o n).restored = s.restored := rfl
@[simp] theorem State.tally_coreUs (s : State) (o n : Nat) : (s.tally o n).coreUs = s.coreUs := rfl
@[simp] theorem State.tally_scanFail (s : State) (o n : Nat) : (s.tally o n).scanFail = s.scanFail := rfl
@[simp] theorem State.tally_snap (s : State) (o n : Nat) : (s.tally o n).snap = s.snap := rfl
@[simp] theorem State.tally_telNext (s : State) (o n : Nat) : (s.tally o n).telNext = s.telNext := rfl
@[simp] theorem State.tally_chip (s : State) (o n : Nat) : (s.tally o n).chip = s.chip := rfl
@[simp] theorem State.tally_fuses (s : State) (o n : Nat) : (s.tally o n).fuses = s.fuses := rfl
@[simp] theorem State.tally_tap (s : State) (o n : Nat) : (s.tally o n).tap = s.tap := rfl
@[simp] theorem State.tally_mram (s : State) (o n : Nat) : (s.tally o n).mram = s.mram := rfl
@[simp] theorem State.tally_mramBad (s : State) (o n : Nat) : (s.tally o n).mramBad = s.mramBad := rfl
@[simp] theorem State.tally_load (s : State) (o n : Nat) : (s.tally o n).load = s.load := rfl
@[simp] theorem State.tally_saving (s : State) (o n : Nat) : (s.tally o n).saving = s.saving := rfl
@[simp] theorem State.tally_runDigest (s : State) (o n : Nat) : (s.tally o n).runDigest = s.runDigest := rfl
@[simp] theorem State.tally_bootGen (s : State) (o n : Nat) : (s.tally o n).bootGen = s.bootGen := rfl
@[simp] theorem State.tally_out (s : State) (o n : Nat) : (s.tally o n).out = s.out := rfl

/-! #### Derived register updates -/

@[simp] theorem State.wrB_eq (s : State) (p : Nat) (f : Field) (b : Bool) (i : Nat) : s.wrB p f b i = s.wr p f (if b then 1 else 0) i := rfl
@[simp] theorem State.bump_eq (s : State) (p : Nat) (f : Field) (n i : Nat) : s.bump p f n i = s.wr p f (min (s.rd p f i + n) (2 ^ f.w - 1)) i := rfl
@[simp] theorem State.adv_eq (s : State) (p : Nat) (f : Field) (n i : Nat) : s.adv p f n i = s.wr p f (s.rd p f i + n) i := rfl
@[simp] theorem State.orBits_eq (s : State) (p : Nat) (f : Field) (b i : Nat) : s.orBits p f b i = s.wr p f (s.rd p f i ||| b) i := rfl

/-! ### A field read after a write -/

@[simp] theorem State.rd_wr_self (s : State) (p : Nat) (f : Field) (v i : Nat) : (s.wr p f v i).rd p f i = v % 2 ^ f.w := by
  simp [State.wr, State.rd]

theorem State.rd_wr_ne (s : State) {p q : Nat} {f g : Field} (v : Nat) {i j : Nat} (h : fieldKey p f i ≠ fieldKey q g j) :
    (s.wr p f v i).rd q g j = s.rd q g j := by
  simp [State.wr, State.rd, mapGet_mapSet_ne, h]

theorem State.regs_wr_ne (s : State) {p : Nat} {f : Field} (v : Nat) {i k : Nat} (h : fieldKey p f i ≠ k) :
    mapGet? (s.wr p f v i).regs k = mapGet? s.regs k := mapGet?_mapSet_ne _ _ _ h

/-- Reads see registers only. -/
theorem State.rd_congr {s t : State} (h : s.regs = t.regs) (p : Nat) (f : Field) (i : Nat) : s.rd p f i = t.rd p f i := by
  unfold State.rd; rw [h]

/-- Fields whose keys agree outside a list read the same. -/
theorem State.regsBut_rd {s t : State} {l : List Nat} (h : s.regsBut t l) {p : Nat} {f : Field} {i : Nat}
    (hk : fieldKey p f i ∉ l) : t.rd p f i = s.rd p f i := by
  unfold State.rd mapGet
  rw [h _ hk]

@[simp] theorem State.modPp_rd (s : State) (n : Nat) (f : PpState → PpState) (p : Nat) (g : Field) (i : Nat) : (s.modPp n f).rd p g i = s.rd p g i := rfl
@[simp] theorem State.modTgt_rd (s : State) (n : Nat) (f : TgtState → TgtState) (p : Nat) (g : Field) (i : Nat) : (s.modTgt n f).rd p g i = s.rd p g i := rfl
@[simp] theorem State.modSrc_rd (s : State) (n : Nat) (f : IntSrc → IntSrc) (p : Nat) (g : Field) (i : Nat) : (s.modSrc n f).rd p g i = s.rd p g i := rfl
@[simp] theorem State.modLine_rd (s : State) (n : Nat) (f : LineState → LineState) (p : Nat) (g : Field) (i : Nat) : (s.modLine n f).rd p g i = s.rd p g i := rfl
@[simp] theorem State.modPort_rd (s : State) (n : Nat) (f : PortState → PortState) (p : Nat) (g : Field) (i : Nat) : (s.modPort n f).rd p g i = s.rd p g i := rfl
@[simp] theorem State.modChan_rd (s : State) (n : Nat) (f : ChanState → ChanState) (p : Nat) (g : Field) (i : Nat) : (s.modChan n f).rd p g i = s.rd p g i := rfl
@[simp] theorem State.modRt_rd (s : State) (f : Raster → Raster) (p : Nat) (g : Field) (i : Nat) : (s.modRt f).rd p g i = s.rd p g i := rfl
@[simp] theorem State.emit_rd (s : State) (o : Out) (p : Nat) (g : Field) (i : Nat) : (s.emit o).rd p g i = s.rd p g i := rfl
@[simp] theorem State.fault_rd (s : State) (l : Nat) (x : FaultSrc) (p : Nat) (g : Field) (i : Nat) : (s.fault l x).rd p g i = s.rd p g i := rfl
@[simp] theorem State.tally_rd (s : State) (o n : Nat) (p : Nat) (g : Field) (i : Nat) : (s.tally o n).rd p g i = s.rd p g i := rfl

/-! ### Instances -/

@[simp] theorem State.modPp_pp_self (s : State) (n : Nat) (f : PpState → PpState) : (s.modPp n f).pp n = f (s.pp n) := by
  simp [State.modPp, State.pp, mapGet_mapMod]
theorem State.modPp_pp_ne (s : State) {n k : Nat} (f : PpState → PpState) (h : n ≠ k) : (s.modPp n f).pp k = s.pp k := by
  simp [State.modPp, State.pp, mapGet_mapMod, h]
@[simp] theorem State.wr_pp (s : State) (p : Nat) (f : Field) (v i n : Nat) : (s.wr p f v i).pp n = s.pp n := rfl
@[simp] theorem State.modTgt_tgt_self (s : State) (n : Nat) (f : TgtState → TgtState) : (s.modTgt n f).tgt n = f (s.tgt n) := by
  simp [State.modTgt, State.tgt, mapGet_mapMod]
theorem State.modTgt_tgt_ne (s : State) {n k : Nat} (f : TgtState → TgtState) (h : n ≠ k) : (s.modTgt n f).tgt k = s.tgt k := by
  simp [State.modTgt, State.tgt, mapGet_mapMod, h]
@[simp] theorem State.wr_tgt (s : State) (p : Nat) (f : Field) (v i n : Nat) : (s.wr p f v i).tgt n = s.tgt n := rfl
@[simp] theorem State.modSrc_src_self (s : State) (n : Nat) (f : IntSrc → IntSrc) : (s.modSrc n f).src n = f (s.src n) := by
  simp [State.modSrc, State.src, mapGet_mapMod]
theorem State.modSrc_src_ne (s : State) {n k : Nat} (f : IntSrc → IntSrc) (h : n ≠ k) : (s.modSrc n f).src k = s.src k := by
  simp [State.modSrc, State.src, mapGet_mapMod, h]
@[simp] theorem State.wr_src (s : State) (p : Nat) (f : Field) (v i n : Nat) : (s.wr p f v i).src n = s.src n := rfl
@[simp] theorem State.modLine_line_self (s : State) (n : Nat) (f : LineState → LineState) : (s.modLine n f).line n = f (s.line n) := by
  simp [State.modLine, State.line, mapGet_mapMod]
theorem State.modLine_line_ne (s : State) {n k : Nat} (f : LineState → LineState) (h : n ≠ k) : (s.modLine n f).line k = s.line k := by
  simp [State.modLine, State.line, mapGet_mapMod, h]
@[simp] theorem State.wr_line (s : State) (p : Nat) (f : Field) (v i n : Nat) : (s.wr p f v i).line n = s.line n := rfl
@[simp] theorem State.modPort_port_self (s : State) (n : Nat) (f : PortState → PortState) : (s.modPort n f).port n = f (s.port n) := by
  simp [State.modPort, State.port, mapGet_mapMod]
theorem State.modPort_port_ne (s : State) {n k : Nat} (f : PortState → PortState) (h : n ≠ k) : (s.modPort n f).port k = s.port k := by
  simp [State.modPort, State.port, mapGet_mapMod, h]
@[simp] theorem State.wr_port (s : State) (p : Nat) (f : Field) (v i n : Nat) : (s.wr p f v i).port n = s.port n := rfl
@[simp] theorem State.modChan_chan_self (s : State) (n : Nat) (f : ChanState → ChanState) : (s.modChan n f).chan n = f (s.chan n) := by
  simp [State.modChan, State.chan, mapGet_mapMod]
theorem State.modChan_chan_ne (s : State) {n k : Nat} (f : ChanState → ChanState) (h : n ≠ k) : (s.modChan n f).chan k = s.chan k := by
  simp [State.modChan, State.chan, mapGet_mapMod, h]
@[simp] theorem State.wr_chan (s : State) (p : Nat) (f : Field) (v i n : Nat) : (s.wr p f v i).chan n = s.chan n := rfl

/-! ### Events, page flags, commands and refusals: what they leave alone -/

@[simp] theorem State.startDelay_pending (s : State) (k : Nat) : (s.startDelay k).pending = s.pending := by
  unfold State.startDelay
  try dsimp only
  repeat' split
  all_goals simp
@[simp] theorem State.startDelay_regs (s : State) (k : Nat) : (s.startDelay k).regs = s.regs := by
  unfold State.startDelay
  try dsimp only
  repeat' split
  all_goals simp
@[simp] theorem State.startDelay_owners (s : State) (k : Nat) : (s.startDelay k).owners = s.owners := by
  unfold State.startDelay
  try dsimp only
  repeat' split
  all_goals simp
@[simp] theorem State.startDelay_mem (s : State) (k : Nat) : (s.startDelay k).mem = s.mem := by
  unfold State.startDelay
  try dsimp only
  repeat' split
  all_goals simp
@[simp] theorem State.startDelay_undef (s : State) (k : Nat) : (s.startDelay k).undef = s.undef := by
  unfold State.startDelay
  try dsimp only
  repeat' split
  all_goals simp
@[simp] theorem State.startDelay_freeCtr (s : State) (k : Nat) : (s.startDelay k).freeCtr = s.freeCtr := by
  unfold State.startDelay
  try dsimp only
  repeat' split
  all_goals simp
@[simp] theorem State.startDelay_mode (s : State) (k : Nat) : (s.startDelay k).mode = s.mode := by
  unfold State.startDelay
  try dsimp only
  repeat' split
  all_goals simp
@[simp] theorem State.startDelay_prev (s : State) (k : Nat) : (s.startDelay k).prev = s.prev := by
  unfold State.startDelay
  try dsimp only
  repeat' split
  all_goals simp
@[simp] theorem State.startDelay_moving (s : State) (k : Nat) : (s.startDelay k).moving = s.moving := by
  unfold State.startDelay
  try dsimp only
  repeat' split
  all_goals simp
@[simp] theorem State.startDelay_inReset (s : State) (k : Nat) : (s.startDelay k).inReset = s.inReset := by
  unfold State.startDelay
  try dsimp only
  repeat' split
  all_goals simp
@[simp] theorem State.startDelay_pps (s : State) (k : Nat) : (s.startDelay k).pps = s.pps := by
  unfold State.startDelay
  try dsimp only
  repeat' split
  all_goals simp
@[simp] theorem State.startDelay_tgts (s : State) (k : Nat) : (s.startDelay k).tgts = s.tgts := by
  unfold State.startDelay
  try dsimp only
  repeat' split
  all_goals simp
@[simp] theorem State.startDelay_holdOff (s : State) (k : Nat) : (s.startDelay k).holdOff = s.holdOff := by
  unfold State.startDelay
  try dsimp only
  repeat' split
  all_goals simp
@[simp] theorem State.startDelay_lines (s : State) (k : Nat) : (s.startDelay k).lines = s.lines := by
  unfold State.startDelay
  try dsimp only
  repeat' split
  all_goals simp
@[simp] theorem State.startDelay_faults (s : State) (k : Nat) : (s.startDelay k).faults = s.faults := by
  unfold State.startDelay
  try dsimp only
  repeat' split
  all_goals simp
@[simp] theorem State.startDelay_carried (s : State) (k : Nat) : (s.startDelay k).carried = s.carried := by
  unfold State.startDelay
  try dsimp only
  repeat' split
  all_goals simp
@[simp] theorem State.startDelay_parityBad (s : State) (k : Nat) : (s.startDelay k).parityBad = s.parityBad := by
  unfold State.startDelay
  try dsimp only
  repeat' split
  all_goals simp
@[simp] theorem State.startDelay_resets (s : State) (k : Nat) : (s.startDelay k).resets = s.resets := by
  unfold State.startDelay
  try dsimp only
  repeat' split
  all_goals simp
@[simp] theorem State.startDelay_stalled (s : State) (k : Nat) : (s.startDelay k).stalled = s.stalled := by
  unfold State.startDelay
  try dsimp only
  repeat' split
  all_goals simp
@[simp] theorem State.startDelay_ports (s : State) (k : Nat) : (s.startDelay k).ports = s.ports := by
  unfold State.startDelay
  try dsimp only
  repeat' split
  all_goals simp
@[simp] theorem State.startDelay_blocks (s : State) (k : Nat) : (s.startDelay k).blocks = s.blocks := by
  unfold State.startDelay
  try dsimp only
  repeat' split
  all_goals simp
@[simp] theorem State.startDelay_jobs (s : State) (k : Nat) : (s.startDelay k).jobs = s.jobs := by
  unfold State.startDelay
  try dsimp only
  repeat' split
  all_goals simp
@[simp] theorem State.startDelay_pushes (s : State) (k : Nat) : (s.startDelay k).pushes = s.pushes := by
  unfold State.startDelay
  try dsimp only
  repeat' split
  all_goals simp
@[simp] theorem State.startDelay_nextUid (s : State) (k : Nat) : (s.startDelay k).nextUid = s.nextUid := by
  unfold State.startDelay
  try dsimp only
  repeat' split
  all_goals simp
@[simp] theorem State.startDelay_chans (s : State) (k : Nat) : (s.startDelay k).chans = s.chans := by
  unfold State.startDelay
  try dsimp only
  repeat' split
  all_goals simp
@[simp] theorem State.startDelay_granted (s : State) (k : Nat) : (s.startDelay k).granted = s.granted := by
  unfold State.startDelay
  try dsimp only
  repeat' split
  all_goals simp
@[simp] theorem State.startDelay_unfencing (s : State) (k : Nat) : (s.startDelay k).unfencing = s.unfencing := by
  unfold State.startDelay
  try dsimp only
  repeat' split
  all_goals simp
@[simp] theorem State.startDelay_bufCount (s : State) (k : Nat) : (s.startDelay k).bufCount = s.bufCount := by
  unfold State.startDelay
  try dsimp only
  repeat' split
  all_goals simp
@[simp] theorem State.startDelay_rt (s : State) (k : Nat) : (s.startDelay k).rt = s.rt := by
  unfold State.startDelay
  try dsimp only
  repeat' split
  all_goals simp
@[simp] theorem State.startDelay_moments (s : State) (k : Nat) : (s.startDelay k).moments = s.moments := by
  unfold State.startDelay
  try dsimp only
  repeat' split
  all_goals simp
@[simp] theorem State.startDelay_armed (s : State) (k : Nat) : (s.startDelay k).armed = s.armed := by
  unfold State.startDelay
  try dsimp only
  repeat' split
  all_goals simp
@[simp] theorem State.startDelay_ueWords (s : State) (k : Nat) : (s.startDelay k).ueWords = s.ueWords := by
  unfold State.startDelay
  try dsimp only
  repeat' split
  all_goals simp
@[simp] theorem State.startDelay_poison (s : State) (k : Nat) : (s.startDelay k).poison = s.poison := by
  unfold State.startDelay
  try dsimp only
  repeat' split
  all_goals simp
@[simp] theorem State.startDelay_wbq (s : State) (k : Nat) : (s.startDelay k).wbq = s.wbq := by
  unfold State.startDelay
  try dsimp only
  repeat' split
  all_goals simp
@[simp] theorem State.startDelay_sinceRead (s : State) (k : Nat) : (s.startDelay k).sinceRead = s.sinceRead := by
  unfold State.startDelay
  try dsimp only
  repeat' split
  all_goals simp
@[simp] theorem State.startDelay_frameTicks (s : State) (k : Nat) : (s.startDelay k).frameTicks = s.frameTicks := by
  unfold State.startDelay
  try dsimp only
  repeat' split
  all_goals simp
@[simp] theorem State.startDelay_loaderFault (s : State) (k : Nat) : (s.startDelay k).loaderFault = s.loaderFault := by
  unfold State.startDelay
  try dsimp only
  repeat' split
  all_goals simp
@[simp] theorem State.startDelay_telExtra (s : State) (k : Nat) : (s.startDelay k).telExtra = s.telExtra := by
  unfold State.startDelay
  try dsimp only
  repeat' split
  all_goals simp
@[simp] theorem State.startDelay_restored (s : State) (k : Nat) : (s.startDelay k).restored = s.restored := by
  unfold State.startDelay
  try dsimp only
  repeat' split
  all_goals simp
@[simp] theorem State.startDelay_tel (s : State) (k : Nat) : (s.startDelay k).tel = s.tel := by
  unfold State.startDelay
  try dsimp only
  repeat' split
  all_goals simp
@[simp] theorem State.startDelay_coreUs (s : State) (k : Nat) : (s.startDelay k).coreUs = s.coreUs := by
  unfold State.startDelay
  try dsimp only
  repeat' split
  all_goals simp
@[simp] theorem State.startDelay_scanFail (s : State) (k : Nat) : (s.startDelay k).scanFail = s.scanFail := by
  unfold State.startDelay
  try dsimp only
  repeat' split
  all_goals simp
@[simp] theorem State.startDelay_snap (s : State) (k : Nat) : (s.startDelay k).snap = s.snap := by
  unfold State.startDelay
  try dsimp only
  repeat' split
  all_goals simp
@[simp] theorem State.startDelay_telNext (s : State) (k : Nat) : (s.startDelay k).telNext = s.telNext := by
  unfold State.startDelay
  try dsimp only
  repeat' split
  all_goals simp
@[simp] theorem State.startDelay_chip (s : State) (k : Nat) : (s.startDelay k).chip = s.chip := by
  unfold State.startDelay
  try dsimp only
  repeat' split
  all_goals simp
@[simp] theorem State.startDelay_fuses (s : State) (k : Nat) : (s.startDelay k).fuses = s.fuses := by
  unfold State.startDelay
  try dsimp only
  repeat' split
  all_goals simp
@[simp] theorem State.startDelay_tap (s : State) (k : Nat) : (s.startDelay k).tap = s.tap := by
  unfold State.startDelay
  try dsimp only
  repeat' split
  all_goals simp
@[simp] theorem State.startDelay_mram (s : State) (k : Nat) : (s.startDelay k).mram = s.mram := by
  unfold State.startDelay
  try dsimp only
  repeat' split
  all_goals simp
@[simp] theorem State.startDelay_mramBad (s : State) (k : Nat) : (s.startDelay k).mramBad = s.mramBad := by
  unfold State.startDelay
  try dsimp only
  repeat' split
  all_goals simp
@[simp] theorem State.startDelay_load (s : State) (k : Nat) : (s.startDelay k).load = s.load := by
  unfold State.startDelay
  try dsimp only
  repeat' split
  all_goals simp
@[simp] theorem State.startDelay_saving (s : State) (k : Nat) : (s.startDelay k).saving = s.saving := by
  unfold State.startDelay
  try dsimp only
  repeat' split
  all_goals simp
@[simp] theorem State.startDelay_runDigest (s : State) (k : Nat) : (s.startDelay k).runDigest = s.runDigest := by
  unfold State.startDelay
  try dsimp only
  repeat' split
  all_goals simp
@[simp] theorem State.startDelay_bootGen (s : State) (k : Nat) : (s.startDelay k).bootGen = s.bootGen := by
  unfold State.startDelay
  try dsimp only
  repeat' split
  all_goals simp
@[simp] theorem State.startDelay_out (s : State) (k : Nat) : (s.startDelay k).out = s.out := by
  unfold State.startDelay
  try dsimp only
  repeat' split
  all_goals simp
@[simp] theorem State.startDelay_rd (s : State) (k : Nat) (p : Nat) (g : Field) (i : Nat) : (s.startDelay k).rd p g i = s.rd p g i :=
  State.rd_congr (State.startDelay_regs ..) ..
@[simp] theorem State.event_pending (s : State) (k : Nat) : (s.event k).pending = s.pending := by
  unfold State.event
  try dsimp only
  repeat' split
  all_goals simp
@[simp] theorem State.event_regs (s : State) (k : Nat) : (s.event k).regs = s.regs := by
  unfold State.event
  try dsimp only
  repeat' split
  all_goals simp
@[simp] theorem State.event_owners (s : State) (k : Nat) : (s.event k).owners = s.owners := by
  unfold State.event
  try dsimp only
  repeat' split
  all_goals simp
@[simp] theorem State.event_mem (s : State) (k : Nat) : (s.event k).mem = s.mem := by
  unfold State.event
  try dsimp only
  repeat' split
  all_goals simp
@[simp] theorem State.event_undef (s : State) (k : Nat) : (s.event k).undef = s.undef := by
  unfold State.event
  try dsimp only
  repeat' split
  all_goals simp
@[simp] theorem State.event_freeCtr (s : State) (k : Nat) : (s.event k).freeCtr = s.freeCtr := by
  unfold State.event
  try dsimp only
  repeat' split
  all_goals simp
@[simp] theorem State.event_mode (s : State) (k : Nat) : (s.event k).mode = s.mode := by
  unfold State.event
  try dsimp only
  repeat' split
  all_goals simp
@[simp] theorem State.event_prev (s : State) (k : Nat) : (s.event k).prev = s.prev := by
  unfold State.event
  try dsimp only
  repeat' split
  all_goals simp
@[simp] theorem State.event_moving (s : State) (k : Nat) : (s.event k).moving = s.moving := by
  unfold State.event
  try dsimp only
  repeat' split
  all_goals simp
@[simp] theorem State.event_inReset (s : State) (k : Nat) : (s.event k).inReset = s.inReset := by
  unfold State.event
  try dsimp only
  repeat' split
  all_goals simp
@[simp] theorem State.event_pps (s : State) (k : Nat) : (s.event k).pps = s.pps := by
  unfold State.event
  try dsimp only
  repeat' split
  all_goals simp
@[simp] theorem State.event_tgts (s : State) (k : Nat) : (s.event k).tgts = s.tgts := by
  unfold State.event
  try dsimp only
  repeat' split
  all_goals simp
@[simp] theorem State.event_holdOff (s : State) (k : Nat) : (s.event k).holdOff = s.holdOff := by
  unfold State.event
  try dsimp only
  repeat' split
  all_goals simp
@[simp] theorem State.event_lines (s : State) (k : Nat) : (s.event k).lines = s.lines := by
  unfold State.event
  try dsimp only
  repeat' split
  all_goals simp
@[simp] theorem State.event_faults (s : State) (k : Nat) : (s.event k).faults = s.faults := by
  unfold State.event
  try dsimp only
  repeat' split
  all_goals simp
@[simp] theorem State.event_carried (s : State) (k : Nat) : (s.event k).carried = s.carried := by
  unfold State.event
  try dsimp only
  repeat' split
  all_goals simp
@[simp] theorem State.event_parityBad (s : State) (k : Nat) : (s.event k).parityBad = s.parityBad := by
  unfold State.event
  try dsimp only
  repeat' split
  all_goals simp
@[simp] theorem State.event_resets (s : State) (k : Nat) : (s.event k).resets = s.resets := by
  unfold State.event
  try dsimp only
  repeat' split
  all_goals simp
@[simp] theorem State.event_stalled (s : State) (k : Nat) : (s.event k).stalled = s.stalled := by
  unfold State.event
  try dsimp only
  repeat' split
  all_goals simp
@[simp] theorem State.event_ports (s : State) (k : Nat) : (s.event k).ports = s.ports := by
  unfold State.event
  try dsimp only
  repeat' split
  all_goals simp
@[simp] theorem State.event_blocks (s : State) (k : Nat) : (s.event k).blocks = s.blocks := by
  unfold State.event
  try dsimp only
  repeat' split
  all_goals simp
@[simp] theorem State.event_jobs (s : State) (k : Nat) : (s.event k).jobs = s.jobs := by
  unfold State.event
  try dsimp only
  repeat' split
  all_goals simp
@[simp] theorem State.event_pushes (s : State) (k : Nat) : (s.event k).pushes = s.pushes := by
  unfold State.event
  try dsimp only
  repeat' split
  all_goals simp
@[simp] theorem State.event_nextUid (s : State) (k : Nat) : (s.event k).nextUid = s.nextUid := by
  unfold State.event
  try dsimp only
  repeat' split
  all_goals simp
@[simp] theorem State.event_chans (s : State) (k : Nat) : (s.event k).chans = s.chans := by
  unfold State.event
  try dsimp only
  repeat' split
  all_goals simp
@[simp] theorem State.event_granted (s : State) (k : Nat) : (s.event k).granted = s.granted := by
  unfold State.event
  try dsimp only
  repeat' split
  all_goals simp
@[simp] theorem State.event_unfencing (s : State) (k : Nat) : (s.event k).unfencing = s.unfencing := by
  unfold State.event
  try dsimp only
  repeat' split
  all_goals simp
@[simp] theorem State.event_bufCount (s : State) (k : Nat) : (s.event k).bufCount = s.bufCount := by
  unfold State.event
  try dsimp only
  repeat' split
  all_goals simp
@[simp] theorem State.event_rt (s : State) (k : Nat) : (s.event k).rt = s.rt := by
  unfold State.event
  try dsimp only
  repeat' split
  all_goals simp
@[simp] theorem State.event_moments (s : State) (k : Nat) : (s.event k).moments = s.moments := by
  unfold State.event
  try dsimp only
  repeat' split
  all_goals simp
@[simp] theorem State.event_armed (s : State) (k : Nat) : (s.event k).armed = s.armed := by
  unfold State.event
  try dsimp only
  repeat' split
  all_goals simp
@[simp] theorem State.event_ueWords (s : State) (k : Nat) : (s.event k).ueWords = s.ueWords := by
  unfold State.event
  try dsimp only
  repeat' split
  all_goals simp
@[simp] theorem State.event_poison (s : State) (k : Nat) : (s.event k).poison = s.poison := by
  unfold State.event
  try dsimp only
  repeat' split
  all_goals simp
@[simp] theorem State.event_wbq (s : State) (k : Nat) : (s.event k).wbq = s.wbq := by
  unfold State.event
  try dsimp only
  repeat' split
  all_goals simp
@[simp] theorem State.event_sinceRead (s : State) (k : Nat) : (s.event k).sinceRead = s.sinceRead := by
  unfold State.event
  try dsimp only
  repeat' split
  all_goals simp
@[simp] theorem State.event_frameTicks (s : State) (k : Nat) : (s.event k).frameTicks = s.frameTicks := by
  unfold State.event
  try dsimp only
  repeat' split
  all_goals simp
@[simp] theorem State.event_loaderFault (s : State) (k : Nat) : (s.event k).loaderFault = s.loaderFault := by
  unfold State.event
  try dsimp only
  repeat' split
  all_goals simp
@[simp] theorem State.event_telExtra (s : State) (k : Nat) : (s.event k).telExtra = s.telExtra := by
  unfold State.event
  try dsimp only
  repeat' split
  all_goals simp
@[simp] theorem State.event_restored (s : State) (k : Nat) : (s.event k).restored = s.restored := by
  unfold State.event
  try dsimp only
  repeat' split
  all_goals simp
@[simp] theorem State.event_tel (s : State) (k : Nat) : (s.event k).tel = s.tel := by
  unfold State.event
  try dsimp only
  repeat' split
  all_goals simp
@[simp] theorem State.event_coreUs (s : State) (k : Nat) : (s.event k).coreUs = s.coreUs := by
  unfold State.event
  try dsimp only
  repeat' split
  all_goals simp
@[simp] theorem State.event_scanFail (s : State) (k : Nat) : (s.event k).scanFail = s.scanFail := by
  unfold State.event
  try dsimp only
  repeat' split
  all_goals simp
@[simp] theorem State.event_snap (s : State) (k : Nat) : (s.event k).snap = s.snap := by
  unfold State.event
  try dsimp only
  repeat' split
  all_goals simp
@[simp] theorem State.event_telNext (s : State) (k : Nat) : (s.event k).telNext = s.telNext := by
  unfold State.event
  try dsimp only
  repeat' split
  all_goals simp
@[simp] theorem State.event_chip (s : State) (k : Nat) : (s.event k).chip = s.chip := by
  unfold State.event
  try dsimp only
  repeat' split
  all_goals simp
@[simp] theorem State.event_fuses (s : State) (k : Nat) : (s.event k).fuses = s.fuses := by
  unfold State.event
  try dsimp only
  repeat' split
  all_goals simp
@[simp] theorem State.event_tap (s : State) (k : Nat) : (s.event k).tap = s.tap := by
  unfold State.event
  try dsimp only
  repeat' split
  all_goals simp
@[simp] theorem State.event_mram (s : State) (k : Nat) : (s.event k).mram = s.mram := by
  unfold State.event
  try dsimp only
  repeat' split
  all_goals simp
@[simp] theorem State.event_mramBad (s : State) (k : Nat) : (s.event k).mramBad = s.mramBad := by
  unfold State.event
  try dsimp only
  repeat' split
  all_goals simp
@[simp] theorem State.event_load (s : State) (k : Nat) : (s.event k).load = s.load := by
  unfold State.event
  try dsimp only
  repeat' split
  all_goals simp
@[simp] theorem State.event_saving (s : State) (k : Nat) : (s.event k).saving = s.saving := by
  unfold State.event
  try dsimp only
  repeat' split
  all_goals simp
@[simp] theorem State.event_runDigest (s : State) (k : Nat) : (s.event k).runDigest = s.runDigest := by
  unfold State.event
  try dsimp only
  repeat' split
  all_goals simp
@[simp] theorem State.event_bootGen (s : State) (k : Nat) : (s.event k).bootGen = s.bootGen := by
  unfold State.event
  try dsimp only
  repeat' split
  all_goals simp
@[simp] theorem State.event_out (s : State) (k : Nat) : (s.event k).out = s.out := by
  unfold State.event
  try dsimp only
  repeat' split
  all_goals simp
@[simp] theorem State.event_rd (s : State) (k : Nat) (p : Nat) (g : Field) (i : Nat) : (s.event k).rd p g i = s.rd p g i :=
  State.rd_congr (State.event_regs ..) ..
@[simp] theorem State.pageRise_pending (s : State) (p : Nat) (w : Bool) : (s.pageRise p w).pending = s.pending := by
  unfold State.pageRise
  try dsimp only
  repeat' split
  all_goals simp
@[simp] theorem State.pageRise_regs (s : State) (p : Nat) (w : Bool) : (s.pageRise p w).regs = s.regs := by
  unfold State.pageRise
  try dsimp only
  repeat' split
  all_goals simp
@[simp] theorem State.pageRise_owners (s : State) (p : Nat) (w : Bool) : (s.pageRise p w).owners = s.owners := by
  unfold State.pageRise
  try dsimp only
  repeat' split
  all_goals simp
@[simp] theorem State.pageRise_mem (s : State) (p : Nat) (w : Bool) : (s.pageRise p w).mem = s.mem := by
  unfold State.pageRise
  try dsimp only
  repeat' split
  all_goals simp
@[simp] theorem State.pageRise_undef (s : State) (p : Nat) (w : Bool) : (s.pageRise p w).undef = s.undef := by
  unfold State.pageRise
  try dsimp only
  repeat' split
  all_goals simp
@[simp] theorem State.pageRise_freeCtr (s : State) (p : Nat) (w : Bool) : (s.pageRise p w).freeCtr = s.freeCtr := by
  unfold State.pageRise
  try dsimp only
  repeat' split
  all_goals simp
@[simp] theorem State.pageRise_mode (s : State) (p : Nat) (w : Bool) : (s.pageRise p w).mode = s.mode := by
  unfold State.pageRise
  try dsimp only
  repeat' split
  all_goals simp
@[simp] theorem State.pageRise_prev (s : State) (p : Nat) (w : Bool) : (s.pageRise p w).prev = s.prev := by
  unfold State.pageRise
  try dsimp only
  repeat' split
  all_goals simp
@[simp] theorem State.pageRise_moving (s : State) (p : Nat) (w : Bool) : (s.pageRise p w).moving = s.moving := by
  unfold State.pageRise
  try dsimp only
  repeat' split
  all_goals simp
@[simp] theorem State.pageRise_inReset (s : State) (p : Nat) (w : Bool) : (s.pageRise p w).inReset = s.inReset := by
  unfold State.pageRise
  try dsimp only
  repeat' split
  all_goals simp
@[simp] theorem State.pageRise_tgts (s : State) (p : Nat) (w : Bool) : (s.pageRise p w).tgts = s.tgts := by
  unfold State.pageRise
  try dsimp only
  repeat' split
  all_goals simp
@[simp] theorem State.pageRise_holdOff (s : State) (p : Nat) (w : Bool) : (s.pageRise p w).holdOff = s.holdOff := by
  unfold State.pageRise
  try dsimp only
  repeat' split
  all_goals simp
@[simp] theorem State.pageRise_lines (s : State) (p : Nat) (w : Bool) : (s.pageRise p w).lines = s.lines := by
  unfold State.pageRise
  try dsimp only
  repeat' split
  all_goals simp
@[simp] theorem State.pageRise_faults (s : State) (p : Nat) (w : Bool) : (s.pageRise p w).faults = s.faults := by
  unfold State.pageRise
  try dsimp only
  repeat' split
  all_goals simp
@[simp] theorem State.pageRise_carried (s : State) (p : Nat) (w : Bool) : (s.pageRise p w).carried = s.carried := by
  unfold State.pageRise
  try dsimp only
  repeat' split
  all_goals simp
@[simp] theorem State.pageRise_parityBad (s : State) (p : Nat) (w : Bool) : (s.pageRise p w).parityBad = s.parityBad := by
  unfold State.pageRise
  try dsimp only
  repeat' split
  all_goals simp
@[simp] theorem State.pageRise_resets (s : State) (p : Nat) (w : Bool) : (s.pageRise p w).resets = s.resets := by
  unfold State.pageRise
  try dsimp only
  repeat' split
  all_goals simp
@[simp] theorem State.pageRise_stalled (s : State) (p : Nat) (w : Bool) : (s.pageRise p w).stalled = s.stalled := by
  unfold State.pageRise
  try dsimp only
  repeat' split
  all_goals simp
@[simp] theorem State.pageRise_ports (s : State) (p : Nat) (w : Bool) : (s.pageRise p w).ports = s.ports := by
  unfold State.pageRise
  try dsimp only
  repeat' split
  all_goals simp
@[simp] theorem State.pageRise_blocks (s : State) (p : Nat) (w : Bool) : (s.pageRise p w).blocks = s.blocks := by
  unfold State.pageRise
  try dsimp only
  repeat' split
  all_goals simp
@[simp] theorem State.pageRise_jobs (s : State) (p : Nat) (w : Bool) : (s.pageRise p w).jobs = s.jobs := by
  unfold State.pageRise
  try dsimp only
  repeat' split
  all_goals simp
@[simp] theorem State.pageRise_pushes (s : State) (p : Nat) (w : Bool) : (s.pageRise p w).pushes = s.pushes := by
  unfold State.pageRise
  try dsimp only
  repeat' split
  all_goals simp
@[simp] theorem State.pageRise_nextUid (s : State) (p : Nat) (w : Bool) : (s.pageRise p w).nextUid = s.nextUid := by
  unfold State.pageRise
  try dsimp only
  repeat' split
  all_goals simp
@[simp] theorem State.pageRise_chans (s : State) (p : Nat) (w : Bool) : (s.pageRise p w).chans = s.chans := by
  unfold State.pageRise
  try dsimp only
  repeat' split
  all_goals simp
@[simp] theorem State.pageRise_granted (s : State) (p : Nat) (w : Bool) : (s.pageRise p w).granted = s.granted := by
  unfold State.pageRise
  try dsimp only
  repeat' split
  all_goals simp
@[simp] theorem State.pageRise_unfencing (s : State) (p : Nat) (w : Bool) : (s.pageRise p w).unfencing = s.unfencing := by
  unfold State.pageRise
  try dsimp only
  repeat' split
  all_goals simp
@[simp] theorem State.pageRise_bufCount (s : State) (p : Nat) (w : Bool) : (s.pageRise p w).bufCount = s.bufCount := by
  unfold State.pageRise
  try dsimp only
  repeat' split
  all_goals simp
@[simp] theorem State.pageRise_rt (s : State) (p : Nat) (w : Bool) : (s.pageRise p w).rt = s.rt := by
  unfold State.pageRise
  try dsimp only
  repeat' split
  all_goals simp
@[simp] theorem State.pageRise_moments (s : State) (p : Nat) (w : Bool) : (s.pageRise p w).moments = s.moments := by
  unfold State.pageRise
  try dsimp only
  repeat' split
  all_goals simp
@[simp] theorem State.pageRise_armed (s : State) (p : Nat) (w : Bool) : (s.pageRise p w).armed = s.armed := by
  unfold State.pageRise
  try dsimp only
  repeat' split
  all_goals simp
@[simp] theorem State.pageRise_ueWords (s : State) (p : Nat) (w : Bool) : (s.pageRise p w).ueWords = s.ueWords := by
  unfold State.pageRise
  try dsimp only
  repeat' split
  all_goals simp
@[simp] theorem State.pageRise_poison (s : State) (p : Nat) (w : Bool) : (s.pageRise p w).poison = s.poison := by
  unfold State.pageRise
  try dsimp only
  repeat' split
  all_goals simp
@[simp] theorem State.pageRise_wbq (s : State) (p : Nat) (w : Bool) : (s.pageRise p w).wbq = s.wbq := by
  unfold State.pageRise
  try dsimp only
  repeat' split
  all_goals simp
@[simp] theorem State.pageRise_sinceRead (s : State) (p : Nat) (w : Bool) : (s.pageRise p w).sinceRead = s.sinceRead := by
  unfold State.pageRise
  try dsimp only
  repeat' split
  all_goals simp
@[simp] theorem State.pageRise_frameTicks (s : State) (p : Nat) (w : Bool) : (s.pageRise p w).frameTicks = s.frameTicks := by
  unfold State.pageRise
  try dsimp only
  repeat' split
  all_goals simp
@[simp] theorem State.pageRise_loaderFault (s : State) (p : Nat) (w : Bool) : (s.pageRise p w).loaderFault = s.loaderFault := by
  unfold State.pageRise
  try dsimp only
  repeat' split
  all_goals simp
@[simp] theorem State.pageRise_telExtra (s : State) (p : Nat) (w : Bool) : (s.pageRise p w).telExtra = s.telExtra := by
  unfold State.pageRise
  try dsimp only
  repeat' split
  all_goals simp
@[simp] theorem State.pageRise_restored (s : State) (p : Nat) (w : Bool) : (s.pageRise p w).restored = s.restored := by
  unfold State.pageRise
  try dsimp only
  repeat' split
  all_goals simp
@[simp] theorem State.pageRise_tel (s : State) (p : Nat) (w : Bool) : (s.pageRise p w).tel = s.tel := by
  unfold State.pageRise
  try dsimp only
  repeat' split
  all_goals simp
@[simp] theorem State.pageRise_coreUs (s : State) (p : Nat) (w : Bool) : (s.pageRise p w).coreUs = s.coreUs := by
  unfold State.pageRise
  try dsimp only
  repeat' split
  all_goals simp
@[simp] theorem State.pageRise_scanFail (s : State) (p : Nat) (w : Bool) : (s.pageRise p w).scanFail = s.scanFail := by
  unfold State.pageRise
  try dsimp only
  repeat' split
  all_goals simp
@[simp] theorem State.pageRise_snap (s : State) (p : Nat) (w : Bool) : (s.pageRise p w).snap = s.snap := by
  unfold State.pageRise
  try dsimp only
  repeat' split
  all_goals simp
@[simp] theorem State.pageRise_telNext (s : State) (p : Nat) (w : Bool) : (s.pageRise p w).telNext = s.telNext := by
  unfold State.pageRise
  try dsimp only
  repeat' split
  all_goals simp
@[simp] theorem State.pageRise_chip (s : State) (p : Nat) (w : Bool) : (s.pageRise p w).chip = s.chip := by
  unfold State.pageRise
  try dsimp only
  repeat' split
  all_goals simp
@[simp] theorem State.pageRise_fuses (s : State) (p : Nat) (w : Bool) : (s.pageRise p w).fuses = s.fuses := by
  unfold State.pageRise
  try dsimp only
  repeat' split
  all_goals simp
@[simp] theorem State.pageRise_tap (s : State) (p : Nat) (w : Bool) : (s.pageRise p w).tap = s.tap := by
  unfold State.pageRise
  try dsimp only
  repeat' split
  all_goals simp
@[simp] theorem State.pageRise_mram (s : State) (p : Nat) (w : Bool) : (s.pageRise p w).mram = s.mram := by
  unfold State.pageRise
  try dsimp only
  repeat' split
  all_goals simp
@[simp] theorem State.pageRise_mramBad (s : State) (p : Nat) (w : Bool) : (s.pageRise p w).mramBad = s.mramBad := by
  unfold State.pageRise
  try dsimp only
  repeat' split
  all_goals simp
@[simp] theorem State.pageRise_load (s : State) (p : Nat) (w : Bool) : (s.pageRise p w).load = s.load := by
  unfold State.pageRise
  try dsimp only
  repeat' split
  all_goals simp
@[simp] theorem State.pageRise_saving (s : State) (p : Nat) (w : Bool) : (s.pageRise p w).saving = s.saving := by
  unfold State.pageRise
  try dsimp only
  repeat' split
  all_goals simp
@[simp] theorem State.pageRise_runDigest (s : State) (p : Nat) (w : Bool) : (s.pageRise p w).runDigest = s.runDigest := by
  unfold State.pageRise
  try dsimp only
  repeat' split
  all_goals simp
@[simp] theorem State.pageRise_bootGen (s : State) (p : Nat) (w : Bool) : (s.pageRise p w).bootGen = s.bootGen := by
  unfold State.pageRise
  try dsimp only
  repeat' split
  all_goals simp
@[simp] theorem State.pageRise_out (s : State) (p : Nat) (w : Bool) : (s.pageRise p w).out = s.out := by
  unfold State.pageRise
  try dsimp only
  repeat' split
  all_goals simp
@[simp] theorem State.pageRise_rd (s : State) (q : Nat) (w : Bool) (p : Nat) (g : Field) (i : Nat) : (s.pageRise q w).rd p g i = s.rd p g i :=
  State.rd_congr (State.pageRise_regs ..) ..
@[simp] theorem State.irq_pending (s : State) (p b : Nat) : (s.irq p b).pending = s.pending := by simp [State.irq]
@[simp] theorem State.irq_owners (s : State) (p b : Nat) : (s.irq p b).owners = s.owners := by simp [State.irq]
@[simp] theorem State.irq_mem (s : State) (p b : Nat) : (s.irq p b).mem = s.mem := by simp [State.irq]
@[simp] theorem State.irq_undef (s : State) (p b : Nat) : (s.irq p b).undef = s.undef := by simp [State.irq]
@[simp] theorem State.irq_freeCtr (s : State) (p b : Nat) : (s.irq p b).freeCtr = s.freeCtr := by simp [State.irq]
@[simp] theorem State.irq_mode (s : State) (p b : Nat) : (s.irq p b).mode = s.mode := by simp [State.irq]
@[simp] theorem State.irq_prev (s : State) (p b : Nat) : (s.irq p b).prev = s.prev := by simp [State.irq]
@[simp] theorem State.irq_moving (s : State) (p b : Nat) : (s.irq p b).moving = s.moving := by simp [State.irq]
@[simp] theorem State.irq_inReset (s : State) (p b : Nat) : (s.irq p b).inReset = s.inReset := by simp [State.irq]
@[simp] theorem State.irq_tgts (s : State) (p b : Nat) : (s.irq p b).tgts = s.tgts := by simp [State.irq]
@[simp] theorem State.irq_holdOff (s : State) (p b : Nat) : (s.irq p b).holdOff = s.holdOff := by simp [State.irq]
@[simp] theorem State.irq_lines (s : State) (p b : Nat) : (s.irq p b).lines = s.lines := by simp [State.irq]
@[simp] theorem State.irq_faults (s : State) (p b : Nat) : (s.irq p b).faults = s.faults := by simp [State.irq]
@[simp] theorem State.irq_carried (s : State) (p b : Nat) : (s.irq p b).carried = s.carried := by simp [State.irq]
@[simp] theorem State.irq_parityBad (s : State) (p b : Nat) : (s.irq p b).parityBad = s.parityBad := by simp [State.irq]
@[simp] theorem State.irq_resets (s : State) (p b : Nat) : (s.irq p b).resets = s.resets := by simp [State.irq]
@[simp] theorem State.irq_stalled (s : State) (p b : Nat) : (s.irq p b).stalled = s.stalled := by simp [State.irq]
@[simp] theorem State.irq_ports (s : State) (p b : Nat) : (s.irq p b).ports = s.ports := by simp [State.irq]
@[simp] theorem State.irq_blocks (s : State) (p b : Nat) : (s.irq p b).blocks = s.blocks := by simp [State.irq]
@[simp] theorem State.irq_jobs (s : State) (p b : Nat) : (s.irq p b).jobs = s.jobs := by simp [State.irq]
@[simp] theorem State.irq_pushes (s : State) (p b : Nat) : (s.irq p b).pushes = s.pushes := by simp [State.irq]
@[simp] theorem State.irq_nextUid (s : State) (p b : Nat) : (s.irq p b).nextUid = s.nextUid := by simp [State.irq]
@[simp] theorem State.irq_chans (s : State) (p b : Nat) : (s.irq p b).chans = s.chans := by simp [State.irq]
@[simp] theorem State.irq_granted (s : State) (p b : Nat) : (s.irq p b).granted = s.granted := by simp [State.irq]
@[simp] theorem State.irq_unfencing (s : State) (p b : Nat) : (s.irq p b).unfencing = s.unfencing := by simp [State.irq]
@[simp] theorem State.irq_bufCount (s : State) (p b : Nat) : (s.irq p b).bufCount = s.bufCount := by simp [State.irq]
@[simp] theorem State.irq_rt (s : State) (p b : Nat) : (s.irq p b).rt = s.rt := by simp [State.irq]
@[simp] theorem State.irq_moments (s : State) (p b : Nat) : (s.irq p b).moments = s.moments := by simp [State.irq]
@[simp] theorem State.irq_armed (s : State) (p b : Nat) : (s.irq p b).armed = s.armed := by simp [State.irq]
@[simp] theorem State.irq_ueWords (s : State) (p b : Nat) : (s.irq p b).ueWords = s.ueWords := by simp [State.irq]
@[simp] theorem State.irq_poison (s : State) (p b : Nat) : (s.irq p b).poison = s.poison := by simp [State.irq]
@[simp] theorem State.irq_wbq (s : State) (p b : Nat) : (s.irq p b).wbq = s.wbq := by simp [State.irq]
@[simp] theorem State.irq_sinceRead (s : State) (p b : Nat) : (s.irq p b).sinceRead = s.sinceRead := by simp [State.irq]
@[simp] theorem State.irq_frameTicks (s : State) (p b : Nat) : (s.irq p b).frameTicks = s.frameTicks := by simp [State.irq]
@[simp] theorem State.irq_loaderFault (s : State) (p b : Nat) : (s.irq p b).loaderFault = s.loaderFault := by simp [State.irq]
@[simp] theorem State.irq_telExtra (s : State) (p b : Nat) : (s.irq p b).telExtra = s.telExtra := by simp [State.irq]
@[simp] theorem State.irq_restored (s : State) (p b : Nat) : (s.irq p b).restored = s.restored := by simp [State.irq]
@[simp] theorem State.irq_tel (s : State) (p b : Nat) : (s.irq p b).tel = s.tel := by simp [State.irq]
@[simp] theorem State.irq_coreUs (s : State) (p b : Nat) : (s.irq p b).coreUs = s.coreUs := by simp [State.irq]
@[simp] theorem State.irq_scanFail (s : State) (p b : Nat) : (s.irq p b).scanFail = s.scanFail := by simp [State.irq]
@[simp] theorem State.irq_snap (s : State) (p b : Nat) : (s.irq p b).snap = s.snap := by simp [State.irq]
@[simp] theorem State.irq_telNext (s : State) (p b : Nat) : (s.irq p b).telNext = s.telNext := by simp [State.irq]
@[simp] theorem State.irq_chip (s : State) (p b : Nat) : (s.irq p b).chip = s.chip := by simp [State.irq]
@[simp] theorem State.irq_fuses (s : State) (p b : Nat) : (s.irq p b).fuses = s.fuses := by simp [State.irq]
@[simp] theorem State.irq_tap (s : State) (p b : Nat) : (s.irq p b).tap = s.tap := by simp [State.irq]
@[simp] theorem State.irq_mram (s : State) (p b : Nat) : (s.irq p b).mram = s.mram := by simp [State.irq]
@[simp] theorem State.irq_mramBad (s : State) (p b : Nat) : (s.irq p b).mramBad = s.mramBad := by simp [State.irq]
@[simp] theorem State.irq_load (s : State) (p b : Nat) : (s.irq p b).load = s.load := by simp [State.irq]
@[simp] theorem State.irq_saving (s : State) (p b : Nat) : (s.irq p b).saving = s.saving := by simp [State.irq]
@[simp] theorem State.irq_runDigest (s : State) (p b : Nat) : (s.irq p b).runDigest = s.runDigest := by simp [State.irq]
@[simp] theorem State.irq_bootGen (s : State) (p b : Nat) : (s.irq p b).bootGen = s.bootGen := by simp [State.irq]
@[simp] theorem State.irq_out (s : State) (p b : Nat) : (s.irq p b).out = s.out := by simp [State.irq]
@[simp] theorem State.endClaim_pending (s : State) (k : Nat) : (s.endClaim k).pending = s.pending := by
  unfold State.endClaim
  try dsimp only
  repeat' split
  all_goals simp
@[simp] theorem State.endClaim_regs (s : State) (k : Nat) : (s.endClaim k).regs = s.regs := by
  unfold State.endClaim
  try dsimp only
  repeat' split
  all_goals simp
@[simp] theorem State.endClaim_owners (s : State) (k : Nat) : (s.endClaim k).owners = s.owners := by
  unfold State.endClaim
  try dsimp only
  repeat' split
  all_goals simp
@[simp] theorem State.endClaim_mem (s : State) (k : Nat) : (s.endClaim k).mem = s.mem := by
  unfold State.endClaim
  try dsimp only
  repeat' split
  all_goals simp
@[simp] theorem State.endClaim_undef (s : State) (k : Nat) : (s.endClaim k).undef = s.undef := by
  unfold State.endClaim
  try dsimp only
  repeat' split
  all_goals simp
@[simp] theorem State.endClaim_freeCtr (s : State) (k : Nat) : (s.endClaim k).freeCtr = s.freeCtr := by
  unfold State.endClaim
  try dsimp only
  repeat' split
  all_goals simp
@[simp] theorem State.endClaim_mode (s : State) (k : Nat) : (s.endClaim k).mode = s.mode := by
  unfold State.endClaim
  try dsimp only
  repeat' split
  all_goals simp
@[simp] theorem State.endClaim_prev (s : State) (k : Nat) : (s.endClaim k).prev = s.prev := by
  unfold State.endClaim
  try dsimp only
  repeat' split
  all_goals simp
@[simp] theorem State.endClaim_moving (s : State) (k : Nat) : (s.endClaim k).moving = s.moving := by
  unfold State.endClaim
  try dsimp only
  repeat' split
  all_goals simp
@[simp] theorem State.endClaim_inReset (s : State) (k : Nat) : (s.endClaim k).inReset = s.inReset := by
  unfold State.endClaim
  try dsimp only
  repeat' split
  all_goals simp
@[simp] theorem State.endClaim_pps (s : State) (k : Nat) : (s.endClaim k).pps = s.pps := by
  unfold State.endClaim
  try dsimp only
  repeat' split
  all_goals simp
@[simp] theorem State.endClaim_tgts (s : State) (k : Nat) : (s.endClaim k).tgts = s.tgts := by
  unfold State.endClaim
  try dsimp only
  repeat' split
  all_goals simp
@[simp] theorem State.endClaim_holdOff (s : State) (k : Nat) : (s.endClaim k).holdOff = s.holdOff := by
  unfold State.endClaim
  try dsimp only
  repeat' split
  all_goals simp
@[simp] theorem State.endClaim_lines (s : State) (k : Nat) : (s.endClaim k).lines = s.lines := by
  unfold State.endClaim
  try dsimp only
  repeat' split
  all_goals simp
@[simp] theorem State.endClaim_faults (s : State) (k : Nat) : (s.endClaim k).faults = s.faults := by
  unfold State.endClaim
  try dsimp only
  repeat' split
  all_goals simp
@[simp] theorem State.endClaim_carried (s : State) (k : Nat) : (s.endClaim k).carried = s.carried := by
  unfold State.endClaim
  try dsimp only
  repeat' split
  all_goals simp
@[simp] theorem State.endClaim_parityBad (s : State) (k : Nat) : (s.endClaim k).parityBad = s.parityBad := by
  unfold State.endClaim
  try dsimp only
  repeat' split
  all_goals simp
@[simp] theorem State.endClaim_resets (s : State) (k : Nat) : (s.endClaim k).resets = s.resets := by
  unfold State.endClaim
  try dsimp only
  repeat' split
  all_goals simp
@[simp] theorem State.endClaim_stalled (s : State) (k : Nat) : (s.endClaim k).stalled = s.stalled := by
  unfold State.endClaim
  try dsimp only
  repeat' split
  all_goals simp
@[simp] theorem State.endClaim_ports (s : State) (k : Nat) : (s.endClaim k).ports = s.ports := by
  unfold State.endClaim
  try dsimp only
  repeat' split
  all_goals simp
@[simp] theorem State.endClaim_blocks (s : State) (k : Nat) : (s.endClaim k).blocks = s.blocks := by
  unfold State.endClaim
  try dsimp only
  repeat' split
  all_goals simp
@[simp] theorem State.endClaim_jobs (s : State) (k : Nat) : (s.endClaim k).jobs = s.jobs := by
  unfold State.endClaim
  try dsimp only
  repeat' split
  all_goals simp
@[simp] theorem State.endClaim_pushes (s : State) (k : Nat) : (s.endClaim k).pushes = s.pushes := by
  unfold State.endClaim
  try dsimp only
  repeat' split
  all_goals simp
@[simp] theorem State.endClaim_nextUid (s : State) (k : Nat) : (s.endClaim k).nextUid = s.nextUid := by
  unfold State.endClaim
  try dsimp only
  repeat' split
  all_goals simp
@[simp] theorem State.endClaim_chans (s : State) (k : Nat) : (s.endClaim k).chans = s.chans := by
  unfold State.endClaim
  try dsimp only
  repeat' split
  all_goals simp
@[simp] theorem State.endClaim_granted (s : State) (k : Nat) : (s.endClaim k).granted = s.granted := by
  unfold State.endClaim
  try dsimp only
  repeat' split
  all_goals simp
@[simp] theorem State.endClaim_unfencing (s : State) (k : Nat) : (s.endClaim k).unfencing = s.unfencing := by
  unfold State.endClaim
  try dsimp only
  repeat' split
  all_goals simp
@[simp] theorem State.endClaim_bufCount (s : State) (k : Nat) : (s.endClaim k).bufCount = s.bufCount := by
  unfold State.endClaim
  try dsimp only
  repeat' split
  all_goals simp
@[simp] theorem State.endClaim_rt (s : State) (k : Nat) : (s.endClaim k).rt = s.rt := by
  unfold State.endClaim
  try dsimp only
  repeat' split
  all_goals simp
@[simp] theorem State.endClaim_moments (s : State) (k : Nat) : (s.endClaim k).moments = s.moments := by
  unfold State.endClaim
  try dsimp only
  repeat' split
  all_goals simp
@[simp] theorem State.endClaim_armed (s : State) (k : Nat) : (s.endClaim k).armed = s.armed := by
  unfold State.endClaim
  try dsimp only
  repeat' split
  all_goals simp
@[simp] theorem State.endClaim_ueWords (s : State) (k : Nat) : (s.endClaim k).ueWords = s.ueWords := by
  unfold State.endClaim
  try dsimp only
  repeat' split
  all_goals simp
@[simp] theorem State.endClaim_poison (s : State) (k : Nat) : (s.endClaim k).poison = s.poison := by
  unfold State.endClaim
  try dsimp only
  repeat' split
  all_goals simp
@[simp] theorem State.endClaim_wbq (s : State) (k : Nat) : (s.endClaim k).wbq = s.wbq := by
  unfold State.endClaim
  try dsimp only
  repeat' split
  all_goals simp
@[simp] theorem State.endClaim_sinceRead (s : State) (k : Nat) : (s.endClaim k).sinceRead = s.sinceRead := by
  unfold State.endClaim
  try dsimp only
  repeat' split
  all_goals simp
@[simp] theorem State.endClaim_frameTicks (s : State) (k : Nat) : (s.endClaim k).frameTicks = s.frameTicks := by
  unfold State.endClaim
  try dsimp only
  repeat' split
  all_goals simp
@[simp] theorem State.endClaim_loaderFault (s : State) (k : Nat) : (s.endClaim k).loaderFault = s.loaderFault := by
  unfold State.endClaim
  try dsimp only
  repeat' split
  all_goals simp
@[simp] theorem State.endClaim_telExtra (s : State) (k : Nat) : (s.endClaim k).telExtra = s.telExtra := by
  unfold State.endClaim
  try dsimp only
  repeat' split
  all_goals simp
@[simp] theorem State.endClaim_restored (s : State) (k : Nat) : (s.endClaim k).restored = s.restored := by
  unfold State.endClaim
  try dsimp only
  repeat' split
  all_goals simp
@[simp] theorem State.endClaim_tel (s : State) (k : Nat) : (s.endClaim k).tel = s.tel := by
  unfold State.endClaim
  try dsimp only
  repeat' split
  all_goals simp
@[simp] theorem State.endClaim_coreUs (s : State) (k : Nat) : (s.endClaim k).coreUs = s.coreUs := by
  unfold State.endClaim
  try dsimp only
  repeat' split
  all_goals simp
@[simp] theorem State.endClaim_scanFail (s : State) (k : Nat) : (s.endClaim k).scanFail = s.scanFail := by
  unfold State.endClaim
  try dsimp only
  repeat' split
  all_goals simp
@[simp] theorem State.endClaim_snap (s : State) (k : Nat) : (s.endClaim k).snap = s.snap := by
  unfold State.endClaim
  try dsimp only
  repeat' split
  all_goals simp
@[simp] theorem State.endClaim_telNext (s : State) (k : Nat) : (s.endClaim k).telNext = s.telNext := by
  unfold State.endClaim
  try dsimp only
  repeat' split
  all_goals simp
@[simp] theorem State.endClaim_chip (s : State) (k : Nat) : (s.endClaim k).chip = s.chip := by
  unfold State.endClaim
  try dsimp only
  repeat' split
  all_goals simp
@[simp] theorem State.endClaim_fuses (s : State) (k : Nat) : (s.endClaim k).fuses = s.fuses := by
  unfold State.endClaim
  try dsimp only
  repeat' split
  all_goals simp
@[simp] theorem State.endClaim_tap (s : State) (k : Nat) : (s.endClaim k).tap = s.tap := by
  unfold State.endClaim
  try dsimp only
  repeat' split
  all_goals simp
@[simp] theorem State.endClaim_mram (s : State) (k : Nat) : (s.endClaim k).mram = s.mram := by
  unfold State.endClaim
  try dsimp only
  repeat' split
  all_goals simp
@[simp] theorem State.endClaim_mramBad (s : State) (k : Nat) : (s.endClaim k).mramBad = s.mramBad := by
  unfold State.endClaim
  try dsimp only
  repeat' split
  all_goals simp
@[simp] theorem State.endClaim_load (s : State) (k : Nat) : (s.endClaim k).load = s.load := by
  unfold State.endClaim
  try dsimp only
  repeat' split
  all_goals simp
@[simp] theorem State.endClaim_saving (s : State) (k : Nat) : (s.endClaim k).saving = s.saving := by
  unfold State.endClaim
  try dsimp only
  repeat' split
  all_goals simp
@[simp] theorem State.endClaim_runDigest (s : State) (k : Nat) : (s.endClaim k).runDigest = s.runDigest := by
  unfold State.endClaim
  try dsimp only
  repeat' split
  all_goals simp
@[simp] theorem State.endClaim_bootGen (s : State) (k : Nat) : (s.endClaim k).bootGen = s.bootGen := by
  unfold State.endClaim
  try dsimp only
  repeat' split
  all_goals simp
@[simp] theorem State.endClaim_out (s : State) (k : Nat) : (s.endClaim k).out = s.out := by
  unfold State.endClaim
  try dsimp only
  repeat' split
  all_goals simp
@[simp] theorem State.endClaim_rd (s : State) (k : Nat) (p : Nat) (g : Field) (i : Nat) : (s.endClaim k).rd p g i = s.rd p g i :=
  State.rd_congr (State.endClaim_regs ..) ..
@[simp] theorem State.err_pending (s : State) (p b : Nat) : (s.err p b).pending = s.pending := by
  unfold State.err
  try dsimp only
  repeat' split
  all_goals simp
@[simp] theorem State.err_owners (s : State) (p b : Nat) : (s.err p b).owners = s.owners := by
  unfold State.err
  try dsimp only
  repeat' split
  all_goals simp
@[simp] theorem State.err_mem (s : State) (p b : Nat) : (s.err p b).mem = s.mem := by
  unfold State.err
  try dsimp only
  repeat' split
  all_goals simp
@[simp] theorem State.err_undef (s : State) (p b : Nat) : (s.err p b).undef = s.undef := by
  unfold State.err
  try dsimp only
  repeat' split
  all_goals simp
@[simp] theorem State.err_freeCtr (s : State) (p b : Nat) : (s.err p b).freeCtr = s.freeCtr := by
  unfold State.err
  try dsimp only
  repeat' split
  all_goals simp
@[simp] theorem State.err_mode (s : State) (p b : Nat) : (s.err p b).mode = s.mode := by
  unfold State.err
  try dsimp only
  repeat' split
  all_goals simp
@[simp] theorem State.err_prev (s : State) (p b : Nat) : (s.err p b).prev = s.prev := by
  unfold State.err
  try dsimp only
  repeat' split
  all_goals simp
@[simp] theorem State.err_moving (s : State) (p b : Nat) : (s.err p b).moving = s.moving := by
  unfold State.err
  try dsimp only
  repeat' split
  all_goals simp
@[simp] theorem State.err_inReset (s : State) (p b : Nat) : (s.err p b).inReset = s.inReset := by
  unfold State.err
  try dsimp only
  repeat' split
  all_goals simp
@[simp] theorem State.err_pps (s : State) (p b : Nat) : (s.err p b).pps = s.pps := by
  unfold State.err
  try dsimp only
  repeat' split
  all_goals simp
@[simp] theorem State.err_srcs (s : State) (p b : Nat) : (s.err p b).srcs = s.srcs := by
  unfold State.err
  try dsimp only
  repeat' split
  all_goals simp
@[simp] theorem State.err_tgts (s : State) (p b : Nat) : (s.err p b).tgts = s.tgts := by
  unfold State.err
  try dsimp only
  repeat' split
  all_goals simp
@[simp] theorem State.err_holdOff (s : State) (p b : Nat) : (s.err p b).holdOff = s.holdOff := by
  unfold State.err
  try dsimp only
  repeat' split
  all_goals simp
@[simp] theorem State.err_lines (s : State) (p b : Nat) : (s.err p b).lines = s.lines := by
  unfold State.err
  try dsimp only
  repeat' split
  all_goals simp
@[simp] theorem State.err_carried (s : State) (p b : Nat) : (s.err p b).carried = s.carried := by
  unfold State.err
  try dsimp only
  repeat' split
  all_goals simp
@[simp] theorem State.err_parityBad (s : State) (p b : Nat) : (s.err p b).parityBad = s.parityBad := by
  unfold State.err
  try dsimp only
  repeat' split
  all_goals simp
@[simp] theorem State.err_resets (s : State) (p b : Nat) : (s.err p b).resets = s.resets := by
  unfold State.err
  try dsimp only
  repeat' split
  all_goals simp
@[simp] theorem State.err_stalled (s : State) (p b : Nat) : (s.err p b).stalled = s.stalled := by
  unfold State.err
  try dsimp only
  repeat' split
  all_goals simp
@[simp] theorem State.err_ports (s : State) (p b : Nat) : (s.err p b).ports = s.ports := by
  unfold State.err
  try dsimp only
  repeat' split
  all_goals simp
@[simp] theorem State.err_blocks (s : State) (p b : Nat) : (s.err p b).blocks = s.blocks := by
  unfold State.err
  try dsimp only
  repeat' split
  all_goals simp
@[simp] theorem State.err_jobs (s : State) (p b : Nat) : (s.err p b).jobs = s.jobs := by
  unfold State.err
  try dsimp only
  repeat' split
  all_goals simp
@[simp] theorem State.err_pushes (s : State) (p b : Nat) : (s.err p b).pushes = s.pushes := by
  unfold State.err
  try dsimp only
  repeat' split
  all_goals simp
@[simp] theorem State.err_nextUid (s : State) (p b : Nat) : (s.err p b).nextUid = s.nextUid := by
  unfold State.err
  try dsimp only
  repeat' split
  all_goals simp
@[simp] theorem State.err_chans (s : State) (p b : Nat) : (s.err p b).chans = s.chans := by
  unfold State.err
  try dsimp only
  repeat' split
  all_goals simp
@[simp] theorem State.err_granted (s : State) (p b : Nat) : (s.err p b).granted = s.granted := by
  unfold State.err
  try dsimp only
  repeat' split
  all_goals simp
@[simp] theorem State.err_unfencing (s : State) (p b : Nat) : (s.err p b).unfencing = s.unfencing := by
  unfold State.err
  try dsimp only
  repeat' split
  all_goals simp
@[simp] theorem State.err_bufCount (s : State) (p b : Nat) : (s.err p b).bufCount = s.bufCount := by
  unfold State.err
  try dsimp only
  repeat' split
  all_goals simp
@[simp] theorem State.err_rt (s : State) (p b : Nat) : (s.err p b).rt = s.rt := by
  unfold State.err
  try dsimp only
  repeat' split
  all_goals simp
@[simp] theorem State.err_moments (s : State) (p b : Nat) : (s.err p b).moments = s.moments := by
  unfold State.err
  try dsimp only
  repeat' split
  all_goals simp
@[simp] theorem State.err_armed (s : State) (p b : Nat) : (s.err p b).armed = s.armed := by
  unfold State.err
  try dsimp only
  repeat' split
  all_goals simp
@[simp] theorem State.err_ueWords (s : State) (p b : Nat) : (s.err p b).ueWords = s.ueWords := by
  unfold State.err
  try dsimp only
  repeat' split
  all_goals simp
@[simp] theorem State.err_poison (s : State) (p b : Nat) : (s.err p b).poison = s.poison := by
  unfold State.err
  try dsimp only
  repeat' split
  all_goals simp
@[simp] theorem State.err_wbq (s : State) (p b : Nat) : (s.err p b).wbq = s.wbq := by
  unfold State.err
  try dsimp only
  repeat' split
  all_goals simp
@[simp] theorem State.err_sinceRead (s : State) (p b : Nat) : (s.err p b).sinceRead = s.sinceRead := by
  unfold State.err
  try dsimp only
  repeat' split
  all_goals simp
@[simp] theorem State.err_frameTicks (s : State) (p b : Nat) : (s.err p b).frameTicks = s.frameTicks := by
  unfold State.err
  try dsimp only
  repeat' split
  all_goals simp
@[simp] theorem State.err_loaderFault (s : State) (p b : Nat) : (s.err p b).loaderFault = s.loaderFault := by
  unfold State.err
  try dsimp only
  repeat' split
  all_goals simp
@[simp] theorem State.err_telExtra (s : State) (p b : Nat) : (s.err p b).telExtra = s.telExtra := by
  unfold State.err
  try dsimp only
  repeat' split
  all_goals simp
@[simp] theorem State.err_restored (s : State) (p b : Nat) : (s.err p b).restored = s.restored := by
  unfold State.err
  try dsimp only
  repeat' split
  all_goals simp
@[simp] theorem State.err_tel (s : State) (p b : Nat) : (s.err p b).tel = s.tel := by
  unfold State.err
  try dsimp only
  repeat' split
  all_goals simp
@[simp] theorem State.err_coreUs (s : State) (p b : Nat) : (s.err p b).coreUs = s.coreUs := by
  unfold State.err
  try dsimp only
  repeat' split
  all_goals simp
@[simp] theorem State.err_scanFail (s : State) (p b : Nat) : (s.err p b).scanFail = s.scanFail := by
  unfold State.err
  try dsimp only
  repeat' split
  all_goals simp
@[simp] theorem State.err_snap (s : State) (p b : Nat) : (s.err p b).snap = s.snap := by
  unfold State.err
  try dsimp only
  repeat' split
  all_goals simp
@[simp] theorem State.err_telNext (s : State) (p b : Nat) : (s.err p b).telNext = s.telNext := by
  unfold State.err
  try dsimp only
  repeat' split
  all_goals simp
@[simp] theorem State.err_chip (s : State) (p b : Nat) : (s.err p b).chip = s.chip := by
  unfold State.err
  try dsimp only
  repeat' split
  all_goals simp
@[simp] theorem State.err_fuses (s : State) (p b : Nat) : (s.err p b).fuses = s.fuses := by
  unfold State.err
  try dsimp only
  repeat' split
  all_goals simp
@[simp] theorem State.err_tap (s : State) (p b : Nat) : (s.err p b).tap = s.tap := by
  unfold State.err
  try dsimp only
  repeat' split
  all_goals simp
@[simp] theorem State.err_mram (s : State) (p b : Nat) : (s.err p b).mram = s.mram := by
  unfold State.err
  try dsimp only
  repeat' split
  all_goals simp
@[simp] theorem State.err_mramBad (s : State) (p b : Nat) : (s.err p b).mramBad = s.mramBad := by
  unfold State.err
  try dsimp only
  repeat' split
  all_goals simp
@[simp] theorem State.err_load (s : State) (p b : Nat) : (s.err p b).load = s.load := by
  unfold State.err
  try dsimp only
  repeat' split
  all_goals simp
@[simp] theorem State.err_saving (s : State) (p b : Nat) : (s.err p b).saving = s.saving := by
  unfold State.err
  try dsimp only
  repeat' split
  all_goals simp
@[simp] theorem State.err_runDigest (s : State) (p b : Nat) : (s.err p b).runDigest = s.runDigest := by
  unfold State.err
  try dsimp only
  repeat' split
  all_goals simp
@[simp] theorem State.err_bootGen (s : State) (p b : Nat) : (s.err p b).bootGen = s.bootGen := by
  unfold State.err
  try dsimp only
  repeat' split
  all_goals simp
@[simp] theorem State.err_out (s : State) (p b : Nat) : (s.err p b).out = s.out := by
  unfold State.err
  try dsimp only
  repeat' split
  all_goals simp
@[simp] theorem State.cmdStart_pending (s : State) (p c : Nat) : (s.cmdStart p c).pending = s.pending := rfl
@[simp] theorem State.cmdStart_owners (s : State) (p c : Nat) : (s.cmdStart p c).owners = s.owners := rfl
@[simp] theorem State.cmdStart_mem (s : State) (p c : Nat) : (s.cmdStart p c).mem = s.mem := rfl
@[simp] theorem State.cmdStart_undef (s : State) (p c : Nat) : (s.cmdStart p c).undef = s.undef := rfl
@[simp] theorem State.cmdStart_freeCtr (s : State) (p c : Nat) : (s.cmdStart p c).freeCtr = s.freeCtr := rfl
@[simp] theorem State.cmdStart_mode (s : State) (p c : Nat) : (s.cmdStart p c).mode = s.mode := rfl
@[simp] theorem State.cmdStart_prev (s : State) (p c : Nat) : (s.cmdStart p c).prev = s.prev := rfl
@[simp] theorem State.cmdStart_moving (s : State) (p c : Nat) : (s.cmdStart p c).moving = s.moving := rfl
@[simp] theorem State.cmdStart_inReset (s : State) (p c : Nat) : (s.cmdStart p c).inReset = s.inReset := rfl
@[simp] theorem State.cmdStart_pps (s : State) (p c : Nat) : (s.cmdStart p c).pps = s.pps := rfl
@[simp] theorem State.cmdStart_srcs (s : State) (p c : Nat) : (s.cmdStart p c).srcs = s.srcs := rfl
@[simp] theorem State.cmdStart_tgts (s : State) (p c : Nat) : (s.cmdStart p c).tgts = s.tgts := rfl
@[simp] theorem State.cmdStart_holdOff (s : State) (p c : Nat) : (s.cmdStart p c).holdOff = s.holdOff := rfl
@[simp] theorem State.cmdStart_lines (s : State) (p c : Nat) : (s.cmdStart p c).lines = s.lines := rfl
@[simp] theorem State.cmdStart_faults (s : State) (p c : Nat) : (s.cmdStart p c).faults = s.faults := rfl
@[simp] theorem State.cmdStart_carried (s : State) (p c : Nat) : (s.cmdStart p c).carried = s.carried := rfl
@[simp] theorem State.cmdStart_parityBad (s : State) (p c : Nat) : (s.cmdStart p c).parityBad = s.parityBad := rfl
@[simp] theorem State.cmdStart_resets (s : State) (p c : Nat) : (s.cmdStart p c).resets = s.resets := rfl
@[simp] theorem State.cmdStart_stalled (s : State) (p c : Nat) : (s.cmdStart p c).stalled = s.stalled := rfl
@[simp] theorem State.cmdStart_ports (s : State) (p c : Nat) : (s.cmdStart p c).ports = s.ports := rfl
@[simp] theorem State.cmdStart_blocks (s : State) (p c : Nat) : (s.cmdStart p c).blocks = s.blocks := rfl
@[simp] theorem State.cmdStart_jobs (s : State) (p c : Nat) : (s.cmdStart p c).jobs = s.jobs := rfl
@[simp] theorem State.cmdStart_pushes (s : State) (p c : Nat) : (s.cmdStart p c).pushes = s.pushes := rfl
@[simp] theorem State.cmdStart_nextUid (s : State) (p c : Nat) : (s.cmdStart p c).nextUid = s.nextUid := rfl
@[simp] theorem State.cmdStart_chans (s : State) (p c : Nat) : (s.cmdStart p c).chans = s.chans := rfl
@[simp] theorem State.cmdStart_granted (s : State) (p c : Nat) : (s.cmdStart p c).granted = s.granted := rfl
@[simp] theorem State.cmdStart_unfencing (s : State) (p c : Nat) : (s.cmdStart p c).unfencing = s.unfencing := rfl
@[simp] theorem State.cmdStart_bufCount (s : State) (p c : Nat) : (s.cmdStart p c).bufCount = s.bufCount := rfl
@[simp] theorem State.cmdStart_rt (s : State) (p c : Nat) : (s.cmdStart p c).rt = s.rt := rfl
@[simp] theorem State.cmdStart_moments (s : State) (p c : Nat) : (s.cmdStart p c).moments = s.moments := rfl
@[simp] theorem State.cmdStart_armed (s : State) (p c : Nat) : (s.cmdStart p c).armed = s.armed := rfl
@[simp] theorem State.cmdStart_ueWords (s : State) (p c : Nat) : (s.cmdStart p c).ueWords = s.ueWords := rfl
@[simp] theorem State.cmdStart_poison (s : State) (p c : Nat) : (s.cmdStart p c).poison = s.poison := rfl
@[simp] theorem State.cmdStart_wbq (s : State) (p c : Nat) : (s.cmdStart p c).wbq = s.wbq := rfl
@[simp] theorem State.cmdStart_sinceRead (s : State) (p c : Nat) : (s.cmdStart p c).sinceRead = s.sinceRead := rfl
@[simp] theorem State.cmdStart_frameTicks (s : State) (p c : Nat) : (s.cmdStart p c).frameTicks = s.frameTicks := rfl
@[simp] theorem State.cmdStart_loaderFault (s : State) (p c : Nat) : (s.cmdStart p c).loaderFault = s.loaderFault := rfl
@[simp] theorem State.cmdStart_telExtra (s : State) (p c : Nat) : (s.cmdStart p c).telExtra = s.telExtra := rfl
@[simp] theorem State.cmdStart_restored (s : State) (p c : Nat) : (s.cmdStart p c).restored = s.restored := rfl
@[simp] theorem State.cmdStart_tel (s : State) (p c : Nat) : (s.cmdStart p c).tel = s.tel := rfl
@[simp] theorem State.cmdStart_coreUs (s : State) (p c : Nat) : (s.cmdStart p c).coreUs = s.coreUs := rfl
@[simp] theorem State.cmdStart_scanFail (s : State) (p c : Nat) : (s.cmdStart p c).scanFail = s.scanFail := rfl
@[simp] theorem State.cmdStart_snap (s : State) (p c : Nat) : (s.cmdStart p c).snap = s.snap := rfl
@[simp] theorem State.cmdStart_telNext (s : State) (p c : Nat) : (s.cmdStart p c).telNext = s.telNext := rfl
@[simp] theorem State.cmdStart_chip (s : State) (p c : Nat) : (s.cmdStart p c).chip = s.chip := rfl
@[simp] theorem State.cmdStart_fuses (s : State) (p c : Nat) : (s.cmdStart p c).fuses = s.fuses := rfl
@[simp] theorem State.cmdStart_tap (s : State) (p c : Nat) : (s.cmdStart p c).tap = s.tap := rfl
@[simp] theorem State.cmdStart_mram (s : State) (p c : Nat) : (s.cmdStart p c).mram = s.mram := rfl
@[simp] theorem State.cmdStart_mramBad (s : State) (p c : Nat) : (s.cmdStart p c).mramBad = s.mramBad := rfl
@[simp] theorem State.cmdStart_load (s : State) (p c : Nat) : (s.cmdStart p c).load = s.load := rfl
@[simp] theorem State.cmdStart_saving (s : State) (p c : Nat) : (s.cmdStart p c).saving = s.saving := rfl
@[simp] theorem State.cmdStart_runDigest (s : State) (p c : Nat) : (s.cmdStart p c).runDigest = s.runDigest := rfl
@[simp] theorem State.cmdStart_bootGen (s : State) (p c : Nat) : (s.cmdStart p c).bootGen = s.bootGen := rfl
@[simp] theorem State.cmdStart_out (s : State) (p c : Nat) : (s.cmdStart p c).out = s.out := rfl
@[simp] theorem State.cmdEnd_pending (s : State) (p st d : Nat) : (s.cmdEnd p st d).pending = s.pending := by simp [State.cmdEnd]
@[simp] theorem State.cmdEnd_owners (s : State) (p st d : Nat) : (s.cmdEnd p st d).owners = s.owners := by simp [State.cmdEnd]
@[simp] theorem State.cmdEnd_mem (s : State) (p st d : Nat) : (s.cmdEnd p st d).mem = s.mem := by simp [State.cmdEnd]
@[simp] theorem State.cmdEnd_undef (s : State) (p st d : Nat) : (s.cmdEnd p st d).undef = s.undef := by simp [State.cmdEnd]
@[simp] theorem State.cmdEnd_freeCtr (s : State) (p st d : Nat) : (s.cmdEnd p st d).freeCtr = s.freeCtr := by simp [State.cmdEnd]
@[simp] theorem State.cmdEnd_mode (s : State) (p st d : Nat) : (s.cmdEnd p st d).mode = s.mode := by simp [State.cmdEnd]
@[simp] theorem State.cmdEnd_prev (s : State) (p st d : Nat) : (s.cmdEnd p st d).prev = s.prev := by simp [State.cmdEnd]
@[simp] theorem State.cmdEnd_moving (s : State) (p st d : Nat) : (s.cmdEnd p st d).moving = s.moving := by simp [State.cmdEnd]
@[simp] theorem State.cmdEnd_inReset (s : State) (p st d : Nat) : (s.cmdEnd p st d).inReset = s.inReset := by simp [State.cmdEnd]
@[simp] theorem State.cmdEnd_tgts (s : State) (p st d : Nat) : (s.cmdEnd p st d).tgts = s.tgts := by simp [State.cmdEnd]
@[simp] theorem State.cmdEnd_holdOff (s : State) (p st d : Nat) : (s.cmdEnd p st d).holdOff = s.holdOff := by simp [State.cmdEnd]
@[simp] theorem State.cmdEnd_lines (s : State) (p st d : Nat) : (s.cmdEnd p st d).lines = s.lines := by simp [State.cmdEnd]
@[simp] theorem State.cmdEnd_faults (s : State) (p st d : Nat) : (s.cmdEnd p st d).faults = s.faults := by simp [State.cmdEnd]
@[simp] theorem State.cmdEnd_carried (s : State) (p st d : Nat) : (s.cmdEnd p st d).carried = s.carried := by simp [State.cmdEnd]
@[simp] theorem State.cmdEnd_parityBad (s : State) (p st d : Nat) : (s.cmdEnd p st d).parityBad = s.parityBad := by simp [State.cmdEnd]
@[simp] theorem State.cmdEnd_resets (s : State) (p st d : Nat) : (s.cmdEnd p st d).resets = s.resets := by simp [State.cmdEnd]
@[simp] theorem State.cmdEnd_stalled (s : State) (p st d : Nat) : (s.cmdEnd p st d).stalled = s.stalled := by simp [State.cmdEnd]
@[simp] theorem State.cmdEnd_ports (s : State) (p st d : Nat) : (s.cmdEnd p st d).ports = s.ports := by simp [State.cmdEnd]
@[simp] theorem State.cmdEnd_blocks (s : State) (p st d : Nat) : (s.cmdEnd p st d).blocks = s.blocks := by simp [State.cmdEnd]
@[simp] theorem State.cmdEnd_jobs (s : State) (p st d : Nat) : (s.cmdEnd p st d).jobs = s.jobs := by simp [State.cmdEnd]
@[simp] theorem State.cmdEnd_pushes (s : State) (p st d : Nat) : (s.cmdEnd p st d).pushes = s.pushes := by simp [State.cmdEnd]
@[simp] theorem State.cmdEnd_nextUid (s : State) (p st d : Nat) : (s.cmdEnd p st d).nextUid = s.nextUid := by simp [State.cmdEnd]
@[simp] theorem State.cmdEnd_chans (s : State) (p st d : Nat) : (s.cmdEnd p st d).chans = s.chans := by simp [State.cmdEnd]
@[simp] theorem State.cmdEnd_granted (s : State) (p st d : Nat) : (s.cmdEnd p st d).granted = s.granted := by simp [State.cmdEnd]
@[simp] theorem State.cmdEnd_unfencing (s : State) (p st d : Nat) : (s.cmdEnd p st d).unfencing = s.unfencing := by simp [State.cmdEnd]
@[simp] theorem State.cmdEnd_bufCount (s : State) (p st d : Nat) : (s.cmdEnd p st d).bufCount = s.bufCount := by simp [State.cmdEnd]
@[simp] theorem State.cmdEnd_rt (s : State) (p st d : Nat) : (s.cmdEnd p st d).rt = s.rt := by simp [State.cmdEnd]
@[simp] theorem State.cmdEnd_moments (s : State) (p st d : Nat) : (s.cmdEnd p st d).moments = s.moments := by simp [State.cmdEnd]
@[simp] theorem State.cmdEnd_armed (s : State) (p st d : Nat) : (s.cmdEnd p st d).armed = s.armed := by simp [State.cmdEnd]
@[simp] theorem State.cmdEnd_ueWords (s : State) (p st d : Nat) : (s.cmdEnd p st d).ueWords = s.ueWords := by simp [State.cmdEnd]
@[simp] theorem State.cmdEnd_poison (s : State) (p st d : Nat) : (s.cmdEnd p st d).poison = s.poison := by simp [State.cmdEnd]
@[simp] theorem State.cmdEnd_wbq (s : State) (p st d : Nat) : (s.cmdEnd p st d).wbq = s.wbq := by simp [State.cmdEnd]
@[simp] theorem State.cmdEnd_sinceRead (s : State) (p st d : Nat) : (s.cmdEnd p st d).sinceRead = s.sinceRead := by simp [State.cmdEnd]
@[simp] theorem State.cmdEnd_frameTicks (s : State) (p st d : Nat) : (s.cmdEnd p st d).frameTicks = s.frameTicks := by simp [State.cmdEnd]
@[simp] theorem State.cmdEnd_loaderFault (s : State) (p st d : Nat) : (s.cmdEnd p st d).loaderFault = s.loaderFault := by simp [State.cmdEnd]
@[simp] theorem State.cmdEnd_telExtra (s : State) (p st d : Nat) : (s.cmdEnd p st d).telExtra = s.telExtra := by simp [State.cmdEnd]
@[simp] theorem State.cmdEnd_restored (s : State) (p st d : Nat) : (s.cmdEnd p st d).restored = s.restored := by simp [State.cmdEnd]
@[simp] theorem State.cmdEnd_tel (s : State) (p st d : Nat) : (s.cmdEnd p st d).tel = s.tel := by simp [State.cmdEnd]
@[simp] theorem State.cmdEnd_coreUs (s : State) (p st d : Nat) : (s.cmdEnd p st d).coreUs = s.coreUs := by simp [State.cmdEnd]
@[simp] theorem State.cmdEnd_scanFail (s : State) (p st d : Nat) : (s.cmdEnd p st d).scanFail = s.scanFail := by simp [State.cmdEnd]
@[simp] theorem State.cmdEnd_snap (s : State) (p st d : Nat) : (s.cmdEnd p st d).snap = s.snap := by simp [State.cmdEnd]
@[simp] theorem State.cmdEnd_telNext (s : State) (p st d : Nat) : (s.cmdEnd p st d).telNext = s.telNext := by simp [State.cmdEnd]
@[simp] theorem State.cmdEnd_chip (s : State) (p st d : Nat) : (s.cmdEnd p st d).chip = s.chip := by simp [State.cmdEnd]
@[simp] theorem State.cmdEnd_fuses (s : State) (p st d : Nat) : (s.cmdEnd p st d).fuses = s.fuses := by simp [State.cmdEnd]
@[simp] theorem State.cmdEnd_tap (s : State) (p st d : Nat) : (s.cmdEnd p st d).tap = s.tap := by simp [State.cmdEnd]
@[simp] theorem State.cmdEnd_mram (s : State) (p st d : Nat) : (s.cmdEnd p st d).mram = s.mram := by simp [State.cmdEnd]
@[simp] theorem State.cmdEnd_mramBad (s : State) (p st d : Nat) : (s.cmdEnd p st d).mramBad = s.mramBad := by simp [State.cmdEnd]
@[simp] theorem State.cmdEnd_load (s : State) (p st d : Nat) : (s.cmdEnd p st d).load = s.load := by simp [State.cmdEnd]
@[simp] theorem State.cmdEnd_saving (s : State) (p st d : Nat) : (s.cmdEnd p st d).saving = s.saving := by simp [State.cmdEnd]
@[simp] theorem State.cmdEnd_runDigest (s : State) (p st d : Nat) : (s.cmdEnd p st d).runDigest = s.runDigest := by simp [State.cmdEnd]
@[simp] theorem State.cmdEnd_bootGen (s : State) (p st d : Nat) : (s.cmdEnd p st d).bootGen = s.bootGen := by simp [State.cmdEnd]
@[simp] theorem State.cmdEnd_out (s : State) (p st d : Nat) : (s.cmdEnd p st d).out = s.out := by simp [State.cmdEnd]
@[simp] theorem State.cmdStop_pending (s : State) (p st : Nat) : (s.cmdStop p st).pending = s.pending := by simp [State.cmdStop, State.drawOpen]
@[simp] theorem State.cmdStop_owners (s : State) (p st : Nat) : (s.cmdStop p st).owners = s.owners := by simp [State.cmdStop, State.drawOpen]
@[simp] theorem State.cmdStop_mem (s : State) (p st : Nat) : (s.cmdStop p st).mem = s.mem := by simp [State.cmdStop, State.drawOpen]
@[simp] theorem State.cmdStop_undef (s : State) (p st : Nat) : (s.cmdStop p st).undef = s.undef := by simp [State.cmdStop, State.drawOpen]
@[simp] theorem State.cmdStop_mode (s : State) (p st : Nat) : (s.cmdStop p st).mode = s.mode := by simp [State.cmdStop, State.drawOpen]
@[simp] theorem State.cmdStop_prev (s : State) (p st : Nat) : (s.cmdStop p st).prev = s.prev := by simp [State.cmdStop, State.drawOpen]
@[simp] theorem State.cmdStop_moving (s : State) (p st : Nat) : (s.cmdStop p st).moving = s.moving := by simp [State.cmdStop, State.drawOpen]
@[simp] theorem State.cmdStop_inReset (s : State) (p st : Nat) : (s.cmdStop p st).inReset = s.inReset := by simp [State.cmdStop, State.drawOpen]
@[simp] theorem State.cmdStop_tgts (s : State) (p st : Nat) : (s.cmdStop p st).tgts = s.tgts := by simp [State.cmdStop, State.drawOpen]
@[simp] theorem State.cmdStop_holdOff (s : State) (p st : Nat) : (s.cmdStop p st).holdOff = s.holdOff := by simp [State.cmdStop, State.drawOpen]
@[simp] theorem State.cmdStop_lines (s : State) (p st : Nat) : (s.cmdStop p st).lines = s.lines := by simp [State.cmdStop, State.drawOpen]
@[simp] theorem State.cmdStop_faults (s : State) (p st : Nat) : (s.cmdStop p st).faults = s.faults := by simp [State.cmdStop, State.drawOpen]
@[simp] theorem State.cmdStop_carried (s : State) (p st : Nat) : (s.cmdStop p st).carried = s.carried := by simp [State.cmdStop, State.drawOpen]
@[simp] theorem State.cmdStop_parityBad (s : State) (p st : Nat) : (s.cmdStop p st).parityBad = s.parityBad := by simp [State.cmdStop, State.drawOpen]
@[simp] theorem State.cmdStop_resets (s : State) (p st : Nat) : (s.cmdStop p st).resets = s.resets := by simp [State.cmdStop, State.drawOpen]
@[simp] theorem State.cmdStop_stalled (s : State) (p st : Nat) : (s.cmdStop p st).stalled = s.stalled := by simp [State.cmdStop, State.drawOpen]
@[simp] theorem State.cmdStop_ports (s : State) (p st : Nat) : (s.cmdStop p st).ports = s.ports := by simp [State.cmdStop, State.drawOpen]
@[simp] theorem State.cmdStop_blocks (s : State) (p st : Nat) : (s.cmdStop p st).blocks = s.blocks := by simp [State.cmdStop, State.drawOpen]
@[simp] theorem State.cmdStop_jobs (s : State) (p st : Nat) : (s.cmdStop p st).jobs = s.jobs := by simp [State.cmdStop, State.drawOpen]
@[simp] theorem State.cmdStop_pushes (s : State) (p st : Nat) : (s.cmdStop p st).pushes = s.pushes := by simp [State.cmdStop, State.drawOpen]
@[simp] theorem State.cmdStop_nextUid (s : State) (p st : Nat) : (s.cmdStop p st).nextUid = s.nextUid := by simp [State.cmdStop, State.drawOpen]
@[simp] theorem State.cmdStop_chans (s : State) (p st : Nat) : (s.cmdStop p st).chans = s.chans := by simp [State.cmdStop, State.drawOpen]
@[simp] theorem State.cmdStop_granted (s : State) (p st : Nat) : (s.cmdStop p st).granted = s.granted := by simp [State.cmdStop, State.drawOpen]
@[simp] theorem State.cmdStop_unfencing (s : State) (p st : Nat) : (s.cmdStop p st).unfencing = s.unfencing := by simp [State.cmdStop, State.drawOpen]
@[simp] theorem State.cmdStop_bufCount (s : State) (p st : Nat) : (s.cmdStop p st).bufCount = s.bufCount := by simp [State.cmdStop, State.drawOpen]
@[simp] theorem State.cmdStop_rt (s : State) (p st : Nat) : (s.cmdStop p st).rt = s.rt := by simp [State.cmdStop, State.drawOpen]
@[simp] theorem State.cmdStop_moments (s : State) (p st : Nat) : (s.cmdStop p st).moments = s.moments := by simp [State.cmdStop, State.drawOpen]
@[simp] theorem State.cmdStop_armed (s : State) (p st : Nat) : (s.cmdStop p st).armed = s.armed := by simp [State.cmdStop, State.drawOpen]
@[simp] theorem State.cmdStop_ueWords (s : State) (p st : Nat) : (s.cmdStop p st).ueWords = s.ueWords := by simp [State.cmdStop, State.drawOpen]
@[simp] theorem State.cmdStop_poison (s : State) (p st : Nat) : (s.cmdStop p st).poison = s.poison := by simp [State.cmdStop, State.drawOpen]
@[simp] theorem State.cmdStop_wbq (s : State) (p st : Nat) : (s.cmdStop p st).wbq = s.wbq := by simp [State.cmdStop, State.drawOpen]
@[simp] theorem State.cmdStop_sinceRead (s : State) (p st : Nat) : (s.cmdStop p st).sinceRead = s.sinceRead := by simp [State.cmdStop, State.drawOpen]
@[simp] theorem State.cmdStop_frameTicks (s : State) (p st : Nat) : (s.cmdStop p st).frameTicks = s.frameTicks := by simp [State.cmdStop, State.drawOpen]
@[simp] theorem State.cmdStop_loaderFault (s : State) (p st : Nat) : (s.cmdStop p st).loaderFault = s.loaderFault := by simp [State.cmdStop, State.drawOpen]
@[simp] theorem State.cmdStop_telExtra (s : State) (p st : Nat) : (s.cmdStop p st).telExtra = s.telExtra := by simp [State.cmdStop, State.drawOpen]
@[simp] theorem State.cmdStop_restored (s : State) (p st : Nat) : (s.cmdStop p st).restored = s.restored := by simp [State.cmdStop, State.drawOpen]
@[simp] theorem State.cmdStop_tel (s : State) (p st : Nat) : (s.cmdStop p st).tel = s.tel := by simp [State.cmdStop, State.drawOpen]
@[simp] theorem State.cmdStop_coreUs (s : State) (p st : Nat) : (s.cmdStop p st).coreUs = s.coreUs := by simp [State.cmdStop, State.drawOpen]
@[simp] theorem State.cmdStop_scanFail (s : State) (p st : Nat) : (s.cmdStop p st).scanFail = s.scanFail := by simp [State.cmdStop, State.drawOpen]
@[simp] theorem State.cmdStop_snap (s : State) (p st : Nat) : (s.cmdStop p st).snap = s.snap := by simp [State.cmdStop, State.drawOpen]
@[simp] theorem State.cmdStop_telNext (s : State) (p st : Nat) : (s.cmdStop p st).telNext = s.telNext := by simp [State.cmdStop, State.drawOpen]
@[simp] theorem State.cmdStop_chip (s : State) (p st : Nat) : (s.cmdStop p st).chip = s.chip := by simp [State.cmdStop, State.drawOpen]
@[simp] theorem State.cmdStop_fuses (s : State) (p st : Nat) : (s.cmdStop p st).fuses = s.fuses := by simp [State.cmdStop, State.drawOpen]
@[simp] theorem State.cmdStop_tap (s : State) (p st : Nat) : (s.cmdStop p st).tap = s.tap := by simp [State.cmdStop, State.drawOpen]
@[simp] theorem State.cmdStop_mram (s : State) (p st : Nat) : (s.cmdStop p st).mram = s.mram := by simp [State.cmdStop, State.drawOpen]
@[simp] theorem State.cmdStop_mramBad (s : State) (p st : Nat) : (s.cmdStop p st).mramBad = s.mramBad := by simp [State.cmdStop, State.drawOpen]
@[simp] theorem State.cmdStop_load (s : State) (p st : Nat) : (s.cmdStop p st).load = s.load := by simp [State.cmdStop, State.drawOpen]
@[simp] theorem State.cmdStop_saving (s : State) (p st : Nat) : (s.cmdStop p st).saving = s.saving := by simp [State.cmdStop, State.drawOpen]
@[simp] theorem State.cmdStop_runDigest (s : State) (p st : Nat) : (s.cmdStop p st).runDigest = s.runDigest := by simp [State.cmdStop, State.drawOpen]
@[simp] theorem State.cmdStop_bootGen (s : State) (p st : Nat) : (s.cmdStop p st).bootGen = s.bootGen := by simp [State.cmdStop, State.drawOpen]
@[simp] theorem State.cmdStop_out (s : State) (p st : Nat) : (s.cmdStop p st).out = s.out := by simp [State.cmdStop, State.drawOpen]
@[simp] theorem State.refuse_pending (s : State) (p : Nat) (c : RefCause) : (s.refuse p c).pending = s.pending := by
  unfold State.refuse
  try dsimp only
  repeat' split
  all_goals simp
@[simp] theorem State.refuse_owners (s : State) (p : Nat) (c : RefCause) : (s.refuse p c).owners = s.owners := by
  unfold State.refuse
  try dsimp only
  repeat' split
  all_goals simp
@[simp] theorem State.refuse_mem (s : State) (p : Nat) (c : RefCause) : (s.refuse p c).mem = s.mem := by
  unfold State.refuse
  try dsimp only
  repeat' split
  all_goals simp
@[simp] theorem State.refuse_undef (s : State) (p : Nat) (c : RefCause) : (s.refuse p c).undef = s.undef := by
  unfold State.refuse
  try dsimp only
  repeat' split
  all_goals simp
@[simp] theorem State.refuse_freeCtr (s : State) (p : Nat) (c : RefCause) : (s.refuse p c).freeCtr = s.freeCtr := by
  unfold State.refuse
  try dsimp only
  repeat' split
  all_goals simp
@[simp] theorem State.refuse_mode (s : State) (p : Nat) (c : RefCause) : (s.refuse p c).mode = s.mode := by
  unfold State.refuse
  try dsimp only
  repeat' split
  all_goals simp
@[simp] theorem State.refuse_prev (s : State) (p : Nat) (c : RefCause) : (s.refuse p c).prev = s.prev := by
  unfold State.refuse
  try dsimp only
  repeat' split
  all_goals simp
@[simp] theorem State.refuse_moving (s : State) (p : Nat) (c : RefCause) : (s.refuse p c).moving = s.moving := by
  unfold State.refuse
  try dsimp only
  repeat' split
  all_goals simp
@[simp] theorem State.refuse_inReset (s : State) (p : Nat) (c : RefCause) : (s.refuse p c).inReset = s.inReset := by
  unfold State.refuse
  try dsimp only
  repeat' split
  all_goals simp
@[simp] theorem State.refuse_tgts (s : State) (p : Nat) (c : RefCause) : (s.refuse p c).tgts = s.tgts := by
  unfold State.refuse
  try dsimp only
  repeat' split
  all_goals simp
@[simp] theorem State.refuse_holdOff (s : State) (p : Nat) (c : RefCause) : (s.refuse p c).holdOff = s.holdOff := by
  unfold State.refuse
  try dsimp only
  repeat' split
  all_goals simp
@[simp] theorem State.refuse_lines (s : State) (p : Nat) (c : RefCause) : (s.refuse p c).lines = s.lines := by
  unfold State.refuse
  try dsimp only
  repeat' split
  all_goals simp
@[simp] theorem State.refuse_faults (s : State) (p : Nat) (c : RefCause) : (s.refuse p c).faults = s.faults := by
  unfold State.refuse
  try dsimp only
  repeat' split
  all_goals simp
@[simp] theorem State.refuse_carried (s : State) (p : Nat) (c : RefCause) : (s.refuse p c).carried = s.carried := by
  unfold State.refuse
  try dsimp only
  repeat' split
  all_goals simp
@[simp] theorem State.refuse_parityBad (s : State) (p : Nat) (c : RefCause) : (s.refuse p c).parityBad = s.parityBad := by
  unfold State.refuse
  try dsimp only
  repeat' split
  all_goals simp
@[simp] theorem State.refuse_resets (s : State) (p : Nat) (c : RefCause) : (s.refuse p c).resets = s.resets := by
  unfold State.refuse
  try dsimp only
  repeat' split
  all_goals simp
@[simp] theorem State.refuse_stalled (s : State) (p : Nat) (c : RefCause) : (s.refuse p c).stalled = s.stalled := by
  unfold State.refuse
  try dsimp only
  repeat' split
  all_goals simp
@[simp] theorem State.refuse_ports (s : State) (p : Nat) (c : RefCause) : (s.refuse p c).ports = s.ports := by
  unfold State.refuse
  try dsimp only
  repeat' split
  all_goals simp
@[simp] theorem State.refuse_blocks (s : State) (p : Nat) (c : RefCause) : (s.refuse p c).blocks = s.blocks := by
  unfold State.refuse
  try dsimp only
  repeat' split
  all_goals simp
@[simp] theorem State.refuse_jobs (s : State) (p : Nat) (c : RefCause) : (s.refuse p c).jobs = s.jobs := by
  unfold State.refuse
  try dsimp only
  repeat' split
  all_goals simp
@[simp] theorem State.refuse_pushes (s : State) (p : Nat) (c : RefCause) : (s.refuse p c).pushes = s.pushes := by
  unfold State.refuse
  try dsimp only
  repeat' split
  all_goals simp
@[simp] theorem State.refuse_nextUid (s : State) (p : Nat) (c : RefCause) : (s.refuse p c).nextUid = s.nextUid := by
  unfold State.refuse
  try dsimp only
  repeat' split
  all_goals simp
@[simp] theorem State.refuse_chans (s : State) (p : Nat) (c : RefCause) : (s.refuse p c).chans = s.chans := by
  unfold State.refuse
  try dsimp only
  repeat' split
  all_goals simp
@[simp] theorem State.refuse_granted (s : State) (p : Nat) (c : RefCause) : (s.refuse p c).granted = s.granted := by
  unfold State.refuse
  try dsimp only
  repeat' split
  all_goals simp
@[simp] theorem State.refuse_unfencing (s : State) (p : Nat) (c : RefCause) : (s.refuse p c).unfencing = s.unfencing := by
  unfold State.refuse
  try dsimp only
  repeat' split
  all_goals simp
@[simp] theorem State.refuse_bufCount (s : State) (p : Nat) (c : RefCause) : (s.refuse p c).bufCount = s.bufCount := by
  unfold State.refuse
  try dsimp only
  repeat' split
  all_goals simp
@[simp] theorem State.refuse_rt (s : State) (p : Nat) (c : RefCause) : (s.refuse p c).rt = s.rt := by
  unfold State.refuse
  try dsimp only
  repeat' split
  all_goals simp
@[simp] theorem State.refuse_moments (s : State) (p : Nat) (c : RefCause) : (s.refuse p c).moments = s.moments := by
  unfold State.refuse
  try dsimp only
  repeat' split
  all_goals simp
@[simp] theorem State.refuse_armed (s : State) (p : Nat) (c : RefCause) : (s.refuse p c).armed = s.armed := by
  unfold State.refuse
  try dsimp only
  repeat' split
  all_goals simp
@[simp] theorem State.refuse_ueWords (s : State) (p : Nat) (c : RefCause) : (s.refuse p c).ueWords = s.ueWords := by
  unfold State.refuse
  try dsimp only
  repeat' split
  all_goals simp
@[simp] theorem State.refuse_poison (s : State) (p : Nat) (c : RefCause) : (s.refuse p c).poison = s.poison := by
  unfold State.refuse
  try dsimp only
  repeat' split
  all_goals simp
@[simp] theorem State.refuse_wbq (s : State) (p : Nat) (c : RefCause) : (s.refuse p c).wbq = s.wbq := by
  unfold State.refuse
  try dsimp only
  repeat' split
  all_goals simp
@[simp] theorem State.refuse_sinceRead (s : State) (p : Nat) (c : RefCause) : (s.refuse p c).sinceRead = s.sinceRead := by
  unfold State.refuse
  try dsimp only
  repeat' split
  all_goals simp
@[simp] theorem State.refuse_frameTicks (s : State) (p : Nat) (c : RefCause) : (s.refuse p c).frameTicks = s.frameTicks := by
  unfold State.refuse
  try dsimp only
  repeat' split
  all_goals simp
@[simp] theorem State.refuse_loaderFault (s : State) (p : Nat) (c : RefCause) : (s.refuse p c).loaderFault = s.loaderFault := by
  unfold State.refuse
  try dsimp only
  repeat' split
  all_goals simp
@[simp] theorem State.refuse_telExtra (s : State) (p : Nat) (c : RefCause) : (s.refuse p c).telExtra = s.telExtra := by
  unfold State.refuse
  try dsimp only
  repeat' split
  all_goals simp
@[simp] theorem State.refuse_restored (s : State) (p : Nat) (c : RefCause) : (s.refuse p c).restored = s.restored := by
  unfold State.refuse
  try dsimp only
  repeat' split
  all_goals simp
@[simp] theorem State.refuse_tel (s : State) (p : Nat) (c : RefCause) : (s.refuse p c).tel = s.tel := by
  unfold State.refuse
  try dsimp only
  repeat' split
  all_goals simp
@[simp] theorem State.refuse_coreUs (s : State) (p : Nat) (c : RefCause) : (s.refuse p c).coreUs = s.coreUs := by
  unfold State.refuse
  try dsimp only
  repeat' split
  all_goals simp
@[simp] theorem State.refuse_scanFail (s : State) (p : Nat) (c : RefCause) : (s.refuse p c).scanFail = s.scanFail := by
  unfold State.refuse
  try dsimp only
  repeat' split
  all_goals simp
@[simp] theorem State.refuse_snap (s : State) (p : Nat) (c : RefCause) : (s.refuse p c).snap = s.snap := by
  unfold State.refuse
  try dsimp only
  repeat' split
  all_goals simp
@[simp] theorem State.refuse_telNext (s : State) (p : Nat) (c : RefCause) : (s.refuse p c).telNext = s.telNext := by
  unfold State.refuse
  try dsimp only
  repeat' split
  all_goals simp
@[simp] theorem State.refuse_chip (s : State) (p : Nat) (c : RefCause) : (s.refuse p c).chip = s.chip := by
  unfold State.refuse
  try dsimp only
  repeat' split
  all_goals simp
@[simp] theorem State.refuse_fuses (s : State) (p : Nat) (c : RefCause) : (s.refuse p c).fuses = s.fuses := by
  unfold State.refuse
  try dsimp only
  repeat' split
  all_goals simp
@[simp] theorem State.refuse_tap (s : State) (p : Nat) (c : RefCause) : (s.refuse p c).tap = s.tap := by
  unfold State.refuse
  try dsimp only
  repeat' split
  all_goals simp
@[simp] theorem State.refuse_mram (s : State) (p : Nat) (c : RefCause) : (s.refuse p c).mram = s.mram := by
  unfold State.refuse
  try dsimp only
  repeat' split
  all_goals simp
@[simp] theorem State.refuse_mramBad (s : State) (p : Nat) (c : RefCause) : (s.refuse p c).mramBad = s.mramBad := by
  unfold State.refuse
  try dsimp only
  repeat' split
  all_goals simp
@[simp] theorem State.refuse_load (s : State) (p : Nat) (c : RefCause) : (s.refuse p c).load = s.load := by
  unfold State.refuse
  try dsimp only
  repeat' split
  all_goals simp
@[simp] theorem State.refuse_saving (s : State) (p : Nat) (c : RefCause) : (s.refuse p c).saving = s.saving := by
  unfold State.refuse
  try dsimp only
  repeat' split
  all_goals simp
@[simp] theorem State.refuse_runDigest (s : State) (p : Nat) (c : RefCause) : (s.refuse p c).runDigest = s.runDigest := by
  unfold State.refuse
  try dsimp only
  repeat' split
  all_goals simp
@[simp] theorem State.refuse_bootGen (s : State) (p : Nat) (c : RefCause) : (s.refuse p c).bootGen = s.bootGen := by
  unfold State.refuse
  try dsimp only
  repeat' split
  all_goals simp
@[simp] theorem State.refuse_out (s : State) (p : Nat) (c : RefCause) : (s.refuse p c).out = s.out := by
  unfold State.refuse
  try dsimp only
  repeat' split
  all_goals simp
@[simp] theorem State.startHoldOff_pending (s : State) (k : Nat) : (s.startHoldOff k).pending = s.pending := by
  unfold State.startHoldOff
  try dsimp only
  repeat' split
  all_goals simp
@[simp] theorem State.startHoldOff_regs (s : State) (k : Nat) : (s.startHoldOff k).regs = s.regs := by
  unfold State.startHoldOff
  try dsimp only
  repeat' split
  all_goals simp
@[simp] theorem State.startHoldOff_owners (s : State) (k : Nat) : (s.startHoldOff k).owners = s.owners := by
  unfold State.startHoldOff
  try dsimp only
  repeat' split
  all_goals simp
@[simp] theorem State.startHoldOff_mem (s : State) (k : Nat) : (s.startHoldOff k).mem = s.mem := by
  unfold State.startHoldOff
  try dsimp only
  repeat' split
  all_goals simp
@[simp] theorem State.startHoldOff_undef (s : State) (k : Nat) : (s.startHoldOff k).undef = s.undef := by
  unfold State.startHoldOff
  try dsimp only
  repeat' split
  all_goals simp
@[simp] theorem State.startHoldOff_freeCtr (s : State) (k : Nat) : (s.startHoldOff k).freeCtr = s.freeCtr := by
  unfold State.startHoldOff
  try dsimp only
  repeat' split
  all_goals simp
@[simp] theorem State.startHoldOff_mode (s : State) (k : Nat) : (s.startHoldOff k).mode = s.mode := by
  unfold State.startHoldOff
  try dsimp only
  repeat' split
  all_goals simp
@[simp] theorem State.startHoldOff_prev (s : State) (k : Nat) : (s.startHoldOff k).prev = s.prev := by
  unfold State.startHoldOff
  try dsimp only
  repeat' split
  all_goals simp
@[simp] theorem State.startHoldOff_moving (s : State) (k : Nat) : (s.startHoldOff k).moving = s.moving := by
  unfold State.startHoldOff
  try dsimp only
  repeat' split
  all_goals simp
@[simp] theorem State.startHoldOff_inReset (s : State) (k : Nat) : (s.startHoldOff k).inReset = s.inReset := by
  unfold State.startHoldOff
  try dsimp only
  repeat' split
  all_goals simp
@[simp] theorem State.startHoldOff_pps (s : State) (k : Nat) : (s.startHoldOff k).pps = s.pps := by
  unfold State.startHoldOff
  try dsimp only
  repeat' split
  all_goals simp
@[simp] theorem State.startHoldOff_srcs (s : State) (k : Nat) : (s.startHoldOff k).srcs = s.srcs := by
  unfold State.startHoldOff
  try dsimp only
  repeat' split
  all_goals simp
@[simp] theorem State.startHoldOff_tgts (s : State) (k : Nat) : (s.startHoldOff k).tgts = s.tgts := by
  unfold State.startHoldOff
  try dsimp only
  repeat' split
  all_goals simp
@[simp] theorem State.startHoldOff_lines (s : State) (k : Nat) : (s.startHoldOff k).lines = s.lines := by
  unfold State.startHoldOff
  try dsimp only
  repeat' split
  all_goals simp
@[simp] theorem State.startHoldOff_faults (s : State) (k : Nat) : (s.startHoldOff k).faults = s.faults := by
  unfold State.startHoldOff
  try dsimp only
  repeat' split
  all_goals simp
@[simp] theorem State.startHoldOff_carried (s : State) (k : Nat) : (s.startHoldOff k).carried = s.carried := by
  unfold State.startHoldOff
  try dsimp only
  repeat' split
  all_goals simp
@[simp] theorem State.startHoldOff_parityBad (s : State) (k : Nat) : (s.startHoldOff k).parityBad = s.parityBad := by
  unfold State.startHoldOff
  try dsimp only
  repeat' split
  all_goals simp
@[simp] theorem State.startHoldOff_resets (s : State) (k : Nat) : (s.startHoldOff k).resets = s.resets := by
  unfold State.startHoldOff
  try dsimp only
  repeat' split
  all_goals simp
@[simp] theorem State.startHoldOff_stalled (s : State) (k : Nat) : (s.startHoldOff k).stalled = s.stalled := by
  unfold State.startHoldOff
  try dsimp only
  repeat' split
  all_goals simp
@[simp] theorem State.startHoldOff_ports (s : State) (k : Nat) : (s.startHoldOff k).ports = s.ports := by
  unfold State.startHoldOff
  try dsimp only
  repeat' split
  all_goals simp
@[simp] theorem State.startHoldOff_blocks (s : State) (k : Nat) : (s.startHoldOff k).blocks = s.blocks := by
  unfold State.startHoldOff
  try dsimp only
  repeat' split
  all_goals simp
@[simp] theorem State.startHoldOff_jobs (s : State) (k : Nat) : (s.startHoldOff k).jobs = s.jobs := by
  unfold State.startHoldOff
  try dsimp only
  repeat' split
  all_goals simp
@[simp] theorem State.startHoldOff_pushes (s : State) (k : Nat) : (s.startHoldOff k).pushes = s.pushes := by
  unfold State.startHoldOff
  try dsimp only
  repeat' split
  all_goals simp
@[simp] theorem State.startHoldOff_nextUid (s : State) (k : Nat) : (s.startHoldOff k).nextUid = s.nextUid := by
  unfold State.startHoldOff
  try dsimp only
  repeat' split
  all_goals simp
@[simp] theorem State.startHoldOff_chans (s : State) (k : Nat) : (s.startHoldOff k).chans = s.chans := by
  unfold State.startHoldOff
  try dsimp only
  repeat' split
  all_goals simp
@[simp] theorem State.startHoldOff_granted (s : State) (k : Nat) : (s.startHoldOff k).granted = s.granted := by
  unfold State.startHoldOff
  try dsimp only
  repeat' split
  all_goals simp
@[simp] theorem State.startHoldOff_unfencing (s : State) (k : Nat) : (s.startHoldOff k).unfencing = s.unfencing := by
  unfold State.startHoldOff
  try dsimp only
  repeat' split
  all_goals simp
@[simp] theorem State.startHoldOff_bufCount (s : State) (k : Nat) : (s.startHoldOff k).bufCount = s.bufCount := by
  unfold State.startHoldOff
  try dsimp only
  repeat' split
  all_goals simp
@[simp] theorem State.startHoldOff_rt (s : State) (k : Nat) : (s.startHoldOff k).rt = s.rt := by
  unfold State.startHoldOff
  try dsimp only
  repeat' split
  all_goals simp
@[simp] theorem State.startHoldOff_moments (s : State) (k : Nat) : (s.startHoldOff k).moments = s.moments := by
  unfold State.startHoldOff
  try dsimp only
  repeat' split
  all_goals simp
@[simp] theorem State.startHoldOff_armed (s : State) (k : Nat) : (s.startHoldOff k).armed = s.armed := by
  unfold State.startHoldOff
  try dsimp only
  repeat' split
  all_goals simp
@[simp] theorem State.startHoldOff_ueWords (s : State) (k : Nat) : (s.startHoldOff k).ueWords = s.ueWords := by
  unfold State.startHoldOff
  try dsimp only
  repeat' split
  all_goals simp
@[simp] theorem State.startHoldOff_poison (s : State) (k : Nat) : (s.startHoldOff k).poison = s.poison := by
  unfold State.startHoldOff
  try dsimp only
  repeat' split
  all_goals simp
@[simp] theorem State.startHoldOff_wbq (s : State) (k : Nat) : (s.startHoldOff k).wbq = s.wbq := by
  unfold State.startHoldOff
  try dsimp only
  repeat' split
  all_goals simp
@[simp] theorem State.startHoldOff_sinceRead (s : State) (k : Nat) : (s.startHoldOff k).sinceRead = s.sinceRead := by
  unfold State.startHoldOff
  try dsimp only
  repeat' split
  all_goals simp
@[simp] theorem State.startHoldOff_frameTicks (s : State) (k : Nat) : (s.startHoldOff k).frameTicks = s.frameTicks := by
  unfold State.startHoldOff
  try dsimp only
  repeat' split
  all_goals simp
@[simp] theorem State.startHoldOff_loaderFault (s : State) (k : Nat) : (s.startHoldOff k).loaderFault = s.loaderFault := by
  unfold State.startHoldOff
  try dsimp only
  repeat' split
  all_goals simp
@[simp] theorem State.startHoldOff_telExtra (s : State) (k : Nat) : (s.startHoldOff k).telExtra = s.telExtra := by
  unfold State.startHoldOff
  try dsimp only
  repeat' split
  all_goals simp
@[simp] theorem State.startHoldOff_restored (s : State) (k : Nat) : (s.startHoldOff k).restored = s.restored := by
  unfold State.startHoldOff
  try dsimp only
  repeat' split
  all_goals simp
@[simp] theorem State.startHoldOff_tel (s : State) (k : Nat) : (s.startHoldOff k).tel = s.tel := by
  unfold State.startHoldOff
  try dsimp only
  repeat' split
  all_goals simp
@[simp] theorem State.startHoldOff_coreUs (s : State) (k : Nat) : (s.startHoldOff k).coreUs = s.coreUs := by
  unfold State.startHoldOff
  try dsimp only
  repeat' split
  all_goals simp
@[simp] theorem State.startHoldOff_scanFail (s : State) (k : Nat) : (s.startHoldOff k).scanFail = s.scanFail := by
  unfold State.startHoldOff
  try dsimp only
  repeat' split
  all_goals simp
@[simp] theorem State.startHoldOff_snap (s : State) (k : Nat) : (s.startHoldOff k).snap = s.snap := by
  unfold State.startHoldOff
  try dsimp only
  repeat' split
  all_goals simp
@[simp] theorem State.startHoldOff_telNext (s : State) (k : Nat) : (s.startHoldOff k).telNext = s.telNext := by
  unfold State.startHoldOff
  try dsimp only
  repeat' split
  all_goals simp
@[simp] theorem State.startHoldOff_chip (s : State) (k : Nat) : (s.startHoldOff k).chip = s.chip := by
  unfold State.startHoldOff
  try dsimp only
  repeat' split
  all_goals simp
@[simp] theorem State.startHoldOff_fuses (s : State) (k : Nat) : (s.startHoldOff k).fuses = s.fuses := by
  unfold State.startHoldOff
  try dsimp only
  repeat' split
  all_goals simp
@[simp] theorem State.startHoldOff_tap (s : State) (k : Nat) : (s.startHoldOff k).tap = s.tap := by
  unfold State.startHoldOff
  try dsimp only
  repeat' split
  all_goals simp
@[simp] theorem State.startHoldOff_mram (s : State) (k : Nat) : (s.startHoldOff k).mram = s.mram := by
  unfold State.startHoldOff
  try dsimp only
  repeat' split
  all_goals simp
@[simp] theorem State.startHoldOff_mramBad (s : State) (k : Nat) : (s.startHoldOff k).mramBad = s.mramBad := by
  unfold State.startHoldOff
  try dsimp only
  repeat' split
  all_goals simp
@[simp] theorem State.startHoldOff_load (s : State) (k : Nat) : (s.startHoldOff k).load = s.load := by
  unfold State.startHoldOff
  try dsimp only
  repeat' split
  all_goals simp
@[simp] theorem State.startHoldOff_saving (s : State) (k : Nat) : (s.startHoldOff k).saving = s.saving := by
  unfold State.startHoldOff
  try dsimp only
  repeat' split
  all_goals simp
@[simp] theorem State.startHoldOff_runDigest (s : State) (k : Nat) : (s.startHoldOff k).runDigest = s.runDigest := by
  unfold State.startHoldOff
  try dsimp only
  repeat' split
  all_goals simp
@[simp] theorem State.startHoldOff_bootGen (s : State) (k : Nat) : (s.startHoldOff k).bootGen = s.bootGen := by
  unfold State.startHoldOff
  try dsimp only
  repeat' split
  all_goals simp
@[simp] theorem State.startHoldOff_out (s : State) (k : Nat) : (s.startHoldOff k).out = s.out := by
  unfold State.startHoldOff
  try dsimp only
  repeat' split
  all_goals simp
@[simp] theorem State.startHoldOff_rd (s : State) (k : Nat) (p : Nat) (g : Field) (i : Nat) : (s.startHoldOff k).rd p g i = s.rd p g i :=
  State.rd_congr (State.startHoldOff_regs ..) ..
@[simp] theorem State.queueRec_pending (s : State) (k : Nat) (r : Rec) : (s.queueRec k r).pending = s.pending := by
  unfold State.queueRec
  try dsimp only
  repeat' split
  all_goals simp
@[simp] theorem State.queueRec_regs (s : State) (k : Nat) (r : Rec) : (s.queueRec k r).regs = s.regs := by
  unfold State.queueRec
  try dsimp only
  repeat' split
  all_goals simp
@[simp] theorem State.queueRec_owners (s : State) (k : Nat) (r : Rec) : (s.queueRec k r).owners = s.owners := by
  unfold State.queueRec
  try dsimp only
  repeat' split
  all_goals simp
@[simp] theorem State.queueRec_mem (s : State) (k : Nat) (r : Rec) : (s.queueRec k r).mem = s.mem := by
  unfold State.queueRec
  try dsimp only
  repeat' split
  all_goals simp
@[simp] theorem State.queueRec_undef (s : State) (k : Nat) (r : Rec) : (s.queueRec k r).undef = s.undef := by
  unfold State.queueRec
  try dsimp only
  repeat' split
  all_goals simp
@[simp] theorem State.queueRec_freeCtr (s : State) (k : Nat) (r : Rec) : (s.queueRec k r).freeCtr = s.freeCtr := by
  unfold State.queueRec
  try dsimp only
  repeat' split
  all_goals simp
@[simp] theorem State.queueRec_mode (s : State) (k : Nat) (r : Rec) : (s.queueRec k r).mode = s.mode := by
  unfold State.queueRec
  try dsimp only
  repeat' split
  all_goals simp
@[simp] theorem State.queueRec_prev (s : State) (k : Nat) (r : Rec) : (s.queueRec k r).prev = s.prev := by
  unfold State.queueRec
  try dsimp only
  repeat' split
  all_goals simp
@[simp] theorem State.queueRec_moving (s : State) (k : Nat) (r : Rec) : (s.queueRec k r).moving = s.moving := by
  unfold State.queueRec
  try dsimp only
  repeat' split
  all_goals simp
@[simp] theorem State.queueRec_inReset (s : State) (k : Nat) (r : Rec) : (s.queueRec k r).inReset = s.inReset := by
  unfold State.queueRec
  try dsimp only
  repeat' split
  all_goals simp
@[simp] theorem State.queueRec_pps (s : State) (k : Nat) (r : Rec) : (s.queueRec k r).pps = s.pps := by
  unfold State.queueRec
  try dsimp only
  repeat' split
  all_goals simp
@[simp] theorem State.queueRec_holdOff (s : State) (k : Nat) (r : Rec) : (s.queueRec k r).holdOff = s.holdOff := by
  unfold State.queueRec
  try dsimp only
  repeat' split
  all_goals simp
@[simp] theorem State.queueRec_lines (s : State) (k : Nat) (r : Rec) : (s.queueRec k r).lines = s.lines := by
  unfold State.queueRec
  try dsimp only
  repeat' split
  all_goals simp
@[simp] theorem State.queueRec_faults (s : State) (k : Nat) (r : Rec) : (s.queueRec k r).faults = s.faults := by
  unfold State.queueRec
  try dsimp only
  repeat' split
  all_goals simp
@[simp] theorem State.queueRec_carried (s : State) (k : Nat) (r : Rec) : (s.queueRec k r).carried = s.carried := by
  unfold State.queueRec
  try dsimp only
  repeat' split
  all_goals simp
@[simp] theorem State.queueRec_parityBad (s : State) (k : Nat) (r : Rec) : (s.queueRec k r).parityBad = s.parityBad := by
  unfold State.queueRec
  try dsimp only
  repeat' split
  all_goals simp
@[simp] theorem State.queueRec_resets (s : State) (k : Nat) (r : Rec) : (s.queueRec k r).resets = s.resets := by
  unfold State.queueRec
  try dsimp only
  repeat' split
  all_goals simp
@[simp] theorem State.queueRec_stalled (s : State) (k : Nat) (r : Rec) : (s.queueRec k r).stalled = s.stalled := by
  unfold State.queueRec
  try dsimp only
  repeat' split
  all_goals simp
@[simp] theorem State.queueRec_ports (s : State) (k : Nat) (r : Rec) : (s.queueRec k r).ports = s.ports := by
  unfold State.queueRec
  try dsimp only
  repeat' split
  all_goals simp
@[simp] theorem State.queueRec_blocks (s : State) (k : Nat) (r : Rec) : (s.queueRec k r).blocks = s.blocks := by
  unfold State.queueRec
  try dsimp only
  repeat' split
  all_goals simp
@[simp] theorem State.queueRec_jobs (s : State) (k : Nat) (r : Rec) : (s.queueRec k r).jobs = s.jobs := by
  unfold State.queueRec
  try dsimp only
  repeat' split
  all_goals simp
@[simp] theorem State.queueRec_pushes (s : State) (k : Nat) (r : Rec) : (s.queueRec k r).pushes = s.pushes := by
  unfold State.queueRec
  try dsimp only
  repeat' split
  all_goals simp
@[simp] theorem State.queueRec_nextUid (s : State) (k : Nat) (r : Rec) : (s.queueRec k r).nextUid = s.nextUid := by
  unfold State.queueRec
  try dsimp only
  repeat' split
  all_goals simp
@[simp] theorem State.queueRec_chans (s : State) (k : Nat) (r : Rec) : (s.queueRec k r).chans = s.chans := by
  unfold State.queueRec
  try dsimp only
  repeat' split
  all_goals simp
@[simp] theorem State.queueRec_granted (s : State) (k : Nat) (r : Rec) : (s.queueRec k r).granted = s.granted := by
  unfold State.queueRec
  try dsimp only
  repeat' split
  all_goals simp
@[simp] theorem State.queueRec_unfencing (s : State) (k : Nat) (r : Rec) : (s.queueRec k r).unfencing = s.unfencing := by
  unfold State.queueRec
  try dsimp only
  repeat' split
  all_goals simp
@[simp] theorem State.queueRec_bufCount (s : State) (k : Nat) (r : Rec) : (s.queueRec k r).bufCount = s.bufCount := by
  unfold State.queueRec
  try dsimp only
  repeat' split
  all_goals simp
@[simp] theorem State.queueRec_rt (s : State) (k : Nat) (r : Rec) : (s.queueRec k r).rt = s.rt := by
  unfold State.queueRec
  try dsimp only
  repeat' split
  all_goals simp
@[simp] theorem State.queueRec_moments (s : State) (k : Nat) (r : Rec) : (s.queueRec k r).moments = s.moments := by
  unfold State.queueRec
  try dsimp only
  repeat' split
  all_goals simp
@[simp] theorem State.queueRec_armed (s : State) (k : Nat) (r : Rec) : (s.queueRec k r).armed = s.armed := by
  unfold State.queueRec
  try dsimp only
  repeat' split
  all_goals simp
@[simp] theorem State.queueRec_ueWords (s : State) (k : Nat) (r : Rec) : (s.queueRec k r).ueWords = s.ueWords := by
  unfold State.queueRec
  try dsimp only
  repeat' split
  all_goals simp
@[simp] theorem State.queueRec_poison (s : State) (k : Nat) (r : Rec) : (s.queueRec k r).poison = s.poison := by
  unfold State.queueRec
  try dsimp only
  repeat' split
  all_goals simp
@[simp] theorem State.queueRec_wbq (s : State) (k : Nat) (r : Rec) : (s.queueRec k r).wbq = s.wbq := by
  unfold State.queueRec
  try dsimp only
  repeat' split
  all_goals simp
@[simp] theorem State.queueRec_sinceRead (s : State) (k : Nat) (r : Rec) : (s.queueRec k r).sinceRead = s.sinceRead := by
  unfold State.queueRec
  try dsimp only
  repeat' split
  all_goals simp
@[simp] theorem State.queueRec_frameTicks (s : State) (k : Nat) (r : Rec) : (s.queueRec k r).frameTicks = s.frameTicks := by
  unfold State.queueRec
  try dsimp only
  repeat' split
  all_goals simp
@[simp] theorem State.queueRec_loaderFault (s : State) (k : Nat) (r : Rec) : (s.queueRec k r).loaderFault = s.loaderFault := by
  unfold State.queueRec
  try dsimp only
  repeat' split
  all_goals simp
@[simp] theorem State.queueRec_telExtra (s : State) (k : Nat) (r : Rec) : (s.queueRec k r).telExtra = s.telExtra := by
  unfold State.queueRec
  try dsimp only
  repeat' split
  all_goals simp
@[simp] theorem State.queueRec_restored (s : State) (k : Nat) (r : Rec) : (s.queueRec k r).restored = s.restored := by
  unfold State.queueRec
  try dsimp only
  repeat' split
  all_goals simp
@[simp] theorem State.queueRec_tel (s : State) (k : Nat) (r : Rec) : (s.queueRec k r).tel = s.tel := by
  unfold State.queueRec
  try dsimp only
  repeat' split
  all_goals simp
@[simp] theorem State.queueRec_coreUs (s : State) (k : Nat) (r : Rec) : (s.queueRec k r).coreUs = s.coreUs := by
  unfold State.queueRec
  try dsimp only
  repeat' split
  all_goals simp
@[simp] theorem State.queueRec_scanFail (s : State) (k : Nat) (r : Rec) : (s.queueRec k r).scanFail = s.scanFail := by
  unfold State.queueRec
  try dsimp only
  repeat' split
  all_goals simp
@[simp] theorem State.queueRec_snap (s : State) (k : Nat) (r : Rec) : (s.queueRec k r).snap = s.snap := by
  unfold State.queueRec
  try dsimp only
  repeat' split
  all_goals simp
@[simp] theorem State.queueRec_telNext (s : State) (k : Nat) (r : Rec) : (s.queueRec k r).telNext = s.telNext := by
  unfold State.queueRec
  try dsimp only
  repeat' split
  all_goals simp
@[simp] theorem State.queueRec_chip (s : State) (k : Nat) (r : Rec) : (s.queueRec k r).chip = s.chip := by
  unfold State.queueRec
  try dsimp only
  repeat' split
  all_goals simp
@[simp] theorem State.queueRec_fuses (s : State) (k : Nat) (r : Rec) : (s.queueRec k r).fuses = s.fuses := by
  unfold State.queueRec
  try dsimp only
  repeat' split
  all_goals simp
@[simp] theorem State.queueRec_tap (s : State) (k : Nat) (r : Rec) : (s.queueRec k r).tap = s.tap := by
  unfold State.queueRec
  try dsimp only
  repeat' split
  all_goals simp
@[simp] theorem State.queueRec_mram (s : State) (k : Nat) (r : Rec) : (s.queueRec k r).mram = s.mram := by
  unfold State.queueRec
  try dsimp only
  repeat' split
  all_goals simp
@[simp] theorem State.queueRec_mramBad (s : State) (k : Nat) (r : Rec) : (s.queueRec k r).mramBad = s.mramBad := by
  unfold State.queueRec
  try dsimp only
  repeat' split
  all_goals simp
@[simp] theorem State.queueRec_load (s : State) (k : Nat) (r : Rec) : (s.queueRec k r).load = s.load := by
  unfold State.queueRec
  try dsimp only
  repeat' split
  all_goals simp
@[simp] theorem State.queueRec_saving (s : State) (k : Nat) (r : Rec) : (s.queueRec k r).saving = s.saving := by
  unfold State.queueRec
  try dsimp only
  repeat' split
  all_goals simp
@[simp] theorem State.queueRec_runDigest (s : State) (k : Nat) (r : Rec) : (s.queueRec k r).runDigest = s.runDigest := by
  unfold State.queueRec
  try dsimp only
  repeat' split
  all_goals simp
@[simp] theorem State.queueRec_bootGen (s : State) (k : Nat) (r : Rec) : (s.queueRec k r).bootGen = s.bootGen := by
  unfold State.queueRec
  try dsimp only
  repeat' split
  all_goals simp
@[simp] theorem State.queueRec_out (s : State) (k : Nat) (r : Rec) : (s.queueRec k r).out = s.out := by
  unfold State.queueRec
  try dsimp only
  repeat' split
  all_goals simp
@[simp] theorem State.queueRec_rd (s : State) (k : Nat) (r : Rec) (p : Nat) (g : Field) (i : Nat) : (s.queueRec k r).rd p g i = s.rd p g i :=
  State.rd_congr (State.queueRec_regs ..) ..

/-! ### Instances under updates of other parts -/

@[simp] theorem State.modPp_tgt (s : State) (n : Nat) (f : PpState → PpState) (j : Nat) : (s.modPp n f).tgt j = s.tgt j := by
  unfold State.tgt; rw [State.modPp_tgts]
@[simp] theorem State.modPp_src (s : State) (n : Nat) (f : PpState → PpState) (j : Nat) : (s.modPp n f).src j = s.src j := by
  unfold State.src; rw [State.modPp_srcs]
@[simp] theorem State.modPp_line (s : State) (n : Nat) (f : PpState → PpState) (j : Nat) : (s.modPp n f).line j = s.line j := by
  unfold State.line; rw [State.modPp_lines]
@[simp] theorem State.modPp_port (s : State) (n : Nat) (f : PpState → PpState) (j : Nat) : (s.modPp n f).port j = s.port j := by
  unfold State.port; rw [State.modPp_ports]
@[simp] theorem State.modPp_chan (s : State) (n : Nat) (f : PpState → PpState) (j : Nat) : (s.modPp n f).chan j = s.chan j := by
  unfold State.chan; rw [State.modPp_chans]
@[simp] theorem State.modTgt_pp (s : State) (n : Nat) (f : TgtState → TgtState) (j : Nat) : (s.modTgt n f).pp j = s.pp j := by
  unfold State.pp; rw [State.modTgt_pps]
@[simp] theorem State.modTgt_src (s : State) (n : Nat) (f : TgtState → TgtState) (j : Nat) : (s.modTgt n f).src j = s.src j := by
  unfold State.src; rw [State.modTgt_srcs]
@[simp] theorem State.modTgt_line (s : State) (n : Nat) (f : TgtState → TgtState) (j : Nat) : (s.modTgt n f).line j = s.line j := by
  unfold State.line; rw [State.modTgt_lines]
@[simp] theorem State.modTgt_port (s : State) (n : Nat) (f : TgtState → TgtState) (j : Nat) : (s.modTgt n f).port j = s.port j := by
  unfold State.port; rw [State.modTgt_ports]
@[simp] theorem State.modTgt_chan (s : State) (n : Nat) (f : TgtState → TgtState) (j : Nat) : (s.modTgt n f).chan j = s.chan j := by
  unfold State.chan; rw [State.modTgt_chans]
@[simp] theorem State.modSrc_pp (s : State) (n : Nat) (f : IntSrc → IntSrc) (j : Nat) : (s.modSrc n f).pp j = s.pp j := by
  unfold State.pp; rw [State.modSrc_pps]
@[simp] theorem State.modSrc_tgt (s : State) (n : Nat) (f : IntSrc → IntSrc) (j : Nat) : (s.modSrc n f).tgt j = s.tgt j := by
  unfold State.tgt; rw [State.modSrc_tgts]
@[simp] theorem State.modSrc_line (s : State) (n : Nat) (f : IntSrc → IntSrc) (j : Nat) : (s.modSrc n f).line j = s.line j := by
  unfold State.line; rw [State.modSrc_lines]
@[simp] theorem State.modSrc_port (s : State) (n : Nat) (f : IntSrc → IntSrc) (j : Nat) : (s.modSrc n f).port j = s.port j := by
  unfold State.port; rw [State.modSrc_ports]
@[simp] theorem State.modSrc_chan (s : State) (n : Nat) (f : IntSrc → IntSrc) (j : Nat) : (s.modSrc n f).chan j = s.chan j := by
  unfold State.chan; rw [State.modSrc_chans]
@[simp] theorem State.modLine_pp (s : State) (n : Nat) (f : LineState → LineState) (j : Nat) : (s.modLine n f).pp j = s.pp j := by
  unfold State.pp; rw [State.modLine_pps]
@[simp] theorem State.modLine_tgt (s : State) (n : Nat) (f : LineState → LineState) (j : Nat) : (s.modLine n f).tgt j = s.tgt j := by
  unfold State.tgt; rw [State.modLine_tgts]
@[simp] theorem State.modLine_src (s : State) (n : Nat) (f : LineState → LineState) (j : Nat) : (s.modLine n f).src j = s.src j := by
  unfold State.src; rw [State.modLine_srcs]
@[simp] theorem State.modLine_port (s : State) (n : Nat) (f : LineState → LineState) (j : Nat) : (s.modLine n f).port j = s.port j := by
  unfold State.port; rw [State.modLine_ports]
@[simp] theorem State.modLine_chan (s : State) (n : Nat) (f : LineState → LineState) (j : Nat) : (s.modLine n f).chan j = s.chan j := by
  unfold State.chan; rw [State.modLine_chans]
@[simp] theorem State.modPort_pp (s : State) (n : Nat) (f : PortState → PortState) (j : Nat) : (s.modPort n f).pp j = s.pp j := by
  unfold State.pp; rw [State.modPort_pps]
@[simp] theorem State.modPort_tgt (s : State) (n : Nat) (f : PortState → PortState) (j : Nat) : (s.modPort n f).tgt j = s.tgt j := by
  unfold State.tgt; rw [State.modPort_tgts]
@[simp] theorem State.modPort_src (s : State) (n : Nat) (f : PortState → PortState) (j : Nat) : (s.modPort n f).src j = s.src j := by
  unfold State.src; rw [State.modPort_srcs]
@[simp] theorem State.modPort_line (s : State) (n : Nat) (f : PortState → PortState) (j : Nat) : (s.modPort n f).line j = s.line j := by
  unfold State.line; rw [State.modPort_lines]
@[simp] theorem State.modPort_chan (s : State) (n : Nat) (f : PortState → PortState) (j : Nat) : (s.modPort n f).chan j = s.chan j := by
  unfold State.chan; rw [State.modPort_chans]
@[simp] theorem State.modChan_pp (s : State) (n : Nat) (f : ChanState → ChanState) (j : Nat) : (s.modChan n f).pp j = s.pp j := by
  unfold State.pp; rw [State.modChan_pps]
@[simp] theorem State.modChan_tgt (s : State) (n : Nat) (f : ChanState → ChanState) (j : Nat) : (s.modChan n f).tgt j = s.tgt j := by
  unfold State.tgt; rw [State.modChan_tgts]
@[simp] theorem State.modChan_src (s : State) (n : Nat) (f : ChanState → ChanState) (j : Nat) : (s.modChan n f).src j = s.src j := by
  unfold State.src; rw [State.modChan_srcs]
@[simp] theorem State.modChan_line (s : State) (n : Nat) (f : ChanState → ChanState) (j : Nat) : (s.modChan n f).line j = s.line j := by
  unfold State.line; rw [State.modChan_lines]
@[simp] theorem State.modChan_port (s : State) (n : Nat) (f : ChanState → ChanState) (j : Nat) : (s.modChan n f).port j = s.port j := by
  unfold State.port; rw [State.modChan_ports]
@[simp] theorem State.modRt_pp (s : State) (f : Raster → Raster) (j : Nat) : (s.modRt f).pp j = s.pp j := by
  unfold State.pp; rw [State.modRt_pps]
@[simp] theorem State.modRt_tgt (s : State) (f : Raster → Raster) (j : Nat) : (s.modRt f).tgt j = s.tgt j := by
  unfold State.tgt; rw [State.modRt_tgts]
@[simp] theorem State.modRt_src (s : State) (f : Raster → Raster) (j : Nat) : (s.modRt f).src j = s.src j := by
  unfold State.src; rw [State.modRt_srcs]
@[simp] theorem State.modRt_line (s : State) (f : Raster → Raster) (j : Nat) : (s.modRt f).line j = s.line j := by
  unfold State.line; rw [State.modRt_lines]
@[simp] theorem State.modRt_port (s : State) (f : Raster → Raster) (j : Nat) : (s.modRt f).port j = s.port j := by
  unfold State.port; rw [State.modRt_ports]
@[simp] theorem State.modRt_chan (s : State) (f : Raster → Raster) (j : Nat) : (s.modRt f).chan j = s.chan j := by
  unfold State.chan; rw [State.modRt_chans]
@[simp] theorem State.emit_pp (s : State) (o : Out) (j : Nat) : (s.emit o).pp j = s.pp j := by
  unfold State.pp; rw [State.emit_pps]
@[simp] theorem State.emit_tgt (s : State) (o : Out) (j : Nat) : (s.emit o).tgt j = s.tgt j := by
  unfold State.tgt; rw [State.emit_tgts]
@[simp] theorem State.emit_src (s : State) (o : Out) (j : Nat) : (s.emit o).src j = s.src j := by
  unfold State.src; rw [State.emit_srcs]
@[simp] theorem State.emit_line (s : State) (o : Out) (j : Nat) : (s.emit o).line j = s.line j := by
  unfold State.line; rw [State.emit_lines]
@[simp] theorem State.emit_port (s : State) (o : Out) (j : Nat) : (s.emit o).port j = s.port j := by
  unfold State.port; rw [State.emit_ports]
@[simp] theorem State.emit_chan (s : State) (o : Out) (j : Nat) : (s.emit o).chan j = s.chan j := by
  unfold State.chan; rw [State.emit_chans]
@[simp] theorem State.fault_pp (s : State) (l : Nat) (x : FaultSrc) (j : Nat) : (s.fault l x).pp j = s.pp j := by
  unfold State.pp; rw [State.fault_pps]
@[simp] theorem State.fault_tgt (s : State) (l : Nat) (x : FaultSrc) (j : Nat) : (s.fault l x).tgt j = s.tgt j := by
  unfold State.tgt; rw [State.fault_tgts]
@[simp] theorem State.fault_src (s : State) (l : Nat) (x : FaultSrc) (j : Nat) : (s.fault l x).src j = s.src j := by
  unfold State.src; rw [State.fault_srcs]
@[simp] theorem State.fault_line (s : State) (l : Nat) (x : FaultSrc) (j : Nat) : (s.fault l x).line j = s.line j := by
  unfold State.line; rw [State.fault_lines]
@[simp] theorem State.fault_port (s : State) (l : Nat) (x : FaultSrc) (j : Nat) : (s.fault l x).port j = s.port j := by
  unfold State.port; rw [State.fault_ports]
@[simp] theorem State.fault_chan (s : State) (l : Nat) (x : FaultSrc) (j : Nat) : (s.fault l x).chan j = s.chan j := by
  unfold State.chan; rw [State.fault_chans]
@[simp] theorem State.tally_pp (s : State) (o n : Nat) (j : Nat) : (s.tally o n).pp j = s.pp j := by
  unfold State.pp; rw [State.tally_pps]
@[simp] theorem State.tally_tgt (s : State) (o n : Nat) (j : Nat) : (s.tally o n).tgt j = s.tgt j := by
  unfold State.tgt; rw [State.tally_tgts]
@[simp] theorem State.tally_src (s : State) (o n : Nat) (j : Nat) : (s.tally o n).src j = s.src j := by
  unfold State.src; rw [State.tally_srcs]
@[simp] theorem State.tally_line (s : State) (o n : Nat) (j : Nat) : (s.tally o n).line j = s.line j := by
  unfold State.line; rw [State.tally_lines]
@[simp] theorem State.tally_port (s : State) (o n : Nat) (j : Nat) : (s.tally o n).port j = s.port j := by
  unfold State.port; rw [State.tally_ports]
@[simp] theorem State.tally_chan (s : State) (o n : Nat) (j : Nat) : (s.tally o n).chan j = s.chan j := by
  unfold State.chan; rw [State.tally_chans]
@[simp] theorem State.startDelay_pp (s : State) (k : Nat) (j : Nat) : (s.startDelay k).pp j = s.pp j := by
  unfold State.pp; rw [State.startDelay_pps]
@[simp] theorem State.startDelay_tgt (s : State) (k : Nat) (j : Nat) : (s.startDelay k).tgt j = s.tgt j := by
  unfold State.tgt; rw [State.startDelay_tgts]
@[simp] theorem State.startDelay_line (s : State) (k : Nat) (j : Nat) : (s.startDelay k).line j = s.line j := by
  unfold State.line; rw [State.startDelay_lines]
@[simp] theorem State.startDelay_port (s : State) (k : Nat) (j : Nat) : (s.startDelay k).port j = s.port j := by
  unfold State.port; rw [State.startDelay_ports]
@[simp] theorem State.startDelay_chan (s : State) (k : Nat) (j : Nat) : (s.startDelay k).chan j = s.chan j := by
  unfold State.chan; rw [State.startDelay_chans]
@[simp] theorem State.event_pp (s : State) (k : Nat) (j : Nat) : (s.event k).pp j = s.pp j := by
  unfold State.pp; rw [State.event_pps]
@[simp] theorem State.event_tgt (s : State) (k : Nat) (j : Nat) : (s.event k).tgt j = s.tgt j := by
  unfold State.tgt; rw [State.event_tgts]
@[simp] theorem State.event_line (s : State) (k : Nat) (j : Nat) : (s.event k).line j = s.line j := by
  unfold State.line; rw [State.event_lines]
@[simp] theorem State.event_port (s : State) (k : Nat) (j : Nat) : (s.event k).port j = s.port j := by
  unfold State.port; rw [State.event_ports]
@[simp] theorem State.event_chan (s : State) (k : Nat) (j : Nat) : (s.event k).chan j = s.chan j := by
  unfold State.chan; rw [State.event_chans]
@[simp] theorem State.pageRise_tgt (s : State) (p : Nat) (w : Bool) (j : Nat) : (s.pageRise p w).tgt j = s.tgt j := by
  unfold State.tgt; rw [State.pageRise_tgts]
@[simp] theorem State.pageRise_line (s : State) (p : Nat) (w : Bool) (j : Nat) : (s.pageRise p w).line j = s.line j := by
  unfold State.line; rw [State.pageRise_lines]
@[simp] theorem State.pageRise_port (s : State) (p : Nat) (w : Bool) (j : Nat) : (s.pageRise p w).port j = s.port j := by
  unfold State.port; rw [State.pageRise_ports]
@[simp] theorem State.pageRise_chan (s : State) (p : Nat) (w : Bool) (j : Nat) : (s.pageRise p w).chan j = s.chan j := by
  unfold State.chan; rw [State.pageRise_chans]
@[simp] theorem State.irq_tgt (s : State) (p b : Nat) (j : Nat) : (s.irq p b).tgt j = s.tgt j := by
  unfold State.tgt; rw [State.irq_tgts]
@[simp] theorem State.irq_line (s : State) (p b : Nat) (j : Nat) : (s.irq p b).line j = s.line j := by
  unfold State.line; rw [State.irq_lines]
@[simp] theorem State.irq_port (s : State) (p b : Nat) (j : Nat) : (s.irq p b).port j = s.port j := by
  unfold State.port; rw [State.irq_ports]
@[simp] theorem State.irq_chan (s : State) (p b : Nat) (j : Nat) : (s.irq p b).chan j = s.chan j := by
  unfold State.chan; rw [State.irq_chans]
@[simp] theorem State.endClaim_pp (s : State) (k : Nat) (j : Nat) : (s.endClaim k).pp j = s.pp j := by
  unfold State.pp; rw [State.endClaim_pps]
@[simp] theorem State.endClaim_tgt (s : State) (k : Nat) (j : Nat) : (s.endClaim k).tgt j = s.tgt j := by
  unfold State.tgt; rw [State.endClaim_tgts]
@[simp] theorem State.endClaim_line (s : State) (k : Nat) (j : Nat) : (s.endClaim k).line j = s.line j := by
  unfold State.line; rw [State.endClaim_lines]
@[simp] theorem State.endClaim_port (s : State) (k : Nat) (j : Nat) : (s.endClaim k).port j = s.port j := by
  unfold State.port; rw [State.endClaim_ports]
@[simp] theorem State.endClaim_chan (s : State) (k : Nat) (j : Nat) : (s.endClaim k).chan j = s.chan j := by
  unfold State.chan; rw [State.endClaim_chans]
@[simp] theorem State.err_pp (s : State) (p b : Nat) (j : Nat) : (s.err p b).pp j = s.pp j := by
  unfold State.pp; rw [State.err_pps]
@[simp] theorem State.err_tgt (s : State) (p b : Nat) (j : Nat) : (s.err p b).tgt j = s.tgt j := by
  unfold State.tgt; rw [State.err_tgts]
@[simp] theorem State.err_src (s : State) (p b : Nat) (j : Nat) : (s.err p b).src j = s.src j := by
  unfold State.src; rw [State.err_srcs]
@[simp] theorem State.err_line (s : State) (p b : Nat) (j : Nat) : (s.err p b).line j = s.line j := by
  unfold State.line; rw [State.err_lines]
@[simp] theorem State.err_port (s : State) (p b : Nat) (j : Nat) : (s.err p b).port j = s.port j := by
  unfold State.port; rw [State.err_ports]
@[simp] theorem State.err_chan (s : State) (p b : Nat) (j : Nat) : (s.err p b).chan j = s.chan j := by
  unfold State.chan; rw [State.err_chans]
@[simp] theorem State.cmdStart_pp (s : State) (p c : Nat) (j : Nat) : (s.cmdStart p c).pp j = s.pp j := by
  unfold State.pp; rw [State.cmdStart_pps]
@[simp] theorem State.cmdStart_tgt (s : State) (p c : Nat) (j : Nat) : (s.cmdStart p c).tgt j = s.tgt j := by
  unfold State.tgt; rw [State.cmdStart_tgts]
@[simp] theorem State.cmdStart_src (s : State) (p c : Nat) (j : Nat) : (s.cmdStart p c).src j = s.src j := by
  unfold State.src; rw [State.cmdStart_srcs]
@[simp] theorem State.cmdStart_line (s : State) (p c : Nat) (j : Nat) : (s.cmdStart p c).line j = s.line j := by
  unfold State.line; rw [State.cmdStart_lines]
@[simp] theorem State.cmdStart_port (s : State) (p c : Nat) (j : Nat) : (s.cmdStart p c).port j = s.port j := by
  unfold State.port; rw [State.cmdStart_ports]
@[simp] theorem State.cmdStart_chan (s : State) (p c : Nat) (j : Nat) : (s.cmdStart p c).chan j = s.chan j := by
  unfold State.chan; rw [State.cmdStart_chans]
@[simp] theorem State.cmdEnd_tgt (s : State) (p st d : Nat) (j : Nat) : (s.cmdEnd p st d).tgt j = s.tgt j := by
  unfold State.tgt; rw [State.cmdEnd_tgts]
@[simp] theorem State.cmdEnd_line (s : State) (p st d : Nat) (j : Nat) : (s.cmdEnd p st d).line j = s.line j := by
  unfold State.line; rw [State.cmdEnd_lines]
@[simp] theorem State.cmdEnd_port (s : State) (p st d : Nat) (j : Nat) : (s.cmdEnd p st d).port j = s.port j := by
  unfold State.port; rw [State.cmdEnd_ports]
@[simp] theorem State.cmdEnd_chan (s : State) (p st d : Nat) (j : Nat) : (s.cmdEnd p st d).chan j = s.chan j := by
  unfold State.chan; rw [State.cmdEnd_chans]
@[simp] theorem State.cmdStop_tgt (s : State) (p st : Nat) (j : Nat) : (s.cmdStop p st).tgt j = s.tgt j := by
  unfold State.tgt; rw [State.cmdStop_tgts]
@[simp] theorem State.cmdStop_line (s : State) (p st : Nat) (j : Nat) : (s.cmdStop p st).line j = s.line j := by
  unfold State.line; rw [State.cmdStop_lines]
@[simp] theorem State.cmdStop_port (s : State) (p st : Nat) (j : Nat) : (s.cmdStop p st).port j = s.port j := by
  unfold State.port; rw [State.cmdStop_ports]
@[simp] theorem State.cmdStop_chan (s : State) (p st : Nat) (j : Nat) : (s.cmdStop p st).chan j = s.chan j := by
  unfold State.chan; rw [State.cmdStop_chans]
@[simp] theorem State.refuse_tgt (s : State) (p : Nat) (c : RefCause) (j : Nat) : (s.refuse p c).tgt j = s.tgt j := by
  unfold State.tgt; rw [State.refuse_tgts]
@[simp] theorem State.refuse_line (s : State) (p : Nat) (c : RefCause) (j : Nat) : (s.refuse p c).line j = s.line j := by
  unfold State.line; rw [State.refuse_lines]
@[simp] theorem State.refuse_port (s : State) (p : Nat) (c : RefCause) (j : Nat) : (s.refuse p c).port j = s.port j := by
  unfold State.port; rw [State.refuse_ports]
@[simp] theorem State.refuse_chan (s : State) (p : Nat) (c : RefCause) (j : Nat) : (s.refuse p c).chan j = s.chan j := by
  unfold State.chan; rw [State.refuse_chans]
@[simp] theorem State.startHoldOff_pp (s : State) (k : Nat) (j : Nat) : (s.startHoldOff k).pp j = s.pp j := by
  unfold State.pp; rw [State.startHoldOff_pps]
@[simp] theorem State.startHoldOff_tgt (s : State) (k : Nat) (j : Nat) : (s.startHoldOff k).tgt j = s.tgt j := by
  unfold State.tgt; rw [State.startHoldOff_tgts]
@[simp] theorem State.startHoldOff_src (s : State) (k : Nat) (j : Nat) : (s.startHoldOff k).src j = s.src j := by
  unfold State.src; rw [State.startHoldOff_srcs]
@[simp] theorem State.startHoldOff_line (s : State) (k : Nat) (j : Nat) : (s.startHoldOff k).line j = s.line j := by
  unfold State.line; rw [State.startHoldOff_lines]
@[simp] theorem State.startHoldOff_port (s : State) (k : Nat) (j : Nat) : (s.startHoldOff k).port j = s.port j := by
  unfold State.port; rw [State.startHoldOff_ports]
@[simp] theorem State.startHoldOff_chan (s : State) (k : Nat) (j : Nat) : (s.startHoldOff k).chan j = s.chan j := by
  unfold State.chan; rw [State.startHoldOff_chans]
@[simp] theorem State.queueRec_pp (s : State) (k : Nat) (r : Rec) (j : Nat) : (s.queueRec k r).pp j = s.pp j := by
  unfold State.pp; rw [State.queueRec_pps]
@[simp] theorem State.queueRec_line (s : State) (k : Nat) (r : Rec) (j : Nat) : (s.queueRec k r).line j = s.line j := by
  unfold State.line; rw [State.queueRec_lines]
@[simp] theorem State.queueRec_port (s : State) (k : Nat) (r : Rec) (j : Nat) : (s.queueRec k r).port j = s.port j := by
  unfold State.port; rw [State.queueRec_ports]
@[simp] theorem State.queueRec_chan (s : State) (k : Nat) (r : Rec) (j : Nat) : (s.queueRec k r).chan j = s.chan j := by
  unfold State.chan; rw [State.queueRec_chans]

end Sys2Proof.Machine
end

