-- ==== Sys2Proof/Laws/Flags.lean ====
section
/-!
SUPPORT. What the operations on interrupt sources, page flags, commands and refusals do: one lemma that says which part of the
state each may change, and the values they leave.
-/
set_option Elab.async false

namespace Sys2Proof.Machine

/-! ### Interrupt sources -/

theorem State.startDelay_src_ne (s : State) {k j : Nat} (h : k ≠ j) : (s.startDelay k).src j = s.src j := by
  unfold State.startDelay
  extract_lets g
  split
  · exact State.modSrc_src_ne _ _ h
  · rfl

theorem State.startDelay_src_self (s : State) (k : Nat) :
    ∃ d, (s.startDelay k).src k = { s.src k with delay := d } := by
  unfold State.startDelay
  extract_lets g
  split
  · exact ⟨true, State.modSrc_src_self _ _ _⟩
  · exact ⟨(s.src k).delay, rfl⟩

/-- A delay changes the sources only. -/
theorem State.startDelay_frame (s : State) (k : Nat) : s.startDelay k = { s with srcs := (s.startDelay k).srcs } := by
  unfold State.startDelay
  extract_lets g
  split <;> rfl

/-- An event changes no other source. -/
theorem State.event_src_ne (s : State) {k j : Nat} (h : k ≠ j) : (s.event k).src j = s.src j := by
  unfold State.event
  extract_lets x s1
  split
  · rfl
  · split
    · rw [State.startDelay_src_ne _ h]; exact State.modSrc_src_ne _ _ h
    · exact State.modSrc_src_ne _ _ h

/-- An event of an enabled source counts, up to 255 (R346). -/
theorem State.event_src_self (s : State) (k : Nat) (he : (s.src k).en = true) (hr : s.icuRuns = true) :
    ∃ d, (s.event k).src k = { s.src k with count := min ((s.src k).count + 1) 255, delay := d } := by
  unfold State.event
  extract_lets x s1
  have h1 : s1.src k = { s.src k with count := min ((s.src k).count + 1) 255 } := State.modSrc_src_self _ _ _
  split
  · rename_i h; simp [x, he, hr] at h
  · split
    · obtain ⟨d, h⟩ := s1.startDelay_src_self k
      exact ⟨d, by rw [h, h1]⟩
    · exact ⟨_, h1⟩

/-- An event leaves everything of its source but the count and the delay. -/
theorem State.event_src_any (s : State) (k : Nat) :
    ∃ c d, (s.event k).src k = { s.src k with count := c, delay := d } := by
  unfold State.event
  extract_lets x s1
  have h1 : s1.src k = { s.src k with count := min ((s.src k).count + 1) 255 } := State.modSrc_src_self _ _ _
  split
  · exact ⟨(s.src k).count, (s.src k).delay, rfl⟩
  · split
    · obtain ⟨d, h⟩ := s1.startDelay_src_self k
      exact ⟨_, d, by rw [h, h1]⟩
    · exact ⟨_, _, h1⟩

/-- An event changes the sources only. -/
theorem State.event_frame (s : State) (k : Nat) : s.event k = { s with srcs := (s.event k).srcs } := by
  unfold State.event
  extract_lets x s1
  split
  · rfl
  · split
    · rw [State.startDelay_frame]; rfl
    · rfl

/-- The end of a claim changes the sources only. -/
theorem State.endClaim_frame (s : State) (k : Nat) : s.endClaim k = { s with srcs := (s.endClaim k).srcs } := by
  unfold State.endClaim
  extract_lets s1 page s2
  have h2 : s2 = { s with srcs := s2.srcs } := by
    unfold s2
    split
    · rw [State.startDelay_frame]; rfl
    · rfl
  cases page with
  | none => exact h2
  | some p =>
    dsimp only
    split
    · rw [State.event_frame, h2]
    · exact h2

/-- The end of a claim changes no other source. -/
theorem State.endClaim_src_ne (s : State) {k j : Nat} (h : k ≠ j) : (s.endClaim k).src j = s.src j := by
  unfold State.endClaim
  extract_lets s1 page s2
  have h1 : s1.src j = s.src j := State.modSrc_src_ne _ _ h
  have h2 : s2.src j = s.src j := by
    unfold s2
    split
    · rw [State.startDelay_src_ne _ h, h1]
    · exact h1
  cases page with
  | none => exact h2
  | some p =>
    dsimp only
    split
    · rw [State.event_src_ne _ h, h2]
    · exact h2

/-- The claim has ended (R351). -/
theorem State.endClaim_src_self (s : State) (k : Nat) :
    ∃ c d, (s.endClaim k).src k = { s.src k with active := false, count := c, delay := d } := by
  unfold State.endClaim
  extract_lets s1 page s2
  have h1 : s1.src k = { s.src k with active := false } := State.modSrc_src_self _ _ _
  have h2 : ∃ d, s2.src k = { s.src k with active := false, delay := d } := by
    unfold s2
    split
    · obtain ⟨d, h⟩ := s1.startDelay_src_self k
      exact ⟨d, by rw [h, h1]⟩
    · exact ⟨(s.src k).delay, h1⟩
  obtain ⟨d, h2⟩ := h2
  cases page with
  | none => exact ⟨(s.src k).count, d, h2⟩
  | some p =>
    dsimp only
    split
    · obtain ⟨c, e, h⟩ := s2.event_src_any k
      exact ⟨c, e, by rw [h, h2]⟩
    · exact ⟨(s.src k).count, d, h2⟩

/-- A hold-off changes the list of hold-offs only. -/
theorem State.startHoldOff_frame (s : State) (g : Nat) :
    s.startHoldOff g = { s with holdOff := (s.startHoldOff g).holdOff } := by
  unfold State.startHoldOff
  split <;> rfl

/-! ### The choice among sources (R349) -/

/-- `x` ranks before `e`, or is `e`. -/
def ranksFirst (x e : Nat × IntSrc) : Prop := e.2.level < x.2.level ∨ (e.2.level = x.2.level ∧ srcNum x.1 ≤ srcNum e.1)

theorem ranksFirst_trans {x y z : Nat × IntSrc} (h : ranksFirst x y) (g : ranksFirst y z) : ranksFirst x z := by
  unfold ranksFirst at *; omega

theorem rankFirst_spec (a b : Nat × IntSrc) :
    (rankFirst a b = a ∨ rankFirst a b = b) ∧ ranksFirst (rankFirst a b) a ∧ ranksFirst (rankFirst a b) b := by
  unfold rankFirst ranksFirst
  split
  · exact ⟨.inl rfl, by omega, by omega⟩
  · split
    · exact ⟨.inr rfl, by omega, by omega⟩
    · split
      · exact ⟨.inl rfl, by omega, by omega⟩
      · exact ⟨.inr rfl, by omega, by omega⟩

/-- The first of a list in rank is of the list, and none of the list ranks before it. -/
theorem topSource_spec (l : List (Nat × IntSrc)) (x : Nat × IntSrc) (h : topSource l = some x) :
    x ∈ l ∧ ∀ e ∈ l, ranksFirst x e := by
  induction l generalizing x with
  | nil => cases h
  | cons a t ih =>
    simp only [topSource] at h
    split at h
    · rename_i hn
      cases h
      cases t with
      | nil => simp [ranksFirst]
      | cons b u =>
        simp only [topSource] at hn
        split at hn <;> cases hn
    · rename_i b hb
      cases h
      obtain ⟨h1, h2⟩ := ih b hb
      obtain ⟨r, ra, rb⟩ := rankFirst_spec a b
      refine ⟨?_, fun e he => ?_⟩
      · rcases r with r | r <;> simp [r, h1]
      · rcases List.mem_cons.1 he with rfl | he
        · exact ra
        · exact ranksFirst_trans rb (h2 e he)

/-! ### Page flags -/

/-- The rise of a page's condition changes the sources and vector 8 only. -/
theorem State.pageRise_frame (s : State) (p : Nat) (w : Bool) :
    s.pageRise p w = { s with srcs := (s.pageRise p w).srcs, pps := (s.pageRise p w).pps } := by
  unfold State.pageRise
  split
  · rfl
  · split
    · rw [State.event_frame]; rfl
    · rw [State.event_frame]
    · rfl

/-- Setting interrupt bits of a page. -/
theorem State.irq_regs (s : State) (p b : Nat) : (s.irq p b).regs = (s.orBits p PAGE_IRQ_PEND_PEND b 0).regs := by
  simp [State.irq]

theorem State.irq_rd_ne (s : State) (p b : Nat) {q : Nat} {f : Field} {i : Nat}
    (h : fieldKey p PAGE_IRQ_PEND_PEND 0 ≠ fieldKey q f i) : (s.irq p b).rd q f i = s.rd q f i := by
  rw [State.rd_congr (s.irq_regs p b), State.orBits_eq, State.rd_wr_ne _ _ h]

theorem State.irq_frame (s : State) (p b : Nat) :
    s.irq p b = { s with regs := (s.irq p b).regs, srcs := (s.irq p b).srcs, pps := (s.irq p b).pps } := by
  unfold State.irq
  rw [State.pageRise_frame]
  rfl

/-- Setting a bit of PAGE_ERRSRC: the register, and at most one event for the collector (R368). -/
theorem State.err_regs (s : State) (p b : Nat) : (s.err p b).regs = (s.orBits p PAGE_ERRSRC_SRC (bit b) 0).regs := by
  unfold State.err
  extract_lets s1
  repeat' split
  all_goals rfl

theorem State.err_rd_ne (s : State) (p b : Nat) {q : Nat} {f : Field} {i : Nat}
    (h : fieldKey p PAGE_ERRSRC_SRC 0 ≠ fieldKey q f i) : (s.err p b).rd q f i = s.rd q f i := by
  rw [State.rd_congr (s.err_regs p b), State.orBits_eq, State.rd_wr_ne _ _ h]

theorem State.err_frame (s : State) (p b : Nat) :
    s.err p b = { s with regs := (s.err p b).regs, faults := (s.err p b).faults } := by
  unfold State.err
  extract_lets s1
  repeat' split
  all_goals rfl

/-! ### Commands -/

/-- The fields of a page's header stand at distinct keys. -/
theorem headKey_ne {p q : Nat} {f g : Field} (hf : f.off < 4096) (hg : g.off < 4096) (h1 : f.lo < 32) (h2 : g.lo < 32)
    (h : p ≠ q ∨ f.off ≠ g.off ∨ f.lo ≠ g.lo) : fieldKey p f 0 ≠ fieldKey q g 0 := by
  unfold fieldKey; omega

theorem State.cmdEnd_frame (s : State) (p st d : Nat) :
    s.cmdEnd p st d = { s with
      regs := (s.cmdEnd p st d).regs, srcs := (s.cmdEnd p st d).srcs, pps := (s.cmdEnd p st d).pps } := by
  unfold State.cmdEnd
  extract_lets s1
  rw [show s1.irq p 1 = _ from State.irq_frame s1 p 1]
  rfl

/-- What a command that has ended reports (R49). -/
theorem State.cmdEnd_reports (s : State) (p st d : Nat) :
    (s.cmdEnd p st d).rd p PAGE_RESULT_STATUS = st % 256 ∧
    (s.cmdEnd p st d).rd p PAGE_RESULT_CODE = s.rd p PAGE_CMD_CODE % 256 ∧
    (s.cmdEnd p st d).rd p PAGE_RESULT_DETAIL = d % 65536 ∧ (s.cmdEnd p st d).rd p PAGE_STAT_BUSY = 0 := by
  have h {f g : Field} (hf : f.off < 4096 ∧ g.off < 4096 ∧ f.lo < 32 ∧ g.lo < 32) (h : f.off ≠ g.off ∨ f.lo ≠ g.lo) :
      fieldKey p f 0 ≠ fieldKey p g 0 := headKey_ne hf.1 hf.2.1 hf.2.2.1 hf.2.2.2 (.inr h)
  unfold State.cmdEnd
  extract_lets s1
  refine ⟨?_, ?_, ?_, by simp⟩
  · rw [State.rd_wr_ne _ _ (h (by decide) (by decide)), State.irq_rd_ne _ _ _ (h (by decide) (by decide)),
      State.rd_wr_ne _ _ (h (by decide) (by decide)), State.rd_wr_ne _ _ (h (by decide) (by decide)), State.rd_wr_self]
    rfl
  · rw [State.rd_wr_ne _ _ (h (by decide) (by decide)), State.irq_rd_ne _ _ _ (h (by decide) (by decide)),
      State.rd_wr_ne _ _ (h (by decide) (by decide)), State.rd_wr_self]
    rfl
  · rw [State.rd_wr_ne _ _ (h (by decide) (by decide)), State.irq_rd_ne _ _ _ (h (by decide) (by decide)), State.rd_wr_self]
    rfl

/-- The registers that the end of a command leaves alone. -/
theorem State.cmdEnd_regsBut (s : State) (p st d : Nat) : s.regsBut (s.cmdEnd p st d) (cmdKeys p) := by
  intro k hk
  simp only [cmdKeys, List.mem_cons, List.not_mem_nil, or_false, not_or] at hk
  unfold State.cmdEnd
  extract_lets s1
  rw [State.regs_wr_ne _ _ (fun e => hk.2.1 e.symm), State.irq_regs, State.orBits_eq,
    State.regs_wr_ne _ _ (fun e => hk.2.2.2.2.2 e.symm), State.regs_wr_ne _ _ (fun e => hk.2.2.2.2.1 e.symm),
    State.regs_wr_ne _ _ (fun e => hk.2.2.2.1 e.symm), State.regs_wr_ne _ _ (fun e => hk.2.2.1 e.symm)]

theorem State.cmdStart_regsBut (s : State) (p c : Nat) : s.regsBut (s.cmdStart p c) (cmdKeys p) := by
  intro k hk
  simp only [cmdKeys, List.mem_cons, List.not_mem_nil, or_false, not_or] at hk
  unfold State.cmdStart
  rw [State.regs_wr_ne _ _ (fun e => hk.2.2.1 e.symm), State.regs_wr_ne _ _ (fun e => hk.2.1 e.symm),
    State.regs_wr_ne _ _ (fun e => hk.1 e.symm)]

/-! ### The gate -/

/-- A write that the gate lets through. -/
theorem State.guarded_opens {s : State} {pp p : Nat} (h : s.opens pp p) (f : State → State) : s.guarded pp p none f = f s := by
  obtain ⟨-, h2, h3⟩ := h
  simp [State.guarded, h2, h3]

/-- A command that the gate lets through and that is permitted. -/
theorem State.command_opens {s : State} {pp p : Nat} (h : s.opens pp p) (c : Nat) (f : State → State) :
    s.command pp p c true f = f (s.cmdStart p c) := by
  obtain ⟨-, h2, h3⟩ := h
  simp [State.command, h2, h3]

/-- A write that the gate refuses. -/
theorem State.guarded_refused {s : State} {pp p : Nat} {c : RefCause} (hd : s.deaf = false) (h : s.gate pp p = some c)
    (x : Option RefCause) (f : State → State) : s.guarded pp p x f = s.refuse p c := by
  simp [State.guarded, hd, h]

theorem State.command_refused {s : State} {pp p : Nat} {c : RefCause} (hd : s.deaf = false) (h : s.gate pp p = some c)
    (code : Nat) (ok : Bool) (f : State → State) : s.command pp p code ok f = s.refuse p c := by
  simp [State.command, hd, h]

theorem State.regsBut_trans {s t u : State} {l : List Nat} (h : s.regsBut t l) (g : t.regsBut u l) : s.regsBut u l :=
  fun k hk => (g k hk).trans (h k hk)

theorem State.regsBut_refl (s : State) (l : List Nat) : s.regsBut s l := fun _ _ => rfl

theorem State.regsBut_mono {s t : State} {l m : List Nat} (h : s.regsBut t l) (hs : ∀ k ∈ l, k ∈ m) : s.regsBut t m :=
  fun k hk => h k fun hl => hk (hs k hl)

theorem State.regsBut_wr {s t : State} {l : List Nat} (h : s.regsBut t l) (p : Nat) (f : Field) (v i : Nat)
    (hk : fieldKey p f i ∈ l) : s.regsBut (t.wr p f v i) l := fun k hl => by
  have e : fieldKey p f i ≠ k := fun e => hl (by rw [← e]; exact hk)
  rw [State.regs_wr_ne _ _ e]; exact h k hl

theorem State.regsBut_irq {s t : State} {l : List Nat} (h : s.regsBut t l) (p b : Nat)
    (hk : fieldKey p PAGE_IRQ_PEND_PEND 0 ∈ l) : s.regsBut (t.irq p b) l := fun k hl => by
  have e : fieldKey p PAGE_IRQ_PEND_PEND 0 ≠ k := fun e => hl (by rw [← e]; exact hk)
  rw [State.irq_regs, State.orBits_eq, State.regs_wr_ne _ _ e]; exact h k hl

theorem State.regsBut_err {s t : State} {l : List Nat} (h : s.regsBut t l) (p b : Nat)
    (hk : fieldKey p PAGE_ERRSRC_SRC 0 ∈ l) : s.regsBut (t.err p b) l := fun k hl => by
  have e : fieldKey p PAGE_ERRSRC_SRC 0 ≠ k := fun e => hl (by rw [← e]; exact hk)
  rw [State.err_regs, State.orBits_eq, State.regs_wr_ne _ _ e]; exact h k hl

end Sys2Proof.Machine
end

