-- ==== Sys2Proof/Laws/KeepOps.lean ====
section
/-!
SUPPORT. Every operation over registers, memory, rings, sources and mover channels keeps what `State.keeps` says.
-/
set_option Elab.async false

set_option linter.all false
namespace Sys2Proof.Machine

theorem mapRising_mapMod {α : Type} [DecidableEq α] (d : α) {m : SMap α} (k : Nat) (f : α → α) (h : mapRising m = true) :
    mapRising (mapMod d m k f) = true := mapRising_mapSet h _ k _

theorem State.wr_keeps {a0 s : State} (p : Nat) (f : Field) (v : Nat) (i : Nat) (h : a0.keeps s) :
    a0.keeps (s.wr p f v i) :=
  State.keeps_regs h (fun x => mapRising_mapSet x _ _ _) rfl rfl rfl rfl

theorem State.wrB_keeps {a0 s : State} (p : Nat) (f : Field) (b : Bool) (i : Nat) (hk : a0.keeps s) :
    a0.keeps (State.wrB s p f b i) := by
  unfold State.wrB
  try dsimp only
  repeat' (first
    | with_reducible assumption
    | with_reducible apply State.wr_keeps
    | split
    | with_reducible apply State.keeps_mk
    | (intro _; intros; try dsimp only))

theorem State.bump_keeps {a0 s : State} (p : Nat) (f : Field) (n : Nat) (i : Nat) (hk : a0.keeps s) :
    a0.keeps (State.bump s p f n i) := by
  unfold State.bump
  try dsimp only
  repeat' (first
    | with_reducible assumption
    | with_reducible apply State.wr_keeps
    | split
    | with_reducible apply State.keeps_mk
    | (intro _; intros; try dsimp only))

theorem State.adv_keeps {a0 s : State} (p : Nat) (f : Field) (n : Nat) (i : Nat) (hk : a0.keeps s) :
    a0.keeps (State.adv s p f n i) := by
  unfold State.adv
  try dsimp only
  repeat' (first
    | with_reducible assumption
    | with_reducible apply State.wr_keeps
    | split
    | with_reducible apply State.keeps_mk
    | (intro _; intros; try dsimp only))

theorem State.orBits_keeps {a0 s : State} (p : Nat) (f : Field) (bits : Nat) (i : Nat) (hk : a0.keeps s) :
    a0.keeps (State.orBits s p f bits i) := by
  unfold State.orBits
  try dsimp only
  repeat' (first
    | with_reducible assumption
    | with_reducible apply State.wr_keeps
    | split
    | with_reducible apply State.keeps_mk
    | (intro _; intros; try dsimp only))

theorem State.tally_keeps {a0 s : State} (off : Nat) (n : Nat) (hk : a0.keeps s) :
    a0.keeps (State.tally s off n) := by
  unfold State.tally
  try dsimp only
  repeat' (first
    | with_reducible assumption
    | split
    | with_reducible apply State.keeps_mk
    | (intro _; intros; try dsimp only))

theorem State.tallyCl_keeps {a0 s : State} (c word : Nat) (n : Nat) (hk : a0.keeps s) :
    a0.keeps (State.tallyCl s c word n) := by
  unfold State.tallyCl
  try dsimp only
  repeat' (first
    | with_reducible assumption
    | with_reducible apply State.tally_keeps
    | split
    | with_reducible apply State.keeps_mk
    | (intro _; intros; try dsimp only))

theorem State.tallyPort_keeps {a0 s : State} (n word : Nat) (k : Nat) (hk : a0.keeps s) :
    a0.keeps (State.tallyPort s n word k) := by
  unfold State.tallyPort
  try dsimp only
  repeat' (first
    | with_reducible assumption
    | with_reducible apply State.tally_keeps
    | split
    | with_reducible apply State.keeps_mk
    | (intro _; intros; try dsimp only))

theorem State.emit_keeps {a0 s : State} (o : Out) (hk : a0.keeps s) :
    a0.keeps (State.emit s o) := by
  unfold State.emit
  try dsimp only
  repeat' (first
    | with_reducible assumption
    | split
    | with_reducible apply State.keeps_mk
    | (intro _; intros; try dsimp only))

theorem State.modPp_keeps {a0 s : State} (n : Nat) (f : PpState → PpState) (hk : a0.keeps s) :
    a0.keeps (State.modPp s n f) := by
  unfold State.modPp
  try dsimp only
  repeat' (first
    | with_reducible assumption
    | split
    | with_reducible apply State.keeps_mk
    | (intro _; intros; try dsimp only))

theorem State.modTgt_keeps {a0 s : State} (k : Nat) (f : TgtState → TgtState) (hk : a0.keeps s) :
    a0.keeps (State.modTgt s k f) := by
  unfold State.modTgt
  try dsimp only
  repeat' (first
    | with_reducible assumption
    | split
    | with_reducible apply State.keeps_mk
    | (intro _; intros; try dsimp only))

theorem State.modSrc_keeps {a0 s : State} (k : Nat) (f : IntSrc → IntSrc) (hk : a0.keeps s) :
    a0.keeps (State.modSrc s k f) := by
  unfold State.modSrc
  try dsimp only
  repeat' (first
    | with_reducible assumption
    | split
    | with_reducible apply State.keeps_mk
    | (intro _; intros; try dsimp only))

theorem State.modLine_keeps {a0 s : State} (l : Nat) (f : LineState → LineState) (hk : a0.keeps s) :
    a0.keeps (State.modLine s l f) := by
  unfold State.modLine
  try dsimp only
  repeat' (first
    | with_reducible assumption
    | split
    | with_reducible apply State.keeps_mk
    | (intro _; intros; try dsimp only))

theorem State.modPort_keeps {a0 s : State} (n : Nat) (f : PortState → PortState) (hk : a0.keeps s) :
    a0.keeps (State.modPort s n f) := by
  unfold State.modPort
  try dsimp only
  repeat' (first
    | with_reducible assumption
    | split
    | with_reducible apply State.keeps_mk
    | (intro _; intros; try dsimp only))

theorem State.modChan_keeps {a0 s : State} (m : Nat) (f : ChanState → ChanState) (hk : a0.keeps s) :
    a0.keeps (State.modChan s m f) := by
  unfold State.modChan
  try dsimp only
  repeat' (first
    | with_reducible assumption
    | split
    | with_reducible apply State.keeps_mk
    | (intro _; intros; try dsimp only))

theorem State.modJob_keeps {a0 s : State} (uid : Nat) (f : Job → Job) (hk : a0.keeps s) :
    a0.keeps (State.modJob s uid f) := by
  unfold State.modJob
  try dsimp only
  repeat' (first
    | with_reducible assumption
    | split
    | with_reducible apply State.keeps_mk
    | (intro _; intros; try dsimp only))

theorem State.fresh_keeps {a0 s : State} (hk : a0.keeps s) :
    a0.keeps (State.fresh s).2 := by
  unfold State.fresh
  try dsimp only
  repeat' (first
    | with_reducible assumption
    | split
    | with_reducible apply State.keeps_mk
    | (intro _; intros; try dsimp only))
theorem State.fresh_keeps_eq {a0 s t : State} {v : Nat}  (hk : a0.keeps s)
    (hv : State.fresh s = (v, t)) : a0.keeps t := by
  have := State.fresh_keeps (s := s)  hk
  rw [hv] at this
  exact this

theorem State.byCores_keeps {a0 s : State} (f : State → State) (hf : ∀ t, a0.keeps t → a0.keeps (f t)) (hk : a0.keeps s) :
    a0.keeps (State.byCores s f) := by
  unfold State.byCores
  try dsimp only
  repeat' (first
    | with_reducible assumption
    | apply hf
    | split
    | with_reducible apply State.keeps_mk
    | (intro _; intros; try dsimp only))

theorem State.drawRandom_keeps {a0 s : State} (hk : a0.keeps s) :
    a0.keeps (State.drawRandom s).2 := by
  unfold State.drawRandom
  try dsimp only
  repeat' (first
    | with_reducible assumption
    | split
    | with_reducible apply State.keeps_mk
    | (intro _; intros; try dsimp only))
theorem State.drawRandom_keeps_eq {a0 s t : State} {v : Nat}  (hk : a0.keeps s)
    (hv : State.drawRandom s = (v, t)) : a0.keeps t := by
  have := State.drawRandom_keeps (s := s)  hk
  rw [hv] at this
  exact this

theorem State.drawCrypto_keeps {a0 s : State} (hk : a0.keeps s) :
    a0.keeps (State.drawCrypto s).2 := by
  unfold State.drawCrypto
  try dsimp only
  repeat' (first
    | with_reducible assumption
    | split
    | with_reducible apply State.keeps_mk
    | (intro _; intros; try dsimp only))
theorem State.drawCrypto_keeps_eq {a0 s t : State} {v : Nat}  (hk : a0.keeps s)
    (hv : State.drawCrypto s = (v, t)) : a0.keeps t := by
  have := State.drawCrypto_keeps (s := s)  hk
  rw [hv] at this
  exact this

theorem State.drawOpen_keeps {a0 s : State} (w : Nat) (hk : a0.keeps s) :
    a0.keeps (State.drawOpen s w).2 := by
  unfold State.drawOpen
  try dsimp only
  repeat' (first
    | with_reducible assumption
    | split
    | with_reducible apply State.keeps_mk
    | (intro _; intros; try dsimp only))
theorem State.drawOpen_keeps_eq {a0 s t : State} {v : Nat} {w : Nat} (hk : a0.keeps s)
    (hv : State.drawOpen s w = (v, t)) : a0.keeps t := by
  have := State.drawOpen_keeps (s := s) w hk
  rw [hv] at this
  exact this

theorem State.divOpen_keeps {a0 s : State} (a : Int) (b : Nat) (hk : a0.keeps s) :
    a0.keeps (State.divOpen s a b).2 := by
  unfold State.divOpen
  try dsimp only
  repeat' (first
    | with_reducible assumption
    | split
    | with_reducible apply State.keeps_mk
    | (intro _; intros; try dsimp only))
theorem State.divOpen_keeps_eq {a0 s t : State} {v : Int} {a : Int} {b : Nat} (hk : a0.keeps s)
    (hv : State.divOpen s a b = (v, t)) : a0.keeps t := by
  have := State.divOpen_keeps (s := s) a b hk
  rw [hv] at this
  exact this

theorem State.startDelay_keeps {a0 s : State} (key : Nat) (hk : a0.keeps s) :
    a0.keeps (State.startDelay s key) := by
  unfold State.startDelay
  try dsimp only
  repeat' (first
    | with_reducible assumption
    | with_reducible apply State.modSrc_keeps
    | split
    | with_reducible apply State.keeps_mk
    | (intro _; intros; try dsimp only))

theorem State.event_keeps {a0 s : State} (key : Nat) (hk : a0.keeps s) :
    a0.keeps (State.event s key) := by
  unfold State.event
  try dsimp only
  repeat' (first
    | with_reducible assumption
    | with_reducible apply State.modSrc_keeps
    | with_reducible apply State.startDelay_keeps
    | split
    | with_reducible apply State.keeps_mk
    | (intro _; intros; try dsimp only))

theorem State.pageRise_keeps {a0 s : State} (p : Nat) (was : Bool) (hk : a0.keeps s) :
    a0.keeps (State.pageRise s p was) := by
  unfold State.pageRise
  try dsimp only
  repeat' (first
    | with_reducible assumption
    | with_reducible apply State.modPp_keeps
    | with_reducible apply State.event_keeps
    | split
    | with_reducible apply State.keeps_mk
    | (intro _; intros; try dsimp only))

theorem State.irq_keeps {a0 s : State} (p bits : Nat) (hk : a0.keeps s) :
    a0.keeps (State.irq s p bits) := by
  unfold State.irq
  try dsimp only
  repeat' (first
    | with_reducible assumption
    | with_reducible apply State.orBits_keeps
    | with_reducible apply State.pageRise_keeps
    | split
    | with_reducible apply State.keeps_mk
    | (intro _; intros; try dsimp only))

theorem State.endClaim_keeps {a0 s : State} (key : Nat) (hk : a0.keeps s) :
    a0.keeps (State.endClaim s key) := by
  unfold State.endClaim
  try dsimp only
  repeat' (first
    | with_reducible assumption
    | with_reducible apply State.modSrc_keeps
    | with_reducible apply State.startDelay_keeps
    | with_reducible apply State.event_keeps
    | split
    | with_reducible apply State.keeps_mk
    | (intro _; intros; try dsimp only))

theorem State.fault_keeps {a0 s : State} (line : Nat) (src : FaultSrc) (hk : a0.keeps s) :
    a0.keeps (State.fault s line src) := by
  unfold State.fault
  try dsimp only
  repeat' (first
    | with_reducible assumption
    | split
    | with_reducible apply State.keeps_mk
    | (intro _; intros; try dsimp only))

theorem State.err_keeps {a0 s : State} (p b : Nat) (hk : a0.keeps s) :
    a0.keeps (State.err s p b) := by
  unfold State.err
  try dsimp only
  repeat' (first
    | with_reducible assumption
    | with_reducible apply State.orBits_keeps
    | with_reducible apply State.fault_keeps
    | split
    | with_reducible apply State.keeps_mk
    | (intro _; intros; try dsimp only))

theorem State.cmdStart_keeps {a0 s : State} (p code : Nat) (hk : a0.keeps s) :
    a0.keeps (State.cmdStart s p code) := by
  unfold State.cmdStart
  try dsimp only
  repeat' (first
    | with_reducible assumption
    | with_reducible apply State.wr_keeps
    | split
    | with_reducible apply State.keeps_mk
    | (intro _; intros; try dsimp only))

theorem State.cmdEnd_keeps {a0 s : State} (p status detail : Nat) (hk : a0.keeps s) :
    a0.keeps (State.cmdEnd s p status detail) := by
  unfold State.cmdEnd
  try dsimp only
  repeat' (first
    | with_reducible assumption
    | with_reducible apply State.wr_keeps
    | with_reducible apply State.irq_keeps
    | split
    | with_reducible apply State.keeps_mk
    | (intro _; intros; try dsimp only))

theorem State.cmdStop_keeps {a0 s : State} (p status : Nat) (hk : a0.keeps s) :
    a0.keeps (State.cmdStop s p status) := by
  unfold State.cmdStop
  try dsimp only
  repeat' (first
    | with_reducible assumption
    | with_reducible apply State.drawOpen_keeps
    | with_reducible refine State.drawOpen_keeps_eq ?_ (by assumption)
    | with_reducible apply State.cmdEnd_keeps
    | split
    | with_reducible apply State.keeps_mk
    | (intro _; intros; try dsimp only))

theorem State.refuse_keeps {a0 s : State} (p : Nat) (c : RefCause) (hk : a0.keeps s) :
    a0.keeps (State.refuse s p c) := by
  unfold State.refuse
  try dsimp only
  repeat' (first
    | with_reducible assumption
    | with_reducible apply State.bump_keeps
    | with_reducible apply State.wr_keeps
    | with_reducible apply State.irq_keeps
    | split
    | with_reducible apply State.keeps_mk
    | (intro _; intros; try dsimp only))

theorem State.wantSnapshot_keeps {a0 s : State} (hk : a0.keeps s) :
    a0.keeps (State.wantSnapshot s) := by
  unfold State.wantSnapshot
  try dsimp only
  repeat' (first
    | with_reducible assumption
    | split
    | with_reducible apply State.keeps_mk
    | (intro _; intros; try dsimp only))

theorem State.command_keeps {a0 s : State} (pp p code : Nat) (ok : Bool) (f : State → State) (hf : ∀ t, a0.keeps t → a0.keeps (f t)) (hk : a0.keeps s) :
    a0.keeps (State.command s pp p code ok f) := by
  unfold State.command
  try dsimp only
  repeat' (first
    | with_reducible assumption
    | with_reducible apply State.refuse_keeps
    | with_reducible apply State.cmdStart_keeps
    | apply hf
    | split
    | with_reducible apply State.keeps_mk
    | (intro _; intros; try dsimp only))

theorem State.longCommand_keeps {a0 s : State} (pp p code : Nat) (ok : Bool) (f : State → State) (hf : ∀ t, a0.keeps t → a0.keeps (f t)) (hk : a0.keeps s) :
    a0.keeps (State.longCommand s pp p code ok f) := by
  unfold State.longCommand
  try dsimp only
  repeat' (first
    | with_reducible assumption
    | with_reducible apply State.command_keeps
    | with_reducible apply State.byCores_keeps
    | apply hf
    | split
    | with_reducible apply State.keeps_mk
    | (intro _; intros; try dsimp only))

theorem State.guarded_keeps {a0 s : State} (pp p : Nat) (cause : Option RefCause) (f : State → State) (hf : ∀ t, a0.keeps t → a0.keeps (f t)) (hk : a0.keeps s) :
    a0.keeps (State.guarded s pp p cause f) := by
  unfold State.guarded
  try dsimp only
  repeat' (first
    | with_reducible assumption
    | with_reducible apply State.refuse_keeps
    | apply hf
    | split
    | with_reducible apply State.keeps_mk
    | (intro _; intros; try dsimp only))

/-! The canonical form of BAR2 memory. -/

theorem Memory.wf_set {m : List Host.Cell} (h : Memory.wf m) (x : Nat) (b : Byte) : Memory.wf (mapSet (memDefault x) m x b) := by
  simp only [Memory.wf, Bool.and_eq_true] at *
  exact ⟨mapRising_mapSet h.1 _ _ _, mapClean_mapSet h.2 _ _⟩

theorem Memory.wf_filter {m : List Host.Cell} (h : Memory.wf m) (f : Host.Cell → Bool) : Memory.wf (m.filter f) := by
  simp only [Memory.wf, Bool.and_eq_true] at *
  exact ⟨mapRising_filter h.1 _, mapClean_filter h.2 _⟩

theorem State.mput_keeps {a0 s : State} (a : Nat) (b : Byte) (h : a0.keeps s) : a0.keeps (s.mput a b) :=
  State.keeps_mem h (fun x => Memory.wf_set x a b) rfl rfl rfl rfl

theorem State.mputRun_keeps {a0 s : State} (bs : List Byte) (a : Nat) (h : a0.keeps s) :
    a0.keeps (bs.foldl (fun p b => (p.1.mput p.2 b, p.2 + 1)) (s, a)).1 := by
  induction bs generalizing s a with
  | nil => exact h
  | cons b t ih => exact ih (a + 1) (State.mput_keeps a b h)

theorem State.mputs_keeps {a0 s : State} (a : Nat) (bs : List Byte) (h : a0.keeps s) : a0.keeps (s.mputs a bs) := by
  unfold State.mputs
  exact State.mputRun_keeps bs a (State.keeps_mk h)

theorem State.mputw_keeps {a0 s : State} (a w : Nat) (hk : a0.keeps s) :
    a0.keeps (State.mputw s a w) := by
  unfold State.mputw
  try dsimp only
  repeat' (first
    | with_reducible assumption
    | with_reducible apply State.mputs_keeps
    | split
    | with_reducible apply State.keeps_mk
    | (intro _; intros; try dsimp only))

theorem State.forget_keeps {a0 s : State} (a n : Nat) (h : a0.keeps s) : a0.keeps (s.forget a n) :=
  State.keeps_mem h (fun x => Memory.wf_filter x _) rfl rfl rfl rfl

theorem State.remember_keeps {a0 s : State} (w : Nat) (hk : a0.keeps s) :
    a0.keeps (State.remember s w) := by
  unfold State.remember
  try dsimp only
  repeat' (first
    | with_reducible assumption
    | split
    | with_reducible apply State.keeps_mk
    | (intro _; intros; try dsimp only))

theorem State.wipe_keeps {a0 s : State} (a n : Nat) (h : a0.keeps s) : a0.keeps (s.wipe a n) :=
  State.keeps_mem h (fun x => Memory.wf_filter x _) rfl rfl rfl rfl

theorem State.poolMin_keeps {a0 s : State} (c : Nat) (hk : a0.keeps s) :
    a0.keeps (State.poolMin s c) := by
  unfold State.poolMin
  try dsimp only
  repeat' (first
    | with_reducible assumption
    | with_reducible apply State.wr_keeps
    | split
    | with_reducible apply State.keeps_mk
    | (intro _; intros; try dsimp only))

theorem State.takeRx_keeps {a0 s t : State} {c n : Nat} {ess : Bool} {u : User} {x : Nat} (hk : a0.keeps s)
    (e : s.takeRx c n ess u = some (x, t)) : a0.keeps t := by
  unfold State.takeRx at e
  extract_lets k pick at e
  rw [Option.map_eq_some_iff] at e
  obtain ⟨y, -, e⟩ := e
  injection e with e1 e2
  rw [← e2]
  exact State.poolMin_keeps _ (State.keeps_mk hk)

theorem State.takeTx_keeps {a0 s t : State} {c n : Nat} {u : User} {x : Nat} (hk : a0.keeps s)
    (e : s.takeTx c n u = some (x, t)) : a0.keeps t := by
  unfold State.takeTx at e
  extract_lets k at e
  rw [Option.map_eq_some_iff] at e
  obtain ⟨y, -, e⟩ := e
  injection e with e1 e2
  rw [← e2]
  exact State.poolMin_keeps _ (State.keeps_mk hk)

theorem State.holdRange_keeps {a0 s : State} (a n : Nat) (u : User) (hk : a0.keeps s) : a0.keeps (s.holdRange a n u) :=
  State.keeps_mk hk

theorem State.addUser_keeps {a0 s : State} (a : Nat) (u : User) (hk : a0.keeps s) :
    a0.keeps (State.addUser s a u) := by
  unfold State.addUser
  try dsimp only
  repeat' (first
    | with_reducible assumption
    | split
    | with_reducible apply State.keeps_mk
    | (intro _; intros; try dsimp only))

theorem State.swapUser_keeps {a0 s : State} (a : Nat) (u : User) (us : List User) (hk : a0.keeps s) :
    a0.keeps (State.swapUser s a u us) := by
  unfold State.swapUser
  try dsimp only
  repeat' (first
    | with_reducible assumption
    | split
    | with_reducible apply State.keeps_mk
    | (intro _; intros; try dsimp only))

theorem State.dropUser_keeps {a0 s : State} (u : User) (hk : a0.keeps s) :
    a0.keeps (State.dropUser s u) := by
  unfold State.dropUser
  try dsimp only
  repeat' (first
    | with_reducible assumption
    | split
    | with_reducible apply State.keeps_mk
    | (intro _; intros; try dsimp only))

theorem State.dropUndone_keeps {a0 s : State} (u : User) (hk : a0.keeps s) :
    a0.keeps (State.dropUndone s u) := by
  unfold State.dropUndone
  try dsimp only
  repeat' (first
    | with_reducible assumption
    | with_reducible apply State.dropUser_keeps
    | with_reducible apply State.each_keeps
    | with_reducible apply State.forget_keeps
    | split
    | with_reducible apply State.keeps_mk
    | (intro _; intros; try dsimp only))

theorem State.slotTake_keeps {a0 s : State} (k : Nat) (hk : a0.keeps s) :
    a0.keeps (State.slotTake s k) := by
  unfold State.slotTake
  try dsimp only
  repeat' (first
    | with_reducible assumption
    | with_reducible apply State.adv_keeps
    | split
    | with_reducible apply State.keeps_mk
    | (intro _; intros; try dsimp only))

theorem State.slotGive_keeps {a0 s : State} (k : Nat) (hk : a0.keeps s) :
    a0.keeps (State.slotGive s k) := by
  unfold State.slotGive
  try dsimp only
  repeat' (first
    | with_reducible assumption
    | with_reducible apply State.wr_keeps
    | split
    | with_reducible apply State.keeps_mk
    | (intro _; intros; try dsimp only))

theorem State.queueRec_keeps {a0 s : State} (k : Nat) (r : Rec) (hk : a0.keeps s) :
    a0.keeps (State.queueRec s k r) := by
  unfold State.queueRec
  try dsimp only
  repeat' (first
    | with_reducible assumption
    | with_reducible apply State.modTgt_keeps
    | with_reducible apply State.event_keeps
    | split
    | with_reducible apply State.keeps_mk
    | (intro _; intros; try dsimp only))

theorem State.sendRec_keeps {a0 s : State} (k : Nat) (r : Rec) (hk : a0.keeps s) :
    a0.keeps (State.sendRec s k r) := by
  unfold State.sendRec
  try dsimp only
  repeat' (first
    | with_reducible assumption
    | with_reducible apply State.slotGive_keeps
    | with_reducible apply State.emit_keeps
    | with_reducible apply State.event_keeps
    | with_reducible apply State.adv_keeps
    | split
    | with_reducible apply State.keeps_mk
    | (intro _; intros; try dsimp only))

theorem State.nextRec_keeps {a0 s : State} (k : Nat) (drop : Bool) (hk : a0.keeps s) :
    a0.keeps (State.nextRec s k drop) := by
  unfold State.nextRec
  try dsimp only
  repeat' (first
    | with_reducible assumption
    | with_reducible apply State.modTgt_keeps
    | with_reducible apply State.sendRec_keeps
    | with_reducible apply State.each_keeps
    | with_reducible apply State.event_keeps
    | split
    | with_reducible apply State.keeps_mk
    | (intro _; intros; try dsimp only))

theorem State.writeRec_keeps {a0 s : State} (k : Nat) (hk : a0.keeps s) :
    a0.keeps (State.writeRec s k) := by
  unfold State.writeRec
  try dsimp only
  repeat' (first
    | with_reducible assumption
    | with_reducible apply State.nextRec_keeps
    | split
    | with_reducible apply State.keeps_mk
    | (intro _; intros; try dsimp only))

theorem State.discardRecs_keeps {a0 s : State} (n : Nat) (hk : a0.keeps s) :
    a0.keeps (State.discardRecs s n) := by
  unfold State.discardRecs
  try dsimp only
  repeat' (first
    | with_reducible assumption
    | with_reducible apply State.each_keeps
    | with_reducible apply State.nextRec_keeps
    | split
    | with_reducible apply State.keeps_mk
    | (intro _; intros; try dsimp only))

theorem State.startHoldOff_keeps {a0 s : State} (g : Nat) (hk : a0.keeps s) :
    a0.keeps (State.startHoldOff s g) := by
  unfold State.startHoldOff
  try dsimp only
  repeat' (first
    | with_reducible assumption
    | split
    | with_reducible apply State.keeps_mk
    | (intro _; intros; try dsimp only))

theorem State.deliver_keeps {a0 s : State} (k : Nat) (fast : Bool) (hk : a0.keeps s) :
    a0.keeps (State.deliver s k fast) := by
  unfold State.deliver
  try dsimp only
  repeat' (first
    | with_reducible assumption
    | with_reducible apply State.modSrc_keeps
    | with_reducible apply State.wr_keeps
    | with_reducible apply State.modTgt_keeps
    | with_reducible apply State.startHoldOff_keeps
    | split
    | with_reducible apply State.keeps_mk
    | (intro _; intros; try dsimp only))

theorem State.classSend_keeps {a0 s : State} (n v k : Nat) (fast : Bool) (hk : a0.keeps s) :
    a0.keeps (State.classSend s n v k fast) := by
  unfold State.classSend
  try dsimp only
  repeat' (first
    | with_reducible assumption
    | with_reducible apply State.modTgt_keeps
    | with_reducible apply State.bump_keeps
    | with_reducible apply State.emit_keeps
    | split
    | with_reducible apply State.keeps_mk
    | (intro _; intros; try dsimp only))

theorem State.msixSend_keeps {a0 s : State} (n v : Nat) (hk : a0.keeps s) :
    a0.keeps (State.msixSend s n v) := by
  unfold State.msixSend
  try dsimp only
  repeat' (first
    | with_reducible assumption
    | with_reducible apply State.modPp_keeps
    | with_reducible apply State.emit_keeps
    | with_reducible apply State.classSend_keeps
    | split
    | with_reducible apply State.keeps_mk
    | (intro _; intros; try dsimp only))

theorem State.claim_keeps {a0 s : State} (pp k : Nat) (fast : Bool) (hk : a0.keeps s) :
    a0.keeps (State.claim s pp k fast).2 := by
  unfold State.claim
  try dsimp only
  repeat' (first
    | with_reducible assumption
    | with_reducible apply State.modTgt_keeps
    | with_reducible apply State.err_keeps
    | with_reducible apply State.modSrc_keeps
    | with_reducible apply State.startHoldOff_keeps
    | split
    | with_reducible apply State.keeps_mk
    | (intro _; intros; try dsimp only))
theorem State.claim_keeps_eq {a0 s t : State} {v : Nat} {pp k : Nat} {fast : Bool} (hk : a0.keeps s)
    (hv : State.claim s pp k fast = (v, t)) : a0.keeps t := by
  have := State.claim_keeps (s := s) pp k fast hk
  rw [hv] at this
  exact this

theorem State.complete_keeps {a0 s : State} (pp k : Nat) (fast : Bool) (n : Nat) (hk : a0.keeps s) :
    a0.keeps (State.complete s pp k fast n) := by
  unfold State.complete
  try dsimp only
  repeat' (first
    | with_reducible assumption
    | with_reducible apply State.guarded_keeps
    | with_reducible apply State.endClaim_keeps
    | with_reducible apply State.err_keeps
    | split
    | with_reducible apply State.keeps_mk
    | (intro _; intros; try dsimp only))

theorem State.eoi_keeps {a0 s : State} (pp k : Nat) (hk : a0.keeps s) :
    a0.keeps (State.eoi s pp k) := by
  unfold State.eoi
  try dsimp only
  repeat' (first
    | with_reducible assumption
    | with_reducible apply State.guarded_keeps
    | with_reducible apply State.err_keeps
    | with_reducible apply State.modTgt_keeps
    | with_reducible apply State.endClaim_keeps
    | split
    | with_reducible apply State.keeps_mk
    | (intro _; intros; try dsimp only))

theorem State.maskWrite_keeps {a0 s : State} (pp k n : Nat) (m : Bool) (hk : a0.keeps s) :
    a0.keeps (State.maskWrite s pp k n m) := by
  unfold State.maskWrite
  try dsimp only
  repeat' (first
    | with_reducible assumption
    | with_reducible apply State.guarded_keeps
    | with_reducible apply State.modSrc_keeps
    | with_reducible apply State.err_keeps
    | split
    | with_reducible apply State.keeps_mk
    | (intro _; intros; try dsimp only))

theorem State.configure_keeps {a0 s : State} (key : Nat) (en : Bool) (tgt group level : Nat) (page : Option Nat) (hk : a0.keeps s) :
    a0.keeps (State.configure s key en tgt group level page) := by
  unfold State.configure
  try dsimp only
  repeat' (first
    | with_reducible assumption
    | with_reducible apply State.modSrc_keeps
    | with_reducible apply State.event_keeps
    | split
    | with_reducible apply State.keeps_mk
    | (intro _; intros; try dsimp only))

theorem State.srcCfgWrite_keeps {a0 s : State} (pp v : Nat) (hk : a0.keeps s) :
    a0.keeps (State.srcCfgWrite s pp v) := by
  unfold State.srcCfgWrite
  try dsimp only
  repeat' (first
    | with_reducible assumption
    | with_reducible apply State.guarded_keeps
    | with_reducible apply State.configure_keeps
    | split
    | with_reducible apply State.keeps_mk
    | (intro _; intros; try dsimp only))

theorem State.privCfgWrite_keeps {a0 s : State} (pp k i v : Nat) (hk : a0.keeps s) :
    a0.keeps (State.privCfgWrite s pp k i v) := by
  unfold State.privCfgWrite
  try dsimp only
  repeat' (first
    | with_reducible assumption
    | with_reducible apply State.guarded_keeps
    | with_reducible apply State.configure_keeps
    | split
    | with_reducible apply State.keeps_mk
    | (intro _; intros; try dsimp only))

theorem State.tCfgWrite_keeps {a0 s : State} (pp k v : Nat) (hk : a0.keeps s) :
    a0.keeps (State.tCfgWrite s pp k v) := by
  unfold State.tCfgWrite
  try dsimp only
  repeat' (first
    | with_reducible assumption
    | with_reducible apply State.guarded_keeps
    | with_reducible apply State.configure_keeps
    | with_reducible apply State.modTgt_keeps
    | with_reducible apply State.wr_keeps
    | with_reducible apply State.each_keeps
    | with_reducible apply State.endClaim_keeps
    | split
    | with_reducible apply State.keeps_mk
    | (intro _; intros; try dsimp only))

theorem State.ringCfgWrite_keeps {a0 s : State} (pp k v : Nat) (hk : a0.keeps s) :
    a0.keeps (State.ringCfgWrite s pp k v) := by
  unfold State.ringCfgWrite
  try dsimp only
  repeat' (first
    | with_reducible assumption
    | with_reducible apply State.guarded_keeps
    | with_reducible apply State.err_keeps
    | with_reducible apply State.wr_keeps
    | with_reducible apply State.wrB_keeps
    | split
    | with_reducible apply State.keeps_mk
    | (intro _; intros; try dsimp only))

theorem State.ringBaseWrite_keeps {a0 s : State} (pp k : Nat) (f : Field) (v : Nat) (hk : a0.keeps s) :
    a0.keeps (State.ringBaseWrite s pp k f v) := by
  unfold State.ringBaseWrite
  try dsimp only
  repeat' (first
    | with_reducible assumption
    | with_reducible apply State.guarded_keeps
    | with_reducible apply State.err_keeps
    | with_reducible apply State.wr_keeps
    | split
    | with_reducible apply State.keeps_mk
    | (intro _; intros; try dsimp only))

theorem State.ringGetWrite_keeps {a0 s : State} (pp k v : Nat) (hk : a0.keeps s) :
    a0.keeps (State.ringGetWrite s pp k v) := by
  unfold State.ringGetWrite
  try dsimp only
  repeat' (first
    | with_reducible assumption
    | with_reducible apply State.guarded_keeps
    | with_reducible apply State.err_keeps
    | with_reducible apply State.wr_keeps
    | split
    | with_reducible apply State.keeps_mk
    | (intro _; intros; try dsimp only))

theorem State.mailOut_keeps {a0 s : State} (pp k v : Nat) (hk : a0.keeps s) :
    a0.keeps (State.mailOut s pp k v) := by
  unfold State.mailOut
  try dsimp only
  repeat' (first
    | with_reducible assumption
    | with_reducible apply State.guarded_keeps
    | with_reducible apply State.bump_keeps
    | with_reducible apply State.wr_keeps
    | with_reducible apply State.event_keeps
    | split
    | with_reducible apply State.keeps_mk
    | (intro _; intros; try dsimp only))

theorem State.mailIn_keeps {a0 s : State} (k : Nat) (hk : a0.keeps s) :
    a0.keeps (State.mailIn s k).2 := by
  unfold State.mailIn
  try dsimp only
  repeat' (first
    | with_reducible assumption
    | with_reducible apply State.wr_keeps
    | split
    | with_reducible apply State.keeps_mk
    | (intro _; intros; try dsimp only))
theorem State.mailIn_keeps_eq {a0 s t : State} {v : Nat} {k : Nat} (hk : a0.keeps s)
    (hv : State.mailIn s k = (v, t)) : a0.keeps t := by
  have := State.mailIn_keeps (s := s) k hk
  rw [hv] at this
  exact this

theorem State.eventAll_keeps {a0 s : State} (pp i : Nat) (hk : a0.keeps s) :
    a0.keeps (State.eventAll s pp i) := by
  unfold State.eventAll
  try dsimp only
  repeat' (first
    | with_reducible assumption
    | with_reducible apply State.each_keeps
    | with_reducible apply State.event_keeps
    | split
    | with_reducible apply State.keeps_mk
    | (intro _; intros; try dsimp only))

theorem State.timerExpires_keeps {a0 s : State} (k : Nat) (hk : a0.keeps s) :
    a0.keeps (State.timerExpires s k) := by
  unfold State.timerExpires
  try dsimp only
  repeat' (first
    | with_reducible assumption
    | with_reducible apply State.event_keeps
    | split
    | with_reducible apply State.keeps_mk
    | (intro _; intros; try dsimp only))

theorem State.holdOffEnds_keeps {a0 s : State} (g : Nat) (hk : a0.keeps s) :
    a0.keeps (State.holdOffEnds s g) := by
  unfold State.holdOffEnds
  try dsimp only
  repeat' (first
    | with_reducible assumption
    | split
    | with_reducible apply State.keeps_mk
    | (intro _; intros; try dsimp only))

theorem State.delayEnds_keeps {a0 s : State} (key : Nat) (hk : a0.keeps s) :
    a0.keeps (State.delayEnds s key) := by
  unfold State.delayEnds
  try dsimp only
  repeat' (first
    | with_reducible assumption
    | with_reducible apply State.modSrc_keeps
    | split
    | with_reducible apply State.keeps_mk
    | (intro _; intros; try dsimp only))

theorem State.claimRead_keeps {a0 s : State} (pp k : Nat) (fast : Bool) (hk : a0.keeps s) :
    a0.keeps (State.claimRead s pp k fast) := by
  unfold State.claimRead
  try dsimp only
  repeat' (first
    | with_reducible assumption
    | with_reducible apply State.claim_keeps
    | with_reducible refine State.claim_keeps_eq ?_ (by assumption)
    | with_reducible apply State.emit_keeps
    | split
    | with_reducible apply State.keeps_mk
    | (intro _; intros; try dsimp only))

theorem State.mailRead_keeps {a0 s : State} (pp k : Nat) (hk : a0.keeps s) :
    a0.keeps (State.mailRead s pp k) := by
  unfold State.mailRead
  try dsimp only
  repeat' (first
    | with_reducible assumption
    | with_reducible apply State.mailIn_keeps
    | with_reducible refine State.mailIn_keeps_eq ?_ (by assumption)
    | with_reducible apply State.emit_keeps
    | split
    | with_reducible apply State.keeps_mk
    | (intro _; intros; try dsimp only))

theorem State.fenceWrite_keeps {a0 s : State} (pp p v : Nat) (hk : a0.keeps s) :
    a0.keeps (State.fenceWrite s pp p v) := by
  unfold State.fenceWrite
  try dsimp only
  repeat' (first
    | with_reducible assumption
    | with_reducible apply State.guarded_keeps
    | with_reducible apply State.wr_keeps
    | with_reducible apply State.eventAll_keeps
    | split
    | with_reducible apply State.keeps_mk
    | (intro _; intros; try dsimp only))

theorem State.setPos_keeps {a0 s : State} (m p : Nat) (hk : a0.keeps s) :
    a0.keeps (State.setPos s m p) := by
  unfold State.setPos
  try dsimp only
  repeat' (first
    | with_reducible assumption
    | with_reducible apply State.modChan_keeps
    | with_reducible apply State.wr_keeps
    | split
    | with_reducible apply State.keeps_mk
    | (intro _; intros; try dsimp only))

theorem State.raise_keeps {a0 s : State} (m : Nat) (r : Req) (hk : a0.keeps s) :
    a0.keeps (State.raise s m r) := by
  unfold State.raise
  try dsimp only
  repeat' (first
    | with_reducible assumption
    | with_reducible apply State.modChan_keeps
    | split
    | with_reducible apply State.keeps_mk
    | (intro _; intros; try dsimp only))

theorem State.modReq_keeps {a0 s : State} (m : Nat) (k : ReqKind) (f : Req → Req) (hk : a0.keeps s) :
    a0.keeps (State.modReq s m k f) := by
  unfold State.modReq
  try dsimp only
  repeat' (first
    | with_reducible assumption
    | with_reducible apply State.modChan_keeps
    | split
    | with_reducible apply State.keeps_mk
    | (intro _; intros; try dsimp only))

theorem State.endReq_keeps {a0 s : State} (m : Nat) (k : ReqKind) (hk : a0.keeps s) :
    a0.keeps (State.endReq s m k) := by
  unfold State.endReq
  try dsimp only
  repeat' (first
    | with_reducible assumption
    | with_reducible apply State.modChan_keeps
    | with_reducible apply State.bump_keeps
    | split
    | with_reducible apply State.keeps_mk
    | (intro _; intros; try dsimp only))

theorem State.skipElems_keeps {a0 s : State} (m : Nat) (r : Req) (hk : a0.keeps s) :
    a0.keeps (State.skipElems s m r) := by
  unfold State.skipElems
  try dsimp only
  repeat' (first
    | with_reducible assumption
    | with_reducible apply State.setPos_keeps
    | split
    | with_reducible apply State.keeps_mk
    | (intro _; intros; try dsimp only))

theorem State.moved_keeps {a0 s : State} (m n : Nat) (hk : a0.keeps s) :
    a0.keeps (State.moved s m n) := by
  unfold State.moved
  try dsimp only
  repeat' (first
    | with_reducible assumption
    | with_reducible apply State.modChan_keeps
    | with_reducible apply State.bump_keeps
    | split
    | with_reducible apply State.keeps_mk
    | (intro _; intros; try dsimp only))

theorem State.withdraw_keeps {a0 s : State} (m : Nat) (k : ReqKind) (hk : a0.keeps s) :
    a0.keeps (State.withdraw s m k) := by
  unfold State.withdraw
  try dsimp only
  repeat' (first
    | with_reducible assumption
    | with_reducible apply State.endReq_keeps
    | with_reducible apply State.skipElems_keeps
    | with_reducible apply State.modChan_keeps
    | with_reducible apply State.modReq_keeps
    | split
    | with_reducible apply State.keeps_mk
    | (intro _; intros; try dsimp only))

theorem State.emitReads_keeps {a0 s : State} (pp a n : Nat) (hk : a0.keeps s) :
    a0.keeps (State.emitReads s pp a n) := by
  unfold State.emitReads
  try dsimp only
  repeat' (first
    | with_reducible assumption
    | with_reducible apply State.each_keeps
    | with_reducible apply State.emit_keeps
    | split
    | with_reducible apply State.keeps_mk
    | (intro _; intros; try dsimp only))

theorem State.halt_keeps {a0 s : State} (m : Nat) (k : ReqKind) (cause addr store : Nat) (write : Bool) (failed : List Burst) (hk : a0.keeps s) :
    a0.keeps (State.halt s m k cause addr store write failed) := by
  unfold State.halt
  try dsimp only
  repeat' (first
    | with_reducible assumption
    | with_reducible apply State.modChan_keeps
    | with_reducible apply State.wr_keeps
    | with_reducible apply State.wrB_keeps
    | with_reducible apply State.irq_keeps
    | with_reducible apply State.each_keeps
    | with_reducible apply State.modJob_keeps
    | with_reducible apply State.err_keeps
    | split
    | with_reducible apply State.keeps_mk
    | (intro _; intros; try dsimp only))

theorem State.panicPins_keeps {a0 s : State} (hk : a0.keeps s) :
    a0.keeps (State.panicPins s) := by
  unfold State.panicPins
  try dsimp only
  repeat' (first
    | with_reducible assumption
    | with_reducible apply State.each_keeps
    | with_reducible apply State.wrB_keeps
    | with_reducible apply State.bump_keeps
    | with_reducible apply State.tally_keeps
    | with_reducible apply State.irq_keeps
    | split
    | with_reducible apply State.keeps_mk
    | (intro _; intros; try dsimp only))

theorem State.panic_keeps {a0 s : State} (ns : List Nat) (hk : a0.keeps s) :
    a0.keeps (State.panic s ns) := by
  unfold State.panic
  try dsimp only
  repeat' (first
    | with_reducible assumption
    | with_reducible apply State.each_keeps
    | with_reducible apply State.wrB_keeps
    | with_reducible apply State.bump_keeps
    | with_reducible apply State.panicPins_keeps
    | split
    | with_reducible apply State.keeps_mk
    | (intro _; intros; try dsimp only))

end Sys2Proof.Machine
end

