-- ==== Sys2Proof/Laws/KeepLink.lean ====
section
/-!
SUPPORT. Every operation of the transmit and receive paths, the transceivers and the raster keeps what `State.keeps` says.
-/
set_option Elab.async false

set_option linter.all false
namespace Sys2Proof.Machine

theorem State.modJobPort_keeps {a0 s : State} (uid n : Nat) (f : JobPort → JobPort) (hk : a0.keeps s) :
    a0.keeps (State.modJobPort s uid n f) := by
  unfold State.modJobPort
  try dsimp only
  repeat' (first
    | with_reducible assumption
    | with_reducible apply State.modJob_keeps
    | split
    | with_reducible apply State.keeps_mk
    | (intro _; intros; try dsimp only))

theorem State.tryComplete_keeps {a0 s : State} (uid : Nat) (hk : a0.keeps s) :
    a0.keeps (State.tryComplete s uid) := by
  unfold State.tryComplete
  try dsimp only
  repeat' (first
    | with_reducible assumption
    | with_reducible apply State.dropUser_keeps
    | with_reducible apply State.dropUndone_keeps
    | with_reducible apply State.panic_keeps
    | with_reducible apply State.queueRec_keeps
    | with_reducible apply State.modJob_keeps
    | split
    | with_reducible apply State.keeps_mk
    | (intro _; intros; try dsimp only))

theorem State.finish_keeps {a0 s : State} (uid n : Nat) (r : Res) (hk : a0.keeps s) :
    a0.keeps (State.finish s uid n r) := by
  unfold State.finish
  try dsimp only
  repeat' (first
    | with_reducible assumption
    | with_reducible apply State.modJobPort_keeps
    | with_reducible apply State.modPort_keeps
    | with_reducible apply State.bump_keeps
    | with_reducible apply State.tallyPort_keeps
    | with_reducible apply State.irq_keeps
    | with_reducible apply State.withdraw_keeps
    | with_reducible apply State.panic_keeps
    | with_reducible apply State.tryComplete_keeps
    | split
    | with_reducible apply State.keeps_mk
    | (intro _; intros; try dsimp only))

theorem State.makeEligible_keeps {a0 s : State} (uid : Nat) (hk : a0.keeps s) :
    a0.keeps (State.makeEligible s uid) := by
  unfold State.makeEligible
  try dsimp only
  repeat' (first
    | with_reducible assumption
    | with_reducible apply State.fresh_keeps
    | with_reducible refine State.fresh_keeps_eq ?_ (by assumption)
    | with_reducible apply State.modJob_keeps
    | with_reducible apply State.panic_keeps
    | split
    | with_reducible apply State.keeps_mk
    | (intro _; intros; try dsimp only))

theorem State.dropSubmission_keeps {a0 s : State} (lead : Nat) (hk : a0.keeps s) :
    a0.keeps (State.dropSubmission s lead) := by
  unfold State.dropSubmission
  try dsimp only
  repeat' (first
    | with_reducible assumption
    | with_reducible apply State.bump_keeps
    | with_reducible apply State.irq_keeps
    | split
    | with_reducible apply State.keeps_mk
    | (intro _; intros; try dsimp only))

theorem State.submit_keeps {a0 s : State} (lead i : Nat) (bad : Bool) (hk : a0.keeps s) :
    a0.keeps (State.submit s lead i bad) := by
  unfold State.submit
  extract_lets
  split
  · with_reducible exact State.dropSubmission_keeps _ hk
  split
  · with_reducible exact State.dropSubmission_keeps _ hk
  split
  · with_reducible exact State.fault_keeps _ _ (State.remember_keeps _ (State.dropSubmission_keeps _ hk))
  split
  · with_reducible exact State.irq_keeps _ _ (State.wr_keeps _ _ _ _ (State.wr_keeps _ _ _ _ (State.queueRec_keeps _ _ hk)))
  split
  rename_i s1 e
  have h1 := State.fresh_keeps_eq hk e
  extract_lets set j s2 s3 dead s4
  have h2 : a0.keeps s2 := State.keeps_mk h1
  have h3 : a0.keeps s3 := by
    unfold s3; split
    · with_reducible exact State.holdRange_keeps _ _ _ h2
    · exact h2
  have h4 : a0.keeps s4 := by
    unfold s4; split
    · split
      · exact h3
      · with_reducible exact State.panic_keeps _ (State.modJob_keeps _ _ (State.raise_keeps _ _ h3))
    · with_reducible exact State.makeEligible_keeps _ h3
  with_reducible refine State.each_keeps _ _ (fun _ _ h => ?_) h4
  with_reducible exact State.finish_keeps _ _ _ h

theorem State.doorbell_keeps {a0 s : State} (lead first count : Nat) (finds : List (Nat × Find)) (hk : a0.keeps s) :
    a0.keeps (State.doorbell s lead first count finds) := by
  unfold State.doorbell
  try dsimp only
  repeat' (first
    | with_reducible assumption
    | with_reducible apply State.each_keeps
    | with_reducible apply State.submit_keeps
    | with_reducible apply State.uncorrectable_keeps
    | split
    | with_reducible apply State.keeps_mk
    | (intro _; intros; try dsimp only))

theorem State.countCancel_keeps {a0 s : State} (page cancelled late : Nat) (hk : a0.keeps s) :
    a0.keeps (State.countCancel s page cancelled late) := by
  unfold State.countCancel
  try dsimp only
  repeat' (first
    | with_reducible assumption
    | with_reducible apply State.modPort_keeps
    | split
    | with_reducible apply State.keeps_mk
    | (intro _; intros; try dsimp only))

theorem State.settled_keeps {a0 s : State} (uid n : Nat) (pages : List Nat) (hk : a0.keeps s) :
    a0.keeps (State.settled s uid n pages) := by
  unfold State.settled
  try dsimp only
  repeat' (first
    | with_reducible assumption
    | with_reducible apply State.finish_keeps
    | with_reducible apply State.each_keeps
    | with_reducible apply State.countCancel_keeps
    | split
    | with_reducible apply State.keeps_mk
    | (intro _; intros; try dsimp only))

theorem State.backToPending_keeps {a0 s : State} (uid n : Nat) (hk : a0.keeps s) :
    a0.keeps (State.backToPending s uid n) := by
  unfold State.backToPending
  try dsimp only
  repeat' (first
    | with_reducible assumption
    | with_reducible apply State.finish_keeps
    | with_reducible apply State.modJobPort_keeps
    | with_reducible apply State.panic_keeps
    | with_reducible apply State.settled_keeps
    | split
    | with_reducible apply State.keeps_mk
    | (intro _; intros; try dsimp only))

theorem State.wonArb_keeps {a0 s : State} (uid n : Nat) (hk : a0.keeps s) :
    a0.keeps (State.wonArb s uid n) := by
  unfold State.wonArb
  try dsimp only
  repeat' (first
    | with_reducible assumption
    | with_reducible apply State.modJobPort_keeps
    | with_reducible apply State.panic_keeps
    | with_reducible apply State.each_keeps
    | with_reducible apply State.countCancel_keeps
    | split
    | with_reducible apply State.keeps_mk
    | (intro _; intros; try dsimp only))

theorem State.failAttempt_keeps {a0 s : State} (uid n : Nat) (hk : a0.keeps s) :
    a0.keeps (State.failAttempt s uid n) := by
  unfold State.failAttempt
  try dsimp only
  repeat' (first
    | with_reducible assumption
    | with_reducible apply State.bump_keeps
    | with_reducible apply State.tallyPort_keeps
    | with_reducible apply State.modJob_keeps
    | with_reducible apply State.modJobPort_keeps
    | with_reducible apply State.finish_keeps
    | with_reducible apply State.panic_keeps
    | with_reducible apply State.settled_keeps
    | split
    | with_reducible apply State.keeps_mk
    | (intro _; intros; try dsimp only))

theorem State.sentOk_keeps {a0 s : State} (uid n : Nat) (hk : a0.keeps s) :
    a0.keeps (State.sentOk s uid n) := by
  unfold State.sentOk
  try dsimp only
  repeat' (first
    | with_reducible assumption
    | with_reducible apply State.modJob_keeps
    | with_reducible apply State.finish_keeps
    | split
    | with_reducible apply State.keeps_mk
    | (intro _; intros; try dsimp only))

theorem State.loseJob_keeps {a0 s : State} (uid : Nat) (hk : a0.keeps s) :
    a0.keeps (State.loseJob s uid) := by
  unfold State.loseJob
  try dsimp only
  repeat' (first
    | with_reducible assumption
    | with_reducible apply State.modJob_keeps
    | with_reducible apply State.bump_keeps
    | with_reducible apply State.tallyCl_keeps
    | with_reducible apply State.err_keeps
    | with_reducible apply State.each_keeps
    | with_reducible apply State.finish_keeps
    | with_reducible apply State.modJobPort_keeps
    | split
    | with_reducible apply State.keeps_mk
    | (intro _; intros; try dsimp only))

theorem State.fenceJobs_keeps {a0 s : State} (c : Nat) (hk : a0.keeps s) :
    a0.keeps (State.fenceJobs s c) := by
  unfold State.fenceJobs
  try dsimp only
  repeat' (first
    | with_reducible assumption
    | with_reducible apply State.each_keeps
    | with_reducible apply State.finish_keeps
    | with_reducible apply State.modJobPort_keeps
    | with_reducible apply State.err_keeps
    | split
    | with_reducible apply State.keeps_mk
    | (intro _; intros; try dsimp only))

theorem State.cancelPort_keeps {a0 s : State} (uid n page : Nat) (hk : a0.keeps s) :
    a0.keeps (State.cancelPort s uid n page) := by
  unfold State.cancelPort
  try dsimp only
  repeat' (first
    | with_reducible assumption
    | with_reducible apply State.finish_keeps
    | with_reducible apply State.countCancel_keeps
    | with_reducible apply State.modJobPort_keeps
    | split
    | with_reducible apply State.keeps_mk
    | (intro _; intros; try dsimp only))

theorem State.settleCancel_keeps {a0 s : State} (n : Nat) (hk : a0.keeps s) :
    a0.keeps (State.settleCancel s n) := by
  unfold State.settleCancel
  try dsimp only
  repeat' (first
    | with_reducible assumption
    | with_reducible apply State.each_keeps
    | with_reducible apply State.cancelPort_keeps
    | with_reducible apply State.modPort_keeps
    | with_reducible apply State.cmdEnd_keeps
    | split
    | with_reducible apply State.keeps_mk
    | (intro _; intros; try dsimp only))

theorem State.txCancel_keeps {a0 s : State} (n : Nat) (hk : a0.keeps s) :
    a0.keeps (State.txCancel s n) := by
  unfold State.txCancel
  try dsimp only
  repeat' (first
    | with_reducible assumption
    | with_reducible apply State.cmdEnd_keeps
    | with_reducible apply State.cmdStop_keeps
    | with_reducible apply State.modPort_keeps
    | with_reducible apply State.each_keeps
    | with_reducible apply State.cancelPort_keeps
    | with_reducible apply State.settleCancel_keeps
    | split
    | with_reducible apply State.keeps_mk
    | (intro _; intros; try dsimp only))

theorem State.txFlush_keeps {a0 s : State} (n : Nat) (hk : a0.keeps s) :
    a0.keeps (State.txFlush s n) := by
  unfold State.txFlush
  try dsimp only
  repeat' (first
    | with_reducible assumption
    | with_reducible apply State.modPort_keeps
    | with_reducible apply State.each_keeps
    | with_reducible apply State.cancelPort_keeps
    | with_reducible apply State.settleCancel_keeps
    | split
    | with_reducible apply State.keeps_mk
    | (intro _; intros; try dsimp only))

theorem State.noteMoment_keeps {a0 s : State} (hk : a0.keeps s) :
    a0.keeps (State.noteMoment s) := by
  unfold State.noteMoment
  try dsimp only
  repeat' (first
    | with_reducible assumption
    | split
    | with_reducible apply State.keeps_mk
    | (intro _; intros; try dsimp only))

theorem State.rxLoss_keeps {a0 s : State} (c what index fseq pseq addr : Nat) (port : Option Nat) (hk : a0.keeps s) :
    a0.keeps (State.rxLoss s c what index fseq pseq addr port) := by
  unfold State.rxLoss
  try dsimp only
  repeat' (first
    | with_reducible assumption
    | with_reducible apply State.queueRec_keeps
    | with_reducible apply State.bump_keeps
    | with_reducible apply State.tallyCl_keeps
    | with_reducible apply State.irq_keeps
    | with_reducible apply State.err_keeps
    | split
    | with_reducible apply State.keeps_mk
    | (intro _; intros; try dsimp only))

theorem State.badElem_keeps {a0 s : State} (n i : Nat) (hk : a0.keeps s) :
    a0.keeps (State.badElem s n i) := by
  unfold State.badElem
  try dsimp only
  repeat' (first
    | with_reducible assumption
    | with_reducible apply State.wr_keeps
    | with_reducible apply State.err_keeps
    | with_reducible apply State.irq_keeps
    | split
    | with_reducible apply State.keeps_mk
    | (intro _; intros; try dsimp only))

theorem State.evalList_keeps {a0 s : State} (n id : Nat) (long : Bool) (snd : Nat) (hit : List Nat) (i cnt : Nat)
    (hk : a0.keeps s) : a0.keeps (s.evalList n id long snd hit i cnt).2 := by
  induction cnt generalizing s i with
  | zero => exact hk
  | succ cnt ih =>
    unfold State.evalList
    extract_lets c e known s1 s2
    have h1 : a0.keeps s1 := State.badElem_keeps _ _ hk
    have h2 : a0.keeps s2 := by
      unfold s2; split
      · with_reducible exact State.fault_keeps _ _ (State.remember_keeps _ h1)
      · exact h1
    split
    · exact ih _ h2
    · split
      · exact hk
      · exact ih _ hk
theorem State.evalList_keeps_eq {a0 s t : State} {v : Option (Nat × Elem)} {n id : Nat} {long : Bool} {snd : Nat}
    {hit : List Nat} {i cnt : Nat} (hk : a0.keeps s) (e : s.evalList n id long snd hit i cnt = (v, t)) : a0.keeps t := by
  have := State.evalList_keeps (s := s) n id long snd hit i cnt hk
  rw [e] at this
  exact this

theorem State.releaseClaim_keeps {a0 s : State} (c : Nat) (k : Claim) (hk : a0.keeps s) :
    a0.keeps (State.releaseClaim s c k) := by
  unfold State.releaseClaim
  try dsimp only
  repeat' (first
    | with_reducible assumption
    | with_reducible apply State.wr_keeps
    | with_reducible apply State.slotGive_keeps
    | with_reducible apply State.dropUndone_keeps
    | with_reducible apply State.claim_keeps
    | with_reducible refine State.claim_keeps_eq ?_ (by assumption)
    | split
    | with_reducible apply State.keeps_mk
    | (intro _; intros; try dsimp only))

theorem State.moverStep_keeps {a0 s : State} (n : Nat) (h : Head) (i : Nat) (e : Elem) (k : Claim)
    (ov : Nat → Claim → State → Claim × State) (c : Nat) (comet : Bool)
    (hov : ∀ x k t, a0.keeps t → a0.keeps (ov x k t).2) (hk : a0.keeps s) :
    a0.keeps (State.reserve.moverStep h e k ov s c comet).2 := by
  unfold State.reserve.moverStep
  split
  · exact hov _ _ _ hk
  · split
    · split
      · rename_i heq
        exact State.forget_keeps _ _ (State.takeRx_keeps hk heq)
      · exact hov _ _ _ hk
    · exact hk

theorem State.fwdStep_keeps {a0 s : State} (n : Nat) (h : Head) (i : Nat) (e : Elem) (k : Claim)
    (ov : Nat → Claim → State → Claim × State) (c : Nat) (comet : Bool)
    (hov : ∀ x k t, a0.keeps t → a0.keeps (ov x k t).2) (hk : a0.keeps s) :
    a0.keeps (State.reserve.fwdStep n h e k ov s c comet).2 := by
  unfold State.reserve.fwdStep
  extract_lets o
  split
  · exact State.moverStep_keeps n h i e _ _ _ _ hov hk
  · split
    · exact hov _ _ _ hk
    · split
      · exact hov _ _ _ hk
      · split
        rename_i heq
        exact State.moverStep_keeps n h i e _ _ _ _ hov (State.keeps_mk (State.fresh_keeps_eq hk heq))

theorem State.go_keeps {a0 s : State} (n : Nat) (h : Head) (i : Nat) (e : Elem) (k : Claim) (ring : Option Nat)
    (ov : Nat → Claim → State → Claim × State)
    (hov : ∀ x k t, a0.keeps t → a0.keeps (ov x k t).2) (hk : a0.keeps s) :
    a0.keeps (State.reserve.go n h e k ring ov s).2 := by
  unfold State.reserve.go
  extract_lets c comet
  split
  · split
    · exact hov _ _ _ hk
    · exact State.fwdStep_keeps n h i e _ _ _ _ hov (State.slotTake_keeps _ hk)
  · exact State.fwdStep_keeps n h i e _ _ _ _ hov hk

theorem State.reserve_keeps {a0 s : State} (n : Nat) (h : Head) (i : Nat) (e : Elem) (st : Stamp) (hk : a0.keeps s) :
    a0.keeps (s.reserve n h i e st).2 := by
  unfold State.reserve
  extract_lets c comet
  split
  rename_i heq
  have h1 := State.fresh_keeps_eq hk heq
  split
  extract_lets base ov k
  have hov : ∀ x k t, a0.keeps t → a0.keeps (ov x k t).2 := fun x k t ht => State.releaseClaim_keeps _ _ ht
  split
  · split
    · exact hov _ _ _ h1
    · exact State.go_keeps n h i e _ _ _ hov (State.adv_keeps _ _ _ _ h1)
  · exact State.go_keeps n h i e _ _ _ hov h1
theorem State.reserve_keeps_eq {a0 s t : State} {v : Claim} {n : Nat} {h : Head} {i : Nat} {el : Elem} {st : Stamp}
    (hk : a0.keeps s) (e : s.reserve n h i el st = (v, t)) : a0.keeps t := by
  have := State.reserve_keeps (s := s) n h i el st hk
  rw [e] at this
  exact this

theorem State.claimHead_keeps {a0 s : State} (n : Nat) (h : Head) (st : Stamp) (hit : List Nat) (hk : a0.keeps s) :
    a0.keeps (s.claimHead n h st hit).2 := by
  unfold State.claimHead
  extract_lets p
  split
  · rename_i e; exact State.evalList_keeps_eq hk e
  · rename_i e
    have := State.evalList_keeps_eq hk e
    split
    · exact this
    · exact State.reserve_keeps _ _ _ _ _ this
theorem State.claimHead_keeps_eq {a0 s t : State} {v : Claim} {n : Nat} {h : Head} {st : Stamp} {hit : List Nat}
    (hk : a0.keeps s) (e : s.claimHead n h st hit = (v, t)) : a0.keeps t := by
  have := State.claimHead_keeps (s := s) n h st hit hk
  rw [e] at this
  exact this

theorem State.fillBlock_keeps {a0 s : State} (k : Claim) (payload : List Byte) (hk : a0.keeps s) :
    a0.keeps (State.fillBlock s k payload) := by
  unfold State.fillBlock
  try dsimp only
  repeat' (first
    | with_reducible assumption
    | with_reducible apply State.mputs_keeps
    | split
    | with_reducible apply State.keeps_mk
    | (intro _; intros; try dsimp only))

theorem State.undoClaim_keeps {a0 s : State} (n : Nat) (k : Claim) (hk : a0.keeps s) :
    a0.keeps (State.undoClaim s n k) := by
  unfold State.undoClaim
  try dsimp only
  repeat' (first
    | with_reducible assumption
    | with_reducible apply State.releaseClaim_keeps
    | with_reducible apply State.bump_keeps
    | with_reducible apply State.tallyPort_keeps
    | split
    | with_reducible apply State.keeps_mk
    | (intro _; intros; try dsimp only))

theorem State.loseUser_keeps {a0 s : State} (w : Nat) (pushed : Bool) (u : User) (hk : a0.keeps s) :
    a0.keeps (State.loseUser s w pushed u) := by
  unfold State.loseUser
  try dsimp only
  repeat' (first
    | with_reducible assumption
    | with_reducible apply State.err_keeps
    | with_reducible apply State.rxLoss_keeps
    | with_reducible apply State.loseJob_keeps
    | split
    | with_reducible apply State.keeps_mk
    | (intro _; intros; try dsimp only))

theorem State.loseBlock_keeps {a0 s : State} (b : Block) (w : Nat) (hk : a0.keeps s) :
    a0.keeps (State.loseBlock s b w) := by
  unfold State.loseBlock
  try dsimp only
  repeat' (first
    | with_reducible assumption
    | with_reducible apply State.each_keeps
    | with_reducible apply State.loseUser_keeps
    | split
    | with_reducible apply State.keeps_mk
    | (intro _; intros; try dsimp only))

theorem State.putEntry_keeps {a0 s : State} (a : Nat) (ws : List Nat) (hk : a0.keeps s) :
    a0.keeps (State.putEntry s a ws) := by
  unfold State.putEntry
  try dsimp only
  repeat' (first
    | with_reducible assumption
    | with_reducible apply State.mputs_keeps
    | split
    | with_reducible apply State.keeps_mk
    | (intro _; intros; try dsimp only))

theorem State.startPush_keeps {a0 s : State} (n : Nat) (k : Claim) (ws : List Nat) (tgt pseq len : Nat) (direct : Bool) (hk : a0.keeps s) :
    a0.keeps (State.startPush s n k ws tgt pseq len direct) := by
  unfold State.startPush
  try dsimp only
  repeat' (first
    | with_reducible assumption
    | with_reducible apply State.addUser_keeps
    | with_reducible apply State.queueRec_keeps
    | with_reducible apply State.fresh_keeps
    | with_reducible refine State.fresh_keeps_eq ?_ (by assumption)
    | with_reducible apply State.raise_keeps
    | split
    | with_reducible apply State.keeps_mk
    | (intro _; intros; try dsimp only))

theorem State.enterFifo_keeps {a0 s : State} (n : Nat) (f : BusFrame) (data : List Byte) (fi pseq : Nat) (hk : a0.keeps s) :
    a0.keeps (State.enterFifo s n f data fi pseq) := by
  unfold State.enterFifo
  try dsimp only
  repeat' (first
    | with_reducible assumption
    | with_reducible apply State.claim_keeps
    | with_reducible refine State.claim_keeps_eq ?_ (by assumption)
    | with_reducible apply State.putEntry_keeps
    | with_reducible apply State.adv_keeps
    | with_reducible apply State.wr_keeps
    | with_reducible apply State.addUser_keeps
    | with_reducible apply State.startPush_keeps
    | with_reducible apply State.queueRec_keeps
    | split
    | with_reducible apply State.keeps_mk
    | (intro _; intros; try dsimp only))

theorem State.enterBuffer_keeps {a0 s : State} (n : Nat) (f : BusFrame) (data : List Byte) (pseq : Nat) (hk : a0.keeps s) :
    a0.keeps (State.enterBuffer s n f data pseq) := by
  unfold State.enterBuffer
  try dsimp only
  repeat' (first
    | with_reducible assumption
    | with_reducible apply State.claim_keeps
    | with_reducible refine State.claim_keeps_eq ?_ (by assumption)
    | with_reducible apply State.putEntry_keeps
    | with_reducible apply State.bump_keeps
    | with_reducible apply State.orBits_keeps
    | with_reducible apply State.queueRec_keeps
    | split
    | with_reducible apply State.keeps_mk
    | (intro _; intros; try dsimp only))

theorem State.commitForward_keeps {a0 s : State} (uid pseq : Nat) (blk : Option Nat) (data : List Byte) (hk : a0.keeps s) :
    a0.keeps (State.commitForward s uid pseq blk data) := by
  unfold State.commitForward
  try dsimp only
  repeat' (first
    | with_reducible assumption
    | with_reducible apply State.modJob_keeps
    | with_reducible apply State.addUser_keeps
    | with_reducible apply State.makeEligible_keeps
    | with_reducible apply State.each_keeps
    | with_reducible apply State.finish_keeps
    | with_reducible apply State.tryComplete_keeps
    | split
    | with_reducible apply State.keeps_mk
    | (intro _; intros; try dsimp only))

theorem State.countOverrun_keeps {a0 s : State} (n cause : Nat) (ess : Bool) (fifo : Option Nat) (hk : a0.keeps s) :
    a0.keeps (State.countOverrun s n cause ess fifo) := by
  unfold State.countOverrun
  try dsimp only
  repeat' (first
    | with_reducible assumption
    | with_reducible apply State.bump_keeps
    | with_reducible apply State.wr_keeps
    | with_reducible apply State.tallyPort_keeps
    | with_reducible apply State.irq_keeps
    | with_reducible apply State.err_keeps
    | split
    | with_reducible apply State.keeps_mk
    | (intro _; intros; try dsimp only))

theorem State.commit_keeps {a0 s : State} (n : Nat) (f : BusFrame) (data : List Byte) (hk : a0.keeps s) :
    a0.keeps (State.commit s n f data) := by
  unfold State.commit
  extract_lets p k len pseq s1 ws s4 s3 s6 s5
  have h1 : a0.keeps s1 := by with_reducible exact State.adv_keeps _ _ _ _ hk
  have h4 : a0.keeps s4 := by
    unfold s4; split
    · with_reducible exact State.enterFifo_keeps _ _ _ _ _ h1
    · exact h1
  have h3 : a0.keeps s3 := by
    unfold s3; split
    · with_reducible exact State.enterFifo_keeps _ _ _ _ _ h1
    · with_reducible exact State.enterBuffer_keeps _ _ _ _ h1
    · split
      · exact h1
      · split
        · with_reducible exact State.startPush_keeps _ _ _ _ _ _ _ h1
        · with_reducible exact State.queueRec_keeps _ _ h1
    · split
      · with_reducible exact State.commitForward_keeps _ _ _ _ h4
      · exact h4
    · exact h1
  have h6 : a0.keeps s6 := by with_reducible exact State.dropUser_keeps _ h3
  have h5 : a0.keeps s5 := by
    unfold s5; split
    · split
      · with_reducible exact State.loseBlock_keeps _ _ h6
      · exact h6
    · exact h6
  split
  · with_reducible exact State.tallyPort_keeps _ _ _ (State.bump_keeps _ _ _ _ hk)
  · with_reducible exact State.countOverrun_keeps _ _ _ _ hk
  · with_reducible exact State.tallyPort_keeps _ _ _ (State.tallyPort_keeps _ _ _ (State.bump_keeps _ _ _ _ h5))

theorem State.releaseEntries_keeps {a0 s : State} (c f cnt : Nat) (hk : a0.keeps s) :
    a0.keeps (State.releaseEntries s c f cnt) := by
  unfold State.releaseEntries
  try dsimp only
  repeat' (first
    | with_reducible assumption
    | split
    | with_reducible apply State.keeps_mk
    | (intro _; intros; try dsimp only))

theorem State.rxfGet_keeps {a0 s : State} (pp c f v : Nat) (hk : a0.keeps s) :
    a0.keeps (State.rxfGet s pp c f v) := by
  unfold State.rxfGet
  try dsimp only
  repeat' (first
    | with_reducible assumption
    | with_reducible apply State.guarded_keeps
    | with_reducible apply State.err_keeps
    | with_reducible apply State.releaseEntries_keeps
    | with_reducible apply State.wr_keeps
    | split
    | with_reducible apply State.keeps_mk
    | (intro _; intros; try dsimp only))

theorem State.fifoReset_keeps {a0 s : State} (c f : Nat) (hk : a0.keeps s) :
    a0.keeps (State.fifoReset s c f).2 := by
  unfold State.fifoReset
  try dsimp only
  repeat' (first
    | with_reducible assumption
    | with_reducible apply State.releaseEntries_keeps
    | with_reducible apply State.wr_keeps
    | split
    | with_reducible apply State.keeps_mk
    | (intro _; intros; try dsimp only))
theorem State.fifoReset_keeps_eq {a0 s t : State} {v : Nat} {c f : Nat} (hk : a0.keeps s)
    (hv : State.fifoReset s c f = (v, t)) : a0.keeps t := by
  have := State.fifoReset_keeps (s := s) c f hk
  rw [hv] at this
  exact this

theorem State.rxRelease_keeps {a0 s : State} (c a : Nat) (hk : a0.keeps s) :
    a0.keeps (State.rxRelease s c a) := by
  unfold State.rxRelease
  try dsimp only
  repeat' (first
    | with_reducible assumption
    | with_reducible apply State.cmdStop_keeps
    | with_reducible apply State.cmdEnd_keeps
    | split
    | with_reducible apply State.keeps_mk
    | (intro _; intros; try dsimp only))

theorem State.corrected_keeps {a0 s : State} (a : Nat) (hk : a0.keeps s) :
    a0.keeps (State.corrected s a) := by
  unfold State.corrected
  try dsimp only
  repeat' (first
    | with_reducible assumption
    | with_reducible apply State.fault_keeps
    | with_reducible apply State.tallyCl_keeps
    | split
    | with_reducible apply State.keeps_mk
    | (intro _; intros; try dsimp only))

theorem State.spoil_keeps {a0 s : State} (w : Nat) (hk : a0.keeps s) :
    a0.keeps (State.spoil s w) := by
  unfold State.spoil
  try dsimp only
  repeat' (first
    | with_reducible assumption
    | split
    | with_reducible apply State.keeps_mk
    | (intro _; intros; try dsimp only))

theorem State.blockLoss_keeps {a0 s : State} (c w : Nat) (known : Bool) (b : Block) (hk : a0.keeps s) :
    a0.keeps (State.blockLoss s c w known b) := by
  unfold State.blockLoss
  try dsimp only
  repeat' (first
    | with_reducible assumption
    | with_reducible apply State.claim_keeps
    | with_reducible refine State.claim_keeps_eq ?_ (by assumption)
    | with_reducible apply State.remember_keeps
    | with_reducible apply State.fault_keeps
    | with_reducible apply State.spoil_keeps
    | with_reducible apply State.loseBlock_keeps
    | split
    | with_reducible apply State.keeps_mk
    | (intro _; intros; try dsimp only))

theorem State.storeLoss_keeps {a0 s : State} (c w : Nat) (scrub : Bool) (hk : a0.keeps s) :
    a0.keeps (State.storeLoss s c w scrub) := by
  unfold State.storeLoss
  try dsimp only
  repeat' (first
    | with_reducible assumption
    | with_reducible apply State.tallyCl_keeps
    | with_reducible apply State.each_keeps
    | with_reducible apply State.blockLoss_keeps
    | with_reducible apply State.spoil_keeps
    | with_reducible apply State.rxLoss_keeps
    | with_reducible apply State.remember_keeps
    | with_reducible apply State.fault_keeps
    | with_reducible apply State.mputs_keeps
    | split
    | with_reducible apply State.keeps_mk
    | (intro _; intros; try dsimp only))

theorem State.uncorrectable_keeps {a0 s : State} (a : Nat) (scrub : Bool) (hk : a0.keeps s) :
    a0.keeps (State.uncorrectable s a scrub) := by
  unfold State.uncorrectable
  try dsimp only
  repeat' (first
    | with_reducible assumption
    | with_reducible apply State.storeLoss_keeps
    | with_reducible apply State.spoil_keeps
    | with_reducible apply State.rxLoss_keeps
    | with_reducible apply State.remember_keeps
    | with_reducible apply State.fault_keeps
    | with_reducible apply State.wr_keeps
    | split
    | with_reducible apply State.keeps_mk
    | (intro _; intros; try dsimp only))

theorem State.found_keeps {a0 s : State} (a n : Nat) (finds : List (Nat × Find)) (hk : a0.keeps s) :
    a0.keeps (State.found s a n finds) := by
  unfold State.found
  try dsimp only
  repeat' (first
    | with_reducible assumption
    | with_reducible apply State.each_keeps
    | with_reducible apply State.corrected_keeps
    | with_reducible apply State.uncorrectable_keeps
    | split
    | with_reducible apply State.keeps_mk
    | (intro _; intros; try dsimp only))

theorem State.writeWords_keeps {a0 s : State} (a : Nat) (bs : List Byte) (hk : a0.keeps s) :
    a0.keeps (State.writeWords s a bs) := by
  unfold State.writeWords
  try dsimp only
  repeat' (first
    | with_reducible assumption
    | with_reducible apply State.each_keeps
    | with_reducible apply State.mputs_keeps
    | split
    | with_reducible apply State.keeps_mk
    | (intro _; intros; try dsimp only))

theorem State.scrub_keeps {a0 s : State} (a : Nat) (f : Option Find) (hk : a0.keeps s) :
    a0.keeps (State.scrub s a f) := by
  unfold State.scrub
  try dsimp only
  repeat' (first
    | with_reducible assumption
    | with_reducible apply State.corrected_keeps
    | with_reducible apply State.uncorrectable_keeps
    | with_reducible apply State.tallyCl_keeps
    | split
    | with_reducible apply State.keeps_mk
    | (intro _; intros; try dsimp only))

theorem State.writeBack_keeps {a0 s : State} (c : Nat) (hk : a0.keeps s) :
    a0.keeps (State.writeBack s c) := by
  unfold State.writeBack
  try dsimp only
  repeat' (first
    | with_reducible assumption
    | split
    | with_reducible apply State.keeps_mk
    | (intro _; intros; try dsimp only))

/-- A fold that carries the state in a pair. -/
theorem State.foldPair_keeps {α β : Type} {a0 s : State} (l : List α) (f : β × State → α → β × State) (b : β)
    (hf : ∀ b s x, a0.keeps s → a0.keeps (f (b, s) x).2) (hk : a0.keeps s) : a0.keeps (l.foldl f (b, s)).2 := by
  induction l generalizing s b with
  | nil => exact hk
  | cons x t ih => exact ih (f (b, s) x).1 (hf b s x hk)

theorem State.meanCoefs_keeps {a0 s : State} (cs : List (List Int)) (hk : a0.keeps s) : a0.keeps (s.meanCoefs cs).2 :=
  State.foldPair_keeps _ _ _ (fun _ _ _ h => State.divOpen_keeps _ _ h) hk
theorem State.meanCoefs_keeps_eq {a0 s t : State} {v : List Int} {cs : List (List Int)} (hk : a0.keeps s)
    (e : s.meanCoefs cs = (v, t)) : a0.keeps t := by
  have := State.meanCoefs_keeps (s := s) cs hk
  rw [e] at this
  exact this

theorem State.blendCoefs_keeps {a0 s : State} (old new : List Int) (hk : a0.keeps s) :
    a0.keeps (s.blendCoefs old new).2 :=
  State.foldPair_keeps _ _ _ (fun _ _ _ h => State.divOpen_keeps _ _ h) hk
theorem State.blendCoefs_keeps_eq {a0 s t : State} {v : List Int} {old new : List Int} (hk : a0.keeps s)
    (e : s.blendCoefs old new = (v, t)) : a0.keeps t := by
  have := State.blendCoefs_keeps (s := s) old new hk
  rw [e] at this
  exact this

theorem State.meanMargin_keeps {a0 s : State} (cs : List Contribution) (hk : a0.keeps s) :
    a0.keeps (State.meanMargin s cs).2 := by
  unfold State.meanMargin
  try dsimp only
  repeat' (first
    | with_reducible assumption
    | split
    | with_reducible apply State.keeps_mk
    | (intro _; intros; try dsimp only))
theorem State.meanMargin_keeps_eq {a0 s t : State} {v : Nat} {cs : List Contribution} (hk : a0.keeps s)
    (hv : State.meanMargin s cs = (v, t)) : a0.keeps t := by
  have := State.meanMargin_keeps (s := s) cs hk
  rw [hv] at this
  exact this

theorem State.foldEntry_keeps {a0 s : State} (n i : Nat) (hk : a0.keeps s) :
    a0.keeps (State.foldEntry s n i) := by
  unfold State.foldEntry
  try dsimp only
  repeat' (first
    | with_reducible assumption
    | with_reducible apply State.meanCoefs_keeps
    | with_reducible refine State.meanCoefs_keeps_eq ?_ (by assumption)
    | with_reducible apply State.blendCoefs_keeps
    | with_reducible refine State.blendCoefs_keeps_eq ?_ (by assumption)
    | with_reducible apply State.meanMargin_keeps
    | with_reducible refine State.meanMargin_keeps_eq ?_ (by assumption)
    | with_reducible apply State.mputs_keeps
    | with_reducible apply State.irq_keeps
    | with_reducible apply State.mputw_keeps
    | split
    | with_reducible apply State.keeps_mk
    | (intro _; intros; try dsimp only))

theorem State.fold_keeps {a0 s : State} (n : Nat) (hk : a0.keeps s) :
    a0.keeps (State.fold s n) := by
  unfold State.fold
  try dsimp only
  repeat' (first
    | with_reducible assumption
    | with_reducible apply State.each_keeps
    | with_reducible apply State.foldEntry_keeps
    | with_reducible apply State.adv_keeps
    | with_reducible apply State.modPort_keeps
    | split
    | with_reducible apply State.keeps_mk
    | (intro _; intros; try dsimp only))

theorem State.applyRung_keeps {a0 s : State} (n ceil rx : Nat) (hk : a0.keeps s) :
    a0.keeps (State.applyRung s n ceil rx) := by
  unfold State.applyRung
  try dsimp only
  repeat' (first
    | with_reducible assumption
    | with_reducible apply State.wr_keeps
    | split
    | with_reducible apply State.keeps_mk
    | (intro _; intros; try dsimp only))

theorem State.endRungWait_keeps {a0 s : State} (n : Nat) (hk : a0.keeps s) :
    a0.keeps (State.endRungWait s n) := by
  unfold State.endRungWait
  try dsimp only
  repeat' (first
    | with_reducible assumption
    | with_reducible apply State.byCores_keeps
    | with_reducible apply State.modPort_keeps
    | with_reducible apply State.applyRung_keeps
    | with_reducible apply State.wr_keeps
    | with_reducible apply State.cmdEnd_keeps
    | split
    | with_reducible apply State.keeps_mk
    | (intro _; intros; try dsimp only))

theorem State.windowEnd_keeps {a0 s : State} (n : Nat) (hk : a0.keeps s) :
    a0.keeps (State.windowEnd s n) := by
  unfold State.windowEnd
  try dsimp only
  repeat' (first
    | with_reducible assumption
    | with_reducible apply State.window_keeps
    | with_reducible apply State.fold_keeps
    | with_reducible apply State.endRungWait_keeps
    | with_reducible apply State.modPort_keeps
    | split
    | with_reducible apply State.keeps_mk
    | (intro _; intros; try dsimp only))

theorem State.windowsEnd_keeps {a0 s : State} (hk : a0.keeps s) :
    a0.keeps (State.windowsEnd s) := by
  unfold State.windowsEnd
  try dsimp only
  repeat' (first
    | with_reducible assumption
    | with_reducible apply State.each_keeps
    | with_reducible apply State.windowEnd_keeps
    | split
    | with_reducible apply State.keeps_mk
    | (intro _; intros; try dsimp only))

theorem State.windowSync_keeps {a0 s : State} (n : Nat) (hk : a0.keeps s) :
    a0.keeps (State.windowSync s n) := by
  unfold State.windowSync
  try dsimp only
  repeat' (first
    | with_reducible assumption
    | with_reducible apply State.window_keeps
    | with_reducible apply State.fold_keeps
    | with_reducible apply State.modPort_keeps
    | with_reducible apply State.wrB_keeps
    | with_reducible apply State.endRungWait_keeps
    | split
    | with_reducible apply State.keeps_mk
    | (intro _; intros; try dsimp only))

theorem State.windowDrop_keeps {a0 s : State} (n : Nat) (hk : a0.keeps s) :
    a0.keeps (State.windowDrop s n) := by
  unfold State.windowDrop
  try dsimp only
  repeat' (first
    | with_reducible assumption
    | with_reducible apply State.modPort_keeps
    | with_reducible apply State.wr_keeps
    | split
    | with_reducible apply State.keeps_mk
    | (intro _; intros; try dsimp only))

theorem State.countCold_keeps {a0 s : State} (n : Nat) (hk : a0.keeps s) :
    a0.keeps (State.countCold s n) := by
  unfold State.countCold
  try dsimp only
  repeat' (first
    | with_reducible assumption
    | with_reducible apply State.modPort_keeps
    | with_reducible apply State.bump_keeps
    | with_reducible apply State.tallyPort_keeps
    | split
    | with_reducible apply State.keeps_mk
    | (intro _; intros; try dsimp only))

theorem State.coldCut_keeps {a0 s : State} (n : Nat) (hk : a0.keeps s) :
    a0.keeps (State.coldCut s n) := by
  unfold State.coldCut
  try dsimp only
  repeat' (first
    | with_reducible assumption
    | with_reducible apply State.drawOpen_keeps
    | with_reducible refine State.drawOpen_keeps_eq ?_ (by assumption)
    | with_reducible apply State.countCold_keeps
    | split
    | with_reducible apply State.keeps_mk
    | (intro _; intros; try dsimp only))

theorem State.contribute_keeps {a0 s : State} (n : Nat) (h : Head) (ok : Bool) (c : Option TailCoef) (hk : a0.keeps s) :
    a0.keeps (State.contribute s n h ok c) := by
  unfold State.contribute
  try dsimp only
  repeat' (first
    | with_reducible assumption
    | with_reducible apply State.window_keeps
    | with_reducible apply State.modPort_keeps
    | split
    | with_reducible apply State.keeps_mk
    | (intro _; intros; try dsimp only))

theorem State.setTrim_keeps {a0 s : State} (n code : Nat) (hk : a0.keeps s) :
    a0.keeps (State.setTrim s n code) := by
  unfold State.setTrim
  try dsimp only
  repeat' (first
    | with_reducible assumption
    | with_reducible apply State.wr_keeps
    | with_reducible apply State.wrB_keeps
    | with_reducible apply State.err_keeps
    | with_reducible apply State.irq_keeps
    | split
    | with_reducible apply State.keeps_mk
    | (intro _; intros; try dsimp only))

theorem State.calStep_keeps {a0 s : State} (n : Nat) (ok : Bool) (hk : a0.keeps s) :
    a0.keeps (State.calStep s n ok) := by
  unfold State.calStep
  try dsimp only
  repeat' (first
    | with_reducible assumption
    | with_reducible apply State.adv_keeps
    | with_reducible apply State.err_keeps
    | split
    | with_reducible apply State.keeps_mk
    | (intro _; intros; try dsimp only))

theorem State.trimStep_keeps {a0 s : State} (n : Nat) (up ok : Bool) (hk : a0.keeps s) :
    a0.keeps (State.trimStep s n up ok) := by
  unfold State.trimStep
  try dsimp only
  repeat' (first
    | with_reducible assumption
    | with_reducible apply State.err_keeps
    | with_reducible apply State.setTrim_keeps
    | with_reducible apply State.adv_keeps
    | split
    | with_reducible apply State.keeps_mk
    | (intro _; intros; try dsimp only))

theorem State.setRung_keeps {a0 s : State} (n ceil rx : Nat) (hk : a0.keeps s) :
    a0.keeps (State.setRung s n ceil rx) := by
  unfold State.setRung
  try dsimp only
  repeat' (first
    | with_reducible assumption
    | with_reducible apply State.modPort_keeps
    | with_reducible apply State.wr_keeps
    | with_reducible apply State.applyRung_keeps
    | with_reducible apply State.cmdEnd_keeps
    | split
    | with_reducible apply State.keeps_mk
    | (intro _; intros; try dsimp only))

theorem State.windowTimeout_keeps {a0 s : State} (n : Nat) (hk : a0.keeps s) :
    a0.keeps (State.windowTimeout s n) := by
  unfold State.windowTimeout
  try dsimp only
  repeat' (first
    | with_reducible assumption
    | with_reducible apply State.windowEnd_keeps
    | split
    | with_reducible apply State.keeps_mk
    | (intro _; intros; try dsimp only))

theorem State.ltClear_keeps {a0 s : State} (n : Nat) (hk : a0.keeps s) :
    a0.keeps (State.ltClear s n) := by
  unfold State.ltClear
  try dsimp only
  repeat' (first
    | with_reducible assumption
    | with_reducible apply State.each_keeps
    | with_reducible apply State.mputw_keeps
    | with_reducible apply State.modPort_keeps
    | with_reducible apply State.cmdEnd_keeps
    | split
    | with_reducible apply State.keeps_mk
    | (intro _; intros; try dsimp only))

theorem State.eyeStart_keeps {a0 s : State} (n : Nat) (hk : a0.keeps s) :
    a0.keeps (State.eyeStart s n) := by
  unfold State.eyeStart
  try dsimp only
  repeat' (first
    | with_reducible assumption
    | with_reducible apply State.cmdEnd_keeps
    | with_reducible apply State.wr_keeps
    | with_reducible apply State.modPort_keeps
    | split
    | with_reducible apply State.keeps_mk
    | (intro _; intros; try dsimp only))

theorem State.eyeEnd_keeps {a0 s : State} (n : Nat) (counts : List Byte) (status : Nat) (hk : a0.keeps s) :
    a0.keeps (State.eyeEnd s n counts status) := by
  unfold State.eyeEnd
  try dsimp only
  repeat' (first
    | with_reducible assumption
    | with_reducible apply State.modPort_keeps
    | with_reducible apply State.mputs_keeps
    | with_reducible apply State.wr_keeps
    | with_reducible apply State.cmdEnd_keeps
    | split
    | with_reducible apply State.keeps_mk
    | (intro _; intros; try dsimp only))

theorem State.eyeDone_keeps {a0 s : State} (n : Nat) (counts : List Byte) (hk : a0.keeps s) :
    a0.keeps (State.eyeDone s n counts) := by
  unfold State.eyeDone
  try dsimp only
  repeat' (first
    | with_reducible assumption
    | with_reducible apply State.eyeEnd_keeps
    | split
    | with_reducible apply State.keeps_mk
    | (intro _; intros; try dsimp only))

theorem State.eyeLate_keeps {a0 s : State} (n : Nat) (counts : List Byte) (hk : a0.keeps s) :
    a0.keeps (State.eyeLate s n counts) := by
  unfold State.eyeLate
  try dsimp only
  repeat' (first
    | with_reducible assumption
    | with_reducible apply State.eyeEnd_keeps
    | split
    | with_reducible apply State.keeps_mk
    | (intro _; intros; try dsimp only))

theorem State.eyeAbort_keeps {a0 s : State} (n status : Nat) (hk : a0.keeps s) :
    a0.keeps (State.eyeAbort s n status) := by
  unfold State.eyeAbort
  try dsimp only
  repeat' (first
    | with_reducible assumption
    | with_reducible apply State.drawOpen_keeps
    | with_reducible refine State.drawOpen_keeps_eq ?_ (by assumption)
    | with_reducible apply State.forget_keeps
    | with_reducible apply State.modPort_keeps
    | with_reducible apply State.wr_keeps
    | with_reducible apply State.cmdEnd_keeps
    | split
    | with_reducible apply State.keeps_mk
    | (intro _; intros; try dsimp only))

theorem State.setEstate_keeps {a0 s : State} (n st : Nat) (hk : a0.keeps s) :
    a0.keeps (State.setEstate s n st) := by
  unfold State.setEstate
  try dsimp only
  repeat' (first
    | with_reducible assumption
    | with_reducible apply State.drawOpen_keeps
    | with_reducible refine State.drawOpen_keeps_eq ?_ (by assumption)
    | with_reducible apply State.wr_keeps
    | with_reducible apply State.irq_keeps
    | split
    | with_reducible apply State.keeps_mk
    | (intro _; intros; try dsimp only))

theorem State.setCounters_keeps {a0 s : State} (n tec rec_ : Nat) (hk : a0.keeps s) :
    a0.keeps (State.setCounters s n tec rec_) := by
  unfold State.setCounters
  try dsimp only
  repeat' (first
    | with_reducible assumption
    | with_reducible apply State.wr_keeps
    | with_reducible apply State.wrB_keeps
    | with_reducible apply State.irq_keeps
    | split
    | with_reducible apply State.keeps_mk
    | (intro _; intros; try dsimp only))

theorem State.syncLost_keeps {a0 s : State} (n : Nat) (hk : a0.keeps s) :
    a0.keeps (State.syncLost s n) := by
  unfold State.syncLost
  try dsimp only
  repeat' (first
    | with_reducible assumption
    | with_reducible apply State.bump_keeps
    | with_reducible apply State.tallyCl_keeps
    | split
    | with_reducible apply State.keeps_mk
    | (intro _; intros; try dsimp only))

theorem State.loadAbt_keeps {a0 s : State} (n : Nat) (hk : a0.keeps s) :
    a0.keeps (State.loadAbt s n) := by
  unfold State.loadAbt
  try dsimp only
  repeat' (first
    | with_reducible assumption
    | with_reducible apply State.wr_keeps
    | split
    | with_reducible apply State.keeps_mk
    | (intro _; intros; try dsimp only))

theorem State.eyeSync_keeps {a0 s : State} (n : Nat) (hk : a0.keeps s) :
    a0.keeps (State.eyeSync s n) := by
  unfold State.eyeSync
  try dsimp only
  repeat' (first
    | with_reducible assumption
    | with_reducible apply State.eyeAbort_keeps
    | split
    | with_reducible apply State.keeps_mk
    | (intro _; intros; try dsimp only))

theorem State.setMode_keeps {a0 s : State} (n m : Nat) (hk : a0.keeps s) :
    a0.keeps (State.setMode s n m) := by
  unfold State.setMode
  try dsimp only
  repeat' (first
    | with_reducible assumption
    | with_reducible apply State.wr_keeps
    | with_reducible apply State.windowSync_keeps
    | with_reducible apply State.eyeSync_keeps
    | split
    | with_reducible apply State.keeps_mk
    | (intro _; intros; try dsimp only))

theorem State.dropSlot_keeps {a0 s : State} (n m : Nat) (hk : a0.keeps s) :
    a0.keeps (State.dropSlot s n m) := by
  unfold State.dropSlot
  try dsimp only
  repeat' (first
    | with_reducible assumption
    | with_reducible apply State.modPort_keeps
    | with_reducible apply State.syncLost_keeps
    | split
    | with_reducible apply State.keeps_mk
    | (intro _; intros; try dsimp only))

theorem State.enterMode_keeps {a0 s : State} (n m : Nat) (hk : a0.keeps s) :
    a0.keeps (State.enterMode s n m) := by
  unfold State.enterMode
  try dsimp only
  repeat' (first
    | with_reducible assumption
    | with_reducible apply State.dropSlot_keeps
    | with_reducible apply State.wr_keeps
    | with_reducible apply State.setMode_keeps
    | with_reducible apply State.modPort_keeps
    | with_reducible apply State.loadAbt_keeps
    | with_reducible apply State.setCounters_keeps
    | with_reducible apply State.setEstate_keeps
    | with_reducible apply State.drawOpen_keeps
    | with_reducible refine State.drawOpen_keeps_eq ?_ (by assumption)
    | split
    | with_reducible apply State.keeps_mk
    | (intro _; intros; try dsimp only))

theorem State.syncBack_keeps {a0 s : State} (n : Nat) (hk : a0.keeps s) :
    a0.keeps (State.syncBack s n) := by
  unfold State.syncBack
  try dsimp only
  repeat' (first
    | with_reducible assumption
    | with_reducible apply State.modPort_keeps
    | with_reducible apply State.syncLost_keeps
    | split
    | with_reducible apply State.keeps_mk
    | (intro _; intros; try dsimp only))

theorem State.syncSent_keeps {a0 s : State} (n : Nat) (hk : a0.keeps s) :
    a0.keeps (State.syncSent s n) := by
  unfold State.syncSent
  try dsimp only
  repeat' (first
    | with_reducible assumption
    | with_reducible apply State.bump_keeps
    | with_reducible apply State.tallyCl_keeps
    | with_reducible apply State.modPort_keeps
    | split
    | with_reducible apply State.keeps_mk
    | (intro _; intros; try dsimp only))

theorem State.returnCand_keeps {a0 s : State} (n : Nat) (c : Option Cand) (hk : a0.keeps s) :
    a0.keeps (State.returnCand s n c) := by
  unfold State.returnCand
  try dsimp only
  repeat' (first
    | with_reducible assumption
    | with_reducible apply State.backToPending_keeps
    | with_reducible apply State.syncBack_keeps
    | split
    | with_reducible apply State.keeps_mk
    | (intro _; intros; try dsimp only))

theorem State.dropFrames_keeps {a0 s : State} (n : Nat) (hk : a0.keeps s) :
    a0.keeps (State.dropFrames s n) := by
  unfold State.dropFrames
  try dsimp only
  repeat' (first
    | with_reducible assumption
    | with_reducible apply State.undoClaim_keeps
    | with_reducible apply State.claim_keeps
    | with_reducible refine State.claim_keeps_eq ?_ (by assumption)
    | with_reducible apply State.returnCand_keeps
    | with_reducible apply State.coldCut_keeps
    | with_reducible apply State.modPort_keeps
    | split
    | with_reducible apply State.keeps_mk
    | (intro _; intros; try dsimp only))

theorem State.endMove_keeps {a0 s : State} (n status : Nat) (hk : a0.keeps s) :
    a0.keeps (State.endMove s n status) := by
  unfold State.endMove
  try dsimp only
  repeat' (first
    | with_reducible assumption
    | with_reducible apply State.modPort_keeps
    | with_reducible apply State.wr_keeps
    | with_reducible apply State.cmdEnd_keeps
    | split
    | with_reducible apply State.keeps_mk
    | (intro _; intros; try dsimp only))

theorem State.abortCancel_keeps {a0 s : State} (n : Nat) (hk : a0.keeps s) :
    a0.keeps (State.abortCancel s n) := by
  unfold State.abortCancel
  try dsimp only
  repeat' (first
    | with_reducible assumption
    | with_reducible apply State.modPort_keeps
    | with_reducible apply State.cmdStop_keeps
    | split
    | with_reducible apply State.keeps_mk
    | (intro _; intros; try dsimp only))

theorem State.endPortOp_keeps {a0 s : State} (n status : Nat) (hk : a0.keeps s) :
    a0.keeps (State.endPortOp s n status) := by
  unfold State.endPortOp
  try dsimp only
  repeat' (first
    | with_reducible assumption
    | with_reducible apply State.cmdStop_keeps
    | split
    | with_reducible apply State.keeps_mk
    | (intro _; intros; try dsimp only))

theorem State.stopPort_keeps {a0 s : State} (n m : Nat) (hk : a0.keeps s) :
    a0.keeps (State.stopPort s n m) := by
  unfold State.stopPort
  try dsimp only
  repeat' (first
    | with_reducible assumption
    | with_reducible apply State.dropFrames_keeps
    | with_reducible apply State.wr_keeps
    | with_reducible apply State.modPort_keeps
    | with_reducible apply State.dropSlot_keeps
    | with_reducible apply State.setMode_keeps
    | with_reducible apply State.setCounters_keeps
    | with_reducible apply State.setEstate_keeps
    | split
    | with_reducible apply State.keeps_mk
    | (intro _; intros; try dsimp only))

theorem State.portReset_keeps {a0 s : State} (n : Nat) (hk : a0.keeps s) :
    a0.keeps (State.portReset s n) := by
  unfold State.portReset
  try dsimp only
  repeat' (first
    | with_reducible assumption
    | with_reducible apply State.dropFrames_keeps
    | with_reducible apply State.setCounters_keeps
    | with_reducible apply State.wr_keeps
    | with_reducible apply State.loadAbt_keeps
    | with_reducible apply State.modPort_keeps
    | with_reducible apply State.setEstate_keeps
    | split
    | with_reducible apply State.keeps_mk
    | (intro _; intros; try dsimp only))

theorem State.portRestart_keeps {a0 s : State} (n : Nat) (hk : a0.keeps s) :
    a0.keeps (State.portRestart s n) := by
  unfold State.portRestart
  try dsimp only
  repeat' (first
    | with_reducible assumption
    | with_reducible apply State.enterMode_keeps
    | split
    | with_reducible apply State.keeps_mk
    | (intro _; intros; try dsimp only))

theorem State.lookAtTime_keeps {a0 s : State} (hk : a0.keeps s) :
    a0.keeps (State.lookAtTime s) := by
  unfold State.lookAtTime
  try dsimp only
  repeat' (first
    | with_reducible assumption
    | with_reducible apply State.drawOpen_keeps
    | with_reducible refine State.drawOpen_keeps_eq ?_ (by assumption)
    | split
    | with_reducible apply State.keeps_mk
    | (intro _; intros; try dsimp only))

theorem State.timeIs_keeps {a0 s : State} (e : Nat) (hk : a0.keeps s) :
    a0.keeps (State.timeIs s e) := by
  unfold State.timeIs
  try dsimp only
  repeat' (first
    | with_reducible assumption
    | split
    | with_reducible apply State.keeps_mk
    | (intro _; intros; try dsimp only))

theorem State.setNext_keeps {a0 s : State} (c i : Nat) (t : RTime) (hk : a0.keeps s) :
    a0.keeps (State.setNext s c i t) := by
  unfold State.setNext
  try dsimp only
  repeat' (first
    | with_reducible assumption
    | split
    | with_reducible apply State.keeps_mk
    | (intro _; intros; try dsimp only))

theorem State.disarmEntry_keeps {a0 s : State} (c i : Nat) (hk : a0.keeps s) :
    a0.keeps (State.disarmEntry s c i) := by
  unfold State.disarmEntry
  try dsimp only
  repeat' (first
    | with_reducible assumption
    | split
    | with_reducible apply State.keeps_mk
    | (intro _; intros; try dsimp only))

theorem State.lapse_keeps {a0 s : State} (n : Nat) (hk : a0.keeps s) :
    a0.keeps (State.lapse s n) := by
  unfold State.lapse
  try dsimp only
  repeat' (first
    | with_reducible assumption
    | with_reducible apply State.modPort_keeps
    | with_reducible apply State.returnCand_keeps
    | split
    | with_reducible apply State.keeps_mk
    | (intro _; intros; try dsimp only))

theorem State.windowOpened_keeps {a0 s : State} (n : Nat) (begun : Option Bool) (hk : a0.keeps s) :
    a0.keeps (State.windowOpened s n begun) := by
  unfold State.windowOpened
  try dsimp only
  repeat' (first
    | with_reducible assumption
    | with_reducible apply State.lapse_keeps
    | with_reducible apply State.drawOpen_keeps
    | with_reducible refine State.drawOpen_keeps_eq ?_ (by assumption)
    | split
    | with_reducible apply State.keeps_mk
    | (intro _; intros; try dsimp only))

theorem State.placeSync_keeps {a0 s : State} (n : Nat) (y : SyncSlot) (hk : a0.keeps s) :
    a0.keeps (State.placeSync s n y) := by
  unfold State.placeSync
  try dsimp only
  repeat' (first
    | with_reducible assumption
    | with_reducible apply State.syncLost_keeps
    | with_reducible apply State.modPort_keeps
    | split
    | with_reducible apply State.keeps_mk
    | (intro _; intros; try dsimp only))

theorem State.startRung_keeps {a0 s : State} (n ceil rx : Nat) (joins : Bool) (hk : a0.keeps s) :
    a0.keeps (State.startRung s n ceil rx joins) := by
  unfold State.startRung
  try dsimp only
  repeat' (first
    | with_reducible assumption
    | with_reducible apply State.cmdStart_keeps
    | with_reducible apply State.applyRung_keeps
    | with_reducible apply State.cmdEnd_keeps
    | with_reducible apply State.setRung_keeps
    | split
    | with_reducible apply State.keeps_mk
    | (intro _; intros; try dsimp only))

theorem State.rungAction_keeps {a0 s : State} (c n ceil rx : Nat) (joins : Bool) (hk : a0.keeps s) :
    a0.keeps (State.rungAction s c n ceil rx joins) := by
  unfold State.rungAction
  try dsimp only
  repeat' (first
    | with_reducible assumption
    | with_reducible apply State.modPort_keeps
    | with_reducible apply State.bump_keeps
    | with_reducible apply State.startRung_keeps
    | split
    | with_reducible apply State.keeps_mk
    | (intro _; intros; try dsimp only))

theorem State.heldRungStart_keeps {a0 s : State} (n : Nat) (hk : a0.keeps s) :
    a0.keeps (State.heldRungStart s n) := by
  unfold State.heldRungStart
  try dsimp only
  repeat' (first
    | with_reducible assumption
    | with_reducible apply State.modPort_keeps
    | with_reducible apply State.startRung_keeps
    | split
    | with_reducible apply State.keeps_mk
    | (intro _; intros; try dsimp only))

theorem State.act_keeps {a0 s : State} (c : Nat) (x : EphEntry) (now : RTime) (at_ : Option RTime) (begun : Option (List Nat)) (hk : a0.keeps s) :
    a0.keeps (State.act s c x now at_ begun) := by
  unfold State.act
  try dsimp only
  repeat' (first
    | with_reducible assumption
    | with_reducible apply State.doorbell_keeps
    | with_reducible apply State.each_keeps
    | with_reducible apply State.wr_keeps
    | with_reducible apply State.windowOpened_keeps
    | with_reducible apply State.fresh_keeps
    | with_reducible refine State.fresh_keeps_eq ?_ (by assumption)
    | with_reducible apply State.placeSync_keeps
    | with_reducible apply State.wantSnapshot_keeps
    | with_reducible apply State.event_keeps
    | with_reducible apply State.rungAction_keeps
    | split
    | with_reducible apply State.keeps_mk
    | (intro _; intros; try dsimp only))

theorem State.fire_keeps {a0 s : State} (c i : Nat) (now : RTime) (at_ : Option RTime) (begun : Option (List Nat)) (hk : a0.keeps s) :
    a0.keeps (State.fire s c i now at_ begun) := by
  unfold State.fire
  try dsimp only
  repeat' (first
    | with_reducible assumption
    | with_reducible apply State.bump_keeps
    | with_reducible apply State.tallyCl_keeps
    | with_reducible apply State.wr_keeps
    | with_reducible apply State.wrB_keeps
    | with_reducible apply State.irq_keeps
    | with_reducible apply State.act_keeps
    | split
    | with_reducible apply State.keeps_mk
    | (intro _; intros; try dsimp only))

theorem State.dropEntry_keeps {a0 s : State} (c : Nat) (hk : a0.keeps s) :
    a0.keeps (State.dropEntry s c) := by
  unfold State.dropEntry
  try dsimp only
  repeat' (first
    | with_reducible assumption
    | with_reducible apply State.bump_keeps
    | with_reducible apply State.tallyCl_keeps
    | with_reducible apply State.irq_keeps
    | split
    | with_reducible apply State.keeps_mk
    | (intro _; intros; try dsimp only))

theorem State.skipped_keeps {a0 s : State} (c : Nat) (now : RTime) (e : Nat × RTime) (hk : a0.keeps s) :
    a0.keeps (State.skipped s c now e) := by
  unfold State.skipped
  try dsimp only
  repeat' (first
    | with_reducible assumption
    | with_reducible apply State.setNext_keeps
    | with_reducible apply State.disarmEntry_keeps
    | with_reducible apply State.dropEntry_keeps
    | with_reducible apply State.fire_keeps
    | split
    | with_reducible apply State.keeps_mk
    | (intro _; intros; try dsimp only))

theorem State.skipIn_keeps {a0 s : State} (c : Nat) (now : RTime) (gone : RTime → Bool) (hk : a0.keeps s) :
    a0.keeps (State.skipIn s c now gone) := by
  unfold State.skipIn
  try dsimp only
  repeat' (first
    | with_reducible assumption
    | with_reducible apply State.each_keeps
    | with_reducible apply State.skipped_keeps
    | split
    | with_reducible apply State.keeps_mk
    | (intro _; intros; try dsimp only))

theorem State.pass_keeps {a0 s : State} (old upto new : RTime) (hk : a0.keeps s) :
    a0.keeps (State.pass s old upto new) := by
  unfold State.pass
  try dsimp only
  repeat' (first
    | with_reducible assumption
    | with_reducible apply State.each_keeps
    | with_reducible apply State.skipIn_keeps
    | split
    | with_reducible apply State.keeps_mk
    | (intro _; intros; try dsimp only))

theorem State.passCut_keeps {a0 s : State} (new : RTime) (hk : a0.keeps s) :
    a0.keeps (State.passCut s new) := by
  unfold State.passCut
  try dsimp only
  repeat' (first
    | with_reducible assumption
    | with_reducible apply State.each_keeps
    | with_reducible apply State.skipped_keeps
    | split
    | with_reducible apply State.keeps_mk
    | (intro _; intros; try dsimp only))

theorem State.rewind_keeps {a0 s : State} (now : RTime) (hk : a0.keeps s) :
    a0.keeps (State.rewind s now) := by
  unfold State.rewind
  try dsimp only
  repeat' (first
    | with_reducible assumption
    | split
    | with_reducible apply State.keeps_mk
    | (intro _; intros; try dsimp only))

theorem State.ephResume_keeps {a0 s : State} (cs : List Nat) (hk : a0.keeps s) :
    a0.keeps (State.ephResume s cs) := by
  unfold State.ephResume
  try dsimp only
  repeat' (first
    | with_reducible assumption
    | with_reducible apply State.lookAtTime_keeps
    | with_reducible apply State.each_keeps
    | with_reducible apply State.skipIn_keeps
    | split
    | with_reducible apply State.keeps_mk
    | (intro _; intros; try dsimp only))

theorem State.badEntry_keeps {a0 s : State} (c i : Nat) (hk : a0.keeps s) :
    a0.keeps (State.badEntry s c i) := by
  unfold State.badEntry
  try dsimp only
  repeat' (first
    | with_reducible assumption
    | with_reducible apply State.disarmEntry_keeps
    | with_reducible apply State.wr_keeps
    | with_reducible apply State.err_keeps
    | with_reducible apply State.irq_keeps
    | split
    | with_reducible apply State.keeps_mk
    | (intro _; intros; try dsimp only))

theorem State.armEntry_keeps {a0 s : State} (c i : Nat) (hk : a0.keeps s) :
    a0.keeps (State.armEntry s c i) := by
  unfold State.armEntry
  try dsimp only
  repeat' (first
    | with_reducible assumption
    | with_reducible apply State.disarmEntry_keeps
    | with_reducible apply State.badEntry_keeps
    | with_reducible apply State.lookAtTime_keeps
    | with_reducible apply State.setNext_keeps
    | with_reducible apply State.skipped_keeps
    | split
    | with_reducible apply State.keeps_mk
    | (intro _; intros; try dsimp only))

theorem State.armCmd_keeps {a0 s : State} (c : Nat) (hk : a0.keeps s) :
    a0.keeps (State.armCmd s c) := by
  unfold State.armCmd
  try dsimp only
  repeat' (first
    | with_reducible assumption
    | with_reducible apply State.each_keeps
    | with_reducible apply State.armEntry_keeps
    | with_reducible apply State.cmdEnd_keeps
    | with_reducible apply State.cmdStop_keeps
    | split
    | with_reducible apply State.keeps_mk
    | (intro _; intros; try dsimp only))

theorem State.disarmCmd_keeps {a0 s : State} (c : Nat) (hk : a0.keeps s) :
    a0.keeps (State.disarmCmd s c) := by
  unfold State.disarmCmd
  try dsimp only
  repeat' (first
    | with_reducible assumption
    | with_reducible apply State.each_keeps
    | with_reducible apply State.disarmEntry_keeps
    | with_reducible apply State.cmdEnd_keeps
    | split
    | with_reducible apply State.keeps_mk
    | (intro _; intros; try dsimp only))

theorem State.entryFire_keeps {a0 s : State} (c i e : Nat) (find : Option Find) (begun : List Nat) (hk : a0.keeps s) :
    a0.keeps (State.entryFire s c i e find begun) := by
  unfold State.entryFire
  try dsimp only
  repeat' (first
    | with_reducible assumption
    | with_reducible apply State.timeIs_keeps
    | with_reducible apply State.corrected_keeps
    | with_reducible apply State.disarmEntry_keeps
    | with_reducible apply State.uncorrectable_keeps
    | with_reducible apply State.setNext_keeps
    | with_reducible apply State.fire_keeps
    | split
    | with_reducible apply State.keeps_mk
    | (intro _; intros; try dsimp only))

theorem State.modRt_keeps {a0 s : State} (f : Raster → Raster) (hk : a0.keeps s) :
    a0.keeps (State.modRt s f) := by
  unfold State.modRt
  try dsimp only
  repeat' (first
    | with_reducible assumption
    | split
    | with_reducible apply State.keeps_mk
    | (intro _; intros; try dsimp only))

theorem State.disc_keeps {a0 s : State} (hk : a0.keeps s) :
    a0.keeps (State.disc s) := by
  unfold State.disc
  try dsimp only
  repeat' (first
    | with_reducible assumption
    | with_reducible apply State.bump_keeps
    | with_reducible apply State.irq_keeps
    | with_reducible apply State.modRt_keeps
    | split
    | with_reducible apply State.keeps_mk
    | (intro _; intros; try dsimp only))

theorem State.setTb_keeps {a0 s : State} (t : Tb) (hk : a0.keeps s) :
    a0.keeps (State.setTb s t) := by
  unfold State.setTb
  try dsimp only
  repeat' (first
    | with_reducible assumption
    | with_reducible apply State.modRt_keeps
    | with_reducible apply State.irq_keeps
    | split
    | with_reducible apply State.keeps_mk
    | (intro _; intros; try dsimp only))

theorem State.slip_keeps {a0 s : State} (hk : a0.keeps s) :
    a0.keeps (State.slip s) := by
  unfold State.slip
  try dsimp only
  repeat' (first
    | with_reducible assumption
    | with_reducible apply State.bump_keeps
    | with_reducible apply State.irq_keeps
    | with_reducible apply State.err_keeps
    | with_reducible apply State.disc_keeps
    | split
    | with_reducible apply State.keeps_mk
    | (intro _; intros; try dsimp only))

theorem State.tbFree_keeps {a0 s : State} (loss : Bool) (hk : a0.keeps s) :
    a0.keeps (State.tbFree s loss) := by
  unfold State.tbFree
  try dsimp only
  repeat' (first
    | with_reducible assumption
    | with_reducible apply State.bump_keeps
    | with_reducible apply State.err_keeps
    | with_reducible apply State.setTb_keeps
    | with_reducible apply State.wr_keeps
    | with_reducible apply State.modRt_keeps
    | with_reducible apply State.cmdEnd_keeps
    | with_reducible apply State.disc_keeps
    | with_reducible apply State.windowsEnd_keeps
    | split
    | with_reducible apply State.keeps_mk
    | (intro _; intros; try dsimp only))

theorem State.setLines_keeps {a0 s : State} (n : Nat) (hk : a0.keeps s) :
    a0.keeps (State.setLines s n) := by
  unfold State.setLines
  try dsimp only
  repeat' (first
    | with_reducible assumption
    | with_reducible apply State.modRt_keeps
    | split
    | with_reducible apply State.keeps_mk
    | (intro _; intros; try dsimp only))

theorem State.frameBegins_keeps {a0 s : State} (step : Bool) (hk : a0.keeps s) :
    a0.keeps (State.frameBegins s step) := by
  unfold State.frameBegins
  try dsimp only
  repeat' (first
    | with_reducible assumption
    | with_reducible apply State.setLines_keeps
    | with_reducible apply State.modRt_keeps
    | with_reducible apply State.cmdEnd_keeps
    | with_reducible apply State.disc_keeps
    | with_reducible apply State.windowsEnd_keeps
    | split
    | with_reducible apply State.keeps_mk
    | (intro _; intros; try dsimp only))

theorem State.markFrame_keeps {a0 s : State} (hk : a0.keeps s) :
    a0.keeps (State.markFrame s) := by
  unfold State.markFrame
  try dsimp only
  repeat' (first
    | with_reducible assumption
    | with_reducible apply State.modRt_keeps
    | with_reducible apply State.tbFree_keeps
    | with_reducible apply State.setTb_keeps
    | split
    | with_reducible apply State.keeps_mk
    | (intro _; intros; try dsimp only))

theorem State.linePeriod_keeps {a0 s : State} (hk : a0.keeps s) :
    a0.keeps (State.linePeriod s) := by
  unfold State.linePeriod
  try dsimp only
  repeat' (first
    | with_reducible assumption
    | with_reducible apply State.modRt_keeps
    | split
    | with_reducible apply State.keeps_mk
    | (intro _; intros; try dsimp only))

theorem State.lineEnds_keeps {a0 s : State} (len : Nat) (edge : Option Bool) (hk : a0.keeps s) :
    a0.keeps (State.lineEnds s len edge) := by
  unfold State.lineEnds
  extract_lets r p pulse nl track slips old s0 s1 s2 s3 new s4
  have h0 : a0.keeps s0 := by with_reducible exact State.linePeriod_keeps (State.modRt_keeps _ hk)
  have h1 : a0.keeps s1 := by
    unfold s1; split
    · with_reducible exact State.wr_keeps _ _ _ _ h0
    · with_reducible exact State.markFrame_keeps h0
  have h2 : a0.keeps s2 := by with_reducible exact State.frameBegins_keeps _ h1
  have h3 : a0.keeps s3 := by
    unfold s3; split
    · with_reducible exact State.slip_keeps h2
    · exact h2
  have h4 : a0.keeps s4 := by with_reducible exact State.modRt_keeps _ h0
  split
  · split
    · with_reducible exact State.rewind_keeps _ h3
    · split
      · with_reducible exact State.pass_keeps _ _ _ h3
      · split
        · with_reducible exact State.passCut_keeps _ (State.pass_keeps _ _ _ h3)
        · with_reducible exact State.passCut_keeps _ h3
  · split
    · with_reducible exact State.pass_keeps _ _ _ h4
    · exact h4

theorem State.tbSettle_keeps {a0 s : State} (missL : Nat) (hk : a0.keeps s) :
    a0.keeps (State.tbSettle s missL) := by
  unfold State.tbSettle
  try dsimp only
  repeat' (first
    | with_reducible assumption
    | with_reducible apply State.tbFree_keeps
    | with_reducible apply State.wr_keeps
    | with_reducible apply State.setTb_keeps
    | split
    | with_reducible apply State.keeps_mk
    | (intro _; intros; try dsimp only))

theorem State.rateChange_keeps {a0 s : State} (hk : a0.keeps s) :
    a0.keeps (State.rateChange s) := by
  unfold State.rateChange
  try dsimp only
  repeat' (first
    | with_reducible assumption
    | with_reducible apply State.irq_keeps
    | with_reducible apply State.disc_keeps
    | split
    | with_reducible apply State.keeps_mk
    | (intro _; intros; try dsimp only))

theorem State.noteRates_keeps {a0 s : State} (was : State) (hk : a0.keeps s) : a0.keeps (State.noteRates was s) := by
  unfold State.noteRates
  extract_lets s1
  have h1 : a0.keeps s1 := by
    unfold s1; split
    · exact hk
    · with_reducible exact State.rateChange_keeps hk
  split
  · exact h1
  · with_reducible exact State.rateChange_keeps h1

theorem State.rates_keeps {a0 s : State} (prev : Option Nat) (meas per : Nat) (hk : a0.keeps s) :
    a0.keeps (State.rates s prev meas per) := by
  unfold State.rates
  extract_lets s1 c
  refine State.modRt_keeps _ ?_
  unfold s1; split
  · with_reducible exact State.setLines_keeps _ hk
  · exact hk

theorem State.countEdge_keeps {a0 s : State} (per : Nat) (pulse : Bool) (hk : a0.keeps s) :
    a0.keeps (State.countEdge s per pulse) := by
  unfold State.countEdge
  try dsimp only
  repeat' (first
    | with_reducible assumption
    | with_reducible apply State.modRt_keeps
    | with_reducible apply State.wr_keeps
    | split
    | with_reducible apply State.keeps_mk
    | (intro _; intros; try dsimp only))

theorem State.acquired_keeps {a0 s : State} (lines per frame e : Nat) (hk : a0.keeps s) :
    a0.keeps (State.acquired s lines per frame e) := by
  unfold State.acquired
  try dsimp only
  repeat' (first
    | with_reducible assumption
    | with_reducible apply State.setLines_keeps
    | with_reducible apply State.modRt_keeps
    | with_reducible apply State.wr_keeps
    | with_reducible apply State.setTb_keeps
    | with_reducible apply State.frameBegins_keeps
    | with_reducible apply State.disc_keeps
    | with_reducible apply State.rewind_keeps
    | with_reducible apply State.pass_keeps
    | split
    | with_reducible apply State.keeps_mk
    | (intro _; intros; try dsimp only))

theorem State.acquire_keeps {a0 s : State} (per : Option Nat) (pulse : Bool) (frame e : Nat) (hk : a0.keeps s) :
    a0.keeps (State.acquire s per pulse frame e) := by
  unfold State.acquire
  try dsimp only
  repeat' (first
    | with_reducible assumption
    | with_reducible apply State.modRt_keeps
    | with_reducible apply State.acquired_keeps
    | split
    | with_reducible apply State.keeps_mk
    | (intro _; intros; try dsimp only))

theorem State.validEdge_keeps {a0 s : State} (e : Nat) (pulse : Bool) (hk : a0.keeps s) :
    a0.keeps (State.validEdge s e pulse) := by
  unfold State.validEdge
  split
  rename_i q s1 hq
  have h1 := State.divOpen_keeps_eq hk hq
  have h2 : a0.keeps ((s1.modRt fun r => { r with est := true, outEdges := 0, outPeriod := none }).lineEnds e (some pulse)) := by
    with_reducible exact State.lineEnds_keeps _ _ (State.modRt_keeps _ h1)
  with_reducible exact State.tbSettle_keeps _ (State.wr_keeps _ _ _ _ (State.modRt_keeps _ h2))

theorem State.outsideEdge_keeps {a0 s : State} (per : Option Nat) (e : Nat) (pulse : Bool) (hk : a0.keeps s) :
    a0.keeps (State.outsideEdge s per e pulse) := by
  unfold State.outsideEdge
  extract_lets r n slips s1
  have h1 : a0.keeps s1 := by with_reducible exact State.lineEnds_keeps _ _ (State.modRt_keeps _ hk)
  split
  · refine State.tbSettle_keeps _ ?_
    split
    · exact h1
    · with_reducible exact State.slip_keeps h1
  · with_reducible exact State.modRt_keeps _ hk

theorem State.rasterEdge_keeps {a0 s : State} (e : Nat) (pulse : Bool) (hk : a0.keeps s) :
    a0.keeps (State.rasterEdge s e pulse) := by
  unfold State.rasterEdge
  extract_lets r per m s1 s2
  have h1 : a0.keeps s1 := by with_reducible exact State.countEdge_keeps _ _ hk
  have h2 : a0.keeps s2 := by
    unfold s2; split
    · with_reducible exact State.rates_keeps _ _ _ h1
    · exact h1
  split
  · exact hk
  split
  · with_reducible exact State.noteRates_keeps _ (State.acquire_keeps _ _ _ _ h1)
  · refine State.noteRates_keeps _ ?_
    split
    · with_reducible exact State.validEdge_keeps _ _ h2
    · with_reducible exact State.outsideEdge_keeps _ _ _ h2

theorem State.missingEdge_keeps {a0 s : State} (hk : a0.keeps s) : a0.keeps (State.missingEdge s) := by
  unfold State.missingEdge
  extract_lets m
  split
  · exact hk
  · with_reducible exact State.noteRates_keeps _ (State.tbSettle_keeps _ (State.lineEnds_keeps _ _ hk))

theorem State.lineEnd_keeps {a0 s : State} (hk : a0.keeps s) : a0.keeps (State.lineEnd s) := by
  unfold State.lineEnd
  split
  · exact hk
  split
  · with_reducible exact State.missingEdge_keeps hk
  · with_reducible exact State.noteRates_keeps _ (State.lineEnds_keeps _ _ hk)

theorem State.noteMark_keeps {a0 s : State} (err : Int) (far : Bool) (hk : a0.keeps s) :
    a0.keeps (State.noteMark s err far) := by
  unfold State.noteMark
  try dsimp only
  repeat' (first
    | with_reducible assumption
    | with_reducible apply State.wr_keeps
    | with_reducible apply State.wrB_keeps
    | split
    | with_reducible apply State.keeps_mk
    | (intro _; intros; try dsimp only))

theorem State.slewMark_keeps {a0 s : State} (err : Int) (hk : a0.keeps s) :
    a0.keeps (State.slewMark s err) := by
  unfold State.slewMark
  try dsimp only
  repeat' (first
    | with_reducible assumption
    | with_reducible apply State.divOpen_keeps
    | with_reducible refine State.divOpen_keeps_eq ?_ (by assumption)
    | with_reducible apply State.modRt_keeps
    | split
    | with_reducible apply State.keeps_mk
    | (intro _; intros; try dsimp only))

theorem State.stepMark_keeps {a0 s : State} (now m : RTime) (hk : a0.keeps s) :
    a0.keeps (State.stepMark s now m) := by
  unfold State.stepMark
  try dsimp only
  repeat' (first
    | with_reducible assumption
    | with_reducible apply State.modRt_keeps
    | with_reducible apply State.irq_keeps
    | with_reducible apply State.disc_keeps
    | with_reducible apply State.windowsEnd_keeps
    | with_reducible apply State.rewind_keeps
    | with_reducible apply State.pass_keeps
    | split
    | with_reducible apply State.keeps_mk
    | (intro _; intros; try dsimp only))

theorem State.mark_keeps {a0 s : State} (frame line sub e : Nat) (hk : a0.keeps s) :
    a0.keeps (State.mark s frame line sub e) := by
  unfold State.mark
  try dsimp only
  repeat' (first
    | with_reducible assumption
    | with_reducible apply State.noteMark_keeps
    | with_reducible apply State.stepMark_keeps
    | with_reducible apply State.slewMark_keeps
    | with_reducible apply State.modRt_keeps
    | with_reducible apply State.setTb_keeps
    | with_reducible apply State.windowsEnd_keeps
    | split
    | with_reducible apply State.keeps_mk
    | (intro _; intros; try dsimp only))

theorem State.markWrite_keeps {a0 s : State} (pp v e : Nat) (hk : a0.keeps s) :
    a0.keeps (State.markWrite s pp v e) := by
  unfold State.markWrite
  try dsimp only
  repeat' (first
    | with_reducible assumption
    | with_reducible apply State.guarded_keeps
    | with_reducible apply State.mark_keeps
    | split
    | with_reducible apply State.keeps_mk
    | (intro _; intros; try dsimp only))

theorem State.rtCfgWrite_keeps {a0 s : State} (pp v : Nat) (hk : a0.keeps s) :
    a0.keeps (State.rtCfgWrite s pp v) := by
  unfold State.rtCfgWrite
  refine State.guarded_keeps _ _ _ _ (fun t ht => ?_) hk
  extract_lets changes s1
  have h1 : a0.keeps s1 := by
    with_reducible exact State.wr_keeps _ _ _ _ (State.wr_keeps _ _ _ _ (State.wr_keeps _ _ _ _ (State.wr_keeps _ _ _ _
      (State.wr_keeps _ _ _ _ (State.wr_keeps _ _ _ _ ht)))))
  split
  · with_reducible exact State.noteRates_keeps _ (State.tbFree_keeps _ h1)
  · exact h1

theorem State.setFrameCmd_keeps {a0 s : State} (hk : a0.keeps s) :
    a0.keeps (State.setFrameCmd s) := by
  unfold State.setFrameCmd
  try dsimp only
  repeat' (first
    | with_reducible assumption
    | with_reducible apply State.modRt_keeps
    | split
    | with_reducible apply State.keeps_mk
    | (intro _; intros; try dsimp only))

theorem State.wr64_keeps {a0 s : State} (p : Nat) (lo hi : Field) (v : Nat) (hk : a0.keeps s) :
    a0.keeps (State.wr64 s p lo hi v) := by
  unfold State.wr64
  try dsimp only
  repeat' (first
    | with_reducible assumption
    | with_reducible apply State.wr_keeps
    | split
    | with_reducible apply State.keeps_mk
    | (intro _; intros; try dsimp only))

theorem State.scanEnd_keeps {a0 s : State} (u : Nat) (g : Alg) (data : List Byte) (us status : Nat) (hk : a0.keeps s) :
    a0.keeps (State.scanEnd s u g data us status) := by
  unfold State.scanEnd
  try dsimp only
  repeat' (first
    | with_reducible assumption
    | with_reducible apply State.wr_keeps
    | with_reducible apply State.wr64_keeps
    | with_reducible apply State.bump_keeps
    | with_reducible apply State.irq_keeps
    | with_reducible apply State.cmdEnd_keeps
    | split
    | with_reducible apply State.keeps_mk
    | (intro _; intros; try dsimp only))

theorem State.scanStart_keeps {a0 s : State} (u : Nat) (hk : a0.keeps s) :
    a0.keeps (State.scanStart s u) := by
  unfold State.scanStart
  try dsimp only
  repeat' (first
    | with_reducible assumption
    | with_reducible apply State.bump_keeps
    | with_reducible apply State.cmdEnd_keeps
    | with_reducible apply State.emitReads_keeps
    | with_reducible apply State.scanEnd_keeps
    | split
    | with_reducible apply State.keeps_mk
    | (intro _; intros; try dsimp only))

theorem State.scanOver_keeps {a0 s : State} (u : Nat) (data : List Byte) (finds : List (Nat × Find)) (us : Nat) (late : Bool) (hk : a0.keeps s) :
    a0.keeps (State.scanOver s u data finds us late) := by
  unfold State.scanOver
  try dsimp only
  repeat' (first
    | with_reducible assumption
    | with_reducible apply State.uncorrectable_keeps
    | with_reducible apply State.found_keeps
    | with_reducible apply State.err_keeps
    | with_reducible apply State.wr64_keeps
    | with_reducible apply State.scanEnd_keeps
    | split
    | with_reducible apply State.keeps_mk
    | (intro _; intros; try dsimp only))

theorem State.scanFails_keeps {a0 s : State} (u addr : Nat) (hk : a0.keeps s) :
    a0.keeps (State.scanFails s u addr) := by
  unfold State.scanFails
  try dsimp only
  repeat' (first
    | with_reducible assumption
    | split
    | with_reducible apply State.keeps_mk
    | (intro _; intros; try dsimp only))

theorem State.scansLose_keeps {a0 s : State} (n : Nat) (hk : a0.keeps s) :
    a0.keeps (State.scansLose s n) := by
  unfold State.scansLose
  try dsimp only
  repeat' (first
    | with_reducible assumption
    | with_reducible apply State.each_keeps
    | with_reducible apply State.drawOpen_keeps
    | with_reducible refine State.drawOpen_keeps_eq ?_ (by assumption)
    | with_reducible apply State.scanFails_keeps
    | split
    | with_reducible apply State.keeps_mk
    | (intro _; intros; try dsimp only))

theorem State.endScans_keeps {a0 s : State} (status : Nat) (hk : a0.keeps s) :
    a0.keeps (State.endScans s status) := by
  unfold State.endScans
  try dsimp only
  repeat' (first
    | with_reducible assumption
    | with_reducible apply State.each_keeps
    | with_reducible apply State.drawOpen_keeps
    | with_reducible refine State.drawOpen_keeps_eq ?_ (by assumption)
    | with_reducible apply State.wr_keeps
    | with_reducible apply State.wr64_keeps
    | with_reducible apply State.bump_keeps
    | with_reducible apply State.cmdEnd_keeps
    | split
    | with_reducible apply State.keeps_mk
    | (intro _; intros; try dsimp only))

theorem State.abortScans_keeps {a0 s : State} (hk : a0.keeps s) :
    a0.keeps (State.abortScans s) := by
  unfold State.abortScans
  try dsimp only
  repeat' (first
    | with_reducible assumption
    | with_reducible apply State.endScans_keeps
    | split
    | with_reducible apply State.keeps_mk
    | (intro _; intros; try dsimp only))

end Sys2Proof.Machine
end

