-- ==== Sys2Proof/Laws/KeepMode.lean ====
section
/-!
SUPPORT. Every operation of the fault collector, the buses, the modes and the links keeps what `State.keeps` says.
-/
set_option Elab.async false

set_option linter.all false
namespace Sys2Proof.Machine

theorem State.disarmMoon_keeps {a0 s : State} (hk : a0.keeps s) :
    a0.keeps (State.disarmMoon s) := by
  unfold State.disarmMoon
  try dsimp only
  repeat' (first
    | with_reducible assumption
    | with_reducible apply State.wr_keeps
    | split
    | with_reducible apply State.keeps_mk
    | (intro _; intros; try dsimp only))

theorem State.abortMove_keeps {a0 s : State} (hk : a0.keeps s) :
    a0.keeps (State.abortMove s) := by
  unfold State.abortMove
  try dsimp only
  repeat' (first
    | with_reducible assumption
    | with_reducible apply State.wr_keeps
    | with_reducible apply State.each_keeps
    | with_reducible apply State.modPort_keeps
    | with_reducible apply State.cmdStop_keeps
    | with_reducible apply State.disarmMoon_keeps
    | with_reducible apply State.cmdEnd_keeps
    | split
    | with_reducible apply State.keeps_mk
    | (intro _; intros; try dsimp only))

theorem State.changeMode_keeps {a0 s : State} (m : Mode) (hk : a0.keeps s) :
    a0.keeps (State.changeMode s m) := by
  unfold State.changeMode
  try dsimp only
  repeat' (first
    | with_reducible assumption
    | with_reducible apply State.wr_keeps
    | with_reducible apply State.panicPins_keeps
    | with_reducible apply State.each_keeps
    | with_reducible apply State.windowSync_keeps
    | with_reducible apply State.eyeSync_keeps
    | split
    | with_reducible apply State.keeps_mk
    | (intro _; intros; try dsimp only))

theorem State.enterDeviceMode_keeps {a0 s : State} (m : Mode) (hk : a0.keeps s) :
    a0.keeps (State.enterDeviceMode s m) := by
  unfold State.enterDeviceMode
  try dsimp only
  repeat' (first
    | with_reducible assumption
    | with_reducible apply State.wr_keeps
    | with_reducible apply State.changeMode_keeps
    | split
    | with_reducible apply State.keeps_mk
    | (intro _; intros; try dsimp only))

theorem State.moveCheck_keeps {a0 s : State} (hk : a0.keeps s) :
    a0.keeps (State.moveCheck s) := by
  unfold State.moveCheck
  try dsimp only
  repeat' (first
    | with_reducible assumption
    | with_reducible apply State.enterDeviceMode_keeps
    | with_reducible apply State.wr_keeps
    | with_reducible apply State.cmdEnd_keeps
    | with_reducible apply State.ephResume_keeps
    | with_reducible apply State.configure_keeps
    | with_reducible apply State.abortScans_keeps
    | split
    | with_reducible apply State.keeps_mk
    | (intro _; intros; try dsimp only))

theorem State.fenceChan_keeps {a0 s : State} (m : Nat) (hk : a0.keeps s) :
    a0.keeps (State.fenceChan s m) := by
  unfold State.fenceChan
  try dsimp only
  repeat' (first
    | with_reducible assumption
    | with_reducible apply State.each_keeps
    | with_reducible apply State.swapUser_keeps
    | with_reducible apply State.queueRec_keeps
    | with_reducible apply State.dropUser_keeps
    | with_reducible apply State.wr_keeps
    | with_reducible apply State.irq_keeps
    | with_reducible apply State.skipElems_keeps
    | with_reducible apply State.modChan_keeps
    | with_reducible apply State.bump_keeps
    | with_reducible apply State.tryComplete_keeps
    | split
    | with_reducible apply State.keeps_mk
    | (intro _; intros; try dsimp only))

theorem State.endPhyOp_keeps {a0 s : State} (n status : Nat) (hk : a0.keeps s) :
    a0.keeps (State.endPhyOp s n status) := by
  unfold State.endPhyOp
  try dsimp only
  repeat' (first
    | with_reducible assumption
    | with_reducible apply State.eyeAbort_keeps
    | with_reducible apply State.modPort_keeps
    | with_reducible apply State.wr_keeps
    | with_reducible apply State.cmdStop_keeps
    | split
    | with_reducible apply State.keeps_mk
    | (intro _; intros; try dsimp only))

theorem State.fencePort_keeps {a0 s : State} (n : Nat) (hk : a0.keeps s) :
    a0.keeps (State.fencePort s n) := by
  unfold State.fencePort
  try dsimp only
  repeat' (first
    | with_reducible assumption
    | with_reducible apply State.endMove_keeps
    | with_reducible apply State.abortCancel_keeps
    | with_reducible apply State.endPortOp_keeps
    | with_reducible apply State.windowDrop_keeps
    | with_reducible apply State.endPhyOp_keeps
    | with_reducible apply State.modPort_keeps
    | with_reducible apply State.stopPort_keeps
    | split
    | with_reducible apply State.keeps_mk
    | (intro _; intros; try dsimp only))

theorem State.degrade_keeps {a0 s : State} (hk : a0.keeps s) :
    a0.keeps (State.degrade s) := by
  unfold State.degrade
  try dsimp only
  repeat' (first
    | with_reducible assumption
    | with_reducible apply State.changeMode_keeps
    | split
    | with_reducible apply State.keeps_mk
    | (intro _; intros; try dsimp only))

theorem State.fenceCluster_keeps {a0 s : State} (c : Nat) (hk : a0.keeps s) :
    a0.keeps (State.fenceCluster s c) := by
  unfold State.fenceCluster
  try dsimp only
  repeat' (first
    | with_reducible assumption
    | with_reducible apply State.each_keeps
    | with_reducible apply State.fencePort_keeps
    | with_reducible apply State.fenceJobs_keeps
    | with_reducible apply State.fenceChan_keeps
    | with_reducible apply State.orBits_keeps
    | with_reducible apply State.irq_keeps
    | with_reducible apply State.panic_keeps
    | with_reducible apply State.degrade_keeps
    | split
    | with_reducible apply State.keeps_mk
    | (intro _; intros; try dsimp only))

theorem State.safePort_keeps {a0 s : State} (n : Nat) (hk : a0.keeps s) :
    a0.keeps (State.safePort s n) := by
  unfold State.safePort
  try dsimp only
  repeat' (first
    | with_reducible assumption
    | with_reducible apply State.endMove_keeps
    | with_reducible apply State.abortCancel_keeps
    | with_reducible apply State.endPortOp_keeps
    | with_reducible apply State.endPhyOp_keeps
    | with_reducible apply State.stopPort_keeps
    | split
    | with_reducible apply State.keeps_mk
    | (intro _; intros; try dsimp only))

theorem State.abortUnfence_keeps {a0 s : State} (hk : a0.keeps s) :
    a0.keeps (State.abortUnfence s) := by
  unfold State.abortUnfence
  try dsimp only
  repeat' (first
    | with_reducible assumption
    | with_reducible apply State.cmdEnd_keeps
    | split
    | with_reducible apply State.keeps_mk
    | (intro _; intros; try dsimp only))

theorem State.endSetFrame_keeps {a0 s : State} (status : Nat) (hk : a0.keeps s) :
    a0.keeps (State.endSetFrame s status) := by
  unfold State.endSetFrame
  try dsimp only
  repeat' (first
    | with_reducible assumption
    | with_reducible apply State.modRt_keeps
    | with_reducible apply State.cmdEnd_keeps
    | split
    | with_reducible apply State.keeps_mk
    | (intro _; intros; try dsimp only))

theorem State.abortReverify_keeps {a0 s : State} (hk : a0.keeps s) :
    a0.keeps (State.abortReverify s) := by
  unfold State.abortReverify
  try dsimp only
  repeat' (first
    | with_reducible assumption
    | with_reducible apply State.cmdStop_keeps
    | split
    | with_reducible apply State.keeps_mk
    | (intro _; intros; try dsimp only))

theorem State.enterSafe_keeps {a0 s : State} (hk : a0.keeps s) :
    a0.keeps (State.enterSafe s) := by
  unfold State.enterSafe
  try dsimp only
  repeat' (first
    | with_reducible assumption
    | with_reducible apply State.abortMove_keeps
    | with_reducible apply State.abortReverify_keeps
    | with_reducible apply State.each_keeps
    | with_reducible apply State.safePort_keeps
    | with_reducible apply State.abortUnfence_keeps
    | with_reducible apply State.endSetFrame_keeps
    | with_reducible apply State.enterDeviceMode_keeps
    | split
    | with_reducible apply State.keeps_mk
    | (intro _; intros; try dsimp only))

theorem State.afterReset_keeps {a0 s : State} (keep : Nat → Bool) (hk : a0.keeps s) : a0.keeps (s.afterReset keep) := by
  obtain ⟨h1, h2, h3⟩ := hk
  refine ⟨h1, h2, fun x => ?_⟩
  obtain ⟨x1, x2, x3, x4⟩ := h3 x
  exact ⟨by rfl, mapRising_filter x2 _, x3, x4⟩

theorem State.resetCores_keeps {a0 s : State} (hk : a0.keeps s) :
    a0.keeps (State.resetCores s) := by
  unfold State.resetCores
  try dsimp only
  repeat' (first
    | with_reducible assumption
    | with_reducible apply State.disarmMoon_keeps
    | with_reducible apply State.wr_keeps
    | with_reducible apply State.modRt_keeps
    | with_reducible apply State.each_keeps
    | with_reducible apply State.modPort_keeps
    | with_reducible apply State.endPhyOp_keeps
    | with_reducible apply State.endScans_keeps
    | with_reducible apply State.cmdStop_keeps
    | split
    | with_reducible apply State.keeps_mk
    | (intro _; intros; try dsimp only))

theorem State.resetBlock_keeps {a0 s : State} (e : FaultEvent) (hk : a0.keeps s) :
    a0.keeps (State.resetBlock s e) := by
  unfold State.resetBlock
  try dsimp only
  repeat' (first
    | with_reducible assumption
    | with_reducible apply State.each_keeps
    | with_reducible apply State.portReset_keeps
    | with_reducible apply State.resetCores_keeps
    | split
    | with_reducible apply State.keeps_mk
    | (intro _; intros; try dsimp only))

theorem State.react_keeps {a0 s : State} (e : FaultEvent) (lvl : Nat) (hk : a0.keeps s) :
    a0.keeps (State.react s e lvl) := by
  unfold State.react
  extract_lets l lv code s1 s2
  have h1 : a0.keeps s1 := by
    unfold s1; split
    · with_reducible exact State.event_keeps _ hk
    · exact hk
  have h2 : a0.keeps s2 := by
    unfold s2; split
    · split
      · with_reducible exact State.abortUnfence_keeps h1
      · exact h1
    · exact h1
  split
  · split
    · with_reducible exact State.abortMove_keeps h2
    · exact h2
  · exact h2
  · split
    · with_reducible exact State.enterSafe_keeps h2
    · split
      · split
        · split
          · extract_lets s4
            have h4 : a0.keeps s4 := by with_reducible exact State.fenceCluster_keeps _ h2
            split
            · with_reducible exact State.enterSafe_keeps h4
            · with_reducible exact State.moveCheck_keeps h4
          · with_reducible exact State.resetBlock_keeps _ h2
        · exact h2
      · split
        · with_reducible exact State.resetBlock_keeps _ h2
        · exact h2

theorem State.takeEvent_keeps {a0 s : State} (e : FaultEvent) (hk : a0.keeps s) :
    a0.keeps (State.takeEvent s e) := by
  unfold State.takeEvent
  extract_lets l x
  split
  · split
    · with_reducible exact State.tally_keeps _ _ (State.bump_keeps _ _ _ _ hk)
    · exact hk
  · split
    extract_lets s0 s1 s2 s3
    have h0 : a0.keeps s0 := by with_reducible exact State.modLine_keeps _ _ hk
    have h1 : a0.keeps s1 := by
      unfold s1; split
      · with_reducible exact State.keeps_mk h0
      · exact h0
    have h2 : a0.keeps s2 := by
      with_reducible exact State.tally_keeps _ _ (State.bump_keeps _ _ _ _ h1)
    have h3 : a0.keeps s3 := by
      unfold s3; split
      · exact h2
      · with_reducible exact State.irq_keeps _ _ h2
    with_reducible exact State.react_keeps _ _ h3

theorem State.drain_keeps {a0 : State} (n : Nat) : ∀ {s : State}, a0.keeps s → a0.keeps (State.drain n s) := by
  induction n with
  | zero => exact fun h => h
  | succ n ih =>
    intro s h
    unfold State.drain
    split
    · exact h
    · exact ih (State.takeEvent_keeps _ (State.keeps_mk h))

theorem State.done_keeps {a0 s : State} (hk : a0.keeps s) : a0.keeps s.done :=
  State.noteMoment_keeps (State.drain_keeps 1024 hk)

/-- A command that raises nothing leaves nothing to the collector. -/
theorem State.done_of_nil {s : State} (h : s.faults = []) : s.done = s.noteMoment := by
  unfold State.done State.drain
  rw [h]

theorem State.candidateFix_keeps {a0 s : State} (n : Nat) (nextUp : Bool) (hk : a0.keeps s) :
    a0.keeps (State.candidateFix s n nextUp) := by
  unfold State.candidateFix
  try dsimp only
  repeat' (first
    | with_reducible assumption
    | with_reducible apply State.lapse_keeps
    | with_reducible apply State.modPort_keeps
    | with_reducible apply State.modJobPort_keeps
    | split
    | with_reducible apply State.keeps_mk
    | (intro _; intros; try dsimp only))

theorem State.idShare_keeps {a0 s : State} (n id : Nat) (long case2 : Bool) (first second : Nat) (hk : a0.keeps s) :
    a0.keeps (State.idShare s n id long case2 first second) := by
  unfold State.idShare
  try dsimp only
  repeat' (first
    | with_reducible assumption
    | with_reducible apply State.bump_keeps
    | with_reducible apply State.wr_keeps
    | with_reducible apply State.wrB_keeps
    | with_reducible apply State.irq_keeps
    | split
    | with_reducible apply State.keeps_mk
    | (intro _; intros; try dsimp only))

theorem State.arbitrationEnd_keeps {a0 s : State} (n : Nat) (won : Bool) (lostIn : Option (BitVec 6)) (m : Moment) (e : Nat) (hk : a0.keeps s) :
    a0.keeps (State.arbitrationEnd s n won lostIn m e) := by
  unfold State.arbitrationEnd
  try dsimp only
  repeat' (first
    | with_reducible assumption
    | with_reducible apply State.lapse_keeps
    | with_reducible apply State.modPort_keeps
    | with_reducible apply State.bump_keeps
    | with_reducible apply State.tallyPort_keeps
    | with_reducible apply State.idShare_keeps
    | with_reducible apply State.returnCand_keeps
    | with_reducible apply State.wonArb_keeps
    | split
    | with_reducible apply State.keeps_mk
    | (intro _; intros; try dsimp only))

theorem State.busOff_keeps {a0 s : State} (n : Nat) (hk : a0.keeps s) :
    a0.keeps (State.busOff s n) := by
  unfold State.busOff
  try dsimp only
  repeat' (first
    | with_reducible assumption
    | with_reducible apply State.dropFrames_keeps
    | with_reducible apply State.wr_keeps
    | with_reducible apply State.setEstate_keeps
    | with_reducible apply State.bump_keeps
    | with_reducible apply State.tallyPort_keeps
    | with_reducible apply State.irq_keeps
    | with_reducible apply State.err_keeps
    | split
    | with_reducible apply State.keeps_mk
    | (intro _; intros; try dsimp only))

theorem State.evalState_keeps {a0 s : State} (n : Nat) (hk : a0.keeps s) :
    a0.keeps (State.evalState s n) := by
  unfold State.evalState
  try dsimp only
  repeat' (first
    | with_reducible assumption
    | with_reducible apply State.busOff_keeps
    | with_reducible apply State.setEstate_keeps
    | split
    | with_reducible apply State.keeps_mk
    | (intro _; intros; try dsimp only))

theorem State.countError_keeps {a0 s : State} (n : Nat) (tx stay first : Bool) (runs : Nat) (hk : a0.keeps s) :
    a0.keeps (State.countError s n tx stay first runs) := by
  unfold State.countError
  try dsimp only
  repeat' (first
    | with_reducible assumption
    | with_reducible apply State.setCounters_keeps
    | split
    | with_reducible apply State.keeps_mk
    | (intro _; intros; try dsimp only))

theorem State.ackRun_keeps {a0 s : State} (n : Nat) (ack : Bool) (hk : a0.keeps s) :
    a0.keeps (State.ackRun s n ack) := by
  unfold State.ackRun
  try dsimp only
  repeat' (first
    | with_reducible assumption
    | with_reducible apply State.wr_keeps
    | with_reducible apply State.modPort_keeps
    | with_reducible apply State.irq_keeps
    | with_reducible apply State.err_keeps
    | split
    | with_reducible apply State.keeps_mk
    | (intro _; intros; try dsimp only))

theorem State.logError_keeps {a0 s : State} (n : Nat) (e : BusErr) (hk : a0.keeps s) :
    a0.keeps (State.logError s n e) := by
  unfold State.logError
  try dsimp only
  repeat' (first
    | with_reducible assumption
    | with_reducible apply State.bump_keeps
    | with_reducible apply State.irq_keeps
    | with_reducible apply State.wr_keeps
    | with_reducible apply State.tallyPort_keeps
    | split
    | with_reducible apply State.keeps_mk
    | (intro _; intros; try dsimp only))

theorem State.ownFailed_keeps {a0 s : State} (n : Nat) (c : Option Cand) (hk : a0.keeps s) :
    a0.keeps (State.ownFailed s n c) := by
  unfold State.ownFailed
  try dsimp only
  repeat' (first
    | with_reducible assumption
    | with_reducible apply State.failAttempt_keeps
    | with_reducible apply State.syncBack_keeps
    | split
    | with_reducible apply State.keeps_mk
    | (intro _; intros; try dsimp only))

theorem State.frameFailed_keeps {a0 s : State} (n : Nat) (f : BusFrame) (hk : a0.keeps s) :
    a0.keeps (State.frameFailed s n f) := by
  unfold State.frameFailed
  try dsimp only
  repeat' (first
    | with_reducible assumption
    | with_reducible apply State.undoClaim_keeps
    | with_reducible apply State.claim_keeps
    | with_reducible refine State.claim_keeps_eq ?_ (by assumption)
    | with_reducible apply State.ownFailed_keeps
    | split
    | with_reducible apply State.keeps_mk
    | (intro _; intros; try dsimp only))

theorem State.nextEnds_keeps {a0 s : State} (n : Nat) (ownHead : Bool) (hk : a0.keeps s) :
    a0.keeps (State.nextEnds s n ownHead) := by
  unfold State.nextEnds
  try dsimp only
  repeat' (first
    | with_reducible assumption
    | with_reducible apply State.undoClaim_keeps
    | with_reducible apply State.claim_keeps
    | with_reducible refine State.claim_keeps_eq ?_ (by assumption)
    | with_reducible apply State.ownFailed_keeps
    | with_reducible apply State.bump_keeps
    | with_reducible apply State.returnCand_keeps
    | split
    | with_reducible apply State.keeps_mk
    | (intro _; intros; try dsimp only))

theorem State.listenTry_keeps {a0 s : State} (n i : Nat) (hk : a0.keeps s) :
    a0.keeps (State.listenTry s n i) := by
  unfold State.listenTry
  try dsimp only
  repeat' (first
    | with_reducible assumption
    | with_reducible apply State.modPort_keeps
    | with_reducible apply State.wr_keeps
    | split
    | with_reducible apply State.keeps_mk
    | (intro _; intros; try dsimp only))

theorem State.listenGuess_keeps {a0 s : State} (n : Nat) (hk : a0.keeps s) :
    a0.keeps (State.listenGuess s n) := by
  unfold State.listenGuess
  try dsimp only
  repeat' (first
    | with_reducible assumption
    | with_reducible apply State.drawOpen_keeps
    | with_reducible refine State.drawOpen_keeps_eq ?_ (by assumption)
    | with_reducible apply State.listenTry_keeps
    | split
    | with_reducible apply State.keeps_mk
    | (intro _; intros; try dsimp only))

theorem State.listenFail_keeps {a0 s : State} (n : Nat) (hk : a0.keeps s) :
    a0.keeps (State.listenFail s n) := by
  unfold State.listenFail
  try dsimp only
  repeat' (first
    | with_reducible assumption
    | with_reducible apply State.wr_keeps
    | with_reducible apply State.irq_keeps
    | with_reducible apply State.setEstate_keeps
    | split
    | with_reducible apply State.keeps_mk
    | (intro _; intros; try dsimp only))

theorem State.listenRestart_keeps {a0 s : State} (n : Nat) (hk : a0.keeps s) :
    a0.keeps (State.listenRestart s n) := by
  unfold State.listenRestart
  try dsimp only
  repeat' (first
    | with_reducible assumption
    | with_reducible apply State.wr_keeps
    | with_reducible apply State.modPort_keeps
    | with_reducible apply State.listenFail_keeps
    | split
    | with_reducible apply State.keeps_mk
    | (intro _; intros; try dsimp only))

theorem State.framesEnd_keeps {a0 s : State} (n : Nat) (inNextUp ownHead ownArb : Bool) (hk : a0.keeps s) :
    a0.keeps (State.framesEnd s n inNextUp ownHead ownArb) := by
  unfold State.framesEnd
  try dsimp only
  repeat' (first
    | with_reducible assumption
    | with_reducible apply State.frameFailed_keeps
    | with_reducible apply State.nextEnds_keeps
    | with_reducible apply State.modPort_keeps
    | with_reducible apply State.ownFailed_keeps
    | with_reducible apply State.lapse_keeps
    | split
    | with_reducible apply State.keeps_mk
    | (intro _; intros; try dsimp only))

theorem State.frameMissed_keeps {a0 s : State} (n : Nat) (late inNextUp ownHead ownArb : Bool) (hk : a0.keeps s) :
    a0.keeps (State.frameMissed s n late inNextUp ownHead ownArb) := by
  unfold State.frameMissed
  try dsimp only
  repeat' (first
    | with_reducible assumption
    | with_reducible apply State.frameFailed_keeps
    | with_reducible apply State.modPort_keeps
    | with_reducible apply State.nextEnds_keeps
    | with_reducible apply State.ownFailed_keeps
    | with_reducible apply State.lapse_keeps
    | split
    | with_reducible apply State.keeps_mk
    | (intro _; intros; try dsimp only))

theorem State.flagsLate_keeps {a0 s : State} (n : Nat) (e : BusErr) (inNextUp : Bool) (hk : a0.keeps s) :
    a0.keeps (State.flagsLate s n e inNextUp).2 := by
  unfold State.flagsLate
  try dsimp only
  repeat' (first
    | with_reducible assumption
    | with_reducible apply State.drawOpen_keeps
    | with_reducible refine State.drawOpen_keeps_eq ?_ (by assumption)
    | split
    | with_reducible apply State.keeps_mk
    | (intro _; intros; try dsimp only))
theorem State.flagsLate_keeps_eq {a0 s t : State} {v : Bool} {n : Nat} {e : BusErr} {inNextUp : Bool} (hk : a0.keeps s)
    (hv : State.flagsLate s n e inNextUp = (v, t)) : a0.keeps t := by
  have := State.flagsLate_keeps (s := s) n e inNextUp hk
  rw [hv] at this
  exact this

theorem State.busError_keeps {a0 s : State} (n : Nat) (e : BusErr) (inNextUp first : Bool) (runs overloads : Nat) (dominant : Bool) (hk : a0.keeps s) :
    a0.keeps (State.busError s n e inNextUp first runs overloads dominant) := by
  unfold State.busError
  try dsimp only
  repeat' (first
    | with_reducible assumption
    | with_reducible apply State.logError_keeps
    | with_reducible apply State.listenGuess_keeps
    | with_reducible apply State.listenRestart_keeps
    | with_reducible apply State.coldCut_keeps
    | with_reducible apply State.bump_keeps
    | with_reducible apply State.countError_keeps
    | with_reducible apply State.ackRun_keeps
    | with_reducible apply State.framesEnd_keeps
    | with_reducible apply State.flagsLate_keeps
    | with_reducible refine State.flagsLate_keeps_eq ?_ (by assumption)
    | with_reducible apply State.frameMissed_keeps
    | with_reducible apply State.evalState_keeps
    | split
    | with_reducible apply State.keeps_mk
    | (intro _; intros; try dsimp only))

theorem State.listenHead_keeps {a0 s : State} (n pulse : Nat) (hk : a0.keeps s) :
    a0.keeps (State.listenHead s n pulse) := by
  unfold State.listenHead
  try dsimp only
  repeat' (first
    | with_reducible assumption
    | with_reducible apply State.modPort_keeps
    | with_reducible apply State.wr_keeps
    | with_reducible apply State.irq_keeps
    | with_reducible apply State.setEstate_keeps
    | with_reducible apply State.windowSync_keeps
    | with_reducible apply State.listenRestart_keeps
    | with_reducible apply State.listenTry_keeps
    | split
    | with_reducible apply State.keeps_mk
    | (intro _; intros; try dsimp only))

theorem State.receive_keeps {a0 s : State} (n : Nat) (f : BusFrame) (st : Stamp) (hit : List Nat) (hk : a0.keeps s) :
    a0.keeps (State.receive s n f st hit).2 := by
  unfold State.receive
  try dsimp only
  repeat' (first
    | with_reducible assumption
    | with_reducible apply State.claimHead_keeps
    | with_reducible refine State.claimHead_keeps_eq ?_ (by assumption)
    | split
    | with_reducible apply State.keeps_mk
    | (intro _; intros; try dsimp only))
theorem State.receive_keeps_eq {a0 s t : State} {v : BusFrame} {n : Nat} {f : BusFrame} {st : Stamp} {hit : List Nat} (hk : a0.keeps s)
    (hv : State.receive s n f st hit = (v, t)) : a0.keeps t := by
  have := State.receive_keeps (s := s) n f st hit hk
  rw [hv] at this
  exact this

theorem State.headReceived_keeps {a0 s : State} (n : Nat) (h : Head) (nextUp : Bool) (m : Moment) (e pulse : Nat) (hit : List Nat) (hk : a0.keeps s) :
    a0.keeps (State.headReceived s n h nextUp m e pulse hit) := by
  unfold State.headReceived
  try dsimp only
  repeat' (first
    | with_reducible assumption
    | with_reducible apply State.listenHead_keeps
    | with_reducible apply State.modPort_keeps
    | with_reducible apply State.claim_keeps
    | with_reducible refine State.claim_keeps_eq ?_ (by assumption)
    | with_reducible apply State.receive_keeps
    | with_reducible refine State.receive_keeps_eq ?_ (by assumption)
    | with_reducible apply State.lapse_keeps
    | with_reducible apply State.bump_keeps
    | with_reducible apply State.irq_keeps
    | with_reducible apply State.busError_keeps
    | split
    | with_reducible apply State.keeps_mk
    | (intro _; intros; try dsimp only))

theorem State.modCur_keeps {a0 s : State} (n : Nat) (f : BusFrame → BusFrame) (hk : a0.keeps s) :
    a0.keeps (State.modCur s n f) := by
  unfold State.modCur
  try dsimp only
  repeat' (first
    | with_reducible assumption
    | with_reducible apply State.modPort_keeps
    | split
    | with_reducible apply State.keeps_mk
    | (intro _; intros; try dsimp only))

theorem State.occupy_keeps {a0 s : State} (n : Nat) (f : BusFrame) (hk : a0.keeps s) :
    a0.keeps (State.occupy s n f) := by
  unfold State.occupy
  try dsimp only
  repeat' (first
    | with_reducible assumption
    | with_reducible apply State.modPort_keeps
    | split
    | with_reducible apply State.keeps_mk
    | (intro _; intros; try dsimp only))

theorem State.ownTail_keeps {a0 s : State} (n : Nat) (c : Cand) (hk : a0.keeps s) :
    a0.keeps (State.ownTail s n c) := by
  unfold State.ownTail
  try dsimp only
  repeat' (first
    | with_reducible assumption
    | with_reducible apply State.err_keeps
    | split
    | with_reducible apply State.keeps_mk
    | (intro _; intros; try dsimp only))

theorem State.tailEnd_keeps {a0 s : State} (n : Nat) (payload : List Byte) (crc : Nat) (intact : Bool) (c : Option TailCoef) (hk : a0.keeps s) :
    a0.keeps (State.tailEnd s n payload crc intact c) := by
  unfold State.tailEnd
  try dsimp only
  repeat' (first
    | with_reducible assumption
    | with_reducible apply State.countCold_keeps
    | with_reducible apply State.occupy_keeps
    | with_reducible apply State.modCur_keeps
    | with_reducible apply State.ownTail_keeps
    | with_reducible apply State.fillBlock_keeps
    | with_reducible apply State.claim_keeps
    | with_reducible refine State.claim_keeps_eq ?_ (by assumption)
    | with_reducible apply State.contribute_keeps
    | split
    | with_reducible apply State.keeps_mk
    | (intro _; intros; try dsimp only))

theorem State.lossOfLock_keeps {a0 s : State} (n : Nat) (hk : a0.keeps s) :
    a0.keeps (State.lossOfLock s n) := by
  unfold State.lossOfLock
  try dsimp only
  repeat' (first
    | with_reducible assumption
    | with_reducible apply State.countCold_keeps
    | with_reducible apply State.modCur_keeps
    | with_reducible apply State.bump_keeps
    | with_reducible apply State.tallyPort_keeps
    | split
    | with_reducible apply State.keeps_mk
    | (intro _; intros; try dsimp only))

theorem State.frameCommit_keeps {a0 s : State} (n : Nat) (data : List Byte) (hk : a0.keeps s) :
    a0.keeps (State.frameCommit s n data) := by
  unfold State.frameCommit
  try dsimp only
  repeat' (first
    | with_reducible assumption
    | with_reducible apply State.emit_keeps
    | with_reducible apply State.commit_keeps
    | with_reducible apply State.modCur_keeps
    | with_reducible apply State.wr_keeps
    | with_reducible apply State.setCounters_keeps
    | with_reducible apply State.evalState_keeps
    | split
    | with_reducible apply State.keeps_mk
    | (intro _; intros; try dsimp only))

theorem State.ownEnded_keeps {a0 s : State} (n : Nat) (f : BusFrame) (hk : a0.keeps s) :
    a0.keeps (State.ownEnded s n f) := by
  unfold State.ownEnded
  try dsimp only
  repeat' (first
    | with_reducible assumption
    | with_reducible apply State.wr_keeps
    | with_reducible apply State.setCounters_keeps
    | with_reducible apply State.evalState_keeps
    | with_reducible apply State.sentOk_keeps
    | with_reducible apply State.modPort_keeps
    | with_reducible apply State.syncSent_keeps
    | split
    | with_reducible apply State.keeps_mk
    | (intro _; intros; try dsimp only))

theorem State.noteGood_keeps {a0 s : State} (n : Nat) (f : BusFrame) (hk : a0.keeps s) :
    a0.keeps (State.noteGood s n f) := by
  unfold State.noteGood
  try dsimp only
  repeat' (first
    | with_reducible assumption
    | with_reducible apply State.idShare_keeps
    | with_reducible apply State.modPort_keeps
    | split
    | with_reducible apply State.keeps_mk
    | (intro _; intros; try dsimp only))

theorem State.settleDirect_keeps {a0 s : State} (n : Nat) (hk : a0.keeps s) :
    a0.keeps (State.settleDirect s n) := by
  unfold State.settleDirect
  try dsimp only
  repeat' (first
    | with_reducible assumption
    | with_reducible apply State.dropSlot_keeps
    | with_reducible apply State.setMode_keeps
    | with_reducible apply State.setCounters_keeps
    | with_reducible apply State.setEstate_keeps
    | with_reducible apply State.endMove_keeps
    | split
    | with_reducible apply State.keeps_mk
    | (intro _; intros; try dsimp only))

theorem State.frameEnd_keeps {a0 s : State} (n : Nat) (hk : a0.keeps s) :
    a0.keeps (State.frameEnd s n) := by
  unfold State.frameEnd
  try dsimp only
  repeat' (first
    | with_reducible assumption
    | with_reducible apply State.ownEnded_keeps
    | with_reducible apply State.undoClaim_keeps
    | with_reducible apply State.claim_keeps
    | with_reducible refine State.claim_keeps_eq ?_ (by assumption)
    | with_reducible apply State.noteGood_keeps
    | with_reducible apply State.modPort_keeps
    | split
    | with_reducible apply State.keeps_mk
    | (intro _; intros; try dsimp only))

theorem State.integrationDone_keeps {a0 s : State} (n : Nat) (hk : a0.keeps s) :
    a0.keeps (State.integrationDone s n) := by
  unfold State.integrationDone
  try dsimp only
  repeat' (first
    | with_reducible assumption
    | with_reducible apply State.modPort_keeps
    | with_reducible apply State.setEstate_keeps
    | with_reducible apply State.evalState_keeps
    | split
    | with_reducible apply State.keeps_mk
    | (intro _; intros; try dsimp only))

theorem State.recoveryDone_keeps {a0 s : State} (n : Nat) (hk : a0.keeps s) :
    a0.keeps (State.recoveryDone s n) := by
  unfold State.recoveryDone
  try dsimp only
  repeat' (first
    | with_reducible assumption
    | with_reducible apply State.setCounters_keeps
    | with_reducible apply State.setEstate_keeps
    | with_reducible apply State.wr_keeps
    | with_reducible apply State.irq_keeps
    | split
    | with_reducible apply State.keeps_mk
    | (intro _; intros; try dsimp only))

theorem State.noteWake_keeps {a0 s : State} (n : Nat) (w : WakeSeen) (hk : a0.keeps s) :
    a0.keeps (State.noteWake s n w) := by
  unfold State.noteWake
  try dsimp only
  repeat' (first
    | with_reducible assumption
    | with_reducible apply State.wr_keeps
    | with_reducible apply State.wrB_keeps
    | with_reducible apply State.irq_keeps
    | split
    | with_reducible apply State.keeps_mk
    | (intro _; intros; try dsimp only))

theorem State.rejoin_keeps {a0 s : State} (n : Nat) (hk : a0.keeps s) :
    a0.keeps (State.rejoin s n) := by
  unfold State.rejoin
  try dsimp only
  repeat' (first
    | with_reducible assumption
    | with_reducible apply State.modPort_keeps
    | split
    | with_reducible apply State.keeps_mk
    | (intro _; intros; try dsimp only))

theorem State.abortSleep_keeps {a0 s : State} (n : Nat) (hk : a0.keeps s) :
    a0.keeps (State.abortSleep s n) := by
  unfold State.abortSleep
  try dsimp only
  repeat' (first
    | with_reducible assumption
    | with_reducible apply State.rejoin_keeps
    | with_reducible apply State.wr_keeps
    | with_reducible apply State.endMove_keeps
    | split
    | with_reducible apply State.keeps_mk
    | (intro _; intros; try dsimp only))

theorem State.portWake_keeps {a0 s : State} (n : Nat) (w : WakeSeen) (hk : a0.keeps s) :
    a0.keeps (State.portWake s n w) := by
  unfold State.portWake
  try dsimp only
  repeat' (first
    | with_reducible assumption
    | with_reducible apply State.noteWake_keeps
    | with_reducible apply State.enterMode_keeps
    | with_reducible apply State.abortSleep_keeps
    | split
    | with_reducible apply State.keeps_mk
    | (intro _; intros; try dsimp only))

theorem State.beginMove_keeps {a0 s : State} (n : Nat) (mv : PortMove) (hk : a0.keeps s) :
    a0.keeps (State.beginMove s n mv) := by
  unfold State.beginMove
  try dsimp only
  repeat' (first
    | with_reducible assumption
    | with_reducible apply State.modPort_keeps
    | with_reducible apply State.wr_keeps
    | split
    | with_reducible apply State.keeps_mk
    | (intro _; intros; try dsimp only))

theorem State.changed_keeps {a0 s : State} (n status : Nat) (cmd : Bool) (hk : a0.keeps s) :
    a0.keeps (State.changed s n status cmd) := by
  unfold State.changed
  try dsimp only
  repeat' (first
    | with_reducible assumption
    | with_reducible apply State.modPort_keeps
    | with_reducible apply State.wr_keeps
    | with_reducible apply State.cmdEnd_keeps
    | split
    | with_reducible apply State.keeps_mk
    | (intro _; intros; try dsimp only))

theorem State.leaveRest_keeps {a0 s : State} (n t : Nat) (cmd : Bool) (hk : a0.keeps s) :
    a0.keeps (State.leaveRest s n t cmd) := by
  unfold State.leaveRest
  try dsimp only
  repeat' (first
    | with_reducible assumption
    | with_reducible apply State.changed_keeps
    | with_reducible apply State.beginMove_keeps
    | with_reducible apply State.wr_keeps
    | with_reducible apply State.enterMode_keeps
    | split
    | with_reducible apply State.keeps_mk
    | (intro _; intros; try dsimp only))

theorem State.stopped_keeps {a0 s : State} (n t status : Nat) (cmd : Bool) (hk : a0.keeps s) :
    a0.keeps (State.stopped s n t status cmd) := by
  unfold State.stopped
  try dsimp only
  repeat' (first
    | with_reducible assumption
    | with_reducible apply State.lapse_keeps
    | with_reducible apply State.dropFrames_keeps
    | with_reducible apply State.enterMode_keeps
    | with_reducible apply State.leaveRest_keeps
    | with_reducible apply State.changed_keeps
    | split
    | with_reducible apply State.keeps_mk
    | (intro _; intros; try dsimp only))

theorem State.leaveBus_keeps {a0 s : State} (n t : Nat) (cmd : Bool) (hk : a0.keeps s) :
    a0.keeps (State.leaveBus s n t cmd) := by
  unfold State.leaveBus
  try dsimp only
  repeat' (first
    | with_reducible assumption
    | with_reducible apply State.enterMode_keeps
    | with_reducible apply State.changed_keeps
    | with_reducible apply State.beginMove_keeps
    | with_reducible apply State.settleDirect_keeps
    | with_reducible apply State.configure_keeps
    | with_reducible apply State.stopped_keeps
    | split
    | with_reducible apply State.keeps_mk
    | (intro _; intros; try dsimp only))

theorem State.goMode_keeps {a0 s : State} (n t : Nat) (cmd : Bool) (hk : a0.keeps s) :
    a0.keeps (State.goMode s n t cmd) := by
  unfold State.goMode
  try dsimp only
  repeat' (first
    | with_reducible assumption
    | with_reducible apply State.leaveBus_keeps
    | with_reducible apply State.leaveRest_keeps
    | split
    | with_reducible apply State.keeps_mk
    | (intro _; intros; try dsimp only))

theorem State.afterMove_keeps {a0 s : State} (n : Nat) (hk : a0.keeps s) :
    a0.keeps (State.afterMove s n) := by
  unfold State.afterMove
  try dsimp only
  repeat' (first
    | with_reducible assumption
    | with_reducible apply State.modPort_keeps
    | with_reducible apply State.goMode_keeps
    | with_reducible apply State.moveCheck_keeps
    | split
    | with_reducible apply State.keeps_mk
    | (intro _; intros; try dsimp only))

theorem State.busPauses_keeps {a0 s : State} (n : Nat) (hk : a0.keeps s) :
    a0.keeps (State.busPauses s n) := by
  unfold State.busPauses
  try dsimp only
  repeat' (first
    | with_reducible assumption
    | with_reducible apply State.settleDirect_keeps
    | with_reducible apply State.afterMove_keeps
    | split
    | with_reducible apply State.keeps_mk
    | (intro _; intros; try dsimp only))

theorem State.setPmode_keeps {a0 s : State} (n : Nat) (hk : a0.keeps s) :
    a0.keeps (State.setPmode s n) := by
  unfold State.setPmode
  try dsimp only
  repeat' (first
    | with_reducible assumption
    | with_reducible apply State.cmdEnd_keeps
    | with_reducible apply State.goMode_keeps
    | split
    | with_reducible apply State.keeps_mk
    | (intro _; intros; try dsimp only))

theorem State.recover_keeps {a0 s : State} (n : Nat) (hk : a0.keeps s) :
    a0.keeps (State.recover s n) := by
  unfold State.recover
  try dsimp only
  repeat' (first
    | with_reducible assumption
    | with_reducible apply State.wr_keeps
    | with_reducible apply State.setEstate_keeps
    | with_reducible apply State.cmdStop_keeps
    | split
    | with_reducible apply State.keeps_mk
    | (intro _; intros; try dsimp only))

theorem State.drainDone_keeps {a0 s : State} (n : Nat) (hk : a0.keeps s) :
    a0.keeps (State.drainDone s n) := by
  unfold State.drainDone
  try dsimp only
  repeat' (first
    | with_reducible assumption
    | with_reducible apply State.stopped_keeps
    | with_reducible apply State.afterMove_keeps
    | split
    | with_reducible apply State.keeps_mk
    | (intro _; intros; try dsimp only))

theorem State.forceStop_keeps {a0 s : State} (n : Nat) (hk : a0.keeps s) :
    a0.keeps (State.forceStop s n) := by
  unfold State.forceStop
  try dsimp only
  repeat' (first
    | with_reducible assumption
    | with_reducible apply State.err_keeps
    | with_reducible apply State.stopped_keeps
    | with_reducible apply State.afterMove_keeps
    | split
    | with_reducible apply State.keeps_mk
    | (intro _; intros; try dsimp only))

theorem State.enterWaited_keeps {a0 s : State} (n t : Nat) (cmd : Bool) (hk : a0.keeps s) :
    a0.keeps (State.enterWaited s n t cmd) := by
  unfold State.enterWaited
  try dsimp only
  repeat' (first
    | with_reducible assumption
    | with_reducible apply State.changed_keeps
    | with_reducible apply State.enterMode_keeps
    | with_reducible apply State.afterMove_keeps
    | split
    | with_reducible apply State.keeps_mk
    | (intro _; intros; try dsimp only))

theorem State.calibrated_keeps {a0 s : State} (n : Nat) (ok : Bool) (trim : Nat) (hk : a0.keeps s) :
    a0.keeps (State.calibrated s n ok trim) := by
  unfold State.calibrated
  try dsimp only
  repeat' (first
    | with_reducible assumption
    | with_reducible apply State.wr_keeps
    | with_reducible apply State.setTrim_keeps
    | with_reducible apply State.err_keeps
    | with_reducible apply State.enterWaited_keeps
    | with_reducible apply State.changed_keeps
    | with_reducible apply State.afterMove_keeps
    | with_reducible apply State.cmdEnd_keeps
    | with_reducible apply State.cmdStop_keeps
    | split
    | with_reducible apply State.keeps_mk
    | (intro _; intros; try dsimp only))

theorem State.releaseHolds_keeps {a0 s : State} (hk : a0.keeps s) :
    a0.keeps (State.releaseHolds s) := by
  unfold State.releaseHolds
  try dsimp only
  repeat' (first
    | with_reducible assumption
    | with_reducible apply State.each_keeps
    | with_reducible apply State.enterWaited_keeps
    | split
    | with_reducible apply State.keeps_mk
    | (intro _; intros; try dsimp only))

theorem State.devicePort_keeps {a0 s : State} (n t : Nat) (hk : a0.keeps s) :
    a0.keeps (State.devicePort s n t) := by
  unfold State.devicePort
  try dsimp only
  repeat' (first
    | with_reducible assumption
    | with_reducible apply State.modPort_keeps
    | with_reducible apply State.goMode_keeps
    | split
    | with_reducible apply State.keeps_mk
    | (intro _; intros; try dsimp only))

theorem State.beginTransition_keeps {a0 s : State} (mv : Moving) (hk : a0.keeps s) :
    a0.keeps (State.beginTransition s mv) := by
  unfold State.beginTransition
  try dsimp only
  repeat' (first
    | with_reducible assumption
    | with_reducible apply State.wr_keeps
    | split
    | with_reducible apply State.keeps_mk
    | (intro _; intros; try dsimp only))

theorem State.startRun_keeps {a0 s : State} (auto : Bool) (hk : a0.keeps s) :
    a0.keeps (State.startRun s auto) := by
  unfold State.startRun
  try dsimp only
  repeat' (first
    | with_reducible assumption
    | with_reducible apply State.wr_keeps
    | with_reducible apply State.beginTransition_keeps
    | with_reducible apply State.each_keeps
    | with_reducible apply State.devicePort_keeps
    | with_reducible apply State.moveCheck_keeps
    | split
    | with_reducible apply State.keeps_mk
    | (intro _; intros; try dsimp only))

theorem State.allToConfig_keeps {a0 s : State} (hk : a0.keeps s) :
    a0.keeps (State.allToConfig s) := by
  unfold State.allToConfig
  try dsimp only
  repeat' (first
    | with_reducible assumption
    | with_reducible apply State.each_keeps
    | with_reducible apply State.devicePort_keeps
    | split
    | with_reducible apply State.keeps_mk
    | (intro _; intros; try dsimp only))

theorem State.enterTest_keeps {a0 s : State} (hk : a0.keeps s) :
    a0.keeps (State.enterTest s) := by
  unfold State.enterTest
  try dsimp only
  repeat' (first
    | with_reducible assumption
    | with_reducible apply State.each_keeps
    | with_reducible apply State.endMove_keeps
    | with_reducible apply State.abortCancel_keeps
    | with_reducible apply State.stopPort_keeps
    | with_reducible apply State.enterDeviceMode_keeps
    | split
    | with_reducible apply State.keeps_mk
    | (intro _; intros; try dsimp only))

theorem State.startDormant_keeps {a0 s : State} (hk : a0.keeps s) :
    a0.keeps (State.startDormant s) := by
  unfold State.startDormant
  try dsimp only
  repeat' (first
    | with_reducible assumption
    | with_reducible apply State.beginTransition_keeps
    | with_reducible apply State.each_keeps
    | with_reducible apply State.wr_keeps
    | with_reducible apply State.orBits_keeps
    | with_reducible apply State.err_keeps
    | split
    | with_reducible apply State.keeps_mk
    | (intro _; intros; try dsimp only))

theorem State.finishDormant_keeps {a0 s : State} (hk : a0.keeps s) :
    a0.keeps (State.finishDormant s) := by
  unfold State.finishDormant
  try dsimp only
  repeat' (first
    | with_reducible assumption
    | with_reducible apply State.wr_keeps
    | with_reducible apply State.each_keeps
    | with_reducible apply State.modPp_keeps
    | with_reducible apply State.afterReset_keeps
    | with_reducible apply State.enterDeviceMode_keeps
    | split
    | with_reducible apply State.keeps_mk
    | (intro _; intros; try dsimp only))

theorem State.idle_keeps {a0 s : State} (hk : a0.keeps s) :
    a0.keeps (State.idle s) := by
  unfold State.idle
  try dsimp only
  repeat' (first
    | with_reducible assumption
    | with_reducible apply State.byCores_keeps
    | with_reducible apply State.finishDormant_keeps
    | split
    | with_reducible apply State.keeps_mk
    | (intro _; intros; try dsimp only))

theorem State.setModeCmd_keeps {a0 s : State} (hk : a0.keeps s) :
    a0.keeps (State.setModeCmd s) := by
  unfold State.setModeCmd
  try dsimp only
  repeat' (first
    | with_reducible assumption
    | with_reducible apply State.configure_keeps
    | with_reducible apply State.cmdEnd_keeps
    | with_reducible apply State.startRun_keeps
    | with_reducible apply State.enterTest_keeps
    | with_reducible apply State.forget_keeps
    | with_reducible apply State.enterDeviceMode_keeps
    | with_reducible apply State.beginTransition_keeps
    | with_reducible apply State.allToConfig_keeps
    | with_reducible apply State.moveCheck_keeps
    | with_reducible apply State.enterSafe_keeps
    | with_reducible apply State.fault_keeps
    | with_reducible apply State.startDormant_keeps
    | split
    | with_reducible apply State.keeps_mk
    | (intro _; intros; try dsimp only))

theorem State.safeExitDone_keeps {a0 s : State} (hk : a0.keeps s) :
    a0.keeps (State.safeExitDone s) := by
  unfold State.safeExitDone
  try dsimp only
  repeat' (first
    | with_reducible assumption
    | with_reducible apply State.enterDeviceMode_keeps
    | with_reducible apply State.configure_keeps
    | with_reducible apply State.cmdEnd_keeps
    | split
    | with_reducible apply State.keeps_mk
    | (intro _; intros; try dsimp only))

theorem State.recordWake_keeps {a0 s : State} (first : Bool) (port source : Nat) (noPort : Bool) (id : Nat) (hk : a0.keeps s) :
    a0.keeps (State.recordWake s first port source noPort id) := by
  unfold State.recordWake
  try dsimp only
  repeat' (first
    | with_reducible assumption
    | with_reducible apply State.adv_keeps
    | with_reducible apply State.wr_keeps
    | with_reducible apply State.wrB_keeps
    | split
    | with_reducible apply State.keeps_mk
    | (intro _; intros; try dsimp only))

theorem State.driveWake_keeps {a0 s : State} (mask : Nat) (down : Bool) (hk : a0.keeps s) :
    a0.keeps (State.driveWake s mask down) := by
  unfold State.driveWake
  try dsimp only
  repeat' (first
    | with_reducible assumption
    | with_reducible apply State.each_keeps
    | with_reducible apply State.modPp_keeps
    | split
    | with_reducible apply State.keeps_mk
    | (intro _; intros; try dsimp only))

theorem State.moonWake_keeps {a0 s : State} (port source : Nat) (noPort : Bool) (id mask : Nat) (hk : a0.keeps s) :
    a0.keeps (State.moonWake s port source noPort id mask) := by
  unfold State.moonWake
  try dsimp only
  repeat' (first
    | with_reducible assumption
    | with_reducible apply State.wr_keeps
    | with_reducible apply State.disarmMoon_keeps
    | with_reducible apply State.irq_keeps
    | with_reducible apply State.recordWake_keeps
    | with_reducible apply State.driveWake_keeps
    | with_reducible apply State.cmdEnd_keeps
    | split
    | with_reducible apply State.keeps_mk
    | (intro _; intros; try dsimp only))

theorem State.moonSees_keeps {a0 s : State} (n : Nat) (w : WakeSeen) (hk : a0.keeps s) :
    a0.keeps (State.moonSees s n w) := by
  unfold State.moonSees
  try dsimp only
  repeat' (first
    | with_reducible assumption
    | with_reducible apply State.moonWake_keeps
    | split
    | with_reducible apply State.keeps_mk
    | (intro _; intros; try dsimp only))

theorem State.timerWake_keeps {a0 s : State} (hk : a0.keeps s) :
    a0.keeps (State.timerWake s) := by
  unfold State.timerWake
  try dsimp only
  repeat' (first
    | with_reducible assumption
    | with_reducible apply State.moonWake_keeps
    | split
    | with_reducible apply State.keeps_mk
    | (intro _; intros; try dsimp only))

theorem State.wakeLimit_keeps {a0 s : State} (n : Nat) (hk : a0.keeps s) :
    a0.keeps (State.wakeLimit s n) := by
  unfold State.wakeLimit
  try dsimp only
  repeat' (first
    | with_reducible assumption
    | with_reducible apply State.moonWake_keeps
    | with_reducible apply State.modPp_keeps
    | with_reducible apply State.err_keeps
    | split
    | with_reducible apply State.keeps_mk
    | (intro _; intros; try dsimp only))

theorem State.haltOn_keeps {a0 s : State} (m : Nat) (k : ReqKind) (cause addr store : Nat) (write : Bool) (failed : List Burst) (hk : a0.keeps s) :
    a0.keeps (State.haltOn s m k cause addr store write failed) := by
  unfold State.haltOn
  try dsimp only
  repeat' (first
    | with_reducible assumption
    | with_reducible apply State.halt_keeps
    | with_reducible apply State.panic_keeps
    | split
    | with_reducible apply State.keeps_mk
    | (intro _; intros; try dsimp only))

theorem State.sendRead_keeps {a0 s : State} (m : Nat) (g : ChanCfg) (b : Burst) (hk : a0.keeps s) :
    a0.keeps (State.sendRead s m g b) := by
  unfold State.sendRead
  try dsimp only
  repeat' (first
    | with_reducible assumption
    | with_reducible apply State.modChan_keeps
    | with_reducible apply State.each_keeps
    | with_reducible apply State.emit_keeps
    | split
    | with_reducible apply State.keeps_mk
    | (intro _; intros; try dsimp only))

theorem State.sendWrite_keeps {a0 s : State} (m : Nat) (g : ChanCfg) (r : Req) (a n : Nat) (finds : List (Nat × Find)) (hk : a0.keeps s) :
    a0.keeps (State.sendWrite s m g r a n finds) := by
  unfold State.sendWrite
  try dsimp only
  repeat' (first
    | with_reducible assumption
    | with_reducible apply State.found_keeps
    | with_reducible apply State.each_keeps
    | with_reducible apply State.emit_keeps
    | with_reducible apply State.modReq_keeps
    | with_reducible apply State.moved_keeps
    | split
    | with_reducible apply State.keeps_mk
    | (intro _; intros; try dsimp only))

theorem State.startReq_keeps {a0 s : State} (m : Nat) (g : ChanCfg) (r : Req) (hk : a0.keeps s) :
    a0.keeps (State.startReq s m g r) := by
  unfold State.startReq
  try dsimp only
  repeat' (first
    | with_reducible assumption
    | with_reducible apply State.modReq_keeps
    | with_reducible apply State.modChan_keeps
    | with_reducible apply State.wr_keeps
    | split
    | with_reducible apply State.keeps_mk
    | (intro _; intros; try dsimp only))

theorem State.issueBurst_keeps {a0 s : State} (m : Nat) (g : ChanCfg) (r : Req) (finds : List (Nat × Find))
    (hk : a0.keeps s) : a0.keeps (State.issueBurst s m g r finds) := by
  unfold State.issueBurst
  extract_lets x p s1 s2
  split
  extract_lets s3 s4
  have h1 : a0.keeps s1 := State.keeps_mk hk
  have h2 : a0.keeps s2 := by
    unfold s2; split
    · with_reducible exact State.startReq_keeps _ _ _ h1
    · exact h1
  have h3 : a0.keeps s3 := by
    unfold s3; split
    · with_reducible exact State.setPos_keeps _ _ h2
    · exact h2
  have h4 : a0.keeps s4 := by
    with_reducible exact State.modChan_keeps _ _ (State.modReq_keeps _ _ _ h3)
  split
  · with_reducible exact State.sendWrite_keeps _ _ _ _ _ _ h4
  · with_reducible exact State.sendRead_keeps _ _ _ h4

theorem State.burstIssue_keeps {a0 s : State} (m : Nat) (finds : List (Nat × Find)) (hk : a0.keeps s) :
    a0.keeps (State.burstIssue s m finds) := by
  unfold State.burstIssue
  try dsimp only
  repeat' (first
    | with_reducible assumption
    | with_reducible apply State.modChan_keeps
    | with_reducible apply State.sendRead_keeps
    | with_reducible apply State.haltOn_keeps
    | with_reducible apply State.irq_keeps
    | with_reducible apply State.issueBurst_keeps
    | split
    | with_reducible apply State.keeps_mk
    | (intro _; intros; try dsimp only))

theorem State.readOver_keeps {a0 s : State} (m : Nat) (k : ReqKind) (hk : a0.keeps s) :
    a0.keeps (State.readOver s m k) := by
  unfold State.readOver
  try dsimp only
  repeat' (first
    | with_reducible assumption
    | with_reducible apply State.endReq_keeps
    | with_reducible apply State.tryComplete_keeps
    | split
    | with_reducible apply State.keeps_mk
    | (intro _; intros; try dsimp only))

theorem State.burstOver_keeps {a0 s : State} (m num : Nat) (hk : a0.keeps s) :
    a0.keeps (State.burstOver s m num) := by
  unfold State.burstOver
  try dsimp only
  repeat' (first
    | with_reducible assumption
    | with_reducible apply State.modChan_keeps
    | split
    | with_reducible apply State.keeps_mk
    | (intro _; intros; try dsimp only))

theorem State.readDone_keeps {a0 s : State} (m num : Nat) (data : List Byte) (ns : Nat) (hk : a0.keeps s) :
    a0.keeps (State.readDone s m num data ns) := by
  unfold State.readDone
  try dsimp only
  repeat' (first
    | with_reducible assumption
    | with_reducible apply State.burstOver_keeps
    | with_reducible apply State.wr_keeps
    | with_reducible apply State.readOver_keeps
    | with_reducible apply State.writeWords_keeps
    | with_reducible apply State.moved_keeps
    | with_reducible apply State.modReq_keeps
    | split
    | with_reducible apply State.keeps_mk
    | (intro _; intros; try dsimp only))

theorem State.aer_keeps {a0 s : State} (n bit_ : Nat) (hk : a0.keeps s) :
    a0.keeps (State.aer s n bit_) := by
  unfold State.aer
  try dsimp only
  repeat' (first
    | with_reducible assumption
    | with_reducible apply State.modPp_keeps
    | split
    | with_reducible apply State.keeps_mk
    | (intro _; intros; try dsimp only))

theorem State.ppError_keeps {a0 s : State} (n : Nat) (f : Field) (hk : a0.keeps s) :
    a0.keeps (State.ppError s n f) := by
  unfold State.ppError
  try dsimp only
  repeat' (first
    | with_reducible assumption
    | with_reducible apply State.bump_keeps
    | with_reducible apply State.tally_keeps
    | with_reducible apply State.fault_keeps
    | split
    | with_reducible apply State.keeps_mk
    | (intro _; intros; try dsimp only))

theorem State.readError_keeps {a0 s : State} (n cause : Nat) (hk : a0.keeps s) :
    a0.keeps (State.readError s n cause) := by
  unfold State.readError
  try dsimp only
  repeat' (first
    | with_reducible assumption
    | with_reducible apply State.ppError_keeps
    | with_reducible apply State.aer_keeps
    | split
    | with_reducible apply State.keeps_mk
    | (intro _; intros; try dsimp only))

theorem State.readFailed_keeps {a0 s : State} (m num cause : Nat) (hk : a0.keeps s) :
    a0.keeps (State.readFailed s m num cause) := by
  unfold State.readFailed
  try dsimp only
  repeat' (first
    | with_reducible assumption
    | with_reducible apply State.burstOver_keeps
    | with_reducible apply State.readError_keeps
    | with_reducible apply State.modChan_keeps
    | with_reducible apply State.haltOn_keeps
    | with_reducible apply State.readOver_keeps
    | split
    | with_reducible apply State.keeps_mk
    | (intro _; intros; try dsimp only))

theorem State.fetchReserve_keeps {a0 s : State} (m : Nat) (hk : a0.keeps s) :
    a0.keeps (State.fetchReserve s m) := by
  unfold State.fetchReserve
  extract_lets x len
  split
  · split
    · exact hk
    · split
      · exact hk
      · split
        · rename_i heq
          split at heq
          · with_reducible exact State.modJob_keeps _ _ (State.modReq_keeps _ _ _ (State.takeTx_keeps hk heq))
          · cases heq
        · extract_lets s1
          have h1 : a0.keeps s1 := by with_reducible exact State.modJob_keeps _ _ hk
          split
          · exact h1
          · with_reducible exact State.irq_keeps _ _ (State.bump_keeps _ _ _ _ h1)
  · exact hk

theorem State.tailResident_keeps {a0 s : State} (m : Nat) (hk : a0.keeps s) :
    a0.keeps (State.tailResident s m) := by
  unfold State.tailResident
  try dsimp only
  repeat' (first
    | with_reducible assumption
    | with_reducible apply State.endReq_keeps
    | with_reducible apply State.makeEligible_keeps
    | split
    | with_reducible apply State.keeps_mk
    | (intro _; intros; try dsimp only))

theorem State.pushEnd_keeps {a0 s : State} (m uid paddr : Nat) (drop : Bool) (hk : a0.keeps s) :
    a0.keeps (State.pushEnd s m uid paddr drop) := by
  unfold State.pushEnd
  try dsimp only
  repeat' (first
    | with_reducible assumption
    | with_reducible apply State.endReq_keeps
    | with_reducible apply State.queueRec_keeps
    | split
    | with_reducible apply State.keeps_mk
    | (intro _; intros; try dsimp only))

theorem State.pushDone_keeps {a0 s : State} (m : Nat) (hk : a0.keeps s) :
    a0.keeps (State.pushDone s m) := by
  unfold State.pushDone
  try dsimp only
  repeat' (first
    | with_reducible assumption
    | with_reducible apply State.pushEnd_keeps
    | split
    | with_reducible apply State.keeps_mk
    | (intro _; intros; try dsimp only))

theorem State.xferEnd_keeps {a0 s : State} (m st : Nat) (hk : a0.keeps s) :
    a0.keeps (State.xferEnd s m st) := by
  unfold State.xferEnd
  try dsimp only
  repeat' (first
    | with_reducible assumption
    | with_reducible apply State.dropUser_keeps
    | with_reducible apply State.endReq_keeps
    | with_reducible apply State.wr_keeps
    | with_reducible apply State.irq_keeps
    | split
    | with_reducible apply State.keeps_mk
    | (intro _; intros; try dsimp only))

theorem State.xferDone_keeps {a0 s : State} (m : Nat) (hk : a0.keeps s) :
    a0.keeps (State.xferDone s m) := by
  unfold State.xferDone
  try dsimp only
  repeat' (first
    | with_reducible assumption
    | with_reducible apply State.xferEnd_keeps
    | split
    | with_reducible apply State.keeps_mk
    | (intro _; intros; try dsimp only))

theorem State.linkChan_keeps {a0 s : State} (m : Nat) (hk : a0.keeps s) :
    a0.keeps (State.linkChan s m) := by
  unfold State.linkChan
  try dsimp only
  repeat' (first
    | with_reducible assumption
    | with_reducible apply State.modChan_keeps
    | with_reducible apply State.haltOn_keeps
    | with_reducible apply State.each_keeps
    | with_reducible apply State.readOver_keeps
    | with_reducible apply State.skipElems_keeps
    | with_reducible apply State.pushEnd_keeps
    | split
    | with_reducible apply State.keeps_mk
    | (intro _; intros; try dsimp only))

theorem State.linkChans_keeps {a0 s : State} (n : Nat) (hk : a0.keeps s) :
    a0.keeps (State.linkChans s n) := by
  unfold State.linkChans
  try dsimp only
  repeat' (first
    | with_reducible assumption
    | with_reducible apply State.each_keeps
    | with_reducible apply State.linkChan_keeps
    | split
    | with_reducible apply State.keeps_mk
    | (intro _; intros; try dsimp only))

theorem State.chanEnable_keeps {a0 s : State} (m : Nat) (hk : a0.keeps s) :
    a0.keeps (State.chanEnable s m) := by
  unfold State.chanEnable
  try dsimp only
  repeat' (first
    | with_reducible assumption
    | with_reducible apply State.cmdEnd_keeps
    | with_reducible apply State.modChan_keeps
    | with_reducible apply State.setPos_keeps
    | with_reducible apply State.wr_keeps
    | split
    | with_reducible apply State.keeps_mk
    | (intro _; intros; try dsimp only))

theorem State.chanResume_keeps {a0 s : State} (m : Nat) (hk : a0.keeps s) :
    a0.keeps (State.chanResume s m) := by
  unfold State.chanResume
  try dsimp only
  repeat' (first
    | with_reducible assumption
    | with_reducible apply State.modChan_keeps
    | with_reducible apply State.each_keeps
    | with_reducible apply State.modJob_keeps
    | with_reducible apply State.panic_keeps
    | with_reducible apply State.cmdEnd_keeps
    | split
    | with_reducible apply State.keeps_mk
    | (intro _; intros; try dsimp only))

theorem State.chanSetDesc_keeps {a0 s : State} (m : Nat) (hk : a0.keeps s) :
    a0.keeps (State.chanSetDesc s m) := by
  unfold State.chanSetDesc
  try dsimp only
  repeat' (first
    | with_reducible assumption
    | with_reducible apply State.cmdEnd_keeps
    | with_reducible apply State.modChan_keeps
    | with_reducible apply State.setPos_keeps
    | split
    | with_reducible apply State.keeps_mk
    | (intro _; intros; try dsimp only))

theorem State.pushFail_keeps {a0 s : State} (m uid paddr : Nat) (hk : a0.keeps s) :
    a0.keeps (State.pushFail s m uid paddr) := by
  unfold State.pushFail
  try dsimp only
  repeat' (first
    | with_reducible assumption
    | with_reducible apply State.swapUser_keeps
    | with_reducible apply State.endReq_keeps
    | with_reducible apply State.queueRec_keeps
    | split
    | with_reducible apply State.keeps_mk
    | (intro _; intros; try dsimp only))

theorem State.chanAbort_keeps {a0 s : State} (m : Nat) (hk : a0.keeps s) :
    a0.keeps (State.chanAbort s m) := by
  unfold State.chanAbort
  try dsimp only
  repeat' (first
    | with_reducible assumption
    | with_reducible apply State.each_keeps
    | with_reducible apply State.pushFail_keeps
    | with_reducible apply State.xferEnd_keeps
    | with_reducible apply State.modChan_keeps
    | with_reducible apply State.cmdEnd_keeps
    | split
    | with_reducible apply State.keeps_mk
    | (intro _; intros; try dsimp only))

theorem State.chanXfer_keeps {a0 s : State} (m : Nat) (hk : a0.keeps s) :
    a0.keeps (State.chanXfer s m) := by
  unfold State.chanXfer
  try dsimp only
  repeat' (first
    | with_reducible assumption
    | with_reducible apply State.cmdStop_keeps
    | with_reducible apply State.holdRange_keeps
    | with_reducible apply State.raise_keeps
    | with_reducible apply State.wr_keeps
    | with_reducible apply State.cmdEnd_keeps
    | split
    | with_reducible apply State.keeps_mk
    | (intro _; intros; try dsimp only))

theorem State.creditAdd_keeps {a0 s : State} (m v : Nat) (hk : a0.keeps s) :
    a0.keeps (State.creditAdd s m v) := by
  unfold State.creditAdd
  try dsimp only
  repeat' (first
    | with_reducible assumption
    | with_reducible apply State.bump_keeps
    | with_reducible apply State.modChan_keeps
    | split
    | with_reducible apply State.keeps_mk
    | (intro _; intros; try dsimp only))

theorem State.functionReset_keeps {a0 s : State} (n : Nat) (hk : a0.keeps s) :
    a0.keeps (State.functionReset s n) := by
  unfold State.functionReset
  try dsimp only
  repeat' (first
    | with_reducible assumption
    | with_reducible apply State.linkChans_keeps
    | with_reducible apply State.discardRecs_keeps
    | with_reducible apply State.scansLose_keeps
    | with_reducible apply State.modPp_keeps
    | with_reducible apply State.moonWake_keeps
    | split
    | with_reducible apply State.keeps_mk
    | (intro _; intros; try dsimp only))

theorem State.linkOff_keeps {a0 s : State} (n : Nat) (hk : a0.keeps s) :
    a0.keeps (State.linkOff s n) := by
  unfold State.linkOff
  try dsimp only
  repeat' (first
    | with_reducible assumption
    | with_reducible apply State.wr_keeps
    | split
    | with_reducible apply State.keeps_mk
    | (intro _; intros; try dsimp only))

theorem State.linkLost_keeps {a0 s : State} (n : Nat) (hk : a0.keeps s) :
    a0.keeps (State.linkLost s n) := by
  unfold State.linkLost
  try dsimp only
  repeat' (first
    | with_reducible assumption
    | with_reducible apply State.linkOff_keeps
    | with_reducible apply State.functionReset_keeps
    | with_reducible apply State.aer_keeps
    | with_reducible apply State.irq_keeps
    | with_reducible apply State.fault_keeps
    | split
    | with_reducible apply State.keeps_mk
    | (intro _; intros; try dsimp only))

theorem State.flr_keeps {a0 s : State} (n : Nat) (hk : a0.keeps s) :
    a0.keeps (State.flr s n) := by
  unfold State.flr
  try dsimp only
  repeat' (first
    | with_reducible assumption
    | with_reducible apply State.functionReset_keeps
    | with_reducible apply State.irq_keeps
    | with_reducible apply State.fault_keeps
    | split
    | with_reducible apply State.keeps_mk
    | (intro _; intros; try dsimp only))

theorem State.linkReaches_keeps {a0 s : State} (n speed : Nat) (flit : Bool) (width : Nat) (hk : a0.keeps s) :
    a0.keeps (State.linkReaches s n speed flit width) := by
  unfold State.linkReaches
  try dsimp only
  repeat' (first
    | with_reducible assumption
    | with_reducible apply State.wr_keeps
    | with_reducible apply State.wrB_keeps
    | with_reducible apply State.modPp_keeps
    | with_reducible apply State.irq_keeps
    | split
    | with_reducible apply State.keeps_mk
    | (intro _; intros; try dsimp only))

theorem State.l0pWidth_keeps {a0 s : State} (n w : Nat) (hk : a0.keeps s) :
    a0.keeps (State.l0pWidth s n w) := by
  unfold State.l0pWidth
  try dsimp only
  repeat' (first
    | with_reducible assumption
    | with_reducible apply State.wr_keeps
    | split
    | with_reducible apply State.keeps_mk
    | (intro _; intros; try dsimp only))

theorem State.linkPower_keeps {a0 s : State} (n pm : Nat) (hk : a0.keeps s) :
    a0.keeps (State.linkPower s n pm) := by
  unfold State.linkPower
  try dsimp only
  repeat' (first
    | with_reducible assumption
    | with_reducible apply State.wr_keeps
    | split
    | with_reducible apply State.keeps_mk
    | (intro _; intros; try dsimp only))

theorem State.configWrite_keeps {a0 s : State} (n : Nat) (w : CfgWrite) (hk : a0.keeps s) :
    a0.keeps (State.configWrite s n w) := by
  unfold State.configWrite
  try dsimp only
  repeat' (first
    | with_reducible assumption
    | with_reducible apply State.linkChans_keeps
    | with_reducible apply State.modPp_keeps
    | with_reducible apply State.l0pWidth_keeps
    | with_reducible apply State.linkPower_keeps
    | split
    | with_reducible apply State.keeps_mk
    | (intro _; intros; try dsimp only))

theorem State.poisoned_keeps {a0 s : State} (n : Nat) (hk : a0.keeps s) :
    a0.keeps (State.poisoned s n) := by
  unfold State.poisoned
  try dsimp only
  repeat' (first
    | with_reducible assumption
    | with_reducible apply State.ppError_keeps
    | with_reducible apply State.aer_keeps
    | split
    | with_reducible apply State.keeps_mk
    | (intro _; intros; try dsimp only))

theorem State.unsupported_keeps {a0 s : State} (n : Nat) (read : Bool) (addr : Nat) (hk : a0.keeps s) :
    a0.keeps (State.unsupported s n read addr) := by
  unfold State.unsupported
  try dsimp only
  repeat' (first
    | with_reducible assumption
    | with_reducible apply State.ppError_keeps
    | with_reducible apply State.wr_keeps
    | with_reducible apply State.aer_keeps
    | with_reducible apply State.irq_keeps
    | with_reducible apply State.emit_keeps
    | split
    | with_reducible apply State.keeps_mk
    | (intro _; intros; try dsimp only))

end Sys2Proof.Machine
end

