-- ==== Sys2Proof/Laws/KeepChip.lean ====
section
/-!
SUPPORT. Every operation of power, update, settings, security and the register file keeps what `State.keeps` says.
-/
set_option Elab.async false

set_option linter.all false
namespace Sys2Proof.Machine

theorem mramRun_rising (bs : List Nat) (m : SMap Nat) (a : Nat) (h : mapRising m = true) :
    mapRising (bs.foldl (fun p b => (mapSet (mramDefault p.2) p.1 p.2 (b % 256), p.2 + 1)) (m, a)).1 = true := by
  induction bs generalizing m a with
  | nil => exact h
  | cons b t ih => exact ih _ _ (mapRising_mapSet h _ _ _)

theorem State.mramPuts_keeps {a0 s : State} (a : Nat) (bs : List Nat) (hk : a0.keeps s) : a0.keeps (s.mramPuts a bs) :=
  State.keeps_mram hk (fun x => mramRun_rising bs _ _ x) rfl rfl rfl rfl

theorem State.clearHeld_keeps {a0 s : State} (hk : a0.keeps s) : a0.keeps s.clearHeld := by
  unfold State.clearHeld
  have h := State.each_keeps (a := a0) (List.range 48) (fun s j => s.wr updPg UPD_BITMAP_HELD 0 j)
    (fun _ _ h => State.wr_keeps _ _ _ _ h) hk
  unfold State.each at h
  with_reducible exact State.wr_keeps _ _ _ _ h

theorem State.markHeld_keeps {a0 s : State} (i : Nat) (hk : a0.keeps s) :
    a0.keeps (State.markHeld s i) := by
  unfold State.markHeld
  try dsimp only
  repeat' (first
    | with_reducible assumption
    | with_reducible apply State.orBits_keeps
    | with_reducible apply State.adv_keeps
    | split
    | with_reducible apply State.keeps_mk
    | (intro _; intros; try dsimp only))

theorem State.dropPiece_keeps {a0 s : State} (i : Nat) (hk : a0.keeps s) :
    a0.keeps (State.dropPiece s i) := by
  unfold State.dropPiece
  try dsimp only
  repeat' (first
    | with_reducible assumption
    | with_reducible apply State.wr_keeps
    | split
    | with_reducible apply State.keeps_mk
    | (intro _; intros; try dsimp only))

theorem State.settingsShow_keeps {a0 s : State} (hk : a0.keeps s) :
    a0.keeps (State.settingsShow s) := by
  unfold State.settingsShow
  try dsimp only
  repeat' (first
    | with_reducible assumption
    | with_reducible apply State.wr_keeps
    | with_reducible apply State.wrB_keeps
    | with_reducible apply State.err_keeps
    | split
    | with_reducible apply State.keeps_mk
    | (intro _; intros; try dsimp only))

theorem State.eraseSlots_keeps {a0 s : State} (hk : a0.keeps s) : a0.keeps s.eraseSlots := by
  unfold State.eraseSlots
  extract_lets m
  with_reducible exact State.settingsShow_keeps (State.keeps_mk_mram hk fun h => mapRising_filter h _)

theorem State.saveSlot_keeps {a0 s : State} (hk : a0.keeps s) :
    a0.keeps (State.saveSlot s).2 := by
  unfold State.saveSlot
  try dsimp only
  repeat' (first
    | with_reducible assumption
    | with_reducible apply State.drawOpen_keeps
    | with_reducible refine State.drawOpen_keeps_eq ?_ (by assumption)
    | split
    | with_reducible apply State.keeps_mk
    | (intro _; intros; try dsimp only))
theorem State.saveSlot_keeps_eq {a0 s t : State} {v : Nat}  (hk : a0.keeps s)
    (hv : State.saveSlot s = (v, t)) : a0.keeps t := by
  have := State.saveSlot_keeps (s := s)  hk
  rw [hv] at this
  exact this

theorem State.deviceReset_keeps {a0 s : State} (c : RstCause) (hk : a0.keeps s) :
    a0.keeps (State.deviceReset s c) := by
  unfold State.deviceReset
  try dsimp only
  repeat' (first
    | with_reducible assumption
    | with_reducible apply State.disarmMoon_keeps
    | with_reducible apply State.afterReset_keeps
    | with_reducible apply State.wr_keeps
    | with_reducible apply State.adv_keeps
    | split
    | with_reducible apply State.keeps_mk
    | (intro _; intros; try dsimp only))

theorem State.powerOn_keeps {a0 s : State} (hk : a0.keeps s) :
    a0.keeps (State.powerOn s) := by
  unfold State.powerOn
  try dsimp only
  repeat' (first
    | with_reducible assumption
    | with_reducible apply State.afterReset_keeps
    | split
    | with_reducible apply State.keeps_mk
    | (intro _; intros; try dsimp only))

theorem State.powerUp_keeps {a0 s : State} (hk : a0.keeps s) :
    a0.keeps (State.powerUp s) := by
  unfold State.powerUp
  try dsimp only
  repeat' (first
    | with_reducible assumption
    | with_reducible apply State.powerOn_keeps
    | split
    | with_reducible apply State.keeps_mk
    | (intro _; intros; try dsimp only))

theorem State.vddaonDrop_keeps {a0 s : State} (hk : a0.keeps s) :
    a0.keeps (State.vddaonDrop s) := by
  unfold State.vddaonDrop
  try dsimp only
  repeat' (first
    | with_reducible assumption
    | with_reducible apply State.powerOn_keeps
    | split
    | with_reducible apply State.keeps_mk
    | (intro _; intros; try dsimp only))

theorem State.supplyOut_keeps {a0 s : State} (i : Nat) (hk : a0.keeps s) :
    a0.keeps (State.supplyOut s i) := by
  unfold State.supplyOut
  try dsimp only
  repeat' (first
    | with_reducible assumption
    | with_reducible apply State.irq_keeps
    | with_reducible apply State.fault_keeps
    | split
    | with_reducible apply State.keeps_mk
    | (intro _; intros; try dsimp only))

theorem State.supplyDrop_keeps {a0 s : State} (i : Nat) (hk : a0.keeps s) :
    a0.keeps (State.supplyDrop s i) := by
  unfold State.supplyDrop
  try dsimp only
  repeat' (first
    | with_reducible assumption
    | with_reducible apply State.deviceReset_keeps
    | with_reducible apply State.supplyOut_keeps
    | split
    | with_reducible apply State.keeps_mk
    | (intro _; intros; try dsimp only))

theorem State.supplyReturn_keeps {a0 s : State} (i : Nat) (hk : a0.keeps s) :
    a0.keeps (State.supplyReturn s i) := by
  unfold State.supplyReturn
  try dsimp only
  repeat' (first
    | with_reducible assumption
    | with_reducible apply State.irq_keeps
    | split
    | with_reducible apply State.keeps_mk
    | (intro _; intros; try dsimp only))

theorem State.resetPin_keeps {a0 s : State} (hk : a0.keeps s) :
    a0.keeps (State.resetPin s) := by
  unfold State.resetPin
  try dsimp only
  repeat' (first
    | with_reducible assumption
    | with_reducible apply State.deviceReset_keeps
    | split
    | with_reducible apply State.keeps_mk
    | (intro _; intros; try dsimp only))

theorem State.perstLow_keeps {a0 s : State} (n : Nat) (hk : a0.keeps s) :
    a0.keeps (State.perstLow s n) := by
  unfold State.perstLow
  try dsimp only
  repeat' (first
    | with_reducible assumption
    | with_reducible apply State.modPp_keeps
    | with_reducible apply State.deviceReset_keeps
    | with_reducible apply State.linkLost_keeps
    | split
    | with_reducible apply State.keeps_mk
    | (intro _; intros; try dsimp only))

theorem State.perstRise_keeps {a0 s : State} (hk : a0.keeps s) :
    a0.keeps (State.perstRise s) := by
  unfold State.perstRise
  try dsimp only
  repeat' (first
    | with_reducible assumption
    | with_reducible apply State.modPp_keeps
    | with_reducible apply State.recordWake_keeps
    | split
    | with_reducible apply State.keeps_mk
    | (intro _; intros; try dsimp only))

theorem State.newChallenge_keeps {a0 s : State} (hk : a0.keeps s) :
    a0.keeps (State.newChallenge s) := by
  unfold State.newChallenge
  try dsimp only
  repeat' (first
    | with_reducible assumption
    | with_reducible apply State.each_keeps
    | with_reducible apply State.drawRandom_keeps
    | with_reducible refine State.drawRandom_keeps_eq ?_ (by assumption)
    | with_reducible apply State.wr_keeps
    | split
    | with_reducible apply State.keeps_mk
    | (intro _; intros; try dsimp only))

theorem State.loaderStays_keeps {a0 s : State} (cause : Nat) (hk : a0.keeps s) :
    a0.keeps (State.loaderStays s cause) := by
  unfold State.loaderStays
  try dsimp only
  repeat' (first
    | with_reducible assumption
    | with_reducible apply State.wr_keeps
    | split
    | with_reducible apply State.keeps_mk
    | (intro _; intros; try dsimp only))

theorem State.blown_keeps {a0 s : State} (hk : a0.keeps s) :
    a0.keeps { s with fuses := { s.fuses with keyDead := true, idkeyBlown := true, debugOpen := true } } :=
  State.keeps_mk_fuses hk ⟨fun _ => rfl, id, fun _ => rfl, fun _ => rfl, Nat.le_refl _, rfl⟩ fun _ _ => rfl

theorem State.loaderStarts_keeps {a0 s : State} (hk : a0.keeps s) : a0.keeps s.loaderStarts := by
  unfold State.loaderStarts
  extract_lets f s1
  have h1 : a0.keeps s1 := by
    unfold s1; split
    · exact State.blown_keeps hk
    · exact hk
  split
  · with_reducible exact State.enterDeviceMode_keeps _ (State.wr_keeps _ _ _ _ (State.wr_keeps _ _ _ _ h1))
  · split
    · with_reducible exact State.loaderStays_keeps _ h1
    · exact h1

theorem State.latchStraps_keeps {a0 s : State} (straps present ref : Nat) (hk : a0.keeps s) :
    a0.keeps (State.latchStraps s straps present ref) := by
  unfold State.latchStraps
  try dsimp only
  repeat' (first
    | with_reducible assumption
    | with_reducible apply State.wr_keeps
    | with_reducible apply State.modPp_keeps
    | split
    | with_reducible apply State.keeps_mk
    | (intro _; intros; try dsimp only))

theorem State.release_keeps {a0 s : State} (straps present : Nat) (hk : a0.keeps s) :
    a0.keeps (State.release s straps present) := by
  unfold State.release
  try dsimp only
  repeat' (first
    | with_reducible assumption
    | with_reducible apply State.deviceReset_keeps
    | with_reducible apply State.latchStraps_keeps
    | with_reducible apply State.newChallenge_keeps
    | with_reducible apply State.wr_keeps
    | with_reducible apply State.loaderStarts_keeps
    | split
    | with_reducible apply State.keeps_mk
    | (intro _; intros; try dsimp only))

theorem State.bootSettings_keeps {a0 s : State} (hk : a0.keeps s) :
    a0.keeps (State.bootSettings s) := by
  unfold State.bootSettings
  try dsimp only
  repeat' (first
    | with_reducible assumption
    | with_reducible apply State.settingsShow_keeps
    | with_reducible apply State.eraseSlots_keeps
    | with_reducible apply State.wr_keeps
    | with_reducible apply State.err_keeps
    | with_reducible apply State.irq_keeps
    | split
    | with_reducible apply State.keeps_mk
    | (intro _; intros; try dsimp only))

theorem State.carryOver_keeps {a0 s : State} (hk : a0.keeps s) :
    a0.keeps (State.carryOver s) := by
  unfold State.carryOver
  try dsimp only
  repeat' (first
    | with_reducible assumption
    | with_reducible apply State.each_keeps
    | with_reducible apply State.modLine_keeps
    | with_reducible apply State.irq_keeps
    | split
    | with_reducible apply State.keeps_mk
    | (intro _; intros; try dsimp only))

theorem State.runningImage_keeps {a0 s : State} (hk : a0.keeps s) :
    a0.keeps (State.runningImage s) := by
  unfold State.runningImage
  try dsimp only
  repeat' (first
    | with_reducible assumption
    | with_reducible apply State.wr_keeps
    | with_reducible apply State.each_keeps
    | with_reducible apply State.drawCrypto_keeps
    | with_reducible refine State.drawCrypto_keeps_eq ?_ (by assumption)
    | split
    | with_reducible apply State.keeps_mk
    | (intro _; intros; try dsimp only))

theorem State.enterConfigure_keeps {a0 s : State} (hk : a0.keeps s) :
    a0.keeps (State.enterConfigure s) := by
  unfold State.enterConfigure
  try dsimp only
  repeat' (first
    | with_reducible assumption
    | with_reducible apply State.wr_keeps
    | with_reducible apply State.enterDeviceMode_keeps
    | with_reducible apply State.configure_keeps
    | with_reducible apply State.disarmMoon_keeps
    | with_reducible apply State.runningImage_keeps
    | with_reducible apply State.carryOver_keeps
    | with_reducible apply State.irq_keeps
    | with_reducible apply State.err_keeps
    | with_reducible apply State.bootSettings_keeps
    | split
    | with_reducible apply State.keeps_mk
    | (intro _; intros; try dsimp only))

theorem State.codeVerified_keeps {a0 s : State} (sigOk partsOk : Bool) (hk : a0.keeps s) :
    a0.keeps (State.codeVerified s sigOk partsOk) := by
  unfold State.codeVerified
  try dsimp only
  repeat' (first
    | with_reducible assumption
    | with_reducible apply State.enterConfigure_keeps
    | with_reducible apply State.wr_keeps
    | with_reducible apply State.deviceReset_keeps
    | with_reducible apply State.loaderStays_keeps
    | split
    | with_reducible apply State.keeps_mk
    | (intro _; intros; try dsimp only))

theorem State.trialConfirm_keeps {a0 s : State} (hk : a0.keeps s) : a0.keeps s.trialConfirm := by
  unfold State.trialConfirm
  extract_lets s1
  have h1 : a0.keeps s1 := by with_reducible exact State.wr_keeps _ _ _ _ (State.wr_keeps _ _ _ _ hk)
  split
  · exact hk
  · exact State.keeps_mk_fuses h1 ⟨id, id, id, id, Nat.le_max_left _ _, rfl⟩ id

theorem State.confirmTimeout_keeps {a0 s : State} (hk : a0.keeps s) :
    a0.keeps (State.confirmTimeout s) := by
  unfold State.confirmTimeout
  try dsimp only
  repeat' (first
    | with_reducible assumption
    | with_reducible apply State.adv_keeps
    | with_reducible apply State.deviceReset_keeps
    | split
    | with_reducible apply State.keeps_mk
    | (intro _; intros; try dsimp only))

theorem State.mramCopy_keeps {a0 s : State} (src dst n : Nat) (hk : a0.keeps s) :
    a0.keeps (State.mramCopy s src dst n) := by
  unfold State.mramCopy
  try dsimp only
  repeat' (first
    | with_reducible assumption
    | with_reducible apply State.mramPuts_keeps
    | split
    | with_reducible apply State.keeps_mk
    | (intro _; intros; try dsimp only))

theorem State.journalNext_keeps {a0 s : State} (p : Part) (hk : a0.keeps s) :
    a0.keeps (State.journalNext s p) := by
  unfold State.journalNext
  try dsimp only
  repeat' (first
    | with_reducible assumption
    | with_reducible apply State.wr_keeps
    | split
    | with_reducible apply State.keeps_mk
    | (intro _; intros; try dsimp only))

theorem State.icuReset_keeps {a0 s : State} (hk : a0.keeps s) : a0.keeps (State.icuReset s) := by
  unfold State.icuReset
  with_reducible exact State.keeps_mk_regs hk fun h => mapRising_filter h _

theorem State.stagingLost_keeps {a0 s : State} (src n : Nat) (hk : a0.keeps s) :
    a0.keeps (State.stagingLost s src n) := by
  unfold State.stagingLost
  try dsimp only
  repeat' (first
    | with_reducible assumption
    | with_reducible apply State.each_keeps
    | with_reducible apply State.dropPiece_keeps
    | with_reducible apply State.wr_keeps
    | with_reducible apply State.loaderStays_keeps
    | with_reducible apply State.icuReset_keeps
    | with_reducible apply State.enterDeviceMode_keeps
    | split
    | with_reducible apply State.keeps_mk
    | (intro _; intros; try dsimp only))

theorem State.chunkDone_keeps {a0 s : State} (hk : a0.keeps s) :
    a0.keeps (State.chunkDone s) := by
  unfold State.chunkDone
  try dsimp only
  repeat' (first
    | with_reducible assumption
    | with_reducible apply State.stagingLost_keeps
    | with_reducible apply State.mramCopy_keeps
    | with_reducible apply State.adv_keeps
    | with_reducible apply State.wr_keeps
    | with_reducible apply State.deviceReset_keeps
    | with_reducible apply State.journalNext_keeps
    | split
    | with_reducible apply State.keeps_mk
    | (intro _; intros; try dsimp only))

theorem State.coreLocks_keeps {a0 s : State} (hk : a0.keeps s) :
    a0.keeps (State.coreLocks s) := by
  unfold State.coreLocks
  try dsimp only
  repeat' (first
    | with_reducible assumption
    | with_reducible apply State.wr_keeps
    | with_reducible apply State.releaseHolds_keeps
    | split
    | with_reducible apply State.keeps_mk
    | (intro _; intros; try dsimp only))

theorem State.referenceLoss_keeps {a0 s : State} (hk : a0.keeps s) :
    a0.keeps (State.referenceLoss s) := by
  unfold State.referenceLoss
  try dsimp only
  repeat' (first
    | with_reducible assumption
    | with_reducible apply State.wr_keeps
    | with_reducible apply State.fault_keeps
    | with_reducible apply State.linkLost_keeps
    | split
    | with_reducible apply State.keeps_mk
    | (intro _; intros; try dsimp only))

theorem State.holdoverEnds_keeps {a0 s : State} (hk : a0.keeps s) :
    a0.keeps (State.holdoverEnds s) := by
  unfold State.holdoverEnds
  try dsimp only
  repeat' (first
    | with_reducible assumption
    | with_reducible apply State.wr_keeps
    | split
    | with_reducible apply State.keeps_mk
    | (intro _; intros; try dsimp only))

theorem State.referenceReturn_keeps {a0 s : State} (i : Nat) (hk : a0.keeps s) :
    a0.keeps (State.referenceReturn s i) := by
  unfold State.referenceReturn
  try dsimp only
  repeat' (first
    | with_reducible assumption
    | with_reducible apply State.coreLocks_keeps
    | split
    | with_reducible apply State.keeps_mk
    | (intro _; intros; try dsimp only))

theorem State.setRef_keeps {a0 s : State} (hk : a0.keeps s) :
    a0.keeps (State.setRef s) := by
  unfold State.setRef
  try dsimp only
  repeat' (first
    | with_reducible assumption
    | with_reducible apply State.wr_keeps
    | with_reducible apply State.err_keeps
    | with_reducible apply State.cmdStop_keeps
    | split
    | with_reducible apply State.keeps_mk
    | (intro _; intros; try dsimp only))

theorem State.relocked_keeps {a0 s : State} (locked : Bool) (hk : a0.keeps s) :
    a0.keeps (State.relocked s locked) := by
  unfold State.relocked
  try dsimp only
  repeat' (first
    | with_reducible assumption
    | with_reducible apply State.wr_keeps
    | with_reducible apply State.coreLocks_keeps
    | with_reducible apply State.irq_keeps
    | with_reducible apply State.cmdEnd_keeps
    | with_reducible apply State.err_keeps
    | with_reducible apply State.cmdStop_keeps
    | split
    | with_reducible apply State.keeps_mk
    | (intro _; intros; try dsimp only))

theorem State.devReset_keeps {a0 s : State} (hk : a0.keeps s) :
    a0.keeps (State.devReset s) := by
  unfold State.devReset
  try dsimp only
  repeat' (first
    | with_reducible assumption
    | with_reducible apply State.deviceReset_keeps
    | with_reducible apply State.cmdStop_keeps
    | split
    | with_reducible apply State.keeps_mk
    | (intro _; intros; try dsimp only))

theorem State.lockLoss_keeps {a0 s : State} (cluster : Option Nat) (hk : a0.keeps s) :
    a0.keeps (State.lockLoss s cluster) := by
  unfold State.lockLoss
  try dsimp only
  repeat' (first
    | with_reducible assumption
    | with_reducible apply State.wr_keeps
    | with_reducible apply State.fault_keeps
    | split
    | with_reducible apply State.keeps_mk
    | (intro _; intros; try dsimp only))

theorem State.clusterLocks_keeps {a0 s : State} (c : Nat) (hk : a0.keeps s) :
    a0.keeps (State.clusterLocks s c) := by
  unfold State.clusterLocks
  try dsimp only
  repeat' (first
    | with_reducible assumption
    | with_reducible apply State.orBits_keeps
    | split
    | with_reducible apply State.keeps_mk
    | (intro _; intros; try dsimp only))

theorem State.moonRetrim_keeps {a0 s : State} (dev : Nat) (hk : a0.keeps s) :
    a0.keeps (State.moonRetrim s dev) := by
  unfold State.moonRetrim
  try dsimp only
  repeat' (first
    | with_reducible assumption
    | with_reducible apply State.wr_keeps
    | with_reducible apply State.fault_keeps
    | split
    | with_reducible apply State.keeps_mk
    | (intro _; intros; try dsimp only))

theorem State.linkMw_keeps {a0 s : State} (n : Nat) (hk : a0.keeps s) :
    a0.keeps (State.linkMw s n).2 := by
  unfold State.linkMw
  try dsimp only
  repeat' (first
    | with_reducible assumption
    | with_reducible apply State.drawOpen_keeps
    | with_reducible refine State.drawOpen_keeps_eq ?_ (by assumption)
    | split
    | with_reducible apply State.keeps_mk
    | (intro _; intros; try dsimp only))
theorem State.linkMw_keeps_eq {a0 s t : State} {v : Nat} {n : Nat} (hk : a0.keeps s)
    (hv : State.linkMw s n = (v, t)) : a0.keeps t := by
  have := State.linkMw_keeps (s := s) n hk
  rw [hv] at this
  exact this

theorem State.linksMw_keeps {a0 : State} (l : List Nat) : ∀ (w : Nat) {s : State}, a0.keeps s →
    a0.keeps (l.foldl (fun (x : Nat × State) n =>
      let (w, t) := x.2.linkMw n
      (x.1 + w, t)) (w, s)).2 := by
  induction l with
  | nil => exact fun _ _ h => h
  | cons n t ih =>
    intro w s h
    rw [List.foldl_cons]
    exact ih _ (State.linkMw_keeps n h)

theorem State.typicalMw_keeps {a0 s : State} (hk : a0.keeps s) : a0.keeps (State.typicalMw s).2 := by
  unfold State.typicalMw
  split
  · exact hk
  · extract_lets links ports
    have h : a0.keeps links.2 := State.linksMw_keeps [0, 1, 2, 3] 0 hk
    with_reducible exact h

theorem State.typicalMw_keeps_eq {a0 s t : State} {v : Nat} (hk : a0.keeps s) (hv : State.typicalMw s = (v, t)) :
    a0.keeps t := by
  have := State.typicalMw_keeps hk
  rw [hv] at this
  exact this

theorem State.newSample_keeps {a0 s : State} (hk : a0.keeps s) :
    a0.keeps (State.newSample s) := by
  unfold State.newSample
  try dsimp only
  repeat' (first
    | with_reducible assumption
    | with_reducible apply State.each_keeps
    | with_reducible apply State.modPort_keeps
    | split
    | with_reducible apply State.keeps_mk
    | (intro _; intros; try dsimp only))

theorem State.thermal_keeps {a0 s : State} (tj corr : Nat) (hk : a0.keeps s) : a0.keeps (State.thermal s tj corr) := by
  unfold State.thermal
  split
  · exact hk
  split
  rename_i typ sa hty
  extract_lets mw u t hot was
  have hu : a0.keeps u := by with_reducible exact State.newSample_keeps (State.typicalMw_keeps_eq hk hty)
  split
  rename_i q s0 hq
  generalize (mapGet? s0.sinceRead 16).getD (s0.rd crpPg CRP_THERM_TJ_MAX) = top
  extract_lets s1 c0 s2 s3
  have h0 : a0.keeps s0 := State.divOpen_keeps_eq hu hq
  have h1 : a0.keeps s1 := by
    with_reducible exact State.wr_keeps _ _ _ _ (State.wr_keeps _ _ _ _ (State.wr_keeps _ _ _ _ h0))
  have h2 : a0.keeps s2 := by with_reducible exact State.keeps_mk h1
  have h3 : a0.keeps s3 := by
    unfold s3; split
    · with_reducible exact State.fault_keeps _ _ h2
    · exact h2
  split
  · with_reducible exact State.fault_keeps _ _ h3
  · exact h3

theorem State.levelTick_keeps {a0 s : State} (l : Nat) (hk : a0.keeps s) :
    a0.keeps (State.levelTick s l) := by
  unfold State.levelTick
  try dsimp only
  repeat' (first
    | with_reducible assumption
    | with_reducible apply State.fault_keeps
    | split
    | with_reducible apply State.keeps_mk
    | (intro _; intros; try dsimp only))

theorem State.putOptions_keeps {a0 s : State} (l : List (Option Byte)) (a : Nat) (hk : a0.keeps s) :
    a0.keeps (l.foldl (fun (x : State × Nat) b =>
      (match b with | some v => x.1.writeWords x.2 [v] | none => x.1, x.2 + 1)) (s, a)).1 := by
  induction l generalizing s a with
  | nil => exact hk
  | cons b t ih =>
    refine ih _ ?_
    cases b with
    | none => exact hk
    | some v => exact State.writeWords_keeps _ _ hk

theorem State.storePart_keeps {a0 s : State} (pp off : Nat) (bytes : List (Option Byte)) (part : Nat × Nat × Nat)
    (hk : a0.keeps s) : a0.keeps (s.storePart pp off bytes part) := by
  unfold State.storePart
  extract_lets mine lo hi
  split
  · exact hk
  · refine State.guarded_keeps _ _ _ _ (fun t ht => ?_) hk
    exact State.putOptions_keeps _ _ ht

theorem State.storePut_keeps {a0 s : State} (pp off : Nat) (bytes : List (Option Byte)) (hk : a0.keeps s) :
    a0.keeps (State.storePut s pp off bytes) := by
  unfold State.storePut
  try dsimp only
  repeat' (first
    | with_reducible assumption
    | with_reducible apply State.each_keeps
    | with_reducible apply State.storePart_keeps
    | split
    | with_reducible apply State.keeps_mk
    | (intro _; intros; try dsimp only))

theorem State.storeWrite_keeps {a0 s : State} (pp off : Nat) (bytes : List (Option Byte)) (hk : a0.keeps s) :
    a0.keeps (State.storeWrite s pp off bytes) := by
  unfold State.storeWrite
  try dsimp only
  repeat' (first
    | with_reducible assumption
    | with_reducible apply State.storePut_keeps
    | with_reducible apply State.unsupported_keeps
    | split
    | with_reducible apply State.keeps_mk
    | (intro _; intros; try dsimp only))

theorem State.entryWritten_keeps {a0 s : State} (r : Region) (e b : Nat) (whole : Bool) (hk : a0.keeps s) :
    a0.keeps (State.entryWritten s r e b whole) := by
  unfold State.entryWritten
  try dsimp only
  repeat' (first
    | with_reducible assumption
    | with_reducible apply State.armEntry_keeps
    | with_reducible apply State.mputw_keeps
    | with_reducible apply State.modPort_keeps
    | split
    | with_reducible apply State.keeps_mk
    | (intro _; intros; try dsimp only))

theorem State.writeEntry_keeps {a0 s : State} (r : Region) (off : Nat) (words : List Nat) (e b z : Nat) (hk : a0.keeps s) :
    a0.keeps (State.writeEntry s r off words e b z) := by
  unfold State.writeEntry
  try dsimp only
  repeat' (first
    | with_reducible assumption
    | with_reducible apply State.each_keeps
    | with_reducible apply State.writeWords_keeps
    | with_reducible apply State.entryWritten_keeps
    | split
    | with_reducible apply State.keeps_mk
    | (intro _; intros; try dsimp only))

theorem State.tablePut_keeps {a0 s : State} (pp off : Nat) (words : List Nat) (hk : a0.keeps s) :
    a0.keeps (State.tablePut s pp off words) := by
  unfold State.tablePut
  try dsimp only
  repeat' (first
    | with_reducible assumption
    | with_reducible apply State.each_keeps
    | with_reducible apply State.guarded_keeps
    | with_reducible apply State.writeEntry_keeps
    | split
    | with_reducible apply State.keeps_mk
    | (intro _; intros; try dsimp only))

theorem State.tableWrite_keeps {a0 s : State} (pp off : Nat) (words : List Nat) (hk : a0.keeps s) :
    a0.keeps (State.tableWrite s pp off words) := by
  unfold State.tableWrite
  try dsimp only
  repeat' (first
    | with_reducible assumption
    | with_reducible apply State.tablePut_keeps
    | with_reducible apply State.unsupported_keeps
    | split
    | with_reducible apply State.keeps_mk
    | (intro _; intros; try dsimp only))

theorem State.bar2Read_keeps {a0 s : State} (pp off n : Nat) (finds : List (Nat × Find)) (hk : a0.keeps s) :
    a0.keeps (State.bar2Read s pp off n finds) := by
  unfold State.bar2Read
  try dsimp only
  repeat' (first
    | with_reducible assumption
    | with_reducible apply State.unsupported_keeps
    | with_reducible apply State.found_keeps
    | with_reducible apply State.emit_keeps
    | split
    | with_reducible apply State.keeps_mk
    | (intro _; intros; try dsimp only))

theorem State.deviceReadFails_keeps {a0 s : State} (r : DevRead) (cause : Nat) (hk : a0.keeps s) :
    a0.keeps (State.deviceReadFails s r cause) := by
  unfold State.deviceReadFails
  try dsimp only
  repeat' (first
    | with_reducible assumption
    | with_reducible apply State.readFailed_keeps
    | with_reducible apply State.readError_keeps
    | with_reducible apply State.scanFails_keeps
    | with_reducible apply State.cmdStop_keeps
    | split
    | with_reducible apply State.keeps_mk
    | (intro _; intros; try dsimp only))

theorem State.resetOver_keeps {a0 s : State} (w : ResetWhat) (hk : a0.keeps s) :
    a0.keeps (State.resetOver s w) := by
  unfold State.resetOver
  try dsimp only
  repeat' (first
    | with_reducible assumption
    | with_reducible apply State.portRestart_keeps
    | with_reducible apply State.each_keeps
    | split
    | with_reducible apply State.keeps_mk
    | (intro _; intros; try dsimp only))

theorem State.reactFail_keeps {a0 s : State} (w : ResetWhat) (hk : a0.keeps s) :
    a0.keeps (State.reactFail s w) := by
  unfold State.reactFail
  try dsimp only
  repeat' (first
    | with_reducible assumption
    | with_reducible apply State.fault_keeps
    | split
    | with_reducible apply State.keeps_mk
    | (intro _; intros; try dsimp only))

theorem State.watchdog_keeps {a0 s : State} (hk : a0.keeps s) :
    a0.keeps (State.watchdog s) := by
  unfold State.watchdog
  try dsimp only
  repeat' (first
    | with_reducible assumption
    | with_reducible apply State.fault_keeps
    | split
    | with_reducible apply State.keeps_mk
    | (intro _; intros; try dsimp only))

theorem State.checkFails_keeps {a0 s : State} (b : CheckBlock) (hk : a0.keeps s) : a0.keeps (State.checkFails s b) := by
  unfold State.checkFails
  split
  · exact hk
  split
  · with_reducible exact State.fault_keeps _ _ hk
  · with_reducible exact State.fault_keeps _ _ hk
  · with_reducible exact State.fault_keeps _ _ hk
  · extract_lets f1 s1
    have h1 : a0.keeps s1 := State.keeps_mk_fuses hk ⟨id, id, id, id, Nat.le_refl _, rfl⟩ id
    split
    · with_reducible exact State.fault_keeps _ _ h1
    · exact h1
  · with_reducible exact State.fault_keeps _ _ (State.aer_keeps _ _ hk)

theorem State.parityFails_keeps {a0 s : State} (i : Nat) (hk : a0.keeps s) :
    a0.keeps (State.parityFails s i) := by
  unfold State.parityFails
  try dsimp only
  repeat' (first
    | with_reducible assumption
    | with_reducible apply State.wr_keeps
    | with_reducible apply State.err_keeps
    | with_reducible apply State.irq_keeps
    | split
    | with_reducible apply State.keeps_mk
    | (intro _; intros; try dsimp only))

theorem State.parityScan_keeps {a0 s : State} (bad : List Nat) (hk : a0.keeps s) :
    a0.keeps (State.parityScan s bad) := by
  unfold State.parityScan
  try dsimp only
  repeat' (first
    | with_reducible assumption
    | with_reducible apply State.each_keeps
    | with_reducible apply State.bump_keeps
    | with_reducible apply State.tally_keeps
    | with_reducible apply State.parityFails_keeps
    | split
    | with_reducible apply State.keeps_mk
    | (intro _; intros; try dsimp only))

theorem State.stuck_keeps {a0 s : State} (n : Nat) (hk : a0.keeps s) :
    a0.keeps (State.stuck s n) := by
  unfold State.stuck
  try dsimp only
  repeat' (first
    | with_reducible assumption
    | with_reducible apply State.err_keeps
    | split
    | with_reducible apply State.keeps_mk
    | (intro _; intros; try dsimp only))

theorem State.listenLate_keeps {a0 s : State} (n : Nat) (hk : a0.keeps s) :
    a0.keeps (State.listenLate s n) := by
  unfold State.listenLate
  try dsimp only
  repeat' (first
    | with_reducible assumption
    | with_reducible apply State.listenFail_keeps
    | split
    | with_reducible apply State.keeps_mk
    | (intro _; intros; try dsimp only))

theorem State.surgeSeen_keeps {a0 s : State} (n : Nat) (hk : a0.keeps s) :
    a0.keeps (State.surgeSeen s n) := by
  unfold State.surgeSeen
  try dsimp only
  repeat' (first
    | with_reducible assumption
    | with_reducible apply State.bump_keeps
    | with_reducible apply State.err_keeps
    | with_reducible apply State.irq_keeps
    | split
    | with_reducible apply State.keeps_mk
    | (intro _; intros; try dsimp only))

theorem State.cmRangeSeen_keeps {a0 s : State} (n : Nat) (hk : a0.keeps s) :
    a0.keeps (State.cmRangeSeen s n) := by
  unfold State.cmRangeSeen
  try dsimp only
  repeat' (first
    | with_reducible assumption
    | with_reducible apply State.err_keeps
    | split
    | with_reducible apply State.keeps_mk
    | (intro _; intros; try dsimp only))

theorem State.inject_keeps {a0 s : State} (pp v : Nat) (hk : a0.keeps s) :
    a0.keeps (State.inject s pp v) := by
  unfold State.inject
  try dsimp only
  repeat' (first
    | with_reducible assumption
    | with_reducible apply State.guarded_keeps
    | with_reducible apply State.fault_keeps
    | split
    | with_reducible apply State.keeps_mk
    | (intro _; intros; try dsimp only))

theorem State.ackLine_keeps {a0 s : State} (l : Nat) (hk : a0.keeps s) :
    a0.keeps (State.ackLine s l) := by
  unfold State.ackLine
  try dsimp only
  repeat' (first
    | with_reducible assumption
    | with_reducible apply State.modLine_keeps
    | split
    | with_reducible apply State.keeps_mk
    | (intro _; intros; try dsimp only))

theorem State.stickyClear_keeps {a0 s : State} (pp : Nat) (hi : Bool) (v : Nat) (hk : a0.keeps s) :
    a0.keeps (State.stickyClear s pp hi v) := by
  unfold State.stickyClear
  try dsimp only
  repeat' (first
    | with_reducible assumption
    | with_reducible apply State.guarded_keeps
    | with_reducible apply State.each_keeps
    | with_reducible apply State.ackLine_keeps
    | split
    | with_reducible apply State.keeps_mk
    | (intro _; intros; try dsimp only))

theorem State.clearCluster_keeps {a0 s : State} (c : Nat) (hk : a0.keeps s) :
    a0.keeps (State.clearCluster s c) := by
  unfold State.clearCluster
  try dsimp only
  repeat' (first
    | with_reducible assumption
    | with_reducible apply State.each_keeps
    | with_reducible apply State.fifoReset_keeps
    | with_reducible refine State.fifoReset_keeps_eq ?_ (by assumption)
    | with_reducible apply State.wipe_keeps
    | with_reducible apply State.wr_keeps
    | split
    | with_reducible apply State.keeps_mk
    | (intro _; intros; try dsimp only))

theorem State.startUnfence_keeps {a0 s : State} (hk : a0.keeps s) :
    a0.keeps (State.startUnfence s) := by
  unfold State.startUnfence
  try dsimp only
  repeat' (first
    | with_reducible assumption
    | with_reducible apply State.clearCluster_keeps
    | split
    | with_reducible apply State.keeps_mk
    | (intro _; intros; try dsimp only))

theorem State.unfenceOver_keeps {a0 s : State} (locked : Bool) (hk : a0.keeps s) :
    a0.keeps (State.unfenceOver s locked) := by
  unfold State.unfenceOver
  try dsimp only
  repeat' (first
    | with_reducible assumption
    | with_reducible apply State.orBits_keeps
    | with_reducible apply State.wr_keeps
    | with_reducible apply State.changeMode_keeps
    | with_reducible apply State.ephResume_keeps
    | with_reducible apply State.cmdEnd_keeps
    | with_reducible apply State.fault_keeps
    | split
    | with_reducible apply State.keeps_mk
    | (intro _; intros; try dsimp only))

theorem State.lineDefaults_keeps {a0 s : State} (hk : a0.keeps s) : a0.keeps s.lineDefaults := by
  unfold State.lineDefaults
  with_reducible exact State.cmdEnd_keeps _ _ _ (State.keeps_mk_regs hk fun h => mapRising_filter h _)

theorem State.fltCommit_keeps {a0 s : State} (n : Nat) (hk : a0.keeps s) :
    a0.keeps (State.fltCommit s n) := by
  unfold State.fltCommit
  try dsimp only
  repeat' (first
    | with_reducible assumption
    | with_reducible apply State.cmdEnd_keeps
    | with_reducible apply State.wr_keeps
    | split
    | with_reducible apply State.keeps_mk
    | (intro _; intros; try dsimp only))

theorem State.rcClear_keeps {a0 s : State} (p : Nat) (f : Field) (i : Nat) (hk : a0.keeps s) :
    a0.keeps (State.rcClear s p f i) := by
  unfold State.rcClear
  try dsimp only
  repeat' (first
    | with_reducible assumption
    | with_reducible apply State.wr_keeps
    | split
    | with_reducible apply State.keeps_mk
    | (intro _; intros; try dsimp only))

theorem State.clearRc_keeps {a0 s : State} (p o : Nat) (hk : a0.keeps s) :
    a0.keeps (State.clearRc s p o) := by
  unfold State.clearRc
  try dsimp only
  repeat' (first
    | with_reducible assumption
    | with_reducible apply State.each_keeps
    | with_reducible apply State.rcClear_keeps
    | split
    | with_reducible apply State.keeps_mk
    | (intro _; intros; try dsimp only))

theorem State.fenceSync_keeps {a0 s : State} (pp : Nat) (hk : a0.keeps s) :
    a0.keeps (State.fenceSync s pp).2 := by
  unfold State.fenceSync
  try dsimp only
  repeat' (first
    | with_reducible assumption
    | with_reducible apply State.modPp_keeps
    | split
    | with_reducible apply State.keeps_mk
    | (intro _; intros; try dsimp only))
theorem State.fenceSync_keeps_eq {a0 s t : State} {v : Nat} {pp : Nat} (hk : a0.keeps s)
    (hv : State.fenceSync s pp = (v, t)) : a0.keeps t := by
  have := State.fenceSync_keeps (s := s) pp hk
  rw [hv] at this
  exact this

theorem State.syncRead_keeps {a0 s : State} (pp : Nat) (hk : a0.keeps s) :
    a0.keeps (State.syncRead s pp) := by
  unfold State.syncRead
  try dsimp only
  repeat' (first
    | with_reducible assumption
    | with_reducible apply State.fenceSync_keeps
    | with_reducible refine State.fenceSync_keeps_eq ?_ (by assumption)
    | with_reducible apply State.emit_keeps
    | split
    | with_reducible apply State.keeps_mk
    | (intro _; intros; try dsimp only))

theorem State.readTime_keeps {a0 s : State} (a : Nat) (hk : a0.keeps s) :
    a0.keeps (State.readTime s a) := by
  unfold State.readTime
  try dsimp only
  repeat' (first
    | with_reducible assumption
    | with_reducible apply State.lookAtTime_keeps
    | split
    | with_reducible apply State.keeps_mk
    | (intro _; intros; try dsimp only))

theorem State.readWord_keeps {a0 s : State} (pp a : Nat) (hk : a0.keeps s) :
    a0.keeps (State.readWord s pp a).2 := by
  unfold State.readWord
  try dsimp only
  repeat' (first
    | with_reducible assumption
    | with_reducible apply State.fenceSync_keeps
    | with_reducible refine State.fenceSync_keeps_eq ?_ (by assumption)
    | with_reducible apply State.claim_keeps
    | with_reducible refine State.claim_keeps_eq ?_ (by assumption)
    | with_reducible apply State.mailIn_keeps
    | with_reducible refine State.mailIn_keeps_eq ?_ (by assumption)
    | with_reducible apply State.clearRc_keeps
    | split
    | with_reducible apply State.keeps_mk
    | (intro _; intros; try dsimp only))
theorem State.readWord_keeps_eq {a0 s t : State} {v : Nat} {pp a : Nat} (hk : a0.keeps s)
    (hv : State.readWord s pp a = (v, t)) : a0.keeps t := by
  have := State.readWord_keeps (s := s) pp a hk
  rw [hv] at this
  exact this

theorem State.regRead_keeps {a0 s : State} (pp a : Nat) (wide : Bool) (hk : a0.keeps s) :
    a0.keeps (State.regRead s pp a wide) := by
  unfold State.regRead
  try dsimp only
  repeat' (first
    | with_reducible assumption
    | with_reducible apply State.unsupported_keeps
    | with_reducible apply State.readTime_keeps
    | with_reducible apply State.readWord_keeps
    | with_reducible refine State.readWord_keeps_eq ?_ (by assumption)
    | with_reducible apply State.emit_keeps
    | split
    | with_reducible apply State.keeps_mk
    | (intro _; intros; try dsimp only))

theorem State.signature_keeps {a0 s : State} (hk : a0.keeps s) : a0.keeps s.signature.2 := by
  unfold State.signature
  extract_lets uid
  split
  · exact hk
  · split
    rename_i w s0 e0
    have h0 : a0.keeps s0 := State.drawOpen_keeps_eq hk e0
    split
    · exact h0
    · split
      rename_i rs s1 e
      have := State.foldPair_keeps (a0 := a0) (List.range 16) (fun (x : List Nat × State) _ =>
        let (w, s1) := x.2.drawCrypto
        (x.1 ++ [w], s1)) ([] : List Nat) (fun _ _ _ h => State.drawCrypto_keeps h) h0
      rw [e] at this
      exact this
theorem State.signature_keeps_eq {a0 s t : State} {v : List Nat} (hk : a0.keeps s) (e : s.signature = (v, t)) :
    a0.keeps t := by
  have := State.signature_keeps hk
  rw [e] at this
  exact this

theorem State.skipSnapshot_keeps {a0 s : State} (hk : a0.keeps s) :
    a0.keeps (State.skipSnapshot s) := by
  unfold State.skipSnapshot
  try dsimp only
  repeat' (first
    | with_reducible assumption
    | with_reducible apply State.bump_keeps
    | with_reducible apply State.err_keeps
    | split
    | with_reducible apply State.keeps_mk
    | (intro _; intros; try dsimp only))

theorem State.sample_keeps {a0 s : State} (extra : Bool) (volts : List Nat) (hk : a0.keeps s) :
    a0.keeps (State.sample s extra volts) := by
  unfold State.sample
  extract_lets u body
  have hu : a0.keeps u := by
    unfold u; split
    · exact hk
    · with_reducible exact State.lookAtTime_keeps hk
  split
  rename_i sig s1 hs
  have h1 : a0.keeps s1 := State.signature_keeps_eq (State.keeps_mk hu) hs
  with_reducible exact State.keeps_mk h1

theorem State.snapshotDue_keeps {a0 s : State} (volts : List Nat) (hk : a0.keeps s) : a0.keeps (State.snapshotDue s volts) := by
  unfold State.snapshotDue
  extract_lets s1
  have h1 : a0.keeps s1 := by with_reducible exact State.keeps_mk hk
  split
  · exact hk
  split
  · with_reducible exact State.skipSnapshot_keeps h1
  · with_reducible exact State.sample_keeps _ _ h1

theorem State.snapshotWritten_keeps {a0 s : State} (hk : a0.keeps s) :
    a0.keeps (State.snapshotWritten s) := by
  unfold State.snapshotWritten
  try dsimp only
  repeat' (first
    | with_reducible assumption
    | with_reducible apply State.each_keeps
    | with_reducible apply State.emit_keeps
    | with_reducible apply State.wr_keeps
    | with_reducible apply State.irq_keeps
    | split
    | with_reducible apply State.keeps_mk
    | (intro _; intros; try dsimp only))

theorem State.snapNow_keeps {a0 s : State} (hk : a0.keeps s) :
    a0.keeps (State.snapNow s) := by
  unfold State.snapNow
  try dsimp only
  repeat' (first
    | with_reducible assumption
    | with_reducible apply State.wantSnapshot_keeps
    | with_reducible apply State.cmdEnd_keeps
    | split
    | with_reducible apply State.keeps_mk
    | (intro _; intros; try dsimp only))

theorem State.beginStage_keeps {a0 s : State} (hk : a0.keeps s) :
    a0.keeps (State.beginStage s) := by
  unfold State.beginStage
  try dsimp only
  repeat' (first
    | with_reducible assumption
    | with_reducible apply State.cmdStop_keeps
    | with_reducible apply State.cmdEnd_keeps
    | with_reducible apply State.clearHeld_keeps
    | with_reducible apply State.wr_keeps
    | split
    | with_reducible apply State.keeps_mk
    | (intro _; intros; try dsimp only))

theorem State.startPiece_keeps {a0 s : State} (hk : a0.keeps s) :
    a0.keeps (State.startPiece s) := by
  unfold State.startPiece
  try dsimp only
  repeat' (first
    | with_reducible assumption
    | with_reducible apply State.cmdStop_keeps
    | with_reducible apply State.emitReads_keeps
    | split
    | with_reducible apply State.keeps_mk
    | (intro _; intros; try dsimp only))

theorem State.pieceFails_keeps {a0 s : State} (status : Nat) (hk : a0.keeps s) :
    a0.keeps (State.pieceFails s status) := by
  unfold State.pieceFails
  try dsimp only
  repeat' (first
    | with_reducible assumption
    | with_reducible apply State.err_keeps
    | with_reducible apply State.cmdStop_keeps
    | split
    | with_reducible apply State.keeps_mk
    | (intro _; intros; try dsimp only))

theorem State.storePiece_keeps {a0 s : State} (i : Nat) (data : List Nat) (hk : a0.keeps s) :
    a0.keeps (State.storePiece s i data) := by
  unfold State.storePiece
  try dsimp only
  repeat' (first
    | with_reducible assumption
    | with_reducible apply State.mramPuts_keeps
    | with_reducible apply State.markHeld_keeps
    | with_reducible apply State.wr_keeps
    | with_reducible apply State.irq_keeps
    | split
    | with_reducible apply State.keeps_mk
    | (intro _; intros; try dsimp only))

theorem State.pieceDone_keeps {a0 s : State} (data : List Byte) (digestOk : Bool) (hk : a0.keeps s) :
    a0.keeps (State.pieceDone s data digestOk) := by
  unfold State.pieceDone
  try dsimp only
  repeat' (first
    | with_reducible assumption
    | with_reducible apply State.pieceFails_keeps
    | with_reducible apply State.cmdEnd_keeps
    | with_reducible apply State.storePiece_keeps
    | split
    | with_reducible apply State.keeps_mk
    | (intro _; intros; try dsimp only))

theorem State.discardStage_keeps {a0 s : State} (hk : a0.keeps s) :
    a0.keeps (State.discardStage s) := by
  unfold State.discardStage
  try dsimp only
  repeat' (first
    | with_reducible assumption
    | with_reducible apply State.clearHeld_keeps
    | with_reducible apply State.wr_keeps
    | with_reducible apply State.cmdStop_keeps
    | split
    | with_reducible apply State.keeps_mk
    | (intro _; intros; try dsimp only))

theorem State.progressOpen_keeps {a0 s : State} (hk : a0.keeps s) :
    a0.keeps (State.progressOpen s) := by
  unfold State.progressOpen
  try dsimp only
  repeat' (first
    | with_reducible assumption
    | with_reducible apply State.drawOpen_keeps
    | with_reducible refine State.drawOpen_keeps_eq ?_ (by assumption)
    | with_reducible apply State.wr_keeps
    | split
    | with_reducible apply State.keeps_mk
    | (intro _; intros; try dsimp only))

theorem State.verifyFails_keeps {a0 s : State} (status : Nat) (hk : a0.keeps s) :
    a0.keeps (State.verifyFails s status) := by
  unfold State.verifyFails
  try dsimp only
  repeat' (first
    | with_reducible assumption
    | with_reducible apply State.wr_keeps
    | with_reducible apply State.err_keeps
    | with_reducible apply State.cmdStop_keeps
    | split
    | with_reducible apply State.keeps_mk
    | (intro _; intros; try dsimp only))

theorem State.verified_keeps {a0 s : State} (hk : a0.keeps s) :
    a0.keeps (State.verified s) := by
  unfold State.verified
  try dsimp only
  repeat' (first
    | with_reducible assumption
    | with_reducible apply State.wr_keeps
    | with_reducible apply State.cmdStop_keeps
    | split
    | with_reducible apply State.keeps_mk
    | (intro _; intros; try dsimp only))

theorem State.verifyDone_keeps {a0 s : State} (sigOk partsOk : Bool) (hk : a0.keeps s) :
    a0.keeps (State.verifyDone s sigOk partsOk) := by
  unfold State.verifyDone
  try dsimp only
  repeat' (first
    | with_reducible assumption
    | with_reducible apply State.progressOpen_keeps
    | with_reducible apply State.verifyFails_keeps
    | with_reducible apply State.verified_keeps
    | split
    | with_reducible apply State.keeps_mk
    | (intro _; intros; try dsimp only))

theorem State.activateCmd_keeps {a0 s : State} (hk : a0.keeps s) :
    a0.keeps (State.activateCmd s) := by
  unfold State.activateCmd
  try dsimp only
  repeat' (first
    | with_reducible assumption
    | with_reducible apply State.cmdStop_keeps
    | with_reducible apply State.wr_keeps
    | with_reducible apply State.deviceReset_keeps
    | with_reducible apply State.progressOpen_keeps
    | split
    | with_reducible apply State.keeps_mk
    | (intro _; intros; try dsimp only))

theorem State.reverified_keeps {a0 s : State} (ok : Bool) (hk : a0.keeps s) :
    a0.keeps (State.reverified s ok) := by
  unfold State.reverified
  try dsimp only
  repeat' (first
    | with_reducible assumption
    | with_reducible apply State.wr_keeps
    | with_reducible apply State.beginTransition_keeps
    | with_reducible apply State.allToConfig_keeps
    | with_reducible apply State.moveCheck_keeps
    | with_reducible apply State.verifyFails_keeps
    | split
    | with_reducible apply State.keeps_mk
    | (intro _; intros; try dsimp only))

theorem State.setSave_keeps {a0 s : State} (hk : a0.keeps s) :
    a0.keeps (State.setSave s) := by
  unfold State.setSave
  try dsimp only
  repeat' (first
    | with_reducible assumption
    | with_reducible apply State.cmdStop_keeps
    | with_reducible apply State.cmdEnd_keeps
    | split
    | with_reducible apply State.keeps_mk
    | (intro _; intros; try dsimp only))

theorem State.saveDone_keeps {a0 s : State} (hk : a0.keeps s) :
    a0.keeps (State.saveDone s) := by
  unfold State.saveDone
  try dsimp only
  repeat' (first
    | with_reducible assumption
    | with_reducible apply State.saveSlot_keeps
    | with_reducible refine State.saveSlot_keeps_eq ?_ (by assumption)
    | with_reducible apply State.mramPuts_keeps
    | with_reducible apply State.settingsShow_keeps
    | with_reducible apply State.cmdEnd_keeps
    | split
    | with_reducible apply State.keeps_mk
    | (intro _; intros; try dsimp only))

theorem State.setLoad_keeps {a0 s : State} (hk : a0.keeps s) :
    a0.keeps (State.setLoad s) := by
  unfold State.setLoad
  try dsimp only
  repeat' (first
    | with_reducible assumption
    | with_reducible apply State.cmdStop_keeps
    | split
    | with_reducible apply State.keeps_mk
    | (intro _; intros; try dsimp only))

theorem State.setErase_keeps {a0 s : State} (hk : a0.keeps s) :
    a0.keeps (State.setErase s) := by
  unfold State.setErase
  try dsimp only
  repeat' (first
    | with_reducible assumption
    | with_reducible apply State.eraseSlots_keeps
    | with_reducible apply State.cmdStop_keeps
    | split
    | with_reducible apply State.keeps_mk
    | (intro _; intros; try dsimp only))

theorem State.mramLost_keeps {a0 s : State} (w : Nat) (hk : a0.keeps s) :
    a0.keeps (State.mramLost s w) := by
  unfold State.mramLost
  try dsimp only
  repeat' (first
    | with_reducible assumption
    | with_reducible apply State.fault_keeps
    | with_reducible apply State.dropPiece_keeps
    | with_reducible apply State.settingsShow_keeps
    | split
    | with_reducible apply State.keeps_mk
    | (intro _; intros; try dsimp only))

theorem State.mramCheck_keeps {a0 s : State} (a : Nat) (f : Option Find) (hk : a0.keeps s) :
    a0.keeps (State.mramCheck s a f) := by
  unfold State.mramCheck
  try dsimp only
  repeat' (first
    | with_reducible assumption
    | with_reducible apply State.corrected_keeps
    | with_reducible apply State.adv_keeps
    | with_reducible apply State.tally_keeps
    | with_reducible apply State.fault_keeps
    | with_reducible apply State.uncorrectable_keeps
    | with_reducible apply State.mramLost_keeps
    | split
    | with_reducible apply State.keeps_mk
    | (intro _; intros; try dsimp only))

theorem State.window_keeps {a0 s : State} (f : Field) (ws : List Nat) (hk : a0.keeps s) :
    a0.keeps (State.window s f ws) := by
  unfold State.window
  try dsimp only
  repeat' (first
    | with_reducible assumption
    | with_reducible apply State.each_keeps
    | with_reducible apply State.wr_keeps
    | split
    | with_reducible apply State.keeps_mk
    | (intro _; intros; try dsimp only))

theorem State.sign_keeps {a0 s : State} (hk : a0.keeps s) :
    a0.keeps (State.sign s) := by
  unfold State.sign
  try dsimp only
  repeat' (first
    | with_reducible assumption
    | with_reducible apply State.each_keeps
    | with_reducible apply State.drawCrypto_keeps
    | with_reducible refine State.drawCrypto_keeps_eq ?_ (by assumption)
    | with_reducible apply State.wr_keeps
    | split
    | with_reducible apply State.keeps_mk
    | (intro _; intros; try dsimp only))

theorem State.attest_keeps {a0 s : State} (hk : a0.keeps s) :
    a0.keeps (State.attest s) := by
  unfold State.attest
  try dsimp only
  repeat' (first
    | with_reducible assumption
    | with_reducible apply State.drawOpen_keeps
    | with_reducible refine State.drawOpen_keeps_eq ?_ (by assumption)
    | with_reducible apply State.window_keeps
    | with_reducible apply State.cmdStop_keeps
    | with_reducible apply State.sign_keeps
    | with_reducible apply State.adv_keeps
    | split
    | with_reducible apply State.keeps_mk
    | (intro _; intros; try dsimp only))

theorem State.unlockStatus_keeps {a0 s : State} (st : Nat) (hk : a0.keeps s) :
    a0.keeps (State.unlockStatus s st) := by
  unfold State.unlockStatus
  try dsimp only
  repeat' (first
    | with_reducible assumption
    | split
    | with_reducible apply State.keeps_mk
    | (intro _; intros; try dsimp only))

theorem State.unlockFails_keeps {a0 s : State} (st : Nat) (hk : a0.keeps s) :
    a0.keeps (State.unlockFails s st) := by
  unfold State.unlockFails
  try dsimp only
  repeat' (first
    | with_reducible assumption
    | with_reducible apply State.err_keeps
    | with_reducible apply State.adv_keeps
    | with_reducible apply State.newChallenge_keeps
    | with_reducible apply State.unlockStatus_keeps
    | with_reducible apply State.cmdStop_keeps
    | split
    | with_reducible apply State.keeps_mk
    | (intro _; intros; try dsimp only))

theorem State.unlockWith_keeps {a0 s : State} (t : Nat → Nat) (sigOk : Bool) (hk : a0.keeps s) :
    a0.keeps (s.unlockWith t sigOk) := by
  unfold State.unlockWith
  split
  · with_reducible exact State.unlockFails_keeps _ hk
  · split
    · with_reducible exact State.unlockFails_keeps _ hk
    · exact State.keeps_fuses (State.unlockStatus_keeps stRunning hk) ⟨id, fun _ => rfl, id, id, Nat.le_refl _, rfl⟩ id
        rfl rfl rfl rfl

theorem State.unlockCmd_keeps {a0 s : State} (sigOk : Bool) (hk : a0.keeps s) :
    a0.keeps (State.unlockCmd s sigOk) := by
  unfold State.unlockCmd
  try dsimp only
  repeat' (first
    | with_reducible assumption
    | with_reducible apply State.unlockWith_keeps
    | split
    | with_reducible apply State.keeps_mk
    | (intro _; intros; try dsimp only))

theorem State.unlockDone_keeps {a0 s : State} (hk : a0.keeps s) : a0.keeps s.unlockDone := by
  unfold State.unlockDone
  split
  · exact hk
  · with_reducible exact State.cmdStop_keeps _ _ (State.unlockStatus_keeps _ (State.err_keeps _ _ (State.blown_keeps hk)))

theorem State.cmdSetMode_keeps {a0 s : State} (pp : Nat) (hk : a0.keeps s) :
    a0.keeps (State.cmdSetMode s pp) := by
  unfold State.cmdSetMode
  try dsimp only
  repeat' (first
    | with_reducible assumption
    | with_reducible apply State.command_keeps
    | with_reducible apply State.setModeCmd_keeps
    | with_reducible apply State.longCommand_keeps
    | split
    | with_reducible apply State.keeps_mk
    | (intro _; intros; try dsimp only))

theorem State.giveOwner_keeps {a0 s : State} (p owner : Nat) (hk : a0.keeps s) :
    a0.keeps (State.giveOwner s p owner) := by
  unfold State.giveOwner
  try dsimp only
  repeat' (first
    | with_reducible assumption
    | split
    | with_reducible apply State.keeps_mk
    | (intro _; intros; try dsimp only))

theorem State.setOwner_keeps {a0 s : State} (hk : a0.keeps s) :
    a0.keeps (State.setOwner s) := by
  unfold State.setOwner
  try dsimp only
  repeat' (first
    | with_reducible assumption
    | with_reducible apply State.cmdStop_keeps
    | with_reducible apply State.each_keeps
    | with_reducible apply State.giveOwner_keeps
    | with_reducible apply State.cmdEnd_keeps
    | split
    | with_reducible apply State.keeps_mk
    | (intro _; intros; try dsimp only))

theorem State.cmdSetOwner_keeps {a0 s : State} (pp : Nat) (hk : a0.keeps s) :
    a0.keeps (State.cmdSetOwner s pp) := by
  unfold State.cmdSetOwner
  try dsimp only
  repeat' (first
    | with_reducible assumption
    | with_reducible apply State.command_keeps
    | with_reducible apply State.setOwner_keeps
    | split
    | with_reducible apply State.keeps_mk
    | (intro _; intros; try dsimp only))

theorem State.cmdSetRef_keeps {a0 s : State} (pp : Nat) (hk : a0.keeps s) :
    a0.keeps (State.cmdSetRef s pp) := by
  unfold State.cmdSetRef
  try dsimp only
  repeat' (first
    | with_reducible assumption
    | with_reducible apply State.command_keeps
    | with_reducible apply State.setRef_keeps
    | split
    | with_reducible apply State.keeps_mk
    | (intro _; intros; try dsimp only))

theorem State.cmdDevReset_keeps {a0 s : State} (pp : Nat) (hk : a0.keeps s) :
    a0.keeps (State.cmdDevReset s pp) := by
  unfold State.cmdDevReset
  try dsimp only
  repeat' (first
    | with_reducible assumption
    | with_reducible apply State.command_keeps
    | with_reducible apply State.devReset_keeps
    | split
    | with_reducible apply State.keeps_mk
    | (intro _; intros; try dsimp only))

theorem State.cmdBegin_keeps {a0 s : State} (pp : Nat) (hk : a0.keeps s) :
    a0.keeps (State.cmdBegin s pp) := by
  unfold State.cmdBegin
  try dsimp only
  repeat' (first
    | with_reducible assumption
    | with_reducible apply State.longCommand_keeps
    | with_reducible apply State.beginStage_keeps
    | split
    | with_reducible apply State.keeps_mk
    | (intro _; intros; try dsimp only))

theorem State.cmdPiece_keeps {a0 s : State} (pp : Nat) (hk : a0.keeps s) :
    a0.keeps (State.cmdPiece s pp) := by
  unfold State.cmdPiece
  try dsimp only
  repeat' (first
    | with_reducible assumption
    | with_reducible apply State.longCommand_keeps
    | with_reducible apply State.startPiece_keeps
    | split
    | with_reducible apply State.keeps_mk
    | (intro _; intros; try dsimp only))

theorem State.cmdVerify_keeps {a0 s : State} (pp : Nat) (hk : a0.keeps s) :
    a0.keeps (State.cmdVerify s pp) := by
  unfold State.cmdVerify
  try dsimp only
  repeat' (first
    | with_reducible assumption
    | with_reducible apply State.longCommand_keeps
    | with_reducible apply State.progressOpen_keeps
    | split
    | with_reducible apply State.keeps_mk
    | (intro _; intros; try dsimp only))

theorem State.cmdActivate_keeps {a0 s : State} (pp : Nat) (hk : a0.keeps s) :
    a0.keeps (State.cmdActivate s pp) := by
  unfold State.cmdActivate
  try dsimp only
  repeat' (first
    | with_reducible assumption
    | with_reducible apply State.longCommand_keeps
    | with_reducible apply State.activateCmd_keeps
    | split
    | with_reducible apply State.keeps_mk
    | (intro _; intros; try dsimp only))

theorem State.cmdDiscard_keeps {a0 s : State} (pp : Nat) (hk : a0.keeps s) :
    a0.keeps (State.cmdDiscard s pp) := by
  unfold State.cmdDiscard
  try dsimp only
  repeat' (first
    | with_reducible assumption
    | with_reducible apply State.longCommand_keeps
    | with_reducible apply State.discardStage_keeps
    | split
    | with_reducible apply State.keeps_mk
    | (intro _; intros; try dsimp only))

theorem State.cmdSetSave_keeps {a0 s : State} (pp : Nat) (hk : a0.keeps s) :
    a0.keeps (State.cmdSetSave s pp) := by
  unfold State.cmdSetSave
  try dsimp only
  repeat' (first
    | with_reducible assumption
    | with_reducible apply State.longCommand_keeps
    | with_reducible apply State.configure_keeps
    | with_reducible apply State.setSave_keeps
    | split
    | with_reducible apply State.keeps_mk
    | (intro _; intros; try dsimp only))

theorem State.cmdSetLoad_keeps {a0 s : State} (pp : Nat) (hk : a0.keeps s) :
    a0.keeps (State.cmdSetLoad s pp) := by
  unfold State.cmdSetLoad
  try dsimp only
  repeat' (first
    | with_reducible assumption
    | with_reducible apply State.longCommand_keeps
    | with_reducible apply State.configure_keeps
    | with_reducible apply State.setLoad_keeps
    | split
    | with_reducible apply State.keeps_mk
    | (intro _; intros; try dsimp only))

theorem State.cmdSetErase_keeps {a0 s : State} (pp : Nat) (hk : a0.keeps s) :
    a0.keeps (State.cmdSetErase s pp) := by
  unfold State.cmdSetErase
  try dsimp only
  repeat' (first
    | with_reducible assumption
    | with_reducible apply State.longCommand_keeps
    | with_reducible apply State.setErase_keeps
    | split
    | with_reducible apply State.keeps_mk
    | (intro _; intros; try dsimp only))

theorem State.cmdAttest_keeps {a0 s : State} (pp : Nat) (hk : a0.keeps s) :
    a0.keeps (State.cmdAttest s pp) := by
  unfold State.cmdAttest
  try dsimp only
  repeat' (first
    | with_reducible assumption
    | with_reducible apply State.longCommand_keeps
    | with_reducible apply State.attest_keeps
    | split
    | with_reducible apply State.keeps_mk
    | (intro _; intros; try dsimp only))

theorem State.cmdUnlock_keeps {a0 s : State} (pp : Nat) (sigOk : Bool) (hk : a0.keeps s) :
    a0.keeps (State.cmdUnlock s pp sigOk) := by
  unfold State.cmdUnlock
  try dsimp only
  repeat' (first
    | with_reducible assumption
    | with_reducible apply State.longCommand_keeps
    | with_reducible apply State.unlockCmd_keeps
    | split
    | with_reducible apply State.keeps_mk
    | (intro _; intros; try dsimp only))

theorem State.cmdSnapNow_keeps {a0 s : State} (pp : Nat) (hk : a0.keeps s) :
    a0.keeps (State.cmdSnapNow s pp) := by
  unfold State.cmdSnapNow
  try dsimp only
  repeat' (first
    | with_reducible assumption
    | with_reducible apply State.command_keeps
    | with_reducible apply State.snapNow_keeps
    | split
    | with_reducible apply State.keeps_mk
    | (intro _; intros; try dsimp only))

theorem State.cmdUnfence_keeps {a0 s : State} (pp : Nat) (hk : a0.keeps s) :
    a0.keeps (State.cmdUnfence s pp) := by
  unfold State.cmdUnfence
  try dsimp only
  repeat' (first
    | with_reducible assumption
    | with_reducible apply State.command_keeps
    | with_reducible apply State.startUnfence_keeps
    | split
    | with_reducible apply State.keeps_mk
    | (intro _; intros; try dsimp only))

theorem State.cmdDefaults_keeps {a0 s : State} (pp : Nat) (hk : a0.keeps s) :
    a0.keeps (State.cmdDefaults s pp) := by
  unfold State.cmdDefaults
  try dsimp only
  repeat' (first
    | with_reducible assumption
    | with_reducible apply State.command_keeps
    | with_reducible apply State.lineDefaults_keeps
    | split
    | with_reducible apply State.keeps_mk
    | (intro _; intros; try dsimp only))

theorem State.rxfResetCmd_keeps {a0 s : State} (c : Nat) (hk : a0.keeps s) :
    a0.keeps (State.rxfResetCmd s c) := by
  unfold State.rxfResetCmd
  try dsimp only
  repeat' (first
    | with_reducible assumption
    | with_reducible apply State.fifoReset_keeps
    | with_reducible refine State.fifoReset_keeps_eq ?_ (by assumption)
    | with_reducible apply State.cmdEnd_keeps
    | split
    | with_reducible apply State.keeps_mk
    | (intro _; intros; try dsimp only))

theorem State.cmdRxfReset_keeps {a0 s : State} (pp c : Nat) (hk : a0.keeps s) :
    a0.keeps (State.cmdRxfReset s pp c) := by
  unfold State.cmdRxfReset
  try dsimp only
  repeat' (first
    | with_reducible assumption
    | with_reducible apply State.command_keeps
    | with_reducible apply State.configure_keeps
    | with_reducible apply State.rxfResetCmd_keeps
    | split
    | with_reducible apply State.keeps_mk
    | (intro _; intros; try dsimp only))

theorem State.cmdRxRelease_keeps {a0 s : State} (pp c : Nat) (hk : a0.keeps s) :
    a0.keeps (State.cmdRxRelease s pp c) := by
  unfold State.cmdRxRelease
  try dsimp only
  repeat' (first
    | with_reducible assumption
    | with_reducible apply State.command_keeps
    | with_reducible apply State.rxRelease_keeps
    | split
    | with_reducible apply State.keeps_mk
    | (intro _; intros; try dsimp only))

theorem State.cmdTxQuery_keeps {a0 s : State} (pp c : Nat) (hk : a0.keeps s) :
    a0.keeps (State.cmdTxQuery s pp c) := by
  unfold State.cmdTxQuery
  try dsimp only
  repeat' (first
    | with_reducible assumption
    | with_reducible apply State.command_keeps
    | with_reducible apply State.cmdEnd_keeps
    | split
    | with_reducible apply State.keeps_mk
    | (intro _; intros; try dsimp only))

theorem State.cmdSetFrame_keeps {a0 s : State} (pp : Nat) (hk : a0.keeps s) :
    a0.keeps (State.cmdSetFrame s pp) := by
  unfold State.cmdSetFrame
  try dsimp only
  repeat' (first
    | with_reducible assumption
    | with_reducible apply State.command_keeps
    | with_reducible apply State.setFrameCmd_keeps
    | split
    | with_reducible apply State.keeps_mk
    | (intro _; intros; try dsimp only))

theorem State.cmdArm_keeps {a0 s : State} (pp c : Nat) (hk : a0.keeps s) :
    a0.keeps (State.cmdArm s pp c) := by
  unfold State.cmdArm
  try dsimp only
  repeat' (first
    | with_reducible assumption
    | with_reducible apply State.command_keeps
    | with_reducible apply State.armCmd_keeps
    | split
    | with_reducible apply State.keeps_mk
    | (intro _; intros; try dsimp only))

theorem State.cmdDisarm_keeps {a0 s : State} (pp c : Nat) (hk : a0.keeps s) :
    a0.keeps (State.cmdDisarm s pp c) := by
  unfold State.cmdDisarm
  try dsimp only
  repeat' (first
    | with_reducible assumption
    | with_reducible apply State.command_keeps
    | with_reducible apply State.disarmCmd_keeps
    | split
    | with_reducible apply State.keeps_mk
    | (intro _; intros; try dsimp only))

theorem State.cmdCvStart_keeps {a0 s : State} (pp u : Nat) (hk : a0.keeps s) :
    a0.keeps (State.cmdCvStart s pp u) := by
  unfold State.cmdCvStart
  try dsimp only
  repeat' (first
    | with_reducible assumption
    | with_reducible apply State.command_keeps
    | with_reducible apply State.scanStart_keeps
    | split
    | with_reducible apply State.keeps_mk
    | (intro _; intros; try dsimp only))

theorem State.cmdSetPmode_keeps {a0 s : State} (pp n : Nat) (hk : a0.keeps s) :
    a0.keeps (State.cmdSetPmode s pp n) := by
  unfold State.cmdSetPmode
  try dsimp only
  repeat' (first
    | with_reducible assumption
    | with_reducible apply State.command_keeps
    | with_reducible apply State.setPmode_keeps
    | split
    | with_reducible apply State.keeps_mk
    | (intro _; intros; try dsimp only))

theorem State.cmdRecover_keeps {a0 s : State} (pp n : Nat) (hk : a0.keeps s) :
    a0.keeps (State.cmdRecover s pp n) := by
  unfold State.cmdRecover
  try dsimp only
  repeat' (first
    | with_reducible assumption
    | with_reducible apply State.command_keeps
    | with_reducible apply State.recover_keeps
    | split
    | with_reducible apply State.keeps_mk
    | (intro _; intros; try dsimp only))

theorem State.cmdFltCommit_keeps {a0 s : State} (pp n : Nat) (hk : a0.keeps s) :
    a0.keeps (State.cmdFltCommit s pp n) := by
  unfold State.cmdFltCommit
  try dsimp only
  repeat' (first
    | with_reducible assumption
    | with_reducible apply State.longCommand_keeps
    | with_reducible apply State.fltCommit_keeps
    | split
    | with_reducible apply State.keeps_mk
    | (intro _; intros; try dsimp only))

theorem State.cmdTxCancel_keeps {a0 s : State} (pp n : Nat) (hk : a0.keeps s) :
    a0.keeps (State.cmdTxCancel s pp n) := by
  unfold State.cmdTxCancel
  try dsimp only
  repeat' (first
    | with_reducible assumption
    | with_reducible apply State.command_keeps
    | with_reducible apply State.txCancel_keeps
    | split
    | with_reducible apply State.keeps_mk
    | (intro _; intros; try dsimp only))

theorem State.cmdTxFlush_keeps {a0 s : State} (pp n : Nat) (hk : a0.keeps s) :
    a0.keeps (State.cmdTxFlush s pp n) := by
  unfold State.cmdTxFlush
  try dsimp only
  repeat' (first
    | with_reducible assumption
    | with_reducible apply State.command_keeps
    | with_reducible apply State.txFlush_keeps
    | split
    | with_reducible apply State.keeps_mk
    | (intro _; intros; try dsimp only))

theorem State.cmdSetRung_keeps {a0 s : State} (pp n : Nat) (hk : a0.keeps s) :
    a0.keeps (State.cmdSetRung s pp n) := by
  unfold State.cmdSetRung
  try dsimp only
  repeat' (first
    | with_reducible assumption
    | with_reducible apply State.command_keeps
    | with_reducible apply State.setRung_keeps
    | split
    | with_reducible apply State.keeps_mk
    | (intro _; intros; try dsimp only))

theorem State.cmdCalibrate_keeps {a0 s : State} (pp n : Nat) (hk : a0.keeps s) :
    a0.keeps (State.cmdCalibrate s pp n) := by
  unfold State.cmdCalibrate
  try dsimp only
  repeat' (first
    | with_reducible assumption
    | with_reducible apply State.command_keeps
    | with_reducible apply State.wr_keeps
    | split
    | with_reducible apply State.keeps_mk
    | (intro _; intros; try dsimp only))

theorem State.cmdEyeScan_keeps {a0 s : State} (pp n : Nat) (hk : a0.keeps s) :
    a0.keeps (State.cmdEyeScan s pp n) := by
  unfold State.cmdEyeScan
  try dsimp only
  repeat' (first
    | with_reducible assumption
    | with_reducible apply State.command_keeps
    | with_reducible apply State.eyeStart_keeps
    | with_reducible apply State.lapse_keeps
    | split
    | with_reducible apply State.keeps_mk
    | (intro _; intros; try dsimp only))

theorem State.cmdLtClear_keeps {a0 s : State} (pp n : Nat) (hk : a0.keeps s) :
    a0.keeps (State.cmdLtClear s pp n) := by
  unfold State.cmdLtClear
  try dsimp only
  repeat' (first
    | with_reducible assumption
    | with_reducible apply State.command_keeps
    | with_reducible apply State.ltClear_keeps
    | split
    | with_reducible apply State.keeps_mk
    | (intro _; intros; try dsimp only))

theorem State.chanDisable_keeps {a0 s : State} (m : Nat) (hk : a0.keeps s) :
    a0.keeps (State.chanDisable s m) := by
  unfold State.chanDisable
  try dsimp only
  repeat' (first
    | with_reducible assumption
    | with_reducible apply State.modChan_keeps
    | with_reducible apply State.cmdEnd_keeps
    | split
    | with_reducible apply State.keeps_mk
    | (intro _; intros; try dsimp only))

theorem State.cmdEnable_keeps {a0 s : State} (pp m : Nat) (hk : a0.keeps s) :
    a0.keeps (State.cmdEnable s pp m) := by
  unfold State.cmdEnable
  try dsimp only
  repeat' (first
    | with_reducible assumption
    | with_reducible apply State.command_keeps
    | with_reducible apply State.chanEnable_keeps
    | split
    | with_reducible apply State.keeps_mk
    | (intro _; intros; try dsimp only))

theorem State.cmdDisable_keeps {a0 s : State} (pp m : Nat) (hk : a0.keeps s) :
    a0.keeps (State.cmdDisable s pp m) := by
  unfold State.cmdDisable
  try dsimp only
  repeat' (first
    | with_reducible assumption
    | with_reducible apply State.command_keeps
    | with_reducible apply State.chanDisable_keeps
    | split
    | with_reducible apply State.keeps_mk
    | (intro _; intros; try dsimp only))

theorem State.cmdResume_keeps {a0 s : State} (pp m : Nat) (hk : a0.keeps s) :
    a0.keeps (State.cmdResume s pp m) := by
  unfold State.cmdResume
  try dsimp only
  repeat' (first
    | with_reducible assumption
    | with_reducible apply State.command_keeps
    | with_reducible apply State.chanResume_keeps
    | split
    | with_reducible apply State.keeps_mk
    | (intro _; intros; try dsimp only))

theorem State.cmdSetDesc_keeps {a0 s : State} (pp m : Nat) (hk : a0.keeps s) :
    a0.keeps (State.cmdSetDesc s pp m) := by
  unfold State.cmdSetDesc
  try dsimp only
  repeat' (first
    | with_reducible assumption
    | with_reducible apply State.command_keeps
    | with_reducible apply State.chanSetDesc_keeps
    | split
    | with_reducible apply State.keeps_mk
    | (intro _; intros; try dsimp only))

theorem State.cmdAbort_keeps {a0 s : State} (pp m : Nat) (hk : a0.keeps s) :
    a0.keeps (State.cmdAbort s pp m) := by
  unfold State.cmdAbort
  try dsimp only
  repeat' (first
    | with_reducible assumption
    | with_reducible apply State.command_keeps
    | with_reducible apply State.chanAbort_keeps
    | split
    | with_reducible apply State.keeps_mk
    | (intro _; intros; try dsimp only))

theorem State.cmdXfer_keeps {a0 s : State} (pp m : Nat) (hk : a0.keeps s) :
    a0.keeps (State.cmdXfer s pp m) := by
  unfold State.cmdXfer
  try dsimp only
  repeat' (first
    | with_reducible assumption
    | with_reducible apply State.command_keeps
    | with_reducible apply State.chanXfer_keeps
    | split
    | with_reducible apply State.keeps_mk
    | (intro _; intros; try dsimp only))

theorem State.cmdSingle_keeps {a0 s : State} (pp p : Nat) (pg : Page) (code : Nat) (sigOk : Bool) (hk : a0.keeps s) :
    a0.keeps (s.cmdSingle pp p pg code sigOk) := by
  unfold State.cmdSingle
  split
  · exact State.cmdSetMode_keeps _ hk
  · exact State.cmdSetOwner_keeps _ hk
  · exact State.cmdSetRef_keeps _ hk
  · exact State.cmdDevReset_keeps _ hk
  · exact State.cmdBegin_keeps _ hk
  · exact State.cmdPiece_keeps _ hk
  · exact State.cmdVerify_keeps _ hk
  · exact State.cmdActivate_keeps _ hk
  · exact State.cmdDiscard_keeps _ hk
  · exact State.cmdSetSave_keeps _ hk
  · exact State.cmdSetLoad_keeps _ hk
  · exact State.cmdSetErase_keeps _ hk
  · exact State.cmdAttest_keeps _ hk
  · exact State.cmdUnlock_keeps _ _ hk
  · exact State.cmdSnapNow_keeps _ hk
  · exact State.cmdUnfence_keeps _ hk
  · exact State.cmdDefaults_keeps _ hk
  · exact State.command_keeps _ _ _ _ _ (fun _ h => h) hk

theorem State.noCommand_keeps {a0 s : State} (pp p code : Nat) (hk : a0.keeps s) : a0.keeps (s.command pp p code false id) :=
  State.command_keeps _ _ _ _ _ (fun _ h => h) hk

theorem State.cmdOn_keeps {a0 s : State} (pp p code : Nat) (sigOk : Bool) (hk : a0.keeps s) :
    a0.keeps (s.cmdOn pp p code sigOk) := by
  unfold State.cmdOn
  split
  · exact hk
  · split
    · exact State.cmdRxfReset_keeps _ _ hk
    · split
      · exact State.cmdRxRelease_keeps _ _ hk
      · split
        · exact State.cmdTxQuery_keeps _ _ hk
        · exact State.noCommand_keeps _ _ _ hk
  · split
    · exact State.cmdSetFrame_keeps _ hk
    · split
      · exact State.cmdArm_keeps _ _ hk
      · split
        · exact State.cmdDisarm_keeps _ _ hk
        · exact State.noCommand_keeps _ _ _ hk
  · split
    · exact State.cmdCvStart_keeps _ _ hk
    · exact State.noCommand_keeps _ _ _ hk
  · split
    · exact State.cmdSetPmode_keeps _ _ hk
    · split
      · exact State.cmdRecover_keeps _ _ hk
      · split
        · exact State.cmdFltCommit_keeps _ _ hk
        · split
          · exact State.cmdTxCancel_keeps _ _ hk
          · split
            · exact State.cmdTxFlush_keeps _ _ hk
            · exact State.noCommand_keeps _ _ _ hk
  · split
    · exact State.cmdSetRung_keeps _ _ hk
    · split
      · exact State.cmdCalibrate_keeps _ _ hk
      · split
        · exact State.cmdEyeScan_keeps _ _ hk
        · split
          · exact State.cmdLtClear_keeps _ _ hk
          · exact State.noCommand_keeps _ _ _ hk
  · split
    · exact State.cmdEnable_keeps _ _ hk
    · split
      · exact State.cmdDisable_keeps _ _ hk
      · split
        · exact State.cmdResume_keeps _ _ hk
        · split
          · exact State.cmdSetDesc_keeps _ _ hk
          · split
            · exact State.cmdAbort_keeps _ _ hk
            · split
              · exact State.cmdXfer_keeps _ _ hk
              · exact State.noCommand_keeps _ _ _ hk
  · exact State.cmdSingle_keeps _ _ _ _ _ hk

theorem State.putField_keeps {a0 s : State} (p v : Nat) (x : Field × Nat) (hk : a0.keeps s) :
    a0.keeps (State.putField s p v x) := by
  unfold State.putField
  try dsimp only
  repeat' (first
    | with_reducible assumption
    | with_reducible apply State.wr_keeps
    | split
    | with_reducible apply State.keeps_mk
    | (intro _; intros; try dsimp only))

theorem State.setFields_keeps {a0 s : State} (pp p v : Nat) (fs : List (Field × Nat)) (bad : Bool) (after : State → State) (hafter : ∀ t, a0.keeps t → a0.keeps (after t)) (hk : a0.keeps s) :
    a0.keeps (State.setFields s pp p v fs bad after) := by
  unfold State.setFields
  try dsimp only
  repeat' (first
    | with_reducible assumption
    | with_reducible apply State.guarded_keeps
    | with_reducible apply State.each_keeps
    | with_reducible apply State.putField_keeps
    | apply hafter
    | split
    | with_reducible apply State.keeps_mk
    | (intro _; intros; try dsimp only))

theorem State.rxPoolWrite_keeps {a0 s : State} (pp c v : Nat) (hk : a0.keeps s) :
    a0.keeps (State.rxPoolWrite s pp c v) := by
  unfold State.rxPoolWrite
  try dsimp only
  repeat' (first
    | with_reducible assumption
    | with_reducible apply State.setFields_keeps
    | with_reducible apply State.poolMin_keeps
    | split
    | with_reducible apply State.keeps_mk
    | (intro _; intros; try dsimp only))

theorem State.bufAreaWrite_keeps {a0 s : State} (pp c v : Nat) (hk : a0.keeps s) :
    a0.keeps (State.bufAreaWrite s pp c v) := by
  unfold State.bufAreaWrite
  try dsimp only
  repeat' (first
    | with_reducible assumption
    | with_reducible apply State.setFields_keeps
    | with_reducible apply State.poolMin_keeps
    | split
    | with_reducible apply State.keeps_mk
    | (intro _; intros; try dsimp only))

theorem State.txSoftWrite_keeps {a0 s : State} (pp c v : Nat) (hk : a0.keeps s) :
    a0.keeps (State.txSoftWrite s pp c v) := by
  unfold State.txSoftWrite
  try dsimp only
  repeat' (first
    | with_reducible assumption
    | with_reducible apply State.setFields_keeps
    | with_reducible apply State.poolMin_keeps
    | split
    | with_reducible apply State.keeps_mk
    | (intro _; intros; try dsimp only))

theorem State.rxfCfgWrite_keeps {a0 s : State} (pp c f v : Nat) (hk : a0.keeps s) : a0.keeps (s.rxfCfgWrite pp c f v) := by
  unfold State.rxfCfgWrite
  exact State.setFields_keeps _ _ _ _ _ _ (fun _ h => h) hk

theorem State.txDoorbell_keeps {a0 s : State} (pp n v : Nat) (finds : List (Nat × Find)) (hk : a0.keeps s) :
    a0.keeps (State.txDoorbell s pp n v finds) := by
  unfold State.txDoorbell
  try dsimp only
  repeat' (first
    | with_reducible assumption
    | with_reducible apply State.guarded_keeps
    | with_reducible apply State.doorbell_keeps
    | with_reducible apply State.eventAll_keeps
    | split
    | with_reducible apply State.keeps_mk
    | (intro _; intros; try dsimp only))

theorem State.creditWrite_keeps {a0 s : State} (pp m v : Nat) (hk : a0.keeps s) :
    a0.keeps (State.creditWrite s pp m v) := by
  unfold State.creditWrite
  try dsimp only
  repeat' (first
    | with_reducible assumption
    | with_reducible apply State.guarded_keeps
    | with_reducible apply State.creditAdd_keeps
    | split
    | with_reducible apply State.keeps_mk
    | (intro _; intros; try dsimp only))

theorem State.selfFire_keeps {a0 s : State} (pp k v : Nat) (hk : a0.keeps s) :
    a0.keeps (State.selfFire s pp k v) := by
  unfold State.selfFire
  try dsimp only
  repeat' (first
    | with_reducible assumption
    | with_reducible apply State.guarded_keeps
    | with_reducible apply State.event_keeps
    | split
    | with_reducible apply State.keeps_mk
    | (intro _; intros; try dsimp only))

theorem State.lcfgWrite_keeps {a0 s : State} (pp l : Nat) (b : Bool) (v : Nat) (hk : a0.keeps s) :
    a0.keeps (s.lcfgWrite pp l b v) := by
  unfold State.lcfgWrite
  split
  · exact State.guarded_keeps _ _ _ _ (fun _ h => h) hk
  · exact State.setFields_keeps _ _ _ _ _ _ (fun _ h => State.keeps_mk h) hk

theorem State.reattached_keeps {a0 s : State} (was : State) (n : Nat) (hk : a0.keeps s) : a0.keeps (State.reattached was s n) := by
  unfold State.reattached
  extract_lets moved
  refine State.panic_keeps _ ?_
  split
  · with_reducible exact State.wr_keeps _ _ _ _ hk
  · exact hk

theorem State.afterWrite_keeps {a0 s : State} (was : State) (pg : Page) (o : Nat) (hk : a0.keeps s) :
    a0.keeps (State.afterWrite was pg o s) := by
  unfold State.afterWrite
  split
  · split
    · extract_lets old
      with_reducible exact State.wr_keeps _ _ _ _ hk
    · split
      · with_reducible exact State.windowSync_keeps _ hk
      · exact hk
  · split
    · with_reducible exact State.panicPins_keeps hk
    · exact hk
  · split
    · with_reducible exact State.reattached_keeps _ _ hk
    · split
      · with_reducible exact State.windowOpened_keeps _ _ hk
      · exact hk
  · split
    · with_reducible exact State.ephResume_keeps _ hk
    · split
      · with_reducible exact State.noteRates_keeps _ hk
      · exact hk
  · exact hk

theorem State.plainWrite_keeps {a0 s : State} (pp p : Nat) (pg : Page) (o v : Nat) (hk : a0.keeps s) :
    a0.keeps (State.plainWrite s pp p pg o v) := by
  unfold State.plainWrite
  with_reducible exact State.setFields_keeps _ _ _ _ _ _ (fun _ h => State.afterWrite_keeps _ _ _ h) hk

theorem State.ite_keeps {a0 s t : State} {c : Prop} [Decidable c] (h : a0.keeps s) (g : a0.keeps t) :
    a0.keeps (if c then s else t) := by
  split
  · exact h
  · exact g

theorem State.targetWrite_keeps {a0 s : State} (pp k o v : Nat) (hk : a0.keeps s) : a0.keeps (s.targetWrite pp k o v) := by
  unfold State.targetWrite
  refine State.ite_keeps (State.tCfgWrite_keeps _ _ _ hk) ?_
  refine State.ite_keeps (State.complete_keeps _ _ _ _ hk) ?_
  refine State.ite_keeps (State.eoi_keeps _ _ hk) ?_
  refine State.ite_keeps (State.maskWrite_keeps _ _ _ _ hk) ?_
  refine State.ite_keeps (State.ringBaseWrite_keeps _ _ _ _ hk) ?_
  refine State.ite_keeps (State.ringBaseWrite_keeps _ _ _ _ hk) ?_
  refine State.ite_keeps (State.ringCfgWrite_keeps _ _ _ hk) ?_
  refine State.ite_keeps (State.ringGetWrite_keeps _ _ _ hk) ?_
  refine State.ite_keeps (State.mailOut_keeps _ _ _ hk) ?_
  refine State.ite_keeps (State.selfFire_keeps _ _ _ hk) ?_
  exact State.ite_keeps (State.privCfgWrite_keeps _ _ _ _ hk) (State.plainWrite_keeps _ _ _ _ _ hk)

theorem State.clusterWrite_keeps {a0 s : State} (pp c o v : Nat) (hk : a0.keeps s) :
    a0.keeps (State.clusterWrite s pp c o v) := by
  unfold State.clusterWrite
  try dsimp only
  repeat' (first
    | with_reducible assumption
    | with_reducible apply State.rxPoolWrite_keeps
    | with_reducible apply State.bufAreaWrite_keeps
    | with_reducible apply State.txSoftWrite_keeps
    | with_reducible apply State.rxfCfgWrite_keeps
    | with_reducible apply State.rxfGet_keeps
    | with_reducible apply State.plainWrite_keeps
    | split
    | with_reducible apply State.keeps_mk
    | (intro _; intros; try dsimp only))

theorem State.fcoWrite_keeps {a0 s : State} (pp o v : Nat) (hk : a0.keeps s) :
    a0.keeps (State.fcoWrite s pp o v) := by
  unfold State.fcoWrite
  try dsimp only
  repeat' (first
    | with_reducible assumption
    | with_reducible apply State.stickyClear_keeps
    | with_reducible apply State.inject_keeps
    | with_reducible apply State.lcfgWrite_keeps
    | with_reducible apply State.plainWrite_keeps
    | split
    | with_reducible apply State.keeps_mk
    | (intro _; intros; try dsimp only))

theorem State.ephWrite_keeps {a0 s : State} (pp c o v e : Nat) (hk : a0.keeps s) : a0.keeps (s.ephWrite pp c o v e) := by
  unfold State.ephWrite
  split
  · split
    · exact State.guarded_keeps _ _ _ _ (fun _ h => h) hk
    · split
      · exact State.rtCfgWrite_keeps _ _ hk
      · split
        · exact State.markWrite_keeps _ _ _ hk
        · exact State.plainWrite_keeps _ _ _ _ _ hk
  · exact State.plainWrite_keeps _ _ _ _ _ hk

theorem State.ownWrite_keeps {a0 s : State} (pp p : Nat) (pg : Page) (o v e : Nat) (hk : a0.keeps s) :
    a0.keeps (State.ownWrite s pp p pg o v e) := by
  unfold State.ownWrite
  try dsimp only
  repeat' (first
    | with_reducible assumption
    | with_reducible apply State.targetWrite_keeps
    | with_reducible apply State.complete_keeps
    | with_reducible apply State.plainWrite_keeps
    | with_reducible apply State.clusterWrite_keeps
    | with_reducible apply State.fcoWrite_keeps
    | with_reducible apply State.ephWrite_keeps
    | with_reducible apply State.srcCfgWrite_keeps
    | with_reducible apply State.txDoorbell_keeps
    | with_reducible apply State.creditWrite_keeps
    | split
    | with_reducible apply State.keeps_mk
    | (intro _; intros; try dsimp only))

theorem State.statWrite_keeps {a0 s : State} (pp p v : Nat) (hk : a0.keeps s) :
    a0.keeps (State.statWrite s pp p v) := by
  unfold State.statWrite
  try dsimp only
  repeat' (first
    | with_reducible assumption
    | with_reducible apply State.guarded_keeps
    | with_reducible apply State.wr_keeps
    | split
    | with_reducible apply State.keeps_mk
    | (intro _; intros; try dsimp only))

theorem State.irqEnWrite_keeps {a0 s : State} (pp p v : Nat) (hk : a0.keeps s) :
    a0.keeps (State.irqEnWrite s pp p v) := by
  unfold State.irqEnWrite
  try dsimp only
  repeat' (first
    | with_reducible assumption
    | with_reducible apply State.guarded_keeps
    | with_reducible apply State.wr_keeps
    | with_reducible apply State.pageRise_keeps
    | split
    | with_reducible apply State.keeps_mk
    | (intro _; intros; try dsimp only))

theorem State.headWrite_keeps {a0 s : State} (pp p : Nat) (pg : Page) (o v : Nat) (sigOk : Bool) (hk : a0.keeps s) :
    a0.keeps (s.headWrite pp p pg o v sigOk) := by
  unfold State.headWrite
  split
  · exact State.statWrite_keeps _ _ _ hk
  split
  · exact State.cmdOn_keeps _ _ _ _ hk
  split
  · exact State.fenceWrite_keeps _ _ _ hk
  split
  · exact State.irqEnWrite_keeps _ _ _ hk
  · exact State.plainWrite_keeps _ _ _ _ _ hk

theorem State.msixWrite_keeps {a0 s : State} (pp a v : Nat) (hk : a0.keeps s) :
    a0.keeps (State.msixWrite s pp a v) := by
  unfold State.msixWrite
  try dsimp only
  repeat' (first
    | with_reducible assumption
    | with_reducible apply State.modPp_keeps
    | split
    | with_reducible apply State.keeps_mk
    | (intro _; intros; try dsimp only))

theorem State.writeWord_keeps {a0 s : State} (pp a v : Nat) (hk : a0.keeps s) :
    a0.keeps (State.writeWord s pp a v) := by
  unfold State.writeWord
  try dsimp only
  repeat' (first
    | with_reducible assumption
    | with_reducible apply State.msixWrite_keeps
    | with_reducible apply State.headWrite_keeps
    | with_reducible apply State.ownWrite_keeps
    | split
    | with_reducible apply State.keeps_mk
    | (intro _; intros; try dsimp only))

theorem State.regWrite_keeps {a0 s : State} (pp a : Nat) (wide : Bool) (v : Nat) (hk : a0.keeps s) :
    a0.keeps (State.regWrite s pp a wide v) := by
  unfold State.regWrite
  try dsimp only
  repeat' (first
    | with_reducible assumption
    | with_reducible apply State.unsupported_keeps
    | with_reducible apply State.writeWord_keeps
    | split
    | with_reducible apply State.keeps_mk
    | (intro _; intros; try dsimp only))

theorem State.loadFails_keeps {a0 s : State} (ld : SetLoad) (status refcause : Nat) (hk : a0.keeps s) :
    a0.keeps (State.loadFails s ld status refcause) := by
  unfold State.loadFails
  try dsimp only
  repeat' (first
    | with_reducible assumption
    | with_reducible apply State.wr_keeps
    | with_reducible apply State.err_keeps
    | with_reducible apply State.irq_keeps
    | with_reducible apply State.cmdStop_keeps
    | split
    | with_reducible apply State.keeps_mk
    | (intro _; intros; try dsimp only))

theorem State.loadSucceeds_keeps {a0 s : State} (ld : SetLoad) (hk : a0.keeps s) :
    a0.keeps (State.loadSucceeds s ld) := by
  unfold State.loadSucceeds
  try dsimp only
  repeat' (first
    | with_reducible assumption
    | with_reducible apply State.wr_keeps
    | with_reducible apply State.irq_keeps
    | with_reducible apply State.configure_keeps
    | with_reducible apply State.startRun_keeps
    | with_reducible apply State.cmdStop_keeps
    | split
    | with_reducible apply State.keeps_mk
    | (intro _; intros; try dsimp only))

/-- The state that a step of a load comes to. -/
def LoadOut.keeps (a0 : State) : LoadOut → Prop
  | .ok s => a0.keeps s
  | .wait _ => True
  | .fail s _ _ => a0.keeps s

theorem LoadOut.andThen_keeps {a0 : State} {o : LoadOut} {f : State → LoadOut} (ho : o.keeps a0)
    (hf : ∀ s, a0.keeps s → (f s).keeps a0) : (o.andThen f).keeps a0 := by
  cases o with
  | ok s => exact hf s ho
  | wait p => exact ho
  | fail s a b => exact ho

theorem State.attempt_keeps {a0 s : State} {l : List Nat} {f : State → State} (hf : ∀ s, a0.keeps s → a0.keeps (f s))
    (hk : a0.keeps s) : (s.attempt l f).keeps a0 := by
  unfold State.attempt
  split
  · trivial
  · extract_lets probe
    split
    · exact hf s hk
    · exact hf s hk

theorem State.loadWord_keeps {a0 s : State} (pp a v : Nat) (hk : a0.keeps s) : (s.loadWord pp a v).keeps a0 :=
  State.attempt_keeps (fun _ h => State.writeWord_keeps _ _ _ h) hk

theorem State.loadStep_keeps {a0 s : State} (pp : Nat) (ld : SetLoad) (hk : a0.keeps s) : (s.loadStep pp ld).keeps a0 := by
  unfold State.loadStep
  extract_lets w ty count
  split
  · split
    · exact State.loadWord_keeps _ _ _ hk
    · exact hk
  split
  · exact State.attempt_keeps (fun _ h => State.tablePut_keeps _ _ _ h) hk
  split
  · exact State.attempt_keeps (fun _ h => State.storePut_keeps _ _ _ h) hk
  split
  · split
    · exact LoadOut.andThen_keeps
        (LoadOut.andThen_keeps (State.loadWord_keeps _ _ _ hk) fun _ h => State.loadWord_keeps _ _ _ h)
        fun _ h => State.loadWord_keeps _ _ _ h
    · split
      · trivial
      · split
        · exact hk
        · exact hk
  · exact hk

theorem State.loadRun_keeps {a0 : State} (n : Nat) :
    ∀ {s : State} (ld : SetLoad), a0.keeps s → a0.keeps (State.loadRun n s ld) := by
  induction n with
  | zero => exact fun _ h => State.keeps_mk h
  | succ n ih =>
    intro s ld h
    unfold State.loadRun
    split
    · exact State.loadSucceeds_keeps _ h
    · have hs := State.loadStep_keeps (s.rd crpPg CRP_STRAP_PRIMPP) ld h
      split
      · rename_i e; rw [e] at hs; exact ih _ hs
      · exact State.keeps_mk h
      · rename_i e; rw [e] at hs; exact State.loadFails_keeps _ _ _ hs

theorem State.settingsLoad_keeps {a0 s : State} (hk : a0.keeps s) : a0.keeps s.settingsLoad := by
  unfold State.settingsLoad
  split
  · exact hk
  · split
    · exact hk
    · exact State.loadRun_keeps _ _ (State.keeps_mk hk)

theorem State.tapTo_keeps {a0 s : State} (ir : TapIr) (dr : Nat) (hk : a0.keeps s) :
    a0.keeps (State.tapTo s ir dr) := by
  unfold State.tapTo
  try dsimp only
  repeat' (first
    | with_reducible assumption
    | split
    | with_reducible apply State.keeps_mk
    | (intro _; intros; try dsimp only))

theorem State.tapReset_keeps {a0 s : State} (hk : a0.keeps s) :
    a0.keeps (State.tapReset s) := by
  unfold State.tapReset
  try dsimp only
  repeat' (first
    | with_reducible assumption
    | split
    | with_reducible apply State.keeps_mk
    | (intro _; intros; try dsimp only))

theorem State.tapSample_keeps {a0 s : State} (pins : Nat) (hk : a0.keeps s) :
    a0.keeps (State.tapSample s pins) := by
  unfold State.tapSample
  try dsimp only
  repeat' (first
    | with_reducible assumption
    | split
    | with_reducible apply State.keeps_mk
    | (intro _; intros; try dsimp only))

theorem State.tapExtest_keeps {a0 s : State} (hk : a0.keeps s) :
    a0.keeps (State.tapExtest s) := by
  unfold State.tapExtest
  try dsimp only
  repeat' (first
    | with_reducible assumption
    | with_reducible apply State.tapTo_keeps
    | split
    | with_reducible apply State.keeps_mk
    | (intro _; intros; try dsimp only))

theorem State.tapClamp_keeps {a0 s : State} (hk : a0.keeps s) :
    a0.keeps (State.tapClamp s) := by
  unfold State.tapClamp
  try dsimp only
  repeat' (first
    | with_reducible assumption
    | with_reducible apply State.tapTo_keeps
    | split
    | with_reducible apply State.keeps_mk
    | (intro _; intros; try dsimp only))

theorem State.tapHighz_keeps {a0 s : State} (hk : a0.keeps s) :
    a0.keeps (State.tapHighz s) := by
  unfold State.tapHighz
  try dsimp only
  repeat' (first
    | with_reducible assumption
    | with_reducible apply State.tapTo_keeps
    | split
    | with_reducible apply State.keeps_mk
    | (intro _; intros; try dsimp only))

theorem State.tapIdcode_keeps {a0 s : State} (hk : a0.keeps s) :
    a0.keeps (State.tapIdcode s) := by
  unfold State.tapIdcode
  try dsimp only
  repeat' (first
    | with_reducible assumption
    | with_reducible apply State.tapTo_keeps
    | split
    | with_reducible apply State.keeps_mk
    | (intro _; intros; try dsimp only))

theorem State.tapBypass_keeps {a0 s : State} (hk : a0.keeps s) :
    a0.keeps (State.tapBypass s) := by
  unfold State.tapBypass
  try dsimp only
  repeat' (first
    | with_reducible assumption
    | with_reducible apply State.tapTo_keeps
    | split
    | with_reducible apply State.keeps_mk
    | (intro _; intros; try dsimp only))

theorem State.tapChal_keeps {a0 s : State} (hk : a0.keeps s) :
    a0.keeps (State.tapChal s) := by
  unfold State.tapChal
  try dsimp only
  repeat' (first
    | with_reducible assumption
    | with_reducible apply State.tapTo_keeps
    | split
    | with_reducible apply State.keeps_mk
    | (intro _; intros; try dsimp only))

theorem State.tokenUnlock_keeps {a0 s : State} (t : Nat → Nat) (sigOk : Bool) (hk : a0.keeps s) :
    a0.keeps (State.tokenUnlock s t sigOk) := by
  unfold State.tokenUnlock
  try dsimp only
  repeat' (first
    | with_reducible assumption
    | with_reducible apply State.unlockStatus_keeps
    | with_reducible apply State.cmdStart_keeps
    | with_reducible apply State.byCores_keeps
    | with_reducible apply State.unlockWith_keeps
    | split
    | with_reducible apply State.keeps_mk
    | (intro _; intros; try dsimp only))

theorem State.tapToken_keeps {a0 s : State} (ws : List Nat) (sigOk : Bool) (hk : a0.keeps s) :
    a0.keeps (State.tapToken s ws sigOk) := by
  unfold State.tapToken
  try dsimp only
  repeat' (first
    | with_reducible assumption
    | with_reducible apply State.tapTo_keeps
    | with_reducible apply State.tokenUnlock_keeps
    | split
    | with_reducible apply State.keeps_mk
    | (intro _; intros; try dsimp only))

theorem State.tapDbgPage_keeps {a0 s : State} (write : Bool) (off v : Nat) (hk : a0.keeps s) :
    a0.keeps (State.tapDbgPage s write off v) := by
  unfold State.tapDbgPage
  try dsimp only
  repeat' (first
    | with_reducible assumption
    | with_reducible apply State.tapBypass_keeps
    | with_reducible apply State.tapTo_keeps
    | with_reducible apply State.regWrite_keeps
    | with_reducible apply State.readTime_keeps
    | with_reducible apply State.readWord_keeps
    | with_reducible refine State.readWord_keeps_eq ?_ (by assumption)
    | split
    | with_reducible apply State.keeps_mk
    | (intro _; intros; try dsimp only))

theorem State.tapDbgCore_keeps {a0 s : State} (hk : a0.keeps s) :
    a0.keeps (State.tapDbgCore s) := by
  unfold State.tapDbgCore
  try dsimp only
  repeat' (first
    | with_reducible assumption
    | with_reducible apply State.tapBypass_keeps
    | with_reducible apply State.drawOpen_keeps
    | with_reducible refine State.drawOpen_keeps_eq ?_ (by assumption)
    | with_reducible apply State.tapTo_keeps
    | split
    | with_reducible apply State.keeps_mk
    | (intro _; intros; try dsimp only))

end Sys2Proof.Machine
end

