-- ==== Sys2Proof/Tests/Slice0.lean ====
section
/-!
SUPPORT. Tests of the author: small states, values that the spec works out, terms that are not well formed, and for each
statement with hypotheses states and operands that meet them, clause by clause.
-/
set_option Elab.async false

set_option linter.unusedVariables false
open Sys2Proof Sys2Proof.Machine
namespace Sys2Proof.Tests

/-! ### Small states -/

/-- Out of reset, in a device mode, with every byte of BAR2 at its reset contents. -/
def inMode (m : Mode) : State := { State.reset with
  inReset := false
  mode := m
  undef := [] }

/-- The two arguments of a page's command. -/
def arg (s : State) (p a b : Nat) : State := (s.wr p PAGE_ARG0_ARG0 a).wr p PAGE_ARG1_ARG1 b

/-- The command of a code runs on a page. -/
def busy (s : State) (p code : Nat) : State := (s.wr p PAGE_STAT_BUSY 1).wr p PAGE_CMD_CODE code

/-- The link of a partner port is up and its function may write to memory. -/
def linked (s : State) (n : Nat) : State :=
  (s.wr (ppPg n) PP_LINK_SPEED 5).modPp n fun x => { x with bme := true }

/-- Port 5 in a port mode and an error state. -/
def portIn (m : Mode) (pm es : Nat) (x : PortState) : State :=
  (({ inMode m with ports := mapSet {} [] 5 x }).wr (portPg 5) PORT_MODE_MODE pm).wr (portPg 5) PORT_ESTATE_STATE es

/-- A LOW object of port 5. -/
def lowJob (st : Stage) : Job :=
  { cl := 0, idx := 3, lead := 5, kind := .low, id := 0x123, long := false, len := 4, rung := 0, aud := false
    data := [1, 2, 3, 4], tgt := 2, res := .resident, elig := 1, ports := [{ port := 5, stage := st }] }

/-- A COMET object of port 5 whose tail lies in partner memory. -/
def tailJob (r : Residency) : Job := { lowJob .pending with
  kind := .comet
  len := 63
  src := 0
  chan := 1
  data := []
  res := r }

/-- Port 5 in NORMAL with that object in use. -/
def withJob (m : Mode) (es : Nat) (x : PortState) (st : Stage) : State :=
  { portIn m 2 es x with jobs := [(7, lowJob st)], nextUid := 9 }

/-- A head of a LOW and of a COMET frame of another sender. -/
def lowHead : Head :=
  { id := 0x123, long := false, snd := 9, kind := .low, rung := 0, len := 4, epi := false, aud := false }
def cometHead : Head := { lowHead with
  kind := .comet
  len := 0 }

/-- The object of `withJob` on the bus. -/
def ownFrame : BusFrame := { head := lowHead, own := some (.job 7), data := [1, 2, 3, 4] }

/-- The words of a table entry. -/
def words (s : State) (a : Nat) (ws : List Nat) : State := s.mputs a (ws.flatMap bytesOf)

/-- Element 4 of cluster 0 takes the identifier 0x123 to RX FIFO 6, which has target 2. -/
def fifoS (s : State) : State :=
  (((words s (filterBase 0 + 64) [0x01000012, 0x123, 0x123, 6]).wr (clPg 0) RXF_CFG_EN 1 6).wr
    (clPg 0) RXF_CFG_LOG2 3 6).wr (clPg 0) RXF_CFG_TGT 2 6 |>.wr (tnPg 2) T_RING_CFG_EN 1

/-- Port 5, in NORMAL, with element 4 alone in its list; with the template of object 6 of its cluster. -/
def listS (x : PortState) (e : List Nat) : State :=
  words (words (fifoS (((portIn .run 2 2 x).wr (portPg 5) PORT_FLT_LIST_FIRST 4).wr (portPg 5) PORT_FLT_LIST_COUNT 1))
    (filterBase 0 + 64) e) (objectBase 0 + 192) [0x1000, 0, 2, 0x60]
def nextUpIn : PortState := { cur := some { head := cometHead, own := none } }

/-- A channel's configuration, and a channel of cluster 1 with it. -/
def chanC (push wrap credit : Bool) : ChanCfg :=
  { pp := 0, push := push, noSnoop := false, wrap := wrap, credit := credit, burst := 8, elem := 256, base := 0x10000
    c0 := 4, c1 := 1, c2 := 1, s0 := 256, s1 := 0, s2 := 0 }
def chanS (m : Nat) (x : ChanState) : State := linked { inMode .run with chans := [(m, x)] } 0

/-- A transfer of 512 bytes, and a burst of one. -/
def xferR : Req := { kind := .xfer, len := 512, store := 0x801000, useDesc := true }
def readB : Burst := { num := 3, req := .xfer, paddr := 0x10000, store := 0x801000, off := 0, len := 8 }
def fetchR : Req := { kind := .fetch 7, len := 256, store := 0, useDesc := false }

/-- Words of MRAM. -/
def mwords (s : State) (a : Nat) (ws : List Nat) : State := s.mramPuts a ((ws.flatMap bytesOf).map BitVec.toNat)

/-- A staged image of three parts, tag 7, five pieces: the bytes of its manifest that are not 0. -/
def staged (s : State) (st : Nat) : State :=
  ((({ s with
    mram := [(0x600000, 71), (0x600001, 88), (0x600002, 77), (0x600003, 70), (0x600004, 1), (0x600008, 7),
      (0x60000C, 5), (0x600010, 3), (0x600012, 1), (0x600013, 2), (0x600014, 2), (0x600016, 3), (0x600018, 40),
      (0x600019, 1), (0x60001A, 176), (0x60001C, 3), (0x600040, 1), (0x600045, 16), (0x600049, 24), (0x60004D, 16),
      (0x600080, 2), (0x600085, 48), (0x600089, 16), (0x60008D, 48), (0x6000C0, 3), (0x6000C5, 64), (0x6000C9, 16),
      (0x6000CD, 64)] } : State).wr updPg UPD_TAG_TAG 7).wr updPg UPD_COUNT_N 5).wr updPg UPD_STAGE_STATE st

/-- The UPD page of a device that receives five pieces under tag 7. -/
def receiving (m : Mode) : State :=
  (((inMode m).wr updPg UPD_STAGE_STATE stReceiving).wr updPg UPD_TAG_TAG 7).wr updPg UPD_COUNT_N 5

/-- Piece 3 of them. -/
def piece3 : List Byte := ([0x43505847, 7, 3, 5].flatMap bytesOf) ++ List.replicate 4144 0x5A

/-- A settings image without records, and with its generation in slot 0. -/
def image : List Byte := [0x54535847, 0, 64, 0, 1747664220, 0, 0, 0, 0, 0, 0, 0, 0, 0, 0, 0].flatMap bytesOf
def slotS (m : Mode) : State :=
  mwords (inMode m) 0xC00000 [0x54535847, 0, 64, 5, 1747664220, 0, 0, 0, 0, 0, 0, 0, 0, 0, 0, 0]

/-- A settings load of one record. -/
def loadOf (r : List Nat) : SetLoad :=
  { image := [0x54535847, 0, 80, 0, 0, 0, 1] ++ List.replicate 9 0 ++ r, boot := false }
def loadS (r : List Nat) : State := (({ inMode .configure with load := some (loadOf r) }).wr updPg PAGE_STAT_BUSY 1).wr updPg
  PAGE_CMD_CODE 7

/-- A source of target 2. -/
def srcS (m : Mode) (key : Nat) (x : IntSrc) : State := { inMode m with srcs := [(key, x)] }
def pend : IntSrc := { en := true, tgt := 2, level := 3, count := 2 }

/-- The time base in a state. -/
def rtS (m : Mode) (r : Raster) : State := { inMode m with rt := r }

/-- The words of a token for this device with its reset challenge, in the registers of the SEC page and on the TAP. -/
def tokenRegs : List (Nat × Nat) :=
  [(fieldKey secPg SEC_TOKEN_BYTES 0, 0x4C555847), (fieldKey secPg SEC_TOKEN_BYTES 1, 1),
    (fieldKey secPg SEC_TOKEN_BYTES 2, Config.uid.toNat % 2 ^ 32), (fieldKey secPg SEC_TOKEN_BYTES 3, Config.uid.toNat / 2 ^ 32)]
def tokenWords : List Word :=
  [0x4C555847, 1, BitVec.ofNat 32 (Config.uid.toNat % 2 ^ 32), BitVec.ofNat 32 (Config.uid.toNat / 2 ^ 32)] ++
    List.replicate 28 0

def tokenS : State := { inMode .configure with regs := tokenRegs }

theorem token_matches : tokenS.tokenMatches (tokenS.rd secPg SEC_TOKEN_BYTES ·) = true := by
  have h2 : tokenS.rd secPg SEC_TOKEN_BYTES 2 = Config.uid.toNat % 2 ^ 32 := by with_unfolding_all rfl
  have h3 : tokenS.rd secPg SEC_TOKEN_BYTES 3 = Config.uid.toNat / 2 ^ 32 := by with_unfolding_all rfl
  have h0 : (tokenS.rd secPg SEC_TOKEN_BYTES 0 == 0x4C555847) = true := by decide +kernel
  have h1 : (tokenS.rd secPg SEC_TOKEN_BYTES 1 == 1) = true := by decide +kernel
  simp only [State.tokenMatches, h0, h1, h2, h3, beq_self_eq_true, Bool.and_self, Bool.true_and]
  decide +kernel

theorem token_words_match :
    (inMode .configure).tokenMatches ((tokenWords.map BitVec.toNat).getD · 0) = true := by
  have h : ∀ x : BitVec 64, x.toNat / 2 ^ 32 % 2 ^ 32 = x.toNat / 2 ^ 32 := fun x => by omega
  simp only [State.tokenMatches, tokenWords, List.map_append, List.map_cons, List.map_nil, BitVec.toNat_ofNat, h]
  simp
  decide +kernel

theorem sound_run : (inMode .run).sound := ⟨by decide +kernel, by decide +kernel, by decide +kernel, fun h => nomatch h⟩

/-- Every check of R440 passes on the staged image. -/
theorem staged_ok : (staged (inMode .run) 2).checkStaged true true = 0 := by decide +kernel

/-! ### Values that the spec works out -/

/-- What the only completion of a register read carries. -/
def answer (c : Instr) (s : State) : Option Out :=
  match exec c s with
  | .next t => t.out.head?
  | _ => none

/-- The page identities and the strapped owner of the example of R525. -/
theorem test_page_id :
    [(portPg 93), (movPg 173), (ephPg 5), (tnPg 6)].map (State.reset.wordView · 0) =
      [0x0F05D001, 0x110AD001, 0x0D005001, 0x06006001] ∧ State.reset.wordView (tnPg 6) 4 = 4 := by decide +kernel

/-- The configuration words of line 10 in the example of R393. -/
theorem test_line_config :
    State.reset.wordView fcoPg 0x0D0 = 0x3E808533 ∧ State.reset.wordView fcoPg 0x0D4 = 0x3210 := by decide +kernel

/-- The claim of RECORD with 34 events at level 6 (example of R354). -/
theorem test_claim_word :
    answer (.tClaim 1 5) (srcS .run (privKey 5 1) { en := true, tgt := 5, level := 6, count := 34 }) =
      some (.regData 1 0xF048 0x00622FF1) := by decide +kernel

/-- The tail lengths and windows of the examples of R97, R103 and R140. -/
theorem test_tails :
    tailBlocks 1023 = 257 ∧ tailLength 1023 = 17506 ∧ tailLength 16383 = 270946 ∧ tailWindow 16383 2 160 = 43 ∧
      tailWindow 12763 3 40 = 67 ∧ tailWindow 16383 3 40 = 85 := by decide +kernel

/-- The descriptor of the example of R286: elements 0, 7, 8, 31, 32 and 63, and the wrap of the 65th tail. -/
def wall : ChanCfg :=
  { pp := 0, push := false, noSnoop := false, wrap := true, credit := false, burst := 12, elem := 0x10000
    base := 0x2040180000, c0 := 8, c1 := 4, c2 := 2, s0 := 0x10000, s1 := -0x80000, s2 := 0x200000 }
theorem test_elements :
    [0, 7, 8, 31, 32, 63].map wall.addr =
      [0x2040180000, 0x20401F0000, 0x2040100000, 0x2040070000, 0x2040380000, 0x2040270000] ∧
    wall.after 63 1 = 0 ∧ wall.elems 40960 = 1 := by decide +kernel

/-- The check column of R468 over "123456789". -/
def digits : List Byte := [0x31, 0x32, 0x33, 0x34, 0x35, 0x36, 0x37, 0x38, 0x39]
theorem test_check_values :
    [3, 4, 5].map (fun a => (((inMode .run).wr (cvPg 2) CV_CFG_ALG a).cvAlg 2).map fun g => g.result (g.run 0 g.init digits)) =
      [some 0xE3069283, some 0xCBF43926, some 0x995DC9BBDF1939FA] ∧ tcrc digits = 0xE3069283 := by decide +kernel

/-- Arbitration of the example of R115: A's short 0x12A with SND 3 before SND 7, before the long one, before 0x130. -/
theorem test_arbitration :
    arbKey 0x12A false 3 < arbKey 0x12A false 7 ∧ arbKey 0x12A false 7 < arbKey 0x4A80123 true 0 ∧
      arbKey 0x4A80123 true 0 < arbKey 0x130 false 0 := by decide +kernel

/-- A head and a LOW frame that carry their check values leave a remainder of 0 (R85, R88). -/
theorem test_residues :
    hcrc (headBits lowHead) = 0 ∧ lcrc (lowBits lowHead [1, 2, 3, 4]) = 0 := by decide +kernel

/-- BEGIN with the tag and N of what is held answers how many pieces are (example of R446). -/
theorem test_begin_again :
    (match exec (.begin 0) (arg ((((inMode .run).wr updPg UPD_STAGE_STATE stReceiving).wr updPg UPD_TAG_TAG 7 |>.wr updPg
        UPD_COUNT_N 1300).wr updPg UPD_STAGE_HELD 870) updPg 7 1300) with
      | .next t => t.rd updPg PAGE_RESULT_DETAIL
      | _ => 0) = 870 := by decide +kernel

/-- The sixteenth frame without an acknowledgement makes the port error passive (example of R153). -/
theorem test_ack_errors :
    (match exec (.busError 5 .ack false true 0 0 false)
        ((withJob .run 2 { cur := some ownFrame } .won).wr (portPg 5) PORT_ECNT_TEC 120) with
      | .next t => (t.rd (portPg 5) PORT_ECNT_TEC, t.estate 5)
      | _ => (0, 0)) = (128, esPassive) := by decide +kernel

/-- A write of a read-only register has no effect and is not counted as refused (R8). -/
theorem test_read_only :
    (match exec (.registerWrite 0 0x83010 false 0xFF) (inMode .run) with
      | .next t => (t.rd 0x83 PAGE_RESULT_STATUS, t.rd 0x83 PAGE_STAT_ERR)
      | _ => (9, 9)) = (0, 0) := by decide +kernel

/-- JTAG stays locked: DBG_PAGE selects BYPASS while DEBUG_OPEN is 0 (R458). -/
theorem test_debug_locked :
    (match exec (.dbgPage false 0x83000 0) (inMode .run) with
      | .next t => some t.tap.ir
      | _ => none) = some .bypass := by decide +kernel

/-- No row of the table gives bits. -/
theorem test_no_bits : decodeTableWord 32 0x12345678 = none := rfl

/-! ### Terms that are not well formed -/

/-- Each check of `wellFormed` refuses one. -/
theorem test_ill_formed :
    [Instr.linkUp 0 0 true 0, .registerWrite 0 2 false 0, .registerWrite 0 4 true 0, .rcRead 0 1 false,
      .dbgPage false 3 0, .pageFenceWrite 0 0x2C 0, .bar2StoreWrite 0 0 [], .bar2StoreWrite 0 0x3FFFFFF [some 0, some 0],
      .bar2TableWrite 0 0x4000000 [], .bar2TableWrite 0 0x4000002 [0], .bar2TableWrite 0 0x3FFFFFC [0],
      .bar2Read 0 0 0 [], .bar2Read 0 0 4097 [], .bar2Read 0 0 4 [(8, .corrected)],
      .moonWakeCondition 5 (.frame { lowHead with id := 0x800 } []), .portWakeCondition 5 (.frame { lowHead with len := 17 } []),
      .headReceived 5 { lowHead with kind := .sync, len := 7 } true 0 0 0 [],
      .tailEnd 5 (List.replicate 65537 0) 0 true none, .frameCommit 5 (List.replicate 65537 0),
      .portTxDb 0 5 0 [(8192, .corrected)], .eyeScanDone 5 [], .eyeScanTimeout 5 [0], .burstIssue 33 [(0x4000004, .corrected)],
      .readCompletion 33 0 (List.replicate 4097 0) 0, .scrubAccess 8 none, .snapshotDue [], .mramRefreshCheck 4 none,
      .pieceDone [] true, .token [] true, .scanDone 2 [] [(4, .corrected)] 0].all (fun c => c.wellFormed == false) = true := by
  decide +kernel
/-- And their neighbours are well formed. -/
theorem test_well_formed :
    [Instr.linkUp 0 1 true 0, .registerWrite 0 4 false 0, .registerWrite 0 8 true 0, .pageFenceWrite 0 0x30 0,
      .bar2StoreWrite 0 0x3FFFFFF [some 0], .bar2TableWrite 0 0x4000004 [0], .bar2Read 0 0 4096 [(32, .corrected)],
      .headReceived 5 lowHead true 0 0 0 [], .tailEnd 5 [1, 2, 3, 4] 0 true none, .scrubAccess 32 none].all
      (fun c => c.wellFormed) = true := by decide +kernel

/-! ### The hypotheses of each statement can be met -/

theorem wit_ResetsClearTheDevice :
    (∃ (s : State) (r : Instr),
      (s.faults = []) ∧ (r = .powerOnReset ∨ r = .vddaonDrop)) ∧
    (∃ (s : State) (r : Instr),
      (s.faults = []) ∧ (r = .powerOnReset ∨ r = .vddaonDrop) ∧ (r = .vddaonDrop)) ∧
    (∃ (s : State) (pp : PPort) (c : RstCause) (r : Instr),
      (s.faults = []) ∧ (s.chip.aonDown = false) ∧ ((∃ i : Fin 6, r = .supplyDrop i ∧ groupBC i = true ∧
        s.mode ≠ .dormant ∧ c = .supply) ∨ (r = .resetNAssert ∧ c = .resetN) ∨ (r = .perstAssert pp ∧
        pp.val = s.chip.primary ∧ s.mode ≠ .dormant ∧ c = .perst) ∨ (r = .devReset pp ∧ s.opens pp crpPg ∧
        s.arg0 crpPg = 0x47580128 ∧ c = .devReset))) ∧
    (∃ (s : State) (pp : PPort) (c : RstCause) (r : Instr),
      (s.faults = []) ∧ (s.chip.aonDown = false) ∧ ((∃ i : Fin 6, r = .supplyDrop i ∧ groupBC i = true ∧
        s.mode ≠ .dormant ∧ c = .supply) ∨ (r = .resetNAssert ∧ c = .resetN) ∨ (r = .perstAssert pp ∧
        pp.val = s.chip.primary ∧ s.mode ≠ .dormant ∧ c = .perst) ∨ (r = .devReset pp ∧ s.opens pp crpPg ∧
        s.arg0 crpPg = 0x47580128 ∧ c = .devReset)) ∧ (pp = 1) ∧ (c = .resetN) ∧ (r = .resetNAssert)) ∧
    (∃ (s : State) (pp : PPort) (c : RstCause) (r : Instr),
      (s.faults = []) ∧ (s.chip.aonDown = false) ∧ ((∃ i : Fin 6, r = .supplyDrop i ∧ groupBC i = true ∧
        s.mode ≠ .dormant ∧ c = .supply) ∨ (r = .resetNAssert ∧ c = .resetN) ∨ (r = .perstAssert pp ∧
        pp.val = s.chip.primary ∧ s.mode ≠ .dormant ∧ c = .perst) ∨ (r = .devReset pp ∧ s.opens pp crpPg ∧
        s.arg0 crpPg = 0x47580128 ∧ c = .devReset)) ∧ (c = .perst) ∧ (r = .perstAssert 0)) ∧
    (∃ (s : State) (pp : PPort) (c : RstCause) (r : Instr),
      (s.faults = []) ∧ (s.chip.aonDown = false) ∧ ((∃ i : Fin 6, r = .supplyDrop i ∧ groupBC i = true ∧
        s.mode ≠ .dormant ∧ c = .supply) ∨ (r = .resetNAssert ∧ c = .resetN) ∨ (r = .perstAssert pp ∧
        pp.val = s.chip.primary ∧ s.mode ≠ .dormant ∧ c = .perst) ∨ (r = .devReset pp ∧ s.opens pp crpPg ∧
        s.arg0 crpPg = 0x47580128 ∧ c = .devReset)) ∧ (c = .devReset) ∧ (r = .devReset 0)) :=
  ⟨⟨(inMode .run).wr updPg UPD_TAG_TAG 5, .powerOnReset,
      by decide +kernel⟩,
    ⟨(inMode .run).wr updPg UPD_TAG_TAG 5, .vddaonDrop,
      by decide +kernel⟩,
    ⟨inMode .configure, 0, .supply, .supplyDrop 0,
      by unfold State.opens; decide +kernel⟩,
    ⟨inMode .run, 1, .resetN, .resetNAssert,
      by unfold State.opens; decide +kernel⟩,
    ⟨inMode .run, 0, .perst, .perstAssert 0,
      by unfold State.opens; decide +kernel⟩,
    ⟨arg (inMode .configure) crpPg 0x47580128 0, 0, .devReset, .devReset 0,
      by unfold State.opens; decide +kernel⟩⟩

theorem wit_DevicesStartFromVerifiedCode :
    (∃ (s : State) (straps : BitVec 6) (present : BitVec 4) (ref : Nat),
      (s.faults = []) ∧ (s.inReset = true) ∧ (s.mode = .loader) ∧ (s.chip.aonDown = false) ∧ (s.chip.low = 0) ∧
        (s.chip.outRange = 0) ∧ (releaseRef straps.toNat present.toNat = some ref) ∧ (s.fuses.unlockPend = false) ∧
        (s.rd updPg UPD_JOURNAL_PHASE ≠ 1) ∧ (s.rd updPg UPD_JOURNAL_PHASE ≠ 2)) ∧
    (∃ (s : State) (straps : BitVec 6) (present : BitVec 4),
      (s.faults = []) ∧ (s.inReset = true) ∧ (releaseRef straps.toNat present.toNat = none)) ∧
    (∃ (s : State) (straps : BitVec 6) (present : BitVec 4) (ref : Nat) (c : RstCause),
      (s.faults = []) ∧ (s.inReset = false) ∧ (s.moving = none) ∧ (s.mode = .dormant) ∧ (s.chip.wake = some c) ∧
        (s.chip.aonDown = false) ∧ (s.chip.low = 0) ∧ (s.chip.outRange = 0) ∧
        (releaseRef straps.toNat present.toNat = some ref) ∧ (s.fuses.unlockPend = false) ∧
        (s.rd updPg UPD_JOURNAL_PHASE ≠ 1) ∧ (s.rd updPg UPD_JOURNAL_PHASE ≠ 2)) ∧
    (∃ (s : State) (a : Bool) (b : Bool),
      (s.faults = []) ∧ (s.inReset = false) ∧ (s.mode = .loader) ∧ (s.loaderFault = false) ∧ (s.checkCode a b = 0)) ∧
    (∃ (s : State) (a : Bool) (b : Bool),
      (s.faults = []) ∧ (s.inReset = false) ∧ (s.mode = .loader) ∧ (s.loaderFault = false) ∧ (s.checkCode a b ≠ 0) ∧
        (s.rd updPg UPD_STAGE_STATE ≠ stActive)) ∧
    (∃ (s : State) (a : Bool) (b : Bool),
      (s.faults = []) ∧ (s.inReset = false) ∧ (s.mode = .loader) ∧ (s.loaderFault = false) ∧ (s.chip.aonDown = false) ∧
        (s.checkCode a b ≠ 0) ∧ (s.rd updPg UPD_STAGE_STATE = stActive)) ∧
    (∃ (s : State),
      (s.faults = []) ∧ (s.stalled = false) ∧ (s.down = false) ∧ (s.mode ≠ .loader) ∧ (s.mode ≠ .update) ∧
        (s.rd updPg UPD_JOURNAL_PHASE = 2) ∧ (s.rd crpPg CRP_CLK_CL_LOCK = 255)) ∧
    (∃ (s : State),
      (s.faults = []) ∧ (s.down = false) ∧ (s.loaderFault = false) ∧ (s.chip.aonDown = false) ∧
        (s.rd updPg UPD_JOURNAL_PHASE = 2) ∧ (s.rd updPg UPD_JOURNAL_ATTEMPTS < 3)) :=
  ⟨⟨State.reset, 0x2D, 15, 3,
      by decide +kernel⟩,
    ⟨State.reset, 0, 0,
      by decide +kernel⟩,
    ⟨{ inMode .dormant with chip := { wake := some .wake, moon := [(5, [1])] } }, 0x2D, 15, 3, .wake,
      by decide +kernel⟩,
    ⟨inMode .loader, true, true,
      by decide +kernel⟩,
    ⟨inMode .loader, false, true,
      by decide +kernel⟩,
    ⟨(inMode .loader).wr updPg UPD_STAGE_STATE 4, true, false,
      by decide +kernel⟩,
    ⟨((inMode .configure).wr updPg UPD_JOURNAL_PHASE 2).wr crpPg CRP_CLK_CL_LOCK 255,
      by decide +kernel⟩,
    ⟨((inMode .configure).wr updPg UPD_JOURNAL_PHASE 2).wr updPg UPD_JOURNAL_ATTEMPTS 2,
      by decide +kernel⟩⟩

theorem wit_ActivationCopiesChunks :
    (∃ (s : State) (p : Part) (o : Nat) (n : Nat),
      (s.faults = []) ∧ (s.stalled = false) ∧ (s.mode = .update) ∧ (s.rd updPg UPD_JOURNAL_PHASE = 1) ∧
        (s.rd updPg UPD_JOURNAL_PART ≠ 15) ∧ (p = s.mfPart stageBase (s.rd updPg UPD_JOURNAL_PART)) ∧
        (o = s.rd updPg UPD_JOURNAL_CHUNK * 4096) ∧ (n = min 4096 (p.len - o)) ∧
        (s.mramBroken (stageBase + p.off + o) n = false)) ∧
    (∃ (s : State),
      (s.faults = []) ∧ (s.stalled = false) ∧ (s.mode = .update) ∧ (s.rd updPg UPD_JOURNAL_PHASE = 1) ∧
        (s.rd updPg UPD_JOURNAL_PART = 15) ∧ (s.chip.aonDown = false) ∧ (s.mramBroken stageBase 4096 = false)) :=
  ⟨⟨(staged (inMode .update) 3).wr updPg UPD_JOURNAL_PHASE 1, ⟨1, 0x1000, 0x1800, 0x1000⟩, 0, 4096,
      by decide +kernel⟩,
    ⟨((staged (inMode .update) 3).wr updPg UPD_JOURNAL_PHASE 1).wr updPg UPD_JOURNAL_PART 15,
      by decide +kernel⟩⟩

theorem wit_SuppliesTrimAndTemperatureAreWatched :
    (∃ (s : State) (i : Fin 6) (r : Instr),
      (s.faults = []) ∧ (s.down = false) ∧ (s.chip.outRange.testBit i = false) ∧ (r = .supplyOutOfRange i ∨
        (r = .supplyDrop i ∧ groupBC i = false))) ∧
    (∃ (s : State) (i : Fin 6) (r : Instr),
      (s.faults = []) ∧ (s.down = false) ∧ (s.chip.outRange.testBit i = false) ∧ (r = .supplyOutOfRange i ∨
        (r = .supplyDrop i ∧ groupBC i = false)) ∧ (r = .supplyDrop 2)) ∧
    (∃ (s : State) (i : Fin 6),
      (s.faults = []) ∧ (s.down = false) ∧ (s.chip.outRange.testBit i = true)) ∧
    (∃ (s : State) (dev : BitVec 16),
      (s.faults = []) ∧ (s.down = false) ∧ (s.chip.refs.testBit (s.rd crpPg CRP_CLK_ACTIVE) = true)) ∧
    (∃ (s : State) (dev : BitVec 16),
      (s.faults = []) ∧ (s.down = false) ∧ (s.chip.refs.testBit (s.rd crpPg CRP_CLK_ACTIVE) = true) ∧ (dev = 5)) ∧
    (∃ (s : State) (tj : Byte) (corr : BitVec 16) (top : Nat),
      (s.faults = []) ∧ (s.down = false) ∧ (top = (mapGet? s.sinceRead 16).getD (s.rd crpPg CRP_THERM_TJ_MAX))) ∧
    (∃ (s : State) (tj : Byte) (corr : BitVec 16) (top : Nat),
      (s.faults = []) ∧ (s.down = false) ∧ (top = (mapGet? s.sinceRead 16).getD (s.rd crpPg CRP_THERM_TJ_MAX)) ∧
        (tj = 0xF0) ∧ (corr = 0xFFFF) ∧ (top = 90)) :=
  ⟨⟨inMode .configure, 2, .supplyOutOfRange 2,
      by decide +kernel⟩,
    ⟨{ inMode .run with chip := { outRange := 1 } }, 2, .supplyDrop 2,
      by decide +kernel⟩,
    ⟨{ inMode .configure with chip := { outRange := 4, low := 4 } }, 2,
      by decide +kernel⟩,
    ⟨inMode .run, 0xFF6A,
      by decide +kernel⟩,
    ⟨inMode .run, 5,
      by decide +kernel⟩,
    ⟨portIn .run 2 2 { tailTime := [(2, 3000000)] }, 118, 41, 0,
      by decide +kernel⟩,
    ⟨{ inMode .run with sinceRead := [(16, 90)] }, 0xF0, 0xFFFF, 90,
      by decide +kernel⟩⟩

theorem wit_PllLossesAreReported :
    (∃ (s : State),
      (s.faults = []) ∧ (s.down = false)) ∧
    (∃ (s : State) (c : Cl),
      (s.faults = []) ∧ (s.down = false) ∧ (s.fencedCl c = false)) ∧
    (∃ (s : State) (c : Cl),
      (s.faults = []) ∧ (s.down = false) ∧ (s.fencedCl c = true)) ∧
    (∃ (s : State) (c : Nat),
      (s.faults = []) ∧ (s.unfencing = some c)) :=
  ⟨⟨inMode .run,
      by decide +kernel⟩,
    ⟨inMode .run, 3,
      by decide +kernel⟩,
    ⟨(inMode .configure).wr devPg DEV_CLUSTERS_FENCED 8, 3,
      by decide +kernel⟩,
    ⟨{ busy (inMode .configure) fcoPg 1 with unfencing := some 3 }, 3,
      by decide +kernel⟩⟩

theorem wit_ClocksFollowTheirReferences :
    (∃ (s : State),
      (s.faults = []) ∧ (s.down = false) ∧ (s.chip.refs.testBit (s.rd crpPg CRP_CLK_ACTIVE) = true) ∧
        (s.linkUp (s.rd crpPg CRP_CLK_ACTIVE) = true)) ∧
    (∃ (s : State),
      (s.faults = []) ∧ (s.down = false) ∧ (s.chip.refs.testBit (s.rd crpPg CRP_CLK_ACTIVE) = true) ∧
        (s.linkUp (s.rd crpPg CRP_CLK_ACTIVE) = false)) ∧
    (∃ (s : State),
      (s.faults = []) ∧ (s.down = false) ∧ (s.flag crpPg CRP_CLK_HOLDOVER = true) ∧ (s.chip.relock = none)) ∧
    (∃ (s : State) (i : Fin 4),
      (∀ n < 128, ∀ m c, (s.port n).move ≠ some (.hold m c)) ∧ (s.faults = []) ∧ (s.down = false) ∧
        (i.val = s.rd crpPg CRP_CLK_ACTIVE) ∧ (s.unlocked = true) ∧ (s.chip.relock = none)) ∧
    (∃ (s : State) (i : Fin 4),
      (s.faults = []) ∧ (s.down = false) ∧ (i.val ≠ s.rd crpPg CRP_CLK_ACTIVE ∨ s.unlocked = false)) ∧
    (∃ (s : State) (i : Fin 4),
      (s.faults = []) ∧ (s.down = false) ∧ (i.val ≠ s.rd crpPg CRP_CLK_ACTIVE ∨ s.unlocked = false) ∧ (i = 0)) ∧
    (∃ (s : State) (c : Cl),
      (s.faults = []) ∧ (s.down = false) ∧ (s.mode ≠ .loader) ∧ (s.fencedCl c = false)) ∧
    (∃ (s : State) (pp : PPort),
      (s.opens pp crpPg) ∧ (s.setRefOk = true) ∧ (s.chip.refs.testBit (s.arg0 crpPg % 4) = true)) ∧
    (∃ (s : State) (pp : PPort),
      (s.opens pp crpPg) ∧ (s.setRefOk = true) ∧ (s.chip.refs.testBit (s.arg0 crpPg % 4) = false)) ∧
    (∃ (s : State),
      (s.faults = []) ∧ (s.down = false) ∧ (s.chip.relock = none) ∧ (s.unlocked = false)) ∧
    (∃ (s : State) (r : Nat),
      (∀ n < 128, ∀ m c, (s.port n).move ≠ some (.hold m c)) ∧ (s.faults = []) ∧ (s.down = false) ∧
        (s.chip.relock = some ⟨r, false⟩) ∧ (r < 4) ∧ (s.chip.refs.testBit r = true)) ∧
    (∃ (s : State) (r : Nat),
      (∀ n < 128, ∀ m c, (s.port n).move ≠ some (.hold m c)) ∧ (s.faults = []) ∧ (s.down = false) ∧ (s.stalled = false) ∧
        (s.chip.relock = some ⟨r, true⟩) ∧ (r < 4) ∧ (s.chip.refs.testBit r = true) ∧
        (s.flag crpPg PAGE_STAT_BUSY = true) ∧ (s.rd crpPg PAGE_CMD_CODE = 1)) :=
  ⟨⟨(linked (inMode .run) 0),
      by decide +kernel⟩,
    ⟨inMode .run,
      by decide +kernel⟩,
    ⟨(inMode .run).wr crpPg CRP_CLK_HOLDOVER 1,
      by decide +kernel⟩,
    ⟨(inMode .run).wr crpPg CRP_CLK_HOLDOVER 1 |>.wr crpPg CRP_CLK_CORE_LOCK 0, 0,
      (fun _ _ _ _ h => nomatch (show (none : Option PortMove) = some _ from h)), by decide +kernel⟩,
    ⟨inMode .run, 2,
      by decide +kernel⟩,
    ⟨inMode .run, 0,
      by decide +kernel⟩,
    ⟨inMode .run, 3,
      by decide +kernel⟩,
    ⟨arg (inMode .configure) crpPg 2 0, 0,
      by unfold State.opens; decide +kernel⟩,
    ⟨arg { inMode .configure with chip := { refs := 11 } } crpPg 2 0, 0,
      by unfold State.opens; decide +kernel⟩,
    ⟨inMode .run,
      by decide +kernel⟩,
    ⟨{ inMode .run with chip := { relock := some ⟨2, false⟩ } }, 2,
      (fun _ _ _ _ h => nomatch (show (none : Option PortMove) = some _ from h)), by decide +kernel⟩,
    ⟨busy { inMode .configure with chip := { relock := some ⟨2, true⟩ } } crpPg 1, 2,
      (fun _ _ _ _ h => nomatch (show (none : Option PortMove) = some _ from h)), by decide +kernel⟩⟩

theorem wit_StagingIsFilledByPieces :
    (∃ (s : State) (pp : PPort) (n : Nat),
      (s.opens pp updPg) ∧ (s.stalled = false) ∧ (s.updOk = true) ∧ (n = s.arg1 updPg % 2 ^ 11) ∧ (1 ≤ n) ∧ (n ≤ 1536) ∧
        (¬(s.rd updPg UPD_STAGE_STATE ≠ stEmpty ∧ s.rd updPg UPD_TAG_TAG = s.arg0 updPg ∧ s.rd updPg UPD_COUNT_N = n))) ∧
    (∃ (s : State) (pp : PPort) (n : Nat),
      (s.opens pp updPg) ∧ (s.stalled = false) ∧ (s.updOk = true) ∧ (n = s.arg1 updPg % 2 ^ 11) ∧ (1 ≤ n) ∧ (n ≤ 1536) ∧
        (s.rd updPg UPD_STAGE_STATE ≠ stEmpty) ∧ (s.rd updPg UPD_TAG_TAG = s.arg0 updPg) ∧ (s.rd updPg UPD_COUNT_N = n)) ∧
    (∃ (s : State) (pp : PPort),
      (s.opens pp updPg) ∧ (s.stalled = false) ∧ (s.updOk = true) ∧ (s.arg1 updPg % 2 ^ 11 = 0 ∨
        1536 < s.arg1 updPg % 2 ^ 11)) ∧
    (∃ (s : State) (pp : PPort),
      (s.opens pp updPg) ∧ (s.stalled = false) ∧ (s.updOk = true)) ∧
    (∃ (s : State) (pp : PPort),
      (s.opens pp updPg) ∧ (s.stalled = false) ∧ (s.updOk = true) ∧ ((s.arg0 updPg + s.arg1 updPg * 2 ^ 32) % 64 = 0)) ∧
    (∃ (s : State) (pp : PPort),
      (s.opens pp updPg) ∧ (s.stalled = false) ∧ (s.updOk = true) ∧ ((s.arg0 updPg + s.arg1 updPg * 2 ^ 32) % 64 ≠ 0)) ∧
    (∃ (s : State) (data : List Byte) (i : Nat),
      (s.faults = []) ∧ (s.down = false) ∧ (s.stalled = false) ∧ (s.runningCode updPg = some 2) ∧ (data.length = 4160) ∧
        (wordOf data 0 = 0x43505847) ∧ (s.rd updPg UPD_STAGE_STATE ≠ stEmpty) ∧ (wordOf data 1 = s.rd updPg UPD_TAG_TAG) ∧
        (i = wordOf data 2) ∧ (wordOf data 3 = s.rd updPg UPD_COUNT_N) ∧ (i < s.rd updPg UPD_COUNT_N) ∧ (i < 1536) ∧
        (s.held i = false)) ∧
    (∃ (s : State) (data : List Byte),
      (s.faults = []) ∧ (s.down = false) ∧ (s.stalled = false) ∧ (s.runningCode updPg = some 2) ∧ (data.length = 4160) ∧
        (wordOf data 0 = 0x43505847) ∧ (s.rd updPg UPD_STAGE_STATE ≠ stEmpty) ∧ (wordOf data 1 = s.rd updPg UPD_TAG_TAG) ∧
        (wordOf data 3 = s.rd updPg UPD_COUNT_N) ∧ (wordOf data 2 < s.rd updPg UPD_COUNT_N) ∧
        (s.held (wordOf data 2) = true)) ∧
    (∃ (s : State) (data : List Byte) (ok : Bool) (st : Nat),
      (s.faults = []) ∧ (s.down = false) ∧ (s.stalled = false) ∧ (s.runningCode updPg = some 2) ∧ (data.length = 4160) ∧
        (st = (if wordOf data 0 ≠ 0x43505847 then 0x80 else if s.rd updPg UPD_STAGE_STATE = stEmpty ∨
        wordOf data 1 ≠ s.rd updPg UPD_TAG_TAG then 0x81 else if wordOf data 3 ≠ s.rd updPg UPD_COUNT_N ∨
        s.rd updPg UPD_COUNT_N ≤ wordOf data 2 then 0x82 else if ok = false then 0x83 else 0)) ∧ (st ≠ 0)) ∧
    (∃ (s : State) (data : List Byte) (ok : Bool) (st : Nat),
      (s.faults = []) ∧ (s.down = false) ∧ (s.stalled = false) ∧ (s.runningCode updPg = some 2) ∧ (data.length = 4160) ∧
        (st = (if wordOf data 0 ≠ 0x43505847 then 0x80 else if s.rd updPg UPD_STAGE_STATE = stEmpty ∨
        wordOf data 1 ≠ s.rd updPg UPD_TAG_TAG then 0x81 else if wordOf data 3 ≠ s.rd updPg UPD_COUNT_N ∨
        s.rd updPg UPD_COUNT_N ≤ wordOf data 2 then 0x82 else if ok = false then 0x83 else 0)) ∧ (st ≠ 0) ∧ (st = 0x81)) ∧
    (∃ (s : State) (data : List Byte) (ok : Bool) (st : Nat),
      (s.faults = []) ∧ (s.down = false) ∧ (s.stalled = false) ∧ (s.runningCode updPg = some 2) ∧ (data.length = 4160) ∧
        (st = (if wordOf data 0 ≠ 0x43505847 then 0x80 else if s.rd updPg UPD_STAGE_STATE = stEmpty ∨
        wordOf data 1 ≠ s.rd updPg UPD_TAG_TAG then 0x81 else if wordOf data 3 ≠ s.rd updPg UPD_COUNT_N ∨
        s.rd updPg UPD_COUNT_N ≤ wordOf data 2 then 0x82 else if ok = false then 0x83 else 0)) ∧ (st ≠ 0) ∧ (st = 0x82)) ∧
    (∃ (s : State) (data : List Byte) (ok : Bool) (st : Nat),
      (s.faults = []) ∧ (s.down = false) ∧ (s.stalled = false) ∧ (s.runningCode updPg = some 2) ∧ (data.length = 4160) ∧
        (st = (if wordOf data 0 ≠ 0x43505847 then 0x80 else if s.rd updPg UPD_STAGE_STATE = stEmpty ∨
        wordOf data 1 ≠ s.rd updPg UPD_TAG_TAG then 0x81 else if wordOf data 3 ≠ s.rd updPg UPD_COUNT_N ∨
        s.rd updPg UPD_COUNT_N ≤ wordOf data 2 then 0x82 else if ok = false then 0x83 else 0)) ∧ (st ≠ 0) ∧ (ok = false) ∧
        (st = 0x83)) :=
  ⟨⟨arg (receiving .configure) updPg 8 1536, 0, 1536,
      by unfold State.opens; decide +kernel⟩,
    ⟨arg (receiving .loader) updPg 7 5, 0, 5,
      by unfold State.opens; decide +kernel⟩,
    ⟨arg (receiving .loader) updPg 7 0, 0,
      by unfold State.opens; decide +kernel⟩,
    ⟨receiving .configure, 0,
      by unfold State.opens; decide +kernel⟩,
    ⟨arg (receiving .run) updPg 0x40 1, 0,
      by unfold State.opens; decide +kernel⟩,
    ⟨arg (receiving .run) updPg 0x44 1, 0,
      by unfold State.opens; decide +kernel⟩,
    ⟨busy (receiving .run) updPg 2, piece3, 3,
      by decide +kernel⟩,
    ⟨busy ((receiving .run).wr updPg UPD_BITMAP_HELD 8) updPg 2, piece3,
      by decide +kernel⟩,
    ⟨busy (receiving .run) updPg 2, List.replicate 4160 0, true, 0x80,
      by decide +kernel⟩,
    ⟨busy ((receiving .run).wr updPg UPD_TAG_TAG 8) updPg 2, piece3, true, 0x81,
      by decide +kernel⟩,
    ⟨busy ((receiving .run).wr updPg UPD_COUNT_N 6) updPg 2, piece3, true, 0x82,
      by decide +kernel⟩,
    ⟨busy (receiving .run) updPg 2, piece3, false, 0x83,
      by decide +kernel⟩⟩

theorem wit_VerifyAndActivateFollowTheChecks :
    (∃ (s : State) (pp : PPort),
      (s.opens pp updPg) ∧ (s.stalled = false) ∧ (s.updOk = true)) ∧
    (∃ (s : State) (a : Bool) (b : Bool),
      (s.checkStaged a b = 0) ∧ (s.faults = []) ∧ (s.down = false) ∧ (s.stalled = false) ∧ (s.runningCode updPg = some 3) ∧
        (s.stagedWhole = true)) ∧
    (∃ (s : State) (a : Bool) (b : Bool),
      (s.faults = []) ∧ (s.down = false) ∧ (s.stalled = false) ∧ (s.runningCode updPg = some 3) ∧ (s.stagedWhole = true) ∧
        (s.checkStaged a b ≠ 0)) ∧
    (∃ (s : State) (a : Bool) (b : Bool),
      (s.faults = []) ∧ (s.down = false) ∧ (s.stalled = false) ∧ (s.runningCode updPg = some 3) ∧
        (s.stagedWhole = false)) ∧
    (∃ (s : State) (pp : PPort),
      (s.opens pp updPg) ∧ (s.stalled = false) ∧ (s.mode = .loader) ∧ (s.chip.aonDown = false) ∧
        (s.rd updPg UPD_STAGE_STATE = stVerified)) ∧
    (∃ (s : State) (pp : PPort),
      (s.opens pp updPg) ∧ (s.stalled = false) ∧ (s.activateOk = true) ∧ (s.mode ≠ .loader) ∧
        (s.rd updPg UPD_STAGE_STATE = stVerified)) ∧
    (∃ (s : State) (pp : PPort),
      (s.opens pp updPg) ∧ (s.stalled = false) ∧ (s.activateOk = true) ∧ (s.rd updPg UPD_STAGE_STATE ≠ stVerified)) ∧
    (∃ (s : State),
      (s.checkStaged true true = 0) ∧ (s.faults = []) ∧ (s.down = false) ∧ (s.stalled = false) ∧
        (s.runningCode updPg = some 4) ∧ (s.moving = none) ∧ (s.activateOk = true) ∧ (s.portsSettled = true) ∧ (∀ n < 128,
        s.pmode n < 2)) ∧
    (∃ (s : State),
      (s.checkStaged true true = 0) ∧ (s.faults = []) ∧ (s.down = false) ∧ (s.stalled = false) ∧
        (s.runningCode updPg = some 4) ∧ (s.moving = none) ∧ (s.mode = .run) ∧ (∀ n < 128, (s.port n).move = none ∧
        (s.port n).moveNext = none) ∧ (s.rd devPg DEV_CLUSTERS_FENCED = 0) ∧ (∃ n < 128, busMode (s.pmode n) = true)) ∧
    (∃ (s : State),
      (s.faults = []) ∧ (s.down = false) ∧ (s.stalled = false) ∧ (s.runningCode updPg = some 4) ∧ (s.moving = none) ∧
        (s.activateOk = true) ∧ (s.checkStaged false false ≠ 0)) :=
  ⟨⟨receiving .run, 0,
      by unfold State.opens; decide +kernel⟩,
    ⟨busy (staged (inMode .run) 2) updPg 3, true, true,
      staged_ok, by decide +kernel⟩,
    ⟨busy ((receiving .run).wr updPg UPD_STAGE_STATE 3) updPg 3, false, true,
      by decide +kernel⟩,
    ⟨busy (receiving .run) updPg 3, true, true,
      by decide +kernel⟩,
    ⟨staged (inMode .loader) 3, 0,
      by unfold State.opens; decide +kernel⟩,
    ⟨staged (inMode .configure) 3, 0,
      by unfold State.opens; decide +kernel⟩,
    ⟨staged (inMode .configure) 2, 0,
      by unfold State.opens; decide +kernel⟩,
    ⟨busy (staged (inMode .configure) 3) updPg 4,
      staged_ok, by decide +kernel⟩,
    ⟨busy (staged (portIn .run 2 2 {}) 3) updPg 4,
      staged_ok, by decide +kernel⟩,
    ⟨busy (receiving .configure) updPg 4,
      by decide +kernel⟩⟩

theorem wit_SettingsAreSavedErasedAndApplied :
    (∃ (s : State) (pp : PPort) (a : Nat) (n : Nat),
      (s.opens pp updPg) ∧ (s.stalled = false) ∧ (s.mode = .configure) ∧ (a = s.arg0 updPg) ∧ (n = s.arg1 updPg) ∧
        (a % 64 = 0) ∧ (lengthOk n = true) ∧ (a + n ≤ 0x4000000) ∧ (s.badRead a n [] = false) ∧
        (imageFault (s.mbs a n) = none) ∧ (wordOf (s.mbs a n) 1 % 2 ^ 16 = s.rd updPg UPD_RUN_INFO_SCHEMA)) ∧
    (∃ (s : State) (pp : PPort) (a : Nat) (n : Nat) (k : Nat),
      (s.opens pp updPg) ∧ (s.stalled = false) ∧ (s.mode = .configure) ∧ (a = s.arg0 updPg) ∧ (n = s.arg1 updPg) ∧
        (a % 64 = 0) ∧ (lengthOk n = true) ∧ (a + n ≤ 0x4000000) ∧ (s.badRead a n [] = false) ∧
        (imageFault (s.mbs a n) = some k)) ∧
    (∃ (s : State) (pp : PPort) (a : Nat) (n : Nat),
      (s.opens pp updPg) ∧ (s.stalled = false) ∧ (s.mode = .configure) ∧ (a = s.arg0 updPg) ∧ (n = s.arg1 updPg) ∧
        (a % 64 ≠ 0 ∨ lengthOk n = false ∨ 0x4000000 < a + n)) ∧
    (∃ (s : State) (pp : PPort) (a : Nat) (n : Nat),
      (s.opens pp updPg) ∧ (s.stalled = false) ∧ (s.mode = .configure) ∧ (a = s.arg0 updPg) ∧ (n = s.arg1 updPg) ∧
        (a % 64 ≠ 0 ∨ lengthOk n = false ∨ 0x4000000 < a + n) ∧ (a = 0x3FFFFC0) ∧ (n = 128)) ∧
    (∃ (s : State) (pp : PPort) (a : Nat) (n : Nat),
      (s.opens pp updPg) ∧ (s.stalled = false) ∧ (s.mode = .configure) ∧ (a = s.arg0 updPg) ∧ (n = s.arg1 updPg) ∧
        (a % 64 ≠ 0 ∨ lengthOk n = false ∨ 0x4000000 < a + n) ∧ (a = 0x40) ∧ (n = 60)) ∧
    (∃ (s : State) (pp : PPort) (a : Nat) (n : Nat),
      (s.opens pp updPg) ∧ (s.stalled = false) ∧ (s.mode = .configure) ∧ (a = s.arg0 updPg) ∧ (n = s.arg1 updPg) ∧
        (a % 64 = 0) ∧ (lengthOk n = true) ∧ (a + n ≤ 0x4000000) ∧ (s.badRead a n [] = false) ∧
        (imageFault (s.mbs a n) = none) ∧ (wordOf (s.mbs a n) 1 % 2 ^ 16 ≠ s.rd updPg UPD_RUN_INFO_SCHEMA)) ∧
    (∃ (s : State) (j : Nat),
      (s.faults = []) ∧ (s.down = false) ∧ (s.stalled = false) ∧ (s.runningCode updPg = some 6) ∧ (64 ≤ s.saving.length) ∧
        (s.saving.length ≤ 0x40000) ∧ (j = s.saveSlot.1)) ∧
    (∃ (s : State) (pp : PPort),
      (s.opens pp updPg) ∧ (s.stalled = false) ∧ (s.mode = .configure) ∧ (s.currentSlot = none)) ∧
    (∃ (s : State) (pp : PPort) (i : Nat),
      (s.opens pp updPg) ∧ (s.stalled = false) ∧ (s.mode = .configure) ∧ (s.currentSlot = some i) ∧
        (s.mramWord (slotBase i + 4) % 2 ^ 16 = s.rd updPg UPD_RUN_INFO_SCHEMA)) ∧
    (∃ (s : State) (pp : PPort),
      (s.opens pp updPg) ∧ (s.stalled = false) ∧ (s.eraseOk = true)) ∧
    (∃ (s : State) (ld : SetLoad) (p : Fin 640) (v : Nat),
      (s.faults = []) ∧ (s.down = false) ∧ (s.stalled = false) ∧ (s.load = some ld) ∧ (ld.boot = false) ∧
        (s.runningCode updPg = some 7) ∧ (ld.image.getD 6 0 = ld.record + 1) ∧
        (ld.image.getD ld.at_ 0 = 0x100 * (ld.done + 1) + 1) ∧ (pageOk p = true) ∧
        (ld.image.getD (ld.at_ + (2 + 2 * ld.done)) 0 = p.val * 4096 + 0x00C) ∧
        (ld.image.getD (ld.at_ + (3 + 2 * ld.done)) 0 = v) ∧ (v < 2 ^ 32) ∧
        (s.gate (s.rd crpPg CRP_STRAP_PRIMPP) p = none)) ∧
    (∃ (s : State) (ld : SetLoad) (c : Cl) (a : Nat) (n : Nat),
      (s.faults = []) ∧ (s.down = false) ∧ (s.stalled = false) ∧ (s.load = some ld) ∧ (ld.boot = false) ∧
        (s.runningCode updPg = some 7) ∧ (ld.image.getD 6 0 = ld.record + 1) ∧ (ld.done = 0) ∧ (1 ≤ n) ∧
        (ld.image.getD ld.at_ 0 = 0x100 * n + 2) ∧ (ld.image.getD (ld.at_ + 1) 0 = a) ∧ (a % 4 = 0) ∧ (filterBase c ≤ a) ∧
        (a + 4 * n ≤ filterBase (c + 1)) ∧ (s.ueWords = []) ∧ (s.poison = []) ∧
        (s.gate (s.rd crpPg CRP_STRAP_PRIMPP) (clPg c) = none)) ∧
    (∃ (s : State) (ld : SetLoad) (c : Cl) (a : Nat) (n : Nat),
      (s.faults = []) ∧ (s.down = false) ∧ (s.stalled = false) ∧ (s.load = some ld) ∧ (ld.boot = false) ∧
        (s.runningCode updPg = some 7) ∧ (ld.image.getD 6 0 = ld.record + 1) ∧ (ld.done = 0) ∧ (1 ≤ n) ∧
        (ld.image.getD ld.at_ 0 = 0x100 * n + 3) ∧ (ld.image.getD (ld.at_ + 1) 0 = a) ∧ (a % 64 = 0) ∧ (sliceBase c ≤ a) ∧
        (a + 4 * n ≤ sliceBase (c + 1)) ∧ (s.ueWords = []) ∧ (s.poison = []) ∧
        (s.heldIn a ((4 * n + 63) / 64 * 64) = false) ∧ (s.gate (s.rd crpPg CRP_STRAP_PRIMPP) (clPg c) = none)) ∧
    (∃ (s : State) (ld : SetLoad) (first : Nat) (last : Nat) (owner : Nat),
      (s.faults = []) ∧ (s.down = false) ∧ (s.stalled = false) ∧ (s.load = some ld) ∧ (ld.boot = false) ∧
        (s.runningCode updPg = some 7) ∧ (ld.image.getD 6 0 = ld.record + 1) ∧ (ld.done = 0) ∧
        (ld.image.getD ld.at_ 0 = 0x304) ∧ (ld.image.getD (ld.at_ + 1) 0 = 0) ∧ (ld.image.getD (ld.at_ + 2) 0 = 2) ∧
        (ld.image.getD (ld.at_ + 3) 0 = first + 2 ^ 16 * last) ∧ (ld.image.getD (ld.at_ + 4) 0 = owner) ∧ (first ≤ last) ∧
        (last ≤ 0x27F) ∧ (owner < 4) ∧ (s.gate (s.rd crpPg CRP_STRAP_PRIMPP) devPg = none)) ∧
    (∃ (s : State) (ld : SetLoad) (p : Fin 640),
      (s.faults = []) ∧ (s.down = false) ∧ (s.stalled = false) ∧ (s.load = some ld) ∧ (ld.record < ld.image.getD 6 0) ∧
        (ld.image.getD ld.at_ 0 % 256 = 1) ∧ (ld.done < ld.image.getD ld.at_ 0 / 256) ∧ (pageOk p = true) ∧
        (ld.image.getD (ld.at_ + (2 + 2 * ld.done)) 0 / 4096 = p.val) ∧ (s.flag p PAGE_STAT_BUSY = true)) ∧
    (∃ (s : State) (ld : SetLoad) (p : Fin 640) (c : RefCause),
      (s.faults = []) ∧ (s.down = false) ∧ (s.stalled = false) ∧ (s.load = some ld) ∧ (ld.boot = false) ∧
        (s.runningCode updPg = some 7) ∧ (ld.record < ld.image.getD 6 0) ∧ (ld.image.getD ld.at_ 0 % 256 = 1) ∧
        (ld.done < ld.image.getD ld.at_ 0 / 256) ∧ (pageOk p = true) ∧ (p.val ≠ updPg) ∧
        (ld.image.getD (ld.at_ + (2 + 2 * ld.done)) 0 = p.val * 4096 + 0x00C) ∧ (s.flag p PAGE_STAT_BUSY = false) ∧
        (s.gate (s.rd crpPg CRP_STRAP_PRIMPP) p = some c)) ∧
    (∃ (s : State) (ld : SetLoad) (p : Fin 640) (st : Nat),
      (s.faults = []) ∧ (s.down = false) ∧ (s.stalled = false) ∧ (s.load = some ld) ∧ (ld.boot = false) ∧
        (s.runningCode updPg = some 7) ∧ (ld.record < ld.image.getD 6 0) ∧ (ld.image.getD ld.at_ 0 = 0x304) ∧
        (ld.done = 1) ∧ (ld.image.getD (ld.at_ + 1) 0 = p.val * 4096) ∧ (pageOk p = true) ∧ (p.val ≠ updPg) ∧
        (s.flag p PAGE_STAT_BUSY = false) ∧ (st = s.rd p PAGE_RESULT_STATUS) ∧ (st ≠ stOk)) ∧
    (∃ (s : State) (ld : SetLoad),
      (s.faults = []) ∧ (s.down = false) ∧ (s.stalled = false) ∧ (s.load = some ld) ∧ (ld.boot = true) ∧
        (ld.image.getD 6 0 ≤ ld.record) ∧ (s.flag crpPg CRP_STRAP_AUTOSTART = false ∨
        (ld.image.getD 1 0).testBit 16 = false)) ∧
    (∃ (s : State) (ld : SetLoad),
      (s.faults = []) ∧ (s.down = false) ∧ (s.stalled = false) ∧ (s.load = some ld) ∧ (ld.boot = true) ∧
        (ld.image.getD 6 0 ≤ ld.record) ∧ (s.mode = .configure) ∧ (s.moving = none) ∧
        (s.flag crpPg CRP_STRAP_AUTOSTART = true) ∧ ((ld.image.getD 1 0).testBit 16 = true) ∧ (s.portsSettled = true) ∧
        (∀ n < 128, s.rd (portPg n) PORT_MODE_CFG < 2)) :=
  ⟨⟨arg ((inMode .configure).mputs 0x40 image) updPg 0x40 64, 0, 0x40, 64,
      by unfold State.opens; decide +kernel⟩,
    ⟨arg ((inMode .configure).mputs 0x40 [1, 2]) updPg 0x40 64, 0, 0x40, 64, 0xFFFF,
      by unfold State.opens; decide +kernel⟩,
    ⟨arg (inMode .configure) updPg 0x44 64, 0, 0x44, 64,
      by unfold State.opens; decide +kernel⟩,
    ⟨arg (inMode .configure) updPg 0x3FFFFC0 128, 0, 0x3FFFFC0, 128,
      by unfold State.opens; decide +kernel⟩,
    ⟨arg (inMode .configure) updPg 0x40 60, 0, 0x40, 60,
      by unfold State.opens; decide +kernel⟩,
    ⟨(arg ((inMode .configure).mputs 0x40 image) updPg 0x40 64).wr updPg UPD_RUN_INFO_SCHEMA 5, 0, 0x40, 64,
      by unfold State.opens; decide +kernel⟩,
    ⟨busy { slotS .configure with saving := image } updPg 6, 1,
      by decide +kernel⟩,
    ⟨inMode .configure, 0,
      by unfold State.opens; decide +kernel⟩,
    ⟨slotS .configure, 0, 0,
      by unfold State.opens; decide +kernel⟩,
    ⟨slotS .loader, 0,
      by unfold State.opens; decide +kernel⟩,
    ⟨loadS [0x101, 0, 0x8300C, 77], loadOf [0x101, 0, 0x8300C, 77], 0x83, 77,
      by decide +kernel⟩,
    ⟨loadS [0x202, 0x4008040, 0x01000012, 0x123], loadOf [0x202, 0x4008040, 0x01000012, 0x123], 1, 0x4008040, 2,
      by decide +kernel⟩,
    ⟨loadS [0x203, 0x800040, 5, 6], loadOf [0x203, 0x800040, 5, 6], 1, 0x800040, 2,
      by decide +kernel⟩,
    ⟨loadS [0x304, 0, 2, 0x840083, 3], loadOf [0x304, 0, 2, 0x840083, 3], 0x83, 0x84, 3,
      by decide +kernel⟩,
    ⟨(loadS [0x101, 0, 0x8300C, 77]).wr 0x83 PAGE_STAT_BUSY 1, loadOf [0x101, 0, 0x8300C, 77], 0x83,
      by decide +kernel⟩,
    ⟨{ loadS [0x101, 0, 0x8300C, 77] with owners := [(0x83, 2)] }, loadOf [0x101, 0, 0x8300C, 77], 0x83, .owner,
      by decide +kernel⟩,
    ⟨({ loadS [0x304, 0x83000, 2, 0, 0] with load := some { loadOf [0x304, 0x83000, 2, 0, 0] with done := 1 } }).wr 0x83 PAGE_RESULT_STATUS 3,
      { loadOf [0x304, 0x83000, 2, 0, 0] with done := 1 }, 0x83, 3,
      by decide +kernel⟩,
    ⟨{ inMode .configure with load := some { loadOf [] with record := 1, boot := true } },
      { loadOf [] with record := 1, boot := true },
      by decide +kernel⟩,
    ⟨({ inMode .configure with load := some { image := [0, 0x10000], boot := true } }).wr crpPg CRP_STRAP_AUTOSTART 1,
      { image := [0, 0x10000], boot := true },
      by decide +kernel⟩⟩

theorem wit_MramAndStoreAreChecked :
    (∃ (s : State) (a : BitVec 24),
      (s.faults = []) ∧ (s.refreshes = true) ∧ (a.toNat < 0xC8FFF8)) ∧
    (∃ (s : State) (a : BitVec 24),
      (s.faults = []) ∧ (s.refreshes = true) ∧ (a.toNat < 0xC8FFF8)) ∧
    (∃ (s : State) (a : BitVec 24),
      (s.faults = []) ∧ (s.refreshes = true) ∧ (a.toNat < 0x600000)) ∧
    (∃ (s : State) (a : BitVec 24) (i : Nat),
      (s.faults = []) ∧ (s.refreshes = true) ∧ (stageBase ≤ a.toNat) ∧ (a.toNat < 0xC00000) ∧
        (i = (a.toNat - stageBase) / 4096) ∧ (s.held i = true)) ∧
    (∃ (s : State) (a : BitVec 24),
      (s.faults = []) ∧ (s.refreshes = true) ∧ (0xC8FFF8 ≤ a.toNat) ∧ (a.toNat < 0xC90000)) ∧
    (∃ (s : State) (a : BitVec 27),
      (s.faults = []) ∧ (s.down = false) ∧ (s.mode = .configure ∨ s.mode = .run ∨ s.mode = .degraded ∨ s.mode = .safe ∨
        s.mode = .update) ∧ (a.toNat < 0x4000000) ∧ (a.toNat % 32 = 0) ∧ (s.fencedCl (a.toNat / 0x800000) = false)) ∧
    (∃ (s : State) (a : BitVec 27),
      (s.faults = []) ∧ (s.down = false) ∧ (s.mode = .configure ∨ s.mode = .run ∨ s.mode = .degraded ∨ s.mode = .safe ∨
        s.mode = .update) ∧ (a.toNat < 0x4000000) ∧ (a.toNat % 32 = 0) ∧ (s.fencedCl (a.toNat / 0x800000) = false) ∧
        (a = 0x20)) ∧
    (∃ (s : State) (a : BitVec 27),
      (s.faults = []) ∧ (s.down = false) ∧ (s.mode = .configure ∨ s.mode = .run ∨ s.mode = .degraded ∨ s.mode = .safe ∨
        s.mode = .update) ∧ (a.toNat < 0x4000000) ∧ (a.toNat % 32 = 0) ∧ (s.fencedCl (a.toNat / 0x800000) = false) ∧
        (a = 0x40)) ∧
    (∃ (s : State) (a : BitVec 27) (find : Option Find) (c : Cl) (r : Instr),
      ((r = .scrubAccess a find ∧ (s.scrubs (a.toNat / 0x800000) = false ∨ 0x4000000 ≤ a.toNat)) ∨ (r = .writeBack c ∧
        (s.scrubs c = false ∨ ∀ w ∈ s.wbq, eccCluster w ≠ c.val))) ∧ (s.faults = [])) ∧
    (∃ (s : State) (a : BitVec 27) (find : Option Find) (c : Cl) (r : Instr),
      ((r = .scrubAccess a find ∧ (s.scrubs (a.toNat / 0x800000) = false ∨ 0x4000000 ≤ a.toNat)) ∨ (r = .writeBack c ∧
        (s.scrubs c = false ∨ ∀ w ∈ s.wbq, eccCluster w ≠ c.val))) ∧ (s.faults = []) ∧ (a = 0x4000000) ∧
        (r = .scrubAccess 0x4000000 none)) ∧
    (∃ (s : State) (a : BitVec 27) (find : Option Find) (c : Cl) (r : Instr),
      ((r = .scrubAccess a find ∧ (s.scrubs (a.toNat / 0x800000) = false ∨ 0x4000000 ≤ a.toNat)) ∨ (r = .writeBack c ∧
        (s.scrubs c = false ∨ ∀ w ∈ s.wbq, eccCluster w ≠ c.val))) ∧ (s.faults = []) ∧ (r = .writeBack 1)) ∧
    (∃ (s : State) (a : BitVec 27) (find : Option Find) (c : Cl) (r : Instr),
      ((r = .scrubAccess a find ∧ (s.scrubs (a.toNat / 0x800000) = false ∨ 0x4000000 ≤ a.toNat)) ∨ (r = .writeBack c ∧
        (s.scrubs c = false ∨ ∀ w ∈ s.wbq, eccCluster w ≠ c.val))) ∧ (s.faults = []) ∧ (r = .writeBack 1)) ∧
    (∃ (s : State) (c : Cl) (w : Nat),
      (s.faults = []) ∧ (s.scrubs c = true) ∧ ((s.wbq.find? fun w => eccCluster w == c.val) = some w)) ∧
    (∃ (s : State) (c : Cl) (w : Nat),
      (s.faults = []) ∧ (s.scrubs c = true) ∧ ((s.wbq.find? fun w => eccCluster w == c.val) = some w) ∧ (c = 0) ∧
        (w = 0x20)) :=
  ⟨⟨inMode .configure, 8,
      by decide +kernel⟩,
    ⟨inMode .configure, 8,
      by decide +kernel⟩,
    ⟨inMode .configure, 0x5FFFFF,
      by decide +kernel⟩,
    ⟨((receiving .configure).wr updPg UPD_BITMAP_HELD 8).wr updPg UPD_STAGE_HELD 1, 0x603010, 3,
      by decide +kernel⟩,
    ⟨inMode .configure, 0xC8FFF8,
      by decide +kernel⟩,
    ⟨inMode .run, 0x7FFFE0,
      by decide +kernel⟩,
    ⟨inMode .run, 0x20,
      by decide +kernel⟩,
    ⟨{ inMode .run with wbq := [0x20] }, 0x40,
      by decide +kernel⟩,
    ⟨inMode .test, 0x40, none, 1, .scrubAccess 0x40 none,
      (.inl ⟨rfl, by decide +kernel⟩), by decide +kernel⟩,
    ⟨inMode .run, 0x4000000, none, 1, .scrubAccess 0x4000000 none,
      (.inl ⟨rfl, by decide +kernel⟩), by decide +kernel⟩,
    ⟨inMode .loader, 0x40, none, 1, .writeBack 1,
      (.inr ⟨rfl, by decide +kernel⟩), by decide +kernel⟩,
    ⟨{ inMode .run with wbq := [0x20] }, 0x40, none, 1, .writeBack 1,
      (.inr ⟨rfl, by decide +kernel⟩), by decide +kernel⟩,
    ⟨{ inMode .run with wbq := [0x20, 0x4000008, 0x800020] }, 1, 0x800020,
      by decide +kernel⟩,
    ⟨{ inMode .run with wbq := [0x20, 0x4000008, 0x800020] }, 0, 0x20,
      by decide +kernel⟩⟩

theorem wit_LinkEventsAndConfigurationTakeEffect :
    (∃ (s : State) (pp : PPort) (down : Bool) (r : Instr),
      (s.faults = []) ∧ (s.down = false) ∧ ((r = .linkDown pp ∧ down = true) ∨ (r = .functionLevelReset pp ∧
        down = false) ∨ (r = .hotReset pp ∧ down = false) ∨ (r = .perstAssert pp ∧ down = true ∧
        pp.val ≠ s.chip.primary))) ∧
    (∃ (s : State) (pp : PPort) (down : Bool) (r : Instr),
      (s.faults = []) ∧ (s.down = false) ∧ ((r = .linkDown pp ∧ down = true) ∨ (r = .functionLevelReset pp ∧
        down = false) ∨ (r = .hotReset pp ∧ down = false) ∨ (r = .perstAssert pp ∧ down = true ∧
        pp.val ≠ s.chip.primary)) ∧ (down = false) ∧ (r = .functionLevelReset 1)) ∧
    (∃ (s : State) (pp : PPort) (down : Bool) (r : Instr),
      (s.faults = []) ∧ (s.down = false) ∧ ((r = .linkDown pp ∧ down = true) ∨ (r = .functionLevelReset pp ∧
        down = false) ∨ (r = .hotReset pp ∧ down = false) ∨ (r = .perstAssert pp ∧ down = true ∧
        pp.val ≠ s.chip.primary)) ∧ (down = false) ∧ (r = .hotReset 1)) ∧
    (∃ (s : State) (pp : PPort) (down : Bool) (r : Instr),
      (s.faults = []) ∧ (s.down = false) ∧ ((r = .linkDown pp ∧ down = true) ∨ (r = .functionLevelReset pp ∧
        down = false) ∨ (r = .hotReset pp ∧ down = false) ∨ (r = .perstAssert pp ∧ down = true ∧
        pp.val ≠ s.chip.primary)) ∧ (r = .perstAssert 1)) ∧
    (∃ (s : State) (pp : PPort) (speed : Fin 7) (flit : Bool) (width : Fin 4),
      (s.faults = []) ∧ (s.down = false) ∧ (speed.val ≠ 0)) ∧
    (∃ (s : State) (pp : PPort) (en : Bool) (fmask : Bool),
      (s.faults = []) ∧ (s.down = false)) ∧
    (∃ (s : State) (pp : PPort) (ro : Bool) (ns : Bool) (mps : Fin 3) (mrrs : Fin 6),
      (s.faults = []) ∧ (s.down = false)) ∧
    (∃ (s : State) (pp : PPort),
      (s.faults = []) ∧ (s.down = false)) ∧
    (∃ (s : State) (pp : PPort) (w : CfgWrite),
      (s.faults = []) ∧ (s.down = false) ∧ (w = .bme false ∨ w = .power true)) ∧
    (∃ (s : State) (pp : PPort) (w : CfgWrite),
      (s.faults = []) ∧ (s.down = false) ∧ (w = .bme false ∨ w = .power true) ∧ (pp = 1) ∧ (w = .power true)) ∧
    (∃ (s : State) (pp : PPort),
      (s.faults = []) ∧ (s.down = false)) ∧
    (∃ (s : State) (pp : PPort) (cto : Fin 16),
      (s.faults = []) ∧ (s.down = false)) ∧
    (∃ (s : State) (pp : PPort) (width : Fin 4),
      (s.faults = []) ∧ (s.down = false)) ∧
    (∃ (s : State) (pp : PPort) (width : Fin 4),
      (s.faults = []) ∧ (s.down = false) ∧ (width = 1)) ∧
    (∃ (s : State) (pp : PPort) (pm : Fin 4),
      (s.faults = []) ∧ (s.down = false)) ∧
    (∃ (s : State) (pp : PPort) (i : Fin 6) (v : Word),
      (s.faults = []) ∧ (s.down = false)) ∧
    (∃ (s : State) (pp : PPort) (i : Fin 6) (v : Word),
      (s.faults = []) ∧ (s.down = false) ∧ (i = 2)) ∧
    (∃ (s : State) (pp : PPort) (i : Fin 6) (v : Word),
      (s.faults = []) ∧ (s.down = false) ∧ (i = 3)) ∧
    (∃ (s : State) (pp : PPort) (i : Fin 6) (v : Word),
      (s.faults = []) ∧ (s.down = false) ∧ (i = 4)) ∧
    (∃ (s : State) (pp : PPort) (v : Word),
      (s.faults = []) ∧ (s.down = false)) :=
  ⟨⟨linked (inMode .run) 1, 1, true, .linkDown 1,
      by decide +kernel⟩,
    ⟨linked (inMode .run) 1, 1, false, .functionLevelReset 1,
      by decide +kernel⟩,
    ⟨linked (inMode .run) 1, 1, false, .hotReset 1,
      by decide +kernel⟩,
    ⟨linked (chanS 33 { mode := .enabled, cfg := some { chanC false true false with pp := 1 }, outst := [readB] }) 1, 1,
      true, .perstAssert 1,
      by decide +kernel⟩,
    ⟨inMode .run, 1, 6, true, 2,
      by decide +kernel⟩,
    ⟨inMode .run, 1, true, false,
      by decide +kernel⟩,
    ⟨inMode .run, 1, false, true, 2, 5,
      by decide +kernel⟩,
    ⟨inMode .run, 1,
      by decide +kernel⟩,
    ⟨chanS 33 { mode := .enabled, cfg := some (chanC false true false), outst := [readB] }, 0, .bme false,
      by decide +kernel⟩,
    ⟨linked (inMode .run) 1, 1, .power true,
      by decide +kernel⟩,
    ⟨(linked (inMode .run) 1).modPp 1 fun x => { x with d3 := true }, 1,
      by decide +kernel⟩,
    ⟨inMode .run, 1, 9,
      by decide +kernel⟩,
    ⟨(linked (inMode .run) 1).wr (ppPg 1) PP_LINK_WIDTH 8, 1, 2,
      by decide +kernel⟩,
    ⟨inMode .run, 1, 1,
      by decide +kernel⟩,
    ⟨linked (inMode .run) 1, 1, 2,
      by decide +kernel⟩,
    ⟨inMode .run, 1, 0, 0xFFFFFFFF,
      by decide +kernel⟩,
    ⟨inMode .run, 1, 2, 0xFFFFFFFF,
      by decide +kernel⟩,
    ⟨inMode .run, 1, 3, 0xFFFFFFFF,
      by decide +kernel⟩,
    ⟨inMode .run, 1, 4, 0xFFFFFFFF,
      by decide +kernel⟩,
    ⟨(inMode .run).modPp 1 (fun x => { x with aerStatus := 0x1020 }), 1, 0x20,
      by decide +kernel⟩⟩

theorem wit_FailedRequestsAreReported :
    (∃ (s : State) (pp : PPort),
      (s.faults = []) ∧ (s.down = false)) ∧
    (∃ (s : State) (pp : PPort) (read : Bool) (addr : BitVec 64),
      (s.faults = []) ∧ (s.down = false)) ∧
    (∃ (s : State) (pp : PPort) (read : Bool) (addr : BitVec 64),
      (s.faults = []) ∧ (s.down = false) ∧ (read = false)) ∧
    (∃ (s : State) (pp : PPort) (off : BitVec 22) (wide : Bool) (val : BitVec 64),
      (s.down = false) ∧ ((s.pp pp).d3 = true ∨ barOk off.toNat wide = false)) ∧
    (∃ (s : State) (pp : PPort) (off : BitVec 22) (wide : Bool) (val : BitVec 64),
      (s.down = false) ∧ ((s.pp pp).d3 = true ∨ barOk off.toNat wide = false) ∧ (off = 8)) ∧
    (∃ (s : State) (pp : PPort) (off : BitVec 27) (len : Nat) (finds : List (Nat × Find)) (words : List Word),
      (s.down = false) ∧ ((s.pp pp).d3 = true ∨ bar2ReadOk off.toNat len = false) ∧ ((s.pp pp).d3 = true ∨
        tableOk off.toNat (words.map BitVec.toNat) = false)) ∧
    (∃ (s : State) (pp : PPort) (off : BitVec 27) (len : Nat) (finds : List (Nat × Find)) (words : List Word),
      (s.down = false) ∧ ((s.pp pp).d3 = true ∨ bar2ReadOk off.toNat len = false) ∧ ((s.pp pp).d3 = true ∨
        tableOk off.toNat (words.map BitVec.toNat) = false) ∧ (off = 0x4000004) ∧ (len = 4)) ∧
    (∃ (s : State) (m : Chan) (b : Burst) (g : ChanCfg) (cause : Nat) (aer : Nat) (r : Instr),
      (s.faults = []) ∧ (s.down = false) ∧ ((s.chan m).mode = .enabled) ∧ ((s.chan m).cfg = some g) ∧
        (((s.chan m).outst.find? fun x => x.num == b.num) = some b) ∧ (b.discard = false) ∧ (b.paddr < 2 ^ 64) ∧
        (b.store < 2 ^ 32) ∧ ((r = .errorCompletion (.mover m b.num) .poison ∧ cause = 1 ∧ aer = 12) ∨
        (r = .errorCompletion (.mover m b.num) .ur ∧ cause = 2 ∧ aer = 20) ∨ (r = .errorCompletion (.mover m b.num) .ca ∧
        cause = 3 ∧ aer = 15) ∨ (r = .completionTimeout (.mover m b.num) ∧ cause = 4 ∧ aer = 14))) ∧
    (∃ (s : State) (m : Chan) (b : Burst) (g : ChanCfg) (cause : Nat) (aer : Nat) (r : Instr),
      (s.faults = []) ∧ (s.down = false) ∧ ((s.chan m).mode = .enabled) ∧ ((s.chan m).cfg = some g) ∧
        (((s.chan m).outst.find? fun x => x.num == b.num) = some b) ∧ (b.discard = false) ∧ (b.paddr < 2 ^ 64) ∧
        (b.store < 2 ^ 32) ∧ ((r = .errorCompletion (.mover m b.num) .poison ∧ cause = 1 ∧ aer = 12) ∨
        (r = .errorCompletion (.mover m b.num) .ur ∧ cause = 2 ∧ aer = 20) ∨ (r = .errorCompletion (.mover m b.num) .ca ∧
        cause = 3 ∧ aer = 15) ∨ (r = .completionTimeout (.mover m b.num) ∧ cause = 4 ∧ aer = 14)) ∧ (cause = 2) ∧
        (aer = 20) ∧ (r = .errorCompletion (.mover 33 3) .ur)) ∧
    (∃ (s : State) (m : Chan) (b : Burst) (g : ChanCfg) (cause : Nat) (aer : Nat) (r : Instr),
      (s.faults = []) ∧ (s.down = false) ∧ ((s.chan m).mode = .enabled) ∧ ((s.chan m).cfg = some g) ∧
        (((s.chan m).outst.find? fun x => x.num == b.num) = some b) ∧ (b.discard = false) ∧ (b.paddr < 2 ^ 64) ∧
        (b.store < 2 ^ 32) ∧ ((r = .errorCompletion (.mover m b.num) .poison ∧ cause = 1 ∧ aer = 12) ∨
        (r = .errorCompletion (.mover m b.num) .ur ∧ cause = 2 ∧ aer = 20) ∨ (r = .errorCompletion (.mover m b.num) .ca ∧
        cause = 3 ∧ aer = 15) ∨ (r = .completionTimeout (.mover m b.num) ∧ cause = 4 ∧ aer = 14)) ∧ (cause = 3) ∧
        (aer = 15) ∧ (r = .errorCompletion (.mover 33 3) .ca)) ∧
    (∃ (s : State) (m : Chan) (b : Burst) (g : ChanCfg) (cause : Nat) (aer : Nat) (r : Instr),
      (s.faults = []) ∧ (s.down = false) ∧ ((s.chan m).mode = .enabled) ∧ ((s.chan m).cfg = some g) ∧
        (((s.chan m).outst.find? fun x => x.num == b.num) = some b) ∧ (b.discard = false) ∧ (b.paddr < 2 ^ 64) ∧
        (b.store < 2 ^ 32) ∧ ((r = .errorCompletion (.mover m b.num) .poison ∧ cause = 1 ∧ aer = 12) ∨
        (r = .errorCompletion (.mover m b.num) .ur ∧ cause = 2 ∧ aer = 20) ∨ (r = .errorCompletion (.mover m b.num) .ca ∧
        cause = 3 ∧ aer = 15) ∨ (r = .completionTimeout (.mover m b.num) ∧ cause = 4 ∧ aer = 14)) ∧ (cause = 4) ∧
        (aer = 14) ∧ (r = .completionTimeout (.mover 33 3))) ∧
    (∃ (s : State) (m : Chan) (b : Burst) (g : ChanCfg) (r : Instr),
      ((∃ e, r = .errorCompletion (.mover m b.num) e) ∨ r = .completionTimeout (.mover m b.num)) ∧ (s.faults = []) ∧
        (s.down = false) ∧ ((s.chan m).mode = .halted) ∧ ((s.chan m).cfg = some g) ∧
        (((s.chan m).outst.find? fun x => x.num == b.num) = some b) ∧ (b.discard = false)) ∧
    (∃ (s : State) (m : Chan) (b : Burst) (g : ChanCfg) (r : Instr),
      ((∃ e, r = .errorCompletion (.mover m b.num) e) ∨ r = .completionTimeout (.mover m b.num)) ∧ (s.faults = []) ∧
        (s.down = false) ∧ ((s.chan m).mode = .halted) ∧ ((s.chan m).cfg = some g) ∧
        (((s.chan m).outst.find? fun x => x.num == b.num) = some b) ∧ (b.discard = false) ∧
        (r = .errorCompletion (.mover 33 3) .ur)) ∧
    (∃ (s : State) (m : Chan) (b : Burst) (g : ChanCfg) (r : Instr),
      ((∃ e, r = .errorCompletion (.mover m b.num) e) ∨ r = .completionTimeout (.mover m b.num)) ∧ (s.faults = []) ∧
        (s.down = false) ∧ ((s.chan m).mode ≠ .disabled) ∧ ((s.chan m).cfg = some g) ∧ ((s.chan m).outst = [b]) ∧
        (b.discard = true) ∧ (b.req = .xfer) ∧ ((s.chan m).failed = [])) ∧
    (∃ (s : State) (n : Unit16) (a : BitVec 64) (pp : Nat) (r : Instr),
      ((∃ e, r = .errorCompletion (.scan n a) e) ∨ r = .completionTimeout (.scan n a)) ∧ (s.faults = []) ∧
        (s.down = false) ∧ (s.scanPp n = some pp)) ∧
    (∃ (s : State) (r : Instr),
      ((∃ e, r = .errorCompletion .piece e) ∨ r = .completionTimeout .piece) ∧ (s.faults = []) ∧ (s.down = false) ∧
        (s.flag updPg PAGE_STAT_BUSY = true) ∧ (s.rd updPg PAGE_CMD_CODE = 2)) ∧
    (∃ (s : State) (r : Instr),
      ((∃ e, r = .errorCompletion .piece e) ∨ r = .completionTimeout .piece) ∧ (s.faults = []) ∧ (s.down = false) ∧
        (s.flag updPg PAGE_STAT_BUSY = true) ∧ (s.rd updPg PAGE_CMD_CODE = 2) ∧ (r = .completionTimeout .piece)) :=
  ⟨⟨linked (inMode .run) 1, 1,
      by decide +kernel⟩,
    ⟨linked (inMode .run) 1, 1, true, 0x123456789A,
      by decide +kernel⟩,
    ⟨linked (inMode .run) 1, 1, false, 0x123456789A,
      by decide +kernel⟩,
    ⟨inMode .run, 1, 6, false, 5,
      by decide +kernel⟩,
    ⟨(inMode .run).modPp 1 (fun x => { x with d3 := true }), 1, 8, false, 5,
      by decide +kernel⟩,
    ⟨inMode .run, 1, 0x4000006, 5000, [], [5],
      by decide +kernel⟩,
    ⟨(inMode .run).modPp 1 (fun x => { x with d3 := true }), 1, 0x4000004, 4, [], [5],
      by decide +kernel⟩,
    ⟨chanS 33 { mode := .enabled, cfg := some (chanC false true false), outst := [readB], queue := [xferR] }, 33, readB,
      chanC false true false, 1, 12, .errorCompletion (.mover 33 3) .poison,
      by decide +kernel⟩,
    ⟨chanS 33 { mode := .enabled, cfg := some (chanC false true false), outst := [readB], queue := [xferR] }, 33, readB,
      chanC false true false, 2, 20, .errorCompletion (.mover 33 3) .ur,
      by decide +kernel⟩,
    ⟨chanS 33 { mode := .enabled, cfg := some (chanC false true false), outst := [readB], queue := [xferR] }, 33, readB,
      chanC false true false, 3, 15, .errorCompletion (.mover 33 3) .ca,
      by decide +kernel⟩,
    ⟨chanS 33 { mode := .enabled, cfg := some (chanC false true false), outst := [readB], queue := [xferR] }, 33, readB,
      chanC false true false, 4, 14, .completionTimeout (.mover 33 3),
      by decide +kernel⟩,
    ⟨chanS 33 { mode := .halted, cfg := some (chanC false true false), outst := [readB], failed := [{ readB with num := 2 }], queue := [xferR] },
      33, readB, chanC false true false, .completionTimeout (.mover 33 3),
      (.inr rfl), by decide +kernel⟩,
    ⟨chanS 33 { mode := .halted, cfg := some (chanC false true false), outst := [readB], failed := [{ readB with num := 2 }], queue := [xferR] },
      33, readB, chanC false true false, .errorCompletion (.mover 33 3) .ur,
      (.inl ⟨.ur, rfl⟩), by decide +kernel⟩,
    ⟨chanS 33 { mode := .halted, cfg := some (chanC false true false), outst := [{ readB with discard := true }] }, 33,
      { readB with discard := true }, chanC false true false, .completionTimeout (.mover 33 3),
      (.inr rfl), by decide +kernel⟩,
    ⟨{ ((linked (inMode .run) 1).wr (cvPg 2) CV_CFG_ALG 3 |>.wr (cvPg 2) PAGE_STAT_BUSY 1 |>.wr (cvPg 2) CV_CFG_SRC 1 |>.wr (cvPg 2) CV_CFG_PP 1) with owners := [(cvPg 2, 1)] },
      2, 0x1000, 1, .errorCompletion (.scan 2 0x1000) .ca,
      (.inl ⟨.ca, rfl⟩), by decide +kernel⟩,
    ⟨busy (receiving .run) updPg 2, .errorCompletion .piece .ur,
      (.inl ⟨.ur, rfl⟩), by decide +kernel⟩,
    ⟨busy (receiving .run) updPg 2, .completionTimeout .piece,
      (.inr rfl), by decide +kernel⟩⟩

theorem wit_RegisterAccessesComplete :
    (∃ (s : State) (pp : PPort) (p : Fin 640) (off : BitVec 22) (val : BitVec 64),
      (s.opens pp p) ∧ ((s.pp pp).d3 = false) ∧ (pageOk p = true) ∧ (off.toNat = p.val * 4096 + 0x00C)) ∧
    (∃ (s : State) (pp : PPort) (p : Fin 640) (off : BitVec 22) (val : BitVec 64),
      (s.opens pp p) ∧ ((s.pp pp).d3 = false) ∧ (pageOk p = true) ∧ (off.toNat = p.val * 4096 + 0x010)) ∧
    (∃ (s : State) (pp : PPort) (p : Fin 640) (off : BitVec 22) (val : BitVec 64),
      (s.opens pp p) ∧ ((s.pp pp).d3 = false) ∧ (pageOk p = true) ∧ (off.toNat = p.val * 4096 + 0x01C)) ∧
    (∃ (s : State) (pp : PPort) (p : Fin 640) (off : BitVec 22) (o : Nat),
      (∀ k, pageAt p ≠ some (.tn k) ∧ pageAt p ≠ some (.tf k) ∧ pageAt p ≠ some (.eph k)) ∧ (s.faults = []) ∧
        (s.down = false) ∧ ((s.pp pp).d3 = false) ∧ (off.toNat = p.val * 4096 + o) ∧ (o < 4096) ∧ (o % 4 = 0) ∧
        (pageOk p = true) ∧ (pageAt p ≠ some .dev)) ∧
    (∃ (s : State) (pp : PPort) (p : Fin 640) (off : BitVec 22) (o : Nat),
      (∀ k, pageAt p ≠ some (.tn k) ∧ pageAt p ≠ some (.tf k) ∧ pageAt p ≠ some (.eph k)) ∧ (s.faults = []) ∧
        (s.down = false) ∧ ((s.pp pp).d3 = false) ∧ (off.toNat = p.val * 4096 + o) ∧ (o < 4096) ∧ (o % 4 = 0) ∧
        (pageOk p = true) ∧ (pageAt p ≠ some .dev) ∧ (p = 0x85) ∧ (off = 0x85060) ∧ (o = 0x60)) ∧
    (∃ (s : State) (pp : PPort) (n : PPort) (off : BitVec 22),
      (s.faults = []) ∧ (s.down = false) ∧ ((s.pp pp).d3 = false) ∧ (off.toNat = ppPg n * 4096 + 0x048)) ∧
    (∃ (s : State) (pp : PPort),
      (s.faults = []) ∧ (s.down = false)) ∧
    (∃ (s : State) (pp : PPort) (p : Fin 640) (val : Word),
      (s.opens pp p) ∧ (s.icuRuns = true)) :=
  ⟨⟨inMode .configure, 0, 0x83, 0x8300C, 0x1234567890,
      by unfold State.opens; decide +kernel⟩,
    ⟨inMode .configure, 0, 0x83, 0x83010, 0x1234567890,
      by unfold State.opens; decide +kernel⟩,
    ⟨(inMode .configure).wr 0x83 PAGE_ERRSRC_SRC 7, 0, 0x83, 0x8301C, 5,
      by unfold State.opens; decide +kernel⟩,
    ⟨(inMode .run).wr (portPg 5) PORT_CNT_BIT_COUNT 3, 1, 0x83, 0x83000, 0,
      (fun k => ⟨(fun h => nomatch (show some (Page.port 3) = some (Page.tn k) from h)),
        (fun h => nomatch (show some (Page.port 3) = some (Page.tf k) from h)),
        (fun h => nomatch (show some (Page.port 3) = some (Page.eph k) from h))⟩), by decide +kernel⟩,
    ⟨(inMode .run).wr (portPg 5) PORT_CNT_BIT_COUNT 3, 1, 0x85, 0x85060, 0x60,
      (fun k => ⟨(fun h => nomatch (show some (Page.port 5) = some (Page.tn k) from h)),
        (fun h => nomatch (show some (Page.port 5) = some (Page.tf k) from h)),
        (fun h => nomatch (show some (Page.port 5) = some (Page.eph k) from h))⟩), by decide +kernel⟩,
    ⟨(inMode .run).wr (ppPg 2) PP_PANIC_CNT_COUNT 3, 1, 2, 0x2A048,
      by decide +kernel⟩,
    ⟨inMode .run, 1,
      by decide +kernel⟩,
    ⟨{ inMode .run with srcs := [(4181, { en := true }), (4197, { en := true, count := 255 })] }, 1, 0x29, 0xABCD,
      by unfold State.opens; decide +kernel⟩⟩

theorem wit_RefusedWritesHaveNoOtherEffect :
    (∃ (s : State) (pp : PPort) (p : Fin 640) (c : RefCause) (r : Instr) (off : BitVec 22) (val : BitVec 64),
      (s.faults = []) ∧ (s.deaf = false) ∧ ((s.pp pp).d3 = false) ∧ (pageOk p = true) ∧ (s.gate pp p = some c) ∧
        (off.toNat = p.val * 4096 + 0x00C) ∧ (r = .registerWrite pp off false val ∨
        r = .pageFenceWrite pp p (val.setWidth 32) ∨ (p.val = devPg ∧ r = .setMode pp))) ∧
    (∃ (s : State) (pp : PPort) (p : Fin 640) (c : RefCause) (r : Instr) (off : BitVec 22) (val : BitVec 64),
      (s.faults = []) ∧ (s.deaf = false) ∧ ((s.pp pp).d3 = false) ∧ (pageOk p = true) ∧ (s.gate pp p = some c) ∧
        (off.toNat = p.val * 4096 + 0x00C) ∧ (r = .registerWrite pp off false val ∨
        r = .pageFenceWrite pp p (val.setWidth 32) ∨ (p.val = devPg ∧ r = .setMode pp)) ∧ (r = .pageFenceWrite 1 0 9)) ∧
    (∃ (s : State) (pp : PPort) (p : Fin 640) (c : RefCause) (r : Instr) (off : BitVec 22) (val : BitVec 64),
      (s.faults = []) ∧ (s.deaf = false) ∧ ((s.pp pp).d3 = false) ∧ (pageOk p = true) ∧ (s.gate pp p = some c) ∧
        (off.toNat = p.val * 4096 + 0x00C) ∧ (r = .registerWrite pp off false val ∨
        r = .pageFenceWrite pp p (val.setWidth 32) ∨ (p.val = devPg ∧ r = .setMode pp)) ∧ (r = .setMode 1)) ∧
    (∃ (s : State) (pp : PPort) (p : Fin 640) (c : RefCause) (r : Instr) (off : BitVec 22) (val : BitVec 64),
      (s.faults = []) ∧ (s.deaf = false) ∧ ((s.pp pp).d3 = false) ∧ (pageOk p = true) ∧ (s.gate pp p = some c) ∧
        (off.toNat = p.val * 4096 + 0x00C) ∧ (r = .registerWrite pp off false val ∨
        r = .pageFenceWrite pp p (val.setWidth 32) ∨ (p.val = devPg ∧ r = .setMode pp)) ∧ (pp = 0) ∧ (p = 0x83) ∧
        (c = .modeLock) ∧ (r = .registerWrite 0 0x8300C false 9) ∧ (off = 0x8300C)) :=
  ⟨⟨inMode .configure, 1, 0, .owner, .registerWrite 1 0x00C false 9, 0x00C, 9,
      by decide +kernel⟩,
    ⟨inMode .configure, 1, 0, .owner, .pageFenceWrite 1 0 9, 0x00C, 9,
      by decide +kernel⟩,
    ⟨inMode .configure, 1, 0, .owner, .setMode 1, 0x00C, 9,
      by decide +kernel⟩,
    ⟨inMode .safe, 0, 0x83, .modeLock, .registerWrite 0 0x8300C false 9, 0x8300C, 9,
      by decide +kernel⟩⟩

theorem wit_Bar2AccessesMoveTheBytes :
    (∃ (s : State) (pp : PPort) (c : Cl) (off : BitVec 27) (bytes : List (Option Byte)),
      (s.opens pp (clPg c)) ∧ ((s.pp pp).d3 = false) ∧ (s.ueWords = []) ∧ (s.poison = []) ∧ (bytes ≠ []) ∧
        (sliceBase c ≤ off.toNat) ∧ (off.toNat + bytes.length ≤ sliceBase (c + 1)) ∧
        (s.heldIn (off.toNat / 64 * 64) ((off.toNat + bytes.length + 63) / 64 * 64 - off.toNat / 64 * 64) = false)) ∧
    (∃ (s : State) (pp : PPort) (off : BitVec 27) (r : Region) (w : Word),
      ((∃ c, r = .filters c) ∨ (∃ c, r = .objects c) ∨ (∃ c, r = .ephemeris c) ∨ ∃ c, r = .ring c) ∧
        (s.opens pp (clPg r.cluster)) ∧ ((s.pp pp).d3 = false) ∧ (s.ueWords = []) ∧ (s.poison = []) ∧ (off.toNat % 4 = 0) ∧
        (regionAt off.toNat = some r)) ∧
    (∃ (s : State) (pp : PPort) (off : BitVec 27) (r : Region) (w : Word),
      ((∃ c, r = .filters c) ∨ (∃ c, r = .objects c) ∨ (∃ c, r = .ephemeris c) ∨ ∃ c, r = .ring c) ∧
        (s.opens pp (clPg r.cluster)) ∧ ((s.pp pp).d3 = false) ∧ (s.ueWords = []) ∧ (s.poison = []) ∧ (off.toNat % 4 = 0) ∧
        (regionAt off.toNat = some r) ∧ (off = 0x4100004) ∧ (r = .objects 0)) ∧
    (∃ (s : State) (pp : PPort) (off : BitVec 27) (r : Region) (w : Word),
      ((∃ c, r = .filters c) ∨ (∃ c, r = .objects c) ∨ (∃ c, r = .ephemeris c) ∨ ∃ c, r = .ring c) ∧
        (s.opens pp (clPg r.cluster)) ∧ ((s.pp pp).d3 = false) ∧ (s.ueWords = []) ∧ (s.poison = []) ∧ (off.toNat % 4 = 0) ∧
        (regionAt off.toNat = some r) ∧ (off = 0x4100000) ∧ (r = .objects 0) ∧ (w = 0xFFFFFFFD)) ∧
    (∃ (s : State) (pp : PPort) (off : BitVec 27) (r : Region) (w : Word),
      ((∃ c, r = .filters c) ∨ (∃ c, r = .objects c) ∨ (∃ c, r = .ephemeris c) ∨ ∃ c, r = .ring c) ∧
        (s.opens pp (clPg r.cluster)) ∧ ((s.pp pp).d3 = false) ∧ (s.ueWords = []) ∧ (s.poison = []) ∧ (off.toNat % 4 = 0) ∧
        (regionAt off.toNat = some r) ∧ (off = 0x410001C) ∧ (r = .objects 0)) ∧
    (∃ (s : State) (pp : PPort) (off : BitVec 27) (r : Region) (w : Word),
      ((∃ c, r = .filters c) ∨ (∃ c, r = .objects c) ∨ (∃ c, r = .ephemeris c) ∨ ∃ c, r = .ring c) ∧
        (s.opens pp (clPg r.cluster)) ∧ ((s.pp pp).d3 = false) ∧ (s.ueWords = []) ∧ (s.poison = []) ∧ (off.toNat % 4 = 0) ∧
        (regionAt off.toNat = some r) ∧ (off = 0x4C00004) ∧ (r = .ring 0)) ∧
    (∃ (s : State) (pp : PPort) (off : BitVec 27) (n : Port) (w : Word),
      (s.opens pp (clPg (n.val / 16))) ∧ ((s.pp pp).d3 = false) ∧ (s.ueWords = []) ∧ (s.poison = []) ∧
        (off.toNat % 4 = 0) ∧ (regionAt off.toNat = some (.last n))) ∧
    (∃ (s : State) (pp : PPort) (off : BitVec 27) (n : Nat),
      (s.faults = []) ∧ (s.down = false) ∧ ((s.pp pp).d3 = false) ∧ (s.ueWords = []) ∧ (s.poison = []) ∧ (1 ≤ n) ∧
        (n ≤ 4096) ∧ (off.toNat + n ≤ 0x4000000)) ∧
    (∃ (s : State) (pp : PPort) (off : BitVec 27) (n : Nat),
      (s.faults = []) ∧ (s.down = false) ∧ ((s.pp pp).d3 = false) ∧ (s.ueWords = []) ∧ (s.poison = []) ∧ (1 ≤ n) ∧
        (n ≤ 4096) ∧ (off.toNat + n ≤ 0x4000000) ∧ (off = 0xFE) ∧ (n = 8)) :=
  ⟨⟨inMode .configure, 0, 1, 0x80013F, [some 1, none, some 3],
      by unfold State.opens; decide +kernel⟩,
    ⟨inMode .configure, 0, 0x4000004, .filters 0, 0xFFFFFFFF,
      (.inl ⟨0, rfl⟩), by unfold State.opens; decide +kernel⟩,
    ⟨inMode .configure, 0, 0x4100004, .objects 0, 0xFFFFFFFF,
      (.inr (.inl ⟨0, rfl⟩)), by unfold State.opens; decide +kernel⟩,
    ⟨inMode .configure, 0, 0x4100000, .objects 0, 0xFFFFFFFD,
      (.inr (.inl ⟨0, rfl⟩)), by unfold State.opens; decide +kernel⟩,
    ⟨(inMode .configure).mputs 0x4100000 [1], 0, 0x410001C, .objects 0, 0xFFFFFFFF,
      (.inr (.inl ⟨0, rfl⟩)), by unfold State.opens; decide +kernel⟩,
    ⟨inMode .configure, 0, 0x4C00004, .ring 0, 0xFFFFFFFF,
      (.inr (.inr (.inr ⟨0, rfl⟩))), by unfold State.opens; decide +kernel⟩,
    ⟨(inMode .run).mputs (lastBase 5 + 64) [1, 2, 3, 4], 0, BitVec.ofNat 27 (lastBase 5 + 64), 5, 0xFFFFFFFF,
      by unfold State.opens; decide +kernel⟩,
    ⟨(inMode .run).mputs 0x3FFFFFC [1, 2, 3, 4], 1, 0x3FFFFFC, 4,
      by decide +kernel⟩,
    ⟨(inMode .run).mputs 0x100 [1, 2, 3, 4], 1, 0xFE, 8,
      by decide +kernel⟩⟩

theorem wit_BitTimingRefusesEmptyPhases :
    (∃ (s : State) (pp : PPort) (n : Port) (off : BitVec 22) (val : BitVec 64),
      (s.opens pp (portPg n)) ∧ ((s.pp pp).d3 = false) ∧ (off.toNat = portPg n * 4096 + 0x040) ∧
        (bits (0x00090001 : BitVec 64).toNat 8 7 = 0 ∨ bits (0x00090001 : BitVec 64).toNat 16 6 = 0)) ∧
    (∃ (s : State) (pp : PPort) (n : Port) (off : BitVec 22) (val : BitVec 64),
      (s.opens pp (portPg n)) ∧ ((s.pp pp).d3 = false) ∧ (off.toNat = portPg n * 4096 + 0x040) ∧
        (bits (0x01090703 : BitVec 64).toNat 8 7 ≠ 0 ∧ bits (0x01090703 : BitVec 64).toNat 16 6 ≠ 0)) :=
  ⟨⟨inMode .configure, 0, 3, 0x83040, 0x00090001,
      by unfold State.opens; decide +kernel⟩,
    ⟨inMode .configure, 0, 127, 0xFF040, 0x01090703,
      by unfold State.opens; decide +kernel⟩⟩

theorem wit_ModesAndOwnersAreSet :
    (∃ (s : State) (pp : PPort),
      (s.opens pp devPg) ∧ (s.setModeOk (s.arg0 devPg % 16) = false)) ∧
    (∃ (s : State) (pp : PPort),
      (s.opens pp devPg) ∧ (s.stalled = false) ∧ (s.moving = none) ∧ (s.mode = .configure) ∧ (s.arg0 devPg % 16 = 3) ∧
        (s.rd devPg DEV_CLUSTERS_FENCED = 0) ∧ (s.portsSettled = true) ∧ (∀ n < 128, s.rd (portPg n) PORT_MODE_CFG < 2)) ∧
    (∃ (s : State) (pp : PPort),
      (s.opens pp devPg) ∧ (s.stalled = false) ∧ (s.moving = none) ∧ (s.mode = .configure) ∧ (s.arg0 devPg % 16 = 3) ∧
        (s.rd devPg DEV_CLUSTERS_FENCED = 0) ∧ (∀ n < 128, s.pmode n = pmOff ∧ (s.port n).move = none ∧
        (s.port n).moveNext = none) ∧ (∀ n < 128, s.abtOk n = true) ∧ (∃ n < 128, 2 ≤ s.rd (portPg n) PORT_MODE_CFG)) ∧
    (∃ (s : State) (pp : PPort),
      (s.opens pp devPg) ∧ (s.stalled = false) ∧ (s.moving = none) ∧ (s.mode = .configure) ∧ (s.arg0 devPg % 16 = 3) ∧
        (s.rd devPg DEV_CLUSTERS_FENCED ≠ 0)) ∧
    (∃ (s : State) (pp : PPort),
      (s.opens pp devPg) ∧ (s.stalled = false) ∧ (s.moving = none) ∧ (s.arg0 devPg % 16 = 2) ∧ (s.mode = .run ∨
        s.mode = .degraded) ∧ (s.portsSettled = true) ∧ (∀ n < 128, s.pmode n < 2)) ∧
    (∃ (s : State) (pp : PPort),
      (s.opens pp devPg) ∧ (s.stalled = false) ∧ (s.moving = none) ∧ (s.arg0 devPg % 16 = 2) ∧ (s.mode = .run ∨
        s.mode = .degraded) ∧ (s.rd devPg DEV_CLUSTERS_FENCED = 0) ∧ (∀ n < 128, (s.port n).move = none ∧
        (s.port n).moveNext = none) ∧ (∃ n < 128, busMode (s.pmode n) = true)) ∧
    (∃ (s : State) (pp : PPort),
      (s.opens pp devPg) ∧ (s.stalled = false) ∧ (s.moving = none) ∧ (s.mode = .configure) ∧ (s.arg0 devPg % 16 = 7)) ∧
    (∃ (s : State) (pp : PPort),
      (s.opens pp devPg) ∧ (s.stalled = false) ∧ (s.moving = none) ∧ (s.mode = .test) ∧ (s.arg0 devPg % 16 = 2)) ∧
    (∃ (s : State) (pp : PPort),
      (s.opens pp devPg) ∧ (s.arg0 devPg % 16 = 5) ∧ (s.mode = .configure ∨ s.mode = .run ∨ s.mode = .degraded ∨
        s.mode = .test)) ∧
    (∃ (s : State) (pp : PPort),
      (s.opens pp devPg) ∧ (s.stalled = false) ∧ (s.moving = none) ∧ (s.mode = .safe) ∧ (s.arg0 devPg % 16 = 2) ∧
        ((s.lines.any fun e => e.2.sticky && e.2.level == 4) = false)) ∧
    (∃ (s : State) (pp : PPort),
      (s.opens pp devPg) ∧ (s.stalled = false) ∧ (s.moving = none) ∧ (s.mode = .configure ∨ s.mode = .safe) ∧
        (s.arg0 devPg % 16 = 0)) ∧
    (∃ (s : State) (pp : PPort) (first : Nat) (last : Nat),
      (s.opens pp devPg) ∧ (first = s.arg0 devPg % 2 ^ 10) ∧ (last = s.arg0 devPg / 2 ^ 16 % 2 ^ 10) ∧ (first ≤ last) ∧
        (last ≤ 0x27F)) ∧
    (∃ (s : State) (pp : PPort) (first : Nat) (last : Nat),
      (s.opens pp devPg) ∧ (first = s.arg0 devPg % 2 ^ 10) ∧ (last = s.arg0 devPg / 2 ^ 16 % 2 ^ 10) ∧ (first ≤ last) ∧
        (last ≤ 0x27F) ∧ (first = 0) ∧ (last = 0x27F)) ∧
    (∃ (s : State) (pp : PPort),
      (s.opens pp devPg) ∧ (s.arg0 devPg / 2 ^ 16 % 2 ^ 10 < s.arg0 devPg % 2 ^ 10 ∨
        0x27F < s.arg0 devPg / 2 ^ 16 % 2 ^ 10)) :=
  ⟨⟨arg (inMode .configure) devPg 8 0, 0,
      by unfold State.opens; decide +kernel⟩,
    ⟨arg (inMode .configure) devPg 3 0, 0,
      by unfold State.opens; decide +kernel⟩,
    ⟨(arg (inMode .configure) devPg 3 0).wr (portPg 5) PORT_MODE_CFG 2 |>.wr (portPg 6) PORT_MODE_CFG 1, 0,
      by unfold State.opens; decide +kernel⟩,
    ⟨(arg (inMode .configure) devPg 3 0).wr devPg DEV_CLUSTERS_FENCED 2, 0,
      by unfold State.opens; decide +kernel⟩,
    ⟨arg (inMode .run) devPg 2 0, 0,
      by unfold State.opens; decide +kernel⟩,
    ⟨arg (portIn .run 2 2 {}) devPg 2 0, 0,
      by unfold State.opens; decide +kernel⟩,
    ⟨arg (portIn .configure 1 0 {}) devPg 7 0, 0,
      by unfold State.opens; decide +kernel⟩,
    ⟨arg (inMode .test) devPg 2 0, 0,
      by unfold State.opens; decide +kernel⟩,
    ⟨arg (inMode .configure) devPg 5 0, 0,
      by unfold State.opens; decide +kernel⟩,
    ⟨arg (inMode .safe) devPg 2 0, 0,
      by unfold State.opens; decide +kernel⟩,
    ⟨(arg (inMode .configure) devPg 0 0).wr aonPg AON_WAKE_EN_PORTS 32, 0,
      by unfold State.opens; decide +kernel⟩,
    ⟨arg (inMode .configure) devPg 0x00330030 2, 0, 0x30, 0x33,
      by unfold State.opens; decide +kernel⟩,
    ⟨arg (inMode .configure) devPg 0x027F0000 1, 0, 0, 0x27F,
      by unfold State.opens; decide +kernel⟩,
    ⟨arg (inMode .configure) devPg 0x00330034 2, 0,
      by unfold State.opens; decide +kernel⟩⟩

theorem wit_CandidatesAreRankedOfferedAndWonOrLost :
    (∃ (s : State) (n : Nat) (uid : Nat) (j : Job),
      (s.topJob n = some (uid, j))) ∧
    (∃ (s : State) (n : Port) (nextUp : Bool) (uid : Nat) (j : Job) (x : JobPort),
      (s.faults = []) ∧ ((s.port n).cand = none) ∧ (s.offers n = true) ∧ (s.aloneHolds n = false) ∧
        (nextUp = true → s.free n true) ∧ (s.bestCand n = some (.job uid)) ∧ (s.job? uid = some j) ∧ (j.on n = some x)) ∧
    (∃ (s : State) (n : Port) (nextUp : Bool) (uid : Nat) (j : Job) (x : JobPort),
      (s.faults = []) ∧ ((s.port n).cand = none) ∧ (s.offers n = true) ∧ (s.aloneHolds n = false) ∧
        (nextUp = true → s.free n true) ∧ (s.bestCand n = some (.job uid)) ∧ (s.job? uid = some j) ∧ (j.on n = some x) ∧
        (nextUp = true)) ∧
    (∃ (s : State) (n : Port) (nextUp : Bool),
      (s.faults = []) ∧ ((s.port n).cand = none) ∧ (s.offers n = true) ∧ (s.aloneHolds n = false) ∧
        (nextUp = true → s.free n true) ∧ (s.bestCand n = some .sync)) ∧
    (∃ (s : State) (n : Port) (nextUp : Bool),
      (s.faults = []) ∧ ((s.port n).cand = none) ∧ (s.offers n = true) ∧ (s.aloneHolds n = false) ∧
        (nextUp = true → s.free n true) ∧ (s.bestCand n = some .sync) ∧ (nextUp = true)) ∧
    (∃ (s : State) (n : Port) (nextUp : Bool) (uid : Nat) (back : Nat) (e : Nat) (j : Job) (x : JobPort),
      (s.contends n (.job uid) nextUp (s.momentOf back)) ∧ (s.job? uid = some j) ∧ (j.lost = false) ∧ (j.on n = some x) ∧
        (x.stage = .offered) ∧ (x.doom = none) ∧ (x.cancelBy = [])) ∧
    (∃ (s : State) (n : Port) (nextUp : Bool) (uid : Nat) (back : Nat) (e : Nat) (j : Job) (x : JobPort),
      (s.contends n (.job uid) nextUp (s.momentOf back)) ∧ (s.job? uid = some j) ∧ (j.lost = false) ∧ (j.on n = some x) ∧
        (x.stage = .offered) ∧ (x.doom = none) ∧ (x.cancelBy = []) ∧ (nextUp = true)) ∧
    (∃ (s : State) (n : Port) (nextUp : Bool) (uid : Nat) (back : Nat) (e : Nat) (w : BitVec 6) (j : Job) (x : JobPort),
      (s.contends n (.job uid) nextUp (s.momentOf back)) ∧ (s.job? uid = some j) ∧ (j.lost = false) ∧ (j.on n = some x) ∧
        (x.stage = .offered) ∧ (x.doom = none) ∧ (x.cancelBy = [])) ∧
    (∃ (s : State) (n : Port) (uid : Nat) (back : Nat) (e : Nat) (j : Job) (x : JobPort),
      (s.contends n (.job uid) false (s.momentOf back)) ∧ (s.job? uid = some j) ∧ (j.on n = some x) ∧ (x.cancelBy = [])) ∧
    (∃ (s : State) (n : Port) (uid : Nat) (back : Nat) (e : Nat) (j : Job) (x : JobPort),
      (s.contends n (.job uid) true (s.momentOf back)) ∧ (s.job? uid = some j) ∧ (j.on n = some x) ∧ (x.cancelBy = [])) ∧
    (∃ (s : State) (n : Port) (back : Nat) (e : Nat) (y : SyncSlot),
      (s.contends n .sync false (s.momentOf back)) ∧ ((s.port n).sync = some y)) ∧
    (∃ (s : State) (n : Port) (won : Bool) (lostIn : Option (BitVec 6)) (uid : Nat) (back : Nat) (e : Nat) (j : Job) (x : JobPort),
      (s.faults = []) ∧ (s.onBus n = true) ∧ (s.port n).cand = some (.job uid) ∧ ((s.port n).candNext = false) ∧
        (s.free n false) ∧ ((s.momentOf back).eclipseOpen n = true) ∧ (s.candControl n = false) ∧ (s.job? uid = some j) ∧
        (j.lost = false) ∧ (j.on n = some x) ∧ (x.stage = .offered) ∧ (x.doom = none) ∧ (x.cancelBy = [])) ∧
    (∃ (s : State) (n : Port) (won : Bool) (lostIn : Option (BitVec 6)) (uid : Nat) (back : Nat) (e : Nat) (j : Job) (x : JobPort),
      (s.faults = []) ∧ (s.onBus n = true) ∧ (s.port n).cand = some (.job uid) ∧ ((s.port n).candNext = false) ∧
        (s.free n false) ∧ ((s.momentOf back).eclipseOpen n = true) ∧ (s.candControl n = false) ∧ (s.job? uid = some j) ∧
        (j.lost = false) ∧ (j.on n = some x) ∧ (x.stage = .offered) ∧ (x.doom = none) ∧ (x.cancelBy = []) ∧
        (won = false)) :=
  ⟨⟨withJob .run 2 {} .pending, 5, 7, lowJob .pending,
      by decide +kernel⟩,
    ⟨withJob .run 2 {} .pending, 5, false, 7, lowJob .pending, { port := 5 },
      by unfold State.free; decide +kernel⟩,
    ⟨withJob .run 2 nextUpIn .pending, 5, true, 7, lowJob .pending, { port := 5 },
      by unfold State.free; decide +kernel⟩,
    ⟨portIn .run 2 2 { sync := some { id := 0x55, long := false, aud := false, ann := none } }, 5, false,
      by unfold State.free; decide +kernel⟩,
    ⟨portIn .run 2 2 { nextUpIn with sync := some { id := 0x55, long := false, aud := false, ann := none } }, 5, true,
      by unfold State.free; decide +kernel⟩,
    ⟨withJob .run 2 { cand := some (.job 7) } .offered, 5, false, 7, 0, 100, lowJob .offered,
      { port := 5, stage := .offered },
      by unfold State.contends State.free; decide +kernel⟩,
    ⟨withJob .run 2 { nextUpIn with cand := some (.job 7), candNext := true } .offered, 5, true, 7, 0, 100,
      lowJob .offered, { port := 5, stage := .offered },
      by unfold State.contends State.free; decide +kernel⟩,
    ⟨withJob .run 2 { cand := some (.job 7) } .offered, 5, false, 7, 0, 100, 3, lowJob .offered,
      { port := 5, stage := .offered },
      by unfold State.contends State.free; decide +kernel⟩,
    ⟨withJob .run 2 { cand := some (.job 7) } .offered, 5, 7, 0, 100, lowJob .offered, { port := 5, stage := .offered },
      by unfold State.contends State.free; decide +kernel⟩,
    ⟨withJob .run 2 { nextUpIn with cand := some (.job 7), candNext := true } .offered, 5, 7, 0, 100, lowJob .offered,
      { port := 5, stage := .offered },
      by unfold State.contends State.free; decide +kernel⟩,
    ⟨portIn .run 2 2 { cand := some .sync, sync := some { id := 0x55, long := false, aud := false, ann := none } }, 5, 0,
      100, { id := 0x55, long := false, aud := false, ann := none },
      by unfold State.contends State.free; decide +kernel⟩,
    ⟨(withJob .run 2 { cand := some (.job 7) } .offered).wr (portPg 5) PORT_ECL_SW_OPEN 1, 5, true, none, 7, 0, 100,
      lowJob .offered, { port := 5, stage := .offered },
      by unfold State.free; decide +kernel⟩,
    ⟨(withJob .run 2 { cand := some (.job 7) } .offered).wr (portPg 5) PORT_ECL_SW_OPEN 1, 5, false, none, 7, 0, 100,
      lowJob .offered, { port := 5, stage := .offered },
      by unfold State.free; decide +kernel⟩⟩

theorem wit_HeadsAreClaimed :
    (∃ (s : State) (n : Nat) (id : Nat) (snd : Nat) (i : Nat) (cnt : Nat) (k : Nat) (long : Bool),
      (k < cnt) ∧ (∀ m < k, s.brokenIn (filterBase (n / 16) + 16 * (i + m)) 16 = false ∧
        s.elemValid (n / 16) (s.elem (n / 16) (i + m)) = true ∧ (s.elem (n / 16) (i + m)).hits id long snd = false) ∧
        (s.brokenIn (filterBase (n / 16) + 16 * (i + k)) 16 = false) ∧
        (s.elemValid (n / 16) (s.elem (n / 16) (i + k)) = true) ∧ ((s.elem (n / 16) (i + k)).hits id long snd = true)) ∧
    (∃ (s : State) (n : Port) (i : Nat) (h : Head) (nextUp : Bool) (back : Nat) (e : Nat) (pulse : Nat),
      (s.hears n h nextUp (s.momentOf back)) ∧ (s.rd (portPg n) PORT_FLT_LIST_FIRST = i) ∧
        (s.rd (portPg n) PORT_FLT_LIST_COUNT = 1) ∧ (s.elemValid (n.val / 16) (s.elem (n.val / 16) i) = false) ∧
        (s.brokenIn (filterBase (n.val / 16) + 16 * i) 16 = false)) ∧
    (∃ (s : State) (n : Port) (i : Nat) (h : Head) (nextUp : Bool) (back : Nat) (e : Nat) (pulse : Nat),
      (s.hears n h nextUp (s.momentOf back)) ∧ (s.rd (portPg n) PORT_FLT_LIST_FIRST = i) ∧
        (s.rd (portPg n) PORT_FLT_LIST_COUNT = 1) ∧ (s.elemValid (n.val / 16) (s.elem (n.val / 16) i) = false) ∧
        (s.brokenIn (filterBase (n.val / 16) + 16 * i) 16 = false) ∧ (h = cometHead) ∧ (nextUp = true)) ∧
    (∃ (s : State) (n : Port) (h : Head) (nextUp : Bool) (back : Nat) (e : Nat) (pulse : Nat),
      (s.hears n h nextUp (s.momentOf back)) ∧
        (s.evalList n h.id.toNat h.long h.snd.toNat [] (s.rd (portPg n) PORT_FLT_LIST_FIRST) (s.rd (portPg n) PORT_FLT_LIST_COUNT) = (none,
        s))) ∧
    (∃ (s : State) (n : Port) (h : Head) (nextUp : Bool) (back : Nat) (e : Nat) (pulse : Nat),
      (s.hears n h nextUp (s.momentOf back)) ∧
        (s.evalList n h.id.toNat h.long h.snd.toNat [] (s.rd (portPg n) PORT_FLT_LIST_FIRST) (s.rd (portPg n) PORT_FLT_LIST_COUNT) = (none,
        s)) ∧ (h = cometHead) ∧ (nextUp = true)) ∧
    (∃ (s : State) (n : Port) (h : Head) (nextUp : Bool) (back : Nat) (e : Nat) (pulse : Nat) (i : Nat) (el : Elem),
      (s.hears n h nextUp (s.momentOf back)) ∧
        (s.evalList n h.id.toNat h.long h.snd.toNat [] (s.rd (portPg n) PORT_FLT_LIST_FIRST) (s.rd (portPg n) PORT_FLT_LIST_COUNT) = (some (i,
        el), s)) ∧ (el.dest = 0 ∨ el.kinds.testBit h.kind.code = false ∨ (h.kind = .comet ∧
        (s.rd (phyPg n) PHY_RUNG_RX_EN).testBit h.rung.val = false))) ∧
    (∃ (s : State) (n : Port) (h : Head) (nextUp : Bool) (back : Nat) (e : Nat) (pulse : Nat) (i : Nat) (el : Elem),
      (s.hears n h nextUp (s.momentOf back)) ∧
        (s.evalList n h.id.toNat h.long h.snd.toNat [] (s.rd (portPg n) PORT_FLT_LIST_FIRST) (s.rd (portPg n) PORT_FLT_LIST_COUNT) = (some (i,
        el), s)) ∧ (el.dest = 0 ∨ el.kinds.testBit h.kind.code = false ∨ (h.kind = .comet ∧
        (s.rd (phyPg n) PHY_RUNG_RX_EN).testBit h.rung.val = false)) ∧ (el = (listS {} [0x01000022, 0x123, 0x123,
        6]).elem 0 4)) ∧
    (∃ (s : State) (n : Port) (h : Head) (nextUp : Bool) (back : Nat) (e : Nat) (pulse : Nat) (i : Nat) (el : Elem),
      (s.hears n h nextUp (s.momentOf back)) ∧
        (s.evalList n h.id.toNat h.long h.snd.toNat [] (s.rd (portPg n) PORT_FLT_LIST_FIRST) (s.rd (portPg n) PORT_FLT_LIST_COUNT) = (some (i,
        el), s)) ∧ (el.dest = 0 ∨ el.kinds.testBit h.kind.code = false ∨ (h.kind = .comet ∧
        (s.rd (phyPg n) PHY_RUNG_RX_EN).testBit h.rung.val = false)) ∧ (h = cometHead) ∧ (el = ((listS {} [0x01000022,
        0x123, 0x123, 6]).wr (phyPg 5) PHY_RUNG_RX_EN 14).elem 0 4)) ∧
    (∃ (s : State) (n : Port) (c : Nat) (h : Head) (nextUp : Bool) (back : Nat) (e : Nat) (pulse : Nat) (i : Nat) (k : Nat) (el : Elem),
      (s.hears n h nextUp (s.momentOf back)) ∧ (c = n.val / 16) ∧
        (s.evalList n h.id.toNat h.long h.snd.toNat [] (s.rd (portPg n) PORT_FLT_LIST_FIRST) (s.rd (portPg n) PORT_FLT_LIST_COUNT) = (some (i,
        el), s)) ∧ (el.dest = 1) ∧ (el.kinds.testBit h.kind.code = true) ∧ (h.kind ≠ .comet) ∧
        (s.fifoRoom c el.index el.ess = true) ∧ (k = s.rd (clPg c) RXF_CFG_TGT el.index) ∧ (k < 16) ∧
        (s.ringRoom c k el.ess = true)) ∧
    (∃ (s : State) (s' : State) (n : Port) (c : Nat) (a : Nat) (h : Head) (nextUp : Bool) (back : Nat) (e : Nat) (pulse : Nat) (i : Nat) (k : Nat) (el : Elem),
      (s.hears n h nextUp (s.momentOf back)) ∧ (c = n.val / 16) ∧
        (s.evalList n h.id.toNat h.long h.snd.toNat [] (s.rd (portPg n) PORT_FLT_LIST_FIRST) (s.rd (portPg n) PORT_FLT_LIST_COUNT) = (some (i,
        el), s)) ∧ (el.dest = 1) ∧ (el.push = false) ∧ (el.kinds.testBit 1 = true) ∧ (h.kind = .comet) ∧
        ((s.rd (phyPg n) PHY_RUNG_RX_EN).testBit h.rung.val = true) ∧ (s.fifoRoom c el.index el.ess = true) ∧
        (k = s.rd (clPg c) RXF_CFG_TGT el.index) ∧ (k < 16) ∧ (s.ringRoom c k el.ess = true) ∧
        (s.takeRx c (payloadBytes .comet h.len.toNat) el.ess (.claim s.nextUid) = some (a, s'))) ∧
    (∃ (s : State) (n : Port) (h : Head) (nextUp : Bool) (back : Nat) (e : Nat) (pulse : Nat) (i : Nat) (el : Elem),
      (s.hears n h nextUp (s.momentOf back)) ∧
        (s.evalList n h.id.toNat h.long h.snd.toNat [] (s.rd (portPg n) PORT_FLT_LIST_FIRST) (s.rd (portPg n) PORT_FLT_LIST_COUNT) = (some (i,
        el), s)) ∧ (el.kinds.testBit h.kind.code = true) ∧ (h.kind ≠ .comet) ∧ ((el.dest = 2 ∧ el.notify = false) ∨
        (el.dest = 3 ∧ el.aux < 16 ∧ s.ringRoom (n.val / 16) el.aux el.ess = true))) ∧
    (∃ (s : State) (n : Port) (h : Head) (nextUp : Bool) (back : Nat) (e : Nat) (pulse : Nat) (i : Nat) (el : Elem),
      (s.hears n h nextUp (s.momentOf back)) ∧
        (s.evalList n h.id.toNat h.long h.snd.toNat [] (s.rd (portPg n) PORT_FLT_LIST_FIRST) (s.rd (portPg n) PORT_FLT_LIST_COUNT) = (some (i,
        el), s)) ∧ (el.kinds.testBit h.kind.code = true) ∧ (h.kind ≠ .comet) ∧ ((el.dest = 2 ∧ el.notify = false) ∨
        (el.dest = 3 ∧ el.aux < 16 ∧ s.ringRoom (n.val / 16) el.aux el.ess = true)) ∧ (el = (listS {} [0x03000012, 0x123,
        0x123, 0x20000]).elem 0 4)) ∧
    (∃ (s : State) (n : Port) (c : Nat) (ctx : Nat) (h : Head) (nextUp : Bool) (back : Nat) (e : Nat) (pulse : Nat) (i : Nat) (el : Elem),
      (s.hears n h nextUp (s.momentOf back)) ∧ (c = n.val / 16) ∧
        (s.evalList n h.id.toNat h.long h.snd.toNat [] (s.rd (portPg n) PORT_FLT_LIST_FIRST) (s.rd (portPg n) PORT_FLT_LIST_COUNT) = (some (i,
        el), s)) ∧ (el.dest = 4) ∧ (el.copy = false) ∧ (el.kinds.testBit h.kind.code = true) ∧ (h.kind ≠ .comet) ∧
        (s.freeCtx c = some ctx) ∧
        (((s.forwards c).filter fun x => x.2.idx == el.index).length < bits (s.txObj c el.index).len 0 8)) ∧
    (∃ (s : State) (n : Port) (c : Nat) (h : Head) (nextUp : Bool) (back : Nat) (e : Nat) (pulse : Nat) (i : Nat) (k : Nat) (el : Elem),
      (s.hears n h nextUp (s.momentOf back)) ∧ (c = n.val / 16) ∧
        (s.evalList n h.id.toNat h.long h.snd.toNat [] (s.rd (portPg n) PORT_FLT_LIST_FIRST) (s.rd (portPg n) PORT_FLT_LIST_COUNT) = (some (i,
        el), s)) ∧ (el.dest = 1) ∧ (el.kinds.testBit h.kind.code = true) ∧ (h.kind ≠ .comet) ∧
        (k = s.rd (clPg c) RXF_CFG_TGT el.index) ∧ (s.fifoRoom c el.index el.ess = false ∨
        s.ringRoom c k el.ess = false)) ∧
    (∃ (s : State) (n : Port) (c : Nat) (h : Head) (nextUp : Bool) (back : Nat) (e : Nat) (pulse : Nat) (i : Nat) (k : Nat) (el : Elem),
      (s.hears n h nextUp (s.momentOf back)) ∧ (c = n.val / 16) ∧
        (s.evalList n h.id.toNat h.long h.snd.toNat [] (s.rd (portPg n) PORT_FLT_LIST_FIRST) (s.rd (portPg n) PORT_FLT_LIST_COUNT) = (some (i,
        el), s)) ∧ (el.dest = 1) ∧ (el.kinds.testBit h.kind.code = true) ∧ (h.kind ≠ .comet) ∧
        (k = s.rd (clPg c) RXF_CFG_TGT el.index) ∧ (s.fifoRoom c el.index el.ess = false ∨ s.ringRoom c k el.ess = false) ∧
        (el = ((listS {} [0x01000012, 0x123, 0x123, 6]).wr (tnPg 2) T_RING_CFG_EN 0).elem 0 4)) :=
  ⟨⟨listS {} [0x01000012, 0x123, 0x123, 6], 5, 0x123, 9, 3, 2, 1, false,
      by decide +kernel⟩,
    ⟨listS {} [0x05000012, 0x123, 0x123, 6], 5, 4, lowHead, false, 0, 100, 0,
      by unfold State.hears State.free; decide +kernel⟩,
    ⟨listS nextUpIn [0x05000012, 0x123, 0x123, 6], 5, 4, cometHead, true, 0, 100, 0,
      by unfold State.hears State.free; decide +kernel⟩,
    ⟨portIn .run 2 2 {}, 5, lowHead, false, 0, 100, 0,
      by unfold State.hears State.free; decide +kernel⟩,
    ⟨portIn .run 2 2 nextUpIn, 5, cometHead, true, 0, 100, 0,
      by unfold State.hears State.free; decide +kernel⟩,
    ⟨listS {} [0x12, 0x123, 0x123, 6], 5, lowHead, false, 0, 100, 0, 4, (listS {} [0x12, 0x123, 0x123, 6]).elem 0 4,
      by unfold State.hears State.free; decide +kernel⟩,
    ⟨listS {} [0x01000022, 0x123, 0x123, 6], 5, lowHead, false, 0, 100, 0, 4, (listS {} [0x01000022, 0x123, 0x123,
      6]).elem 0 4,
      by unfold State.hears State.free; decide +kernel⟩,
    ⟨(listS {} [0x01000022, 0x123, 0x123, 6]).wr (phyPg 5) PHY_RUNG_RX_EN 14, 5, cometHead, false, 0, 100, 0, 4,
      ((listS {} [0x01000022, 0x123, 0x123, 6]).wr (phyPg 5) PHY_RUNG_RX_EN 14).elem 0 4,
      by unfold State.hears State.free; decide +kernel⟩,
    ⟨listS {} [0x01000012, 0x123, 0x123, 6], 5, 0, lowHead, false, 0, 100, 0, 4, 2, (listS {} [0x01000012, 0x123, 0x123,
      6]).elem 0 4,
      by unfold State.hears State.free; decide +kernel⟩,
    ⟨((listS {} [0x01000022, 0x123, 0x123, 6]).wr (clPg 0) CL_RXPOOL_BASE 4).wr (clPg 0) CL_RXPOOL_SIZE 2,
      (((((listS {} [0x01000022, 0x123, 0x123,
      6]).wr (clPg 0) CL_RXPOOL_BASE 4).wr (clPg 0) CL_RXPOOL_SIZE 2).takeRx 0 (payloadBytes .comet 0) false (.claim (((listS {} [0x01000022,
      0x123, 0x123, 6]).wr (clPg 0) CL_RXPOOL_BASE 4).wr (clPg 0) CL_RXPOOL_SIZE 2).nextUid)).map Prod.snd).getD State.reset,
      5, 0, (((((listS {} [0x01000022, 0x123, 0x123,
      6]).wr (clPg 0) CL_RXPOOL_BASE 4).wr (clPg 0) CL_RXPOOL_SIZE 2).takeRx 0 (payloadBytes .comet 0) false (.claim (((listS {} [0x01000022,
      0x123, 0x123, 6]).wr (clPg 0) CL_RXPOOL_BASE 4).wr (clPg 0) CL_RXPOOL_SIZE 2).nextUid)).map Prod.fst).getD 0,
      cometHead, false, 0, 100, 0, 4, 2, (((listS {} [0x01000022, 0x123, 0x123,
      6]).wr (clPg 0) CL_RXPOOL_BASE 4).wr (clPg 0) CL_RXPOOL_SIZE 2).elem 0 4,
      by unfold State.hears State.free; decide +kernel⟩,
    ⟨(listS {} [0x02000012, 0x123, 0x123, 6]).wr (clPg 0) CL_BUFAREA_EN 1, 5, lowHead, false, 0, 100, 0, 4,
      ((listS {} [0x02000012, 0x123, 0x123, 6]).wr (clPg 0) CL_BUFAREA_EN 1).elem 0 4,
      by unfold State.hears State.free; decide +kernel⟩,
    ⟨listS {} [0x03000012, 0x123, 0x123, 0x20000], 5, lowHead, false, 0, 100, 0, 4, (listS {} [0x03000012, 0x123, 0x123,
      0x20000]).elem 0 4,
      by unfold State.hears State.free; decide +kernel⟩,
    ⟨listS {} [0x04000012, 0x123, 0x123, 6], 5, 0, 0, lowHead, false, 0, 100, 0, 4, (listS {} [0x04000012, 0x123, 0x123,
      6]).elem 0 4,
      by unfold State.hears State.free; decide +kernel⟩,
    ⟨(listS {} [0x01000012, 0x123, 0x123, 6]).wr (clPg 0) RXF_RSV_SLOTS 8 6, 5, 0, lowHead, false, 0, 100, 0, 4, 2,
      ((listS {} [0x01000012, 0x123, 0x123, 6]).wr (clPg 0) RXF_RSV_SLOTS 8 6).elem 0 4,
      by unfold State.hears State.free; decide +kernel⟩,
    ⟨(listS {} [0x01000012, 0x123, 0x123, 6]).wr (tnPg 2) T_RING_CFG_EN 0, 5, 0, lowHead, false, 0, 100, 0, 4, 2,
      ((listS {} [0x01000012, 0x123, 0x123, 6]).wr (tnPg 2) T_RING_CFG_EN 0).elem 0 4,
      by unfold State.hears State.free; decide +kernel⟩⟩

theorem wit_TailsAreChecked :
    (∃ (s : State) (n : Port) (f : BusFrame) (payload : List Byte) (crc : Word) (intact : Bool) (coef : Option TailCoef),
      (s.faults = []) ∧ (s.onBus n = true) ∧ ((s.port n).cur = some f) ∧ (f.head.kind = .comet) ∧ (f.recv = true) ∧
        (f.failed = false) ∧ (f.own = none) ∧ (f.tailOver = false) ∧ (f.cold = false) ∧ ((s.port n).window = false) ∧
        (f.claim.blk = none)) ∧
    (∃ (s : State) (n : Port) (f : BusFrame) (payload : List Byte) (crc : Word) (intact : Bool) (coef : Option TailCoef),
      (s.faults = []) ∧ (s.onBus n = true) ∧ ((s.port n).cur = some f) ∧ (f.head.kind = .comet) ∧ (f.recv = true) ∧
        (f.failed = false) ∧ (f.own = none) ∧ (f.tailOver = false) ∧ (f.cold = false) ∧ ((s.port n).window = false) ∧
        (f.claim.blk = none) ∧ (crc = 0)) ∧
    (∃ (s : State) (n : Port) (f : BusFrame) (b : Block) (payload : List Byte) (crc : Word) (intact : Bool) (coef : Option TailCoef),
      (s.faults = []) ∧ (s.onBus n = true) ∧ ((s.port n).cur = some f) ∧ (f.head.kind = .comet) ∧ (f.recv = true) ∧
        (f.failed = false) ∧ (f.own = none) ∧ (f.tailOver = false) ∧ (f.cold = false) ∧ ((s.port n).window = false) ∧
        (f.claim.blk.bind s.blockAt = some b) ∧ (b.addr + b.len ≤ 0x4000000) ∧ (payload.length ≤ b.len)) ∧
    (∃ (s : State) (n : Port) (f : BusFrame) (payload : List Byte) (crc : Word) (intact : Bool) (coef : Option TailCoef),
      (s.faults = []) ∧ (s.onBus n = true) ∧ ((s.port n).cur = some f) ∧ (f.head.kind = .comet) ∧ (f.recv = false) ∧
        (f.own = none) ∧ (f.tailOver = false) ∧ (f.cold = false)) ∧
    (∃ (s : State) (n : Port) (f : BusFrame) (uid : Nat) (payload : List Byte) (crc : Word) (intact : Bool) (coef : Option TailCoef),
      (∀ x, s.onPort uid n = some x → x.doom ≠ some .dataLost) ∧ (s.faults = []) ∧ (s.onBus n = true) ∧
        ((s.port n).cur = some f) ∧ (f.head.kind = .comet) ∧ (f.recv = false) ∧ (f.own = some (.job uid)) ∧
        (f.tailOver = false) ∧ (f.cold = false)) ∧
    (∃ (s : State) (n : Port) (f : BusFrame),
      (s.faults = []) ∧ (s.onBus n = true) ∧ ((s.port n).cur = some f) ∧ (f.head.kind = .comet) ∧ (f.recv = true) ∧
        (f.tailOver = false) ∧ (f.cold = false)) :=
  ⟨⟨portIn .run 2 2 { cur := some { head := cometHead, own := none, recv := true } }, 5,
    { head := cometHead, own := none, recv := true }, [1, 2, 3, 4], 691047668, true, none,
      by decide +kernel⟩,
    ⟨portIn .run 2 2 { cur := some { head := cometHead, own := none, recv := true } }, 5,
      { head := cometHead, own := none, recv := true }, [1, 2, 3, 4], 0, true, none,
      by decide +kernel⟩,
    ⟨{ portIn .run 2 2 { cur := some { head := cometHead, own := none, recv := true, claim := { uid := 3, verdict := .claimed, dest := 1, index := 6, fifo := some 6, blk := some 0x100 } } } with blocks := [⟨0x100, 256, .rx, [.claim 3], false⟩] },
      5, { head := cometHead, own := none, recv := true, claim := { uid := 3, verdict := .claimed, dest := 1, index := 6, fifo := some 6, blk := some 0x100 } },
      ⟨0x100, 256, .rx, [.claim 3], false⟩, [1, 2, 3, 4], 691047668, true, none,
      by decide +kernel⟩,
    ⟨portIn .run 2 2 { cur := some { head := cometHead, own := none } }, 5, { head := cometHead, own := none }, [1, 2, 3,
      4], 0, true, none,
      by decide +kernel⟩,
    ⟨withJob .run 2 { cur := some { head := cometHead, own := some (.job 7) } } .won, 5,
      { head := cometHead, own := some (.job 7) }, 7, [], 0, true, none,
      (by
      intro x h
      have e : State.onPort (withJob .run 2 { cur := some { head := cometHead, own := some (.job 7) } } .won) 7 5 = some { port := 5, stage := .won } := by decide +kernel
      cases h.symm.trans e
      decide), by decide +kernel⟩,
    ⟨portIn .run 2 2 { cur := some { head := cometHead, own := none, recv := true } }, 5,
      { head := cometHead, own := none, recv := true },
      by decide +kernel⟩⟩

theorem wit_FramesReachTheirFifoOrEndTheirObject :
    (∃ (s : State) (n : Port) (f : BusFrame) (data : List Byte),
      (s.delimits n f data) ∧ (f.claim.verdict = .rejected)) ∧
    (∃ (s : State) (n : Port) (f : BusFrame) (data : List Byte) (cause : Nat),
      (s.delimits n f data) ∧ (f.claim.verdict = .overrun cause false) ∧ (f.claim.fifo = none)) ∧
    (∃ (s : State) (n : Port) (c : Nat) (fi : Nat) (a : Nat) (f : BusFrame) (data : List Byte),
      (s.delimits n f data) ∧ (c = n.val / 16) ∧ (f.head.kind ≠ .comet) ∧ (f.claim.verdict = .claimed) ∧
        (f.claim.dest = 1) ∧ (f.claim.index = fi) ∧ (f.claim.fifo = some fi) ∧ (f.claim.push = false) ∧
        (f.claim.blk = none) ∧ (fi < 64) ∧ (s.rd (clPg c) RXF_CFG_BASE fi < 8192) ∧ (∀ b ∈ s.blocks,
        .claim f.claim.uid ∉ b.users ∧ b.users ≠ []) ∧
        (a = ringBase c + (s.rd (clPg c) RXF_CFG_BASE fi + s.rd (clPg c) RXF_PUT_PUT fi % 2 ^ s.rd (clPg c) RXF_CFG_LOG2 fi) * 64)) ∧
    (∃ (s : State) (n : Port) (c : Nat) (fi : Nat) (a : Nat) (o : Nat) (b : Block) (f : BusFrame) (data : List Byte),
      (s.delimits n f data) ∧ (c = n.val / 16) ∧ (f.head.kind = .comet) ∧ (f.recv = true) ∧ (f.claim.verdict = .claimed) ∧
        (f.claim.dest = 1) ∧ (f.claim.index = fi) ∧ (f.claim.push = false) ∧ (f.claim.ring = none) ∧
        (f.claim.blk = some o) ∧ (o < 2 ^ 32) ∧ (s.blockAt o = some b) ∧ (b.lost = false) ∧
        (b.users = [.claim f.claim.uid]) ∧ (∀ x ∈ s.blocks, x = b ∨ x.addr ≠ o) ∧ (fi < 64) ∧
        (s.rd (clPg c) RXF_CFG_BASE fi < 8192) ∧
        (a = ringBase c + (s.rd (clPg c) RXF_CFG_BASE fi + s.rd (clPg c) RXF_PUT_PUT fi % 2 ^ s.rd (clPg c) RXF_CFG_LOG2 fi) * 64)) ∧
    (∃ (s : State) (n : Port) (c : Nat) (b : Nat) (a : Nat) (f : BusFrame) (data : List Byte),
      (s.delimits n f data) ∧ (c = n.val / 16) ∧ (f.head.kind ≠ .comet) ∧ (f.claim.verdict = .claimed) ∧
        (f.claim.dest = 2) ∧ (f.claim.index = b) ∧ (b < 1024) ∧ (f.claim.ring = none) ∧ (f.claim.blk = none) ∧
        (a = sliceBase c + 0x7F0000 + 64 * b)) ∧
    (∃ (s : State) (n : Port) (k : Nat) (f : BusFrame) (data : List Byte),
      (s.delimits n f data) ∧ (f.head.kind ≠ .comet) ∧ (f.claim.verdict = .claimed) ∧ (f.claim.dest = 3) ∧
        (f.claim.push = false) ∧ (f.claim.ring = some k) ∧ (f.claim.blk = none)) ∧
    (∃ (s : State) (n : Port) (uid : Nat) (j : Job) (x : JobPort) (f : BusFrame) (data : List Byte),
      (s.delimits n f data) ∧ (f.head.kind ≠ .comet) ∧ (f.claim.verdict = .claimed) ∧ (f.claim.dest = 4) ∧
        (f.claim.copy = false) ∧ (f.claim.fwd = some uid) ∧ (f.claim.blk = none) ∧ (s.job? uid = some j) ∧ (x ∈ j.ports) ∧
        (x.stage = .pending) ∧ (∀ y ∈ j.ports, s.fencedCl (y.port / 16) = false)) ∧
    (∃ (s : State) (n : Port) (f : BusFrame) (data : List Byte),
      (s.faults = []) ∧ (s.onBus n = true) ∧ ((s.port n).cur = some f) ∧ (f.failed = false) ∧ (f.committed = false) ∧
        (f.own.isSome = true) ∧ (s.pmode n = pmNormal)) ∧
    (∃ (s : State) (n : Port) (f : BusFrame) (uid : Nat) (j : Job) (x : JobPort),
      (s.faults = []) ∧ (s.onBus n = true) ∧ ((s.port n).cur = some f) ∧ ((s.port n).cand = none) ∧
        ((s.port n).move = none) ∧ ((s.port n).prevGood = none) ∧ (f.failed = false) ∧ (f.own = some (.job uid)) ∧
        (s.job? uid = some j) ∧ (j.fwd = false ∨ ∃ y ∈ j.ports, y.port ≠ n.val ∧ y.stage = .pending) ∧ (j.on n = some x) ∧
        (x.stage = .won) ∧ (x.doom = none) ∧ (j.res = .resident) ∧ (s.estate n = esActive) ∧
        (s.rd (portPg n) PORT_ECNT_TEC ≤ 127) ∧ (s.rd (portPg n) PORT_ECNT_REC ≤ 127)) ∧
    (∃ (s : State) (n : Port) (f : BusFrame) (y : SyncSlot),
      (s.faults = []) ∧ (s.onBus n = true) ∧ ((s.port n).cur = some f) ∧ ((s.port n).move = none) ∧
        ((s.port n).prevGood = none) ∧ (f.failed = false) ∧ (f.own = some .sync) ∧ ((s.port n).sync = some y) ∧
        (s.estate n = esActive) ∧ (s.rd (portPg n) PORT_ECNT_TEC ≤ 127) ∧ (s.rd (portPg n) PORT_ECNT_REC ≤ 127)) ∧
    (∃ (s : State) (n : Port) (f : BusFrame) (y : SyncSlot),
      (s.faults = []) ∧ (s.onBus n = true) ∧ ((s.port n).cur = some f) ∧ ((s.port n).move = none) ∧
        ((s.port n).prevGood = none) ∧ (f.failed = false) ∧ (f.own = some .sync) ∧ ((s.port n).sync = some y) ∧
        (s.estate n = esActive) ∧ (s.rd (portPg n) PORT_ECNT_TEC ≤ 127) ∧ (s.rd (portPg n) PORT_ECNT_REC ≤ 127) ∧
        (f = { head := { lowHead with kind := .sync, len := 8 }, own := some .sync, data := [1, 2, 3, 4, 5, 6, 7, 0x80], discs := 4 })) ∧
    (∃ (s : State) (n : Port) (f : BusFrame),
      (∀ g, (s.port n).prevGood = some g → g.1 ≠ f.head.id.toNat ∨ g.2.1 ≠ f.head.long ∨ g.2.2.1 = f.head.snd.toNat) ∧
        (s.faults = []) ∧ (s.onBus n = true) ∧ ((s.port n).cur = some f) ∧ ((s.port n).move = none) ∧ (f.failed = false) ∧
        (f.own = none) ∧ (f.committed = true)) ∧
    (∃ (s : State) (n : Port) (f : BusFrame) (g : Nat × Bool × Nat × Option (Cand × Nat)),
      (s.faults = []) ∧ (s.onBus n = true) ∧ ((s.port n).cur = some f) ∧ ((s.port n).move = none) ∧
        ((s.port n).prevGood = some g) ∧ (g.1 = f.head.id.toNat) ∧ (g.2.1 = f.head.long) ∧ (g.2.2.1 ≠ f.head.snd.toNat) ∧
        (g.2.2.2 = none) ∧ (f.failed = false) ∧ (f.own = none) ∧ (f.committed = true)) :=
  ⟨⟨(portIn .run 2 2 { cur := some { head := lowHead, own := none } }).wr (portPg 5) PORT_ECNT_REC 4, 5,
    { head := lowHead, own := none }, [1, 2, 3, 4],
      by unfold State.delimits; decide +kernel⟩,
    ⟨portIn .run 2 2 { cur := some { head := lowHead, own := none, claim := { verdict := .overrun 2 false } } }, 5,
      { head := lowHead, own := none, claim := { verdict := .overrun 2 false } }, [1, 2, 3, 4], 2,
      by unfold State.delimits; decide +kernel⟩,
    ⟨((fifoS (portIn .run 3 2 { cur := some { head := lowHead, own := none, claim := { verdict := .claimed, dest := 1, index := 6, fifo := some 6, ring := some 2 } } })).wr (clPg 0) RXF_CFG_BASE 8 6).wr (clPg 0) RXF_PUT_PUT 13 6,
      5, 0, 6, ringBase 0 + 13 * 64,
      { head := lowHead, own := none, claim := { verdict := .claimed, dest := 1, index := 6, fifo := some 6, ring := some 2 } },
      [1, 2, 3, 4],
      by unfold State.delimits; decide +kernel⟩,
    ⟨{ ((fifoS (portIn .run 3 2 { cur := some { head := cometHead, own := none, recv := true, tailOk := true, claim := { uid := 3, verdict := .claimed, dest := 1, index := 6, fifo := some 6, blk := some 0x100, tcrc := 77 } } })).wr (clPg 0) RXF_CFG_BASE 8 6).wr (clPg 0) RXF_PUT_PUT 13 6 with blocks := [⟨0x100, 256, .rx, [.claim 3], false⟩] },
      5, 0, 6, ringBase 0 + 13 * 64, 0x100, ⟨0x100, 256, .rx, [.claim 3], false⟩,
      { head := cometHead, own := none, recv := true, tailOk := true, claim := { uid := 3, verdict := .claimed, dest := 1, index := 6, fifo := some 6, blk := some 0x100, tcrc := 77 } },
      [],
      by unfold State.delimits; decide +kernel⟩,
    ⟨portIn .run 2 2 { cur := some { head := lowHead, own := none, claim := { verdict := .claimed, dest := 2, index := 6 } } },
      5, 0, 6, 0x7F0180, { head := lowHead, own := none, claim := { verdict := .claimed, dest := 2, index := 6 } }, [1, 2,
      3, 4],
      by unfold State.delimits; decide +kernel⟩,
    ⟨portIn .run 2 2 { cur := some { head := lowHead, own := none, claim := { verdict := .claimed, dest := 3, index := 6, ring := some 2 } } },
      5, 2, { head := lowHead, own := none, claim := { verdict := .claimed, dest := 3, index := 6, ring := some 2 } }, [1,
      2, 3, 4],
      by unfold State.delimits; decide +kernel⟩,
    ⟨{ portIn .run 2 2 { cur := some { head := lowHead, own := none, claim := { verdict := .claimed, dest := 4, index := 6, fwd := some 8 } } } with jobs := [(8, { lowJob .pending with fwd := true, res := .reserved, ports := [{ port := 6 }] })], nextUid := 9 },
      5, 8, { lowJob .pending with fwd := true, res := .reserved, ports := [{ port := 6 }] }, { port := 6 },
      { head := lowHead, own := none, claim := { verdict := .claimed, dest := 4, index := 6, fwd := some 8 } }, [1, 2, 3,
      4],
      by unfold State.delimits; decide +kernel⟩,
    ⟨withJob .run 2 { cur := some ownFrame } .won, 5, ownFrame, [1, 2, 3, 4],
      by decide +kernel⟩,
    ⟨(withJob .run 2 { cur := some ownFrame } .won).wr (portPg 5) PORT_ECNT_TEC 5, 5, ownFrame, 7, lowJob .won,
      { port := 5, stage := .won },
      by decide +kernel⟩,
    ⟨portIn .run 2 2 { cur := some { head := { lowHead with kind := .sync, len := 8 }, own := some .sync, data := [1, 2, 3, 4, 5, 6, 7, 0], discs := 4 }, sync := some { id := 0x55, long := false, aud := false, ann := none, won := true }, syncNext := some { id := 0x55, long := false, aud := false, ann := none } },
      5, { head := { lowHead with kind := .sync, len := 8 }, own := some .sync, data := [1, 2, 3, 4, 5, 6, 7, 0], discs := 4 },
      { id := 0x55, long := false, aud := false, ann := none, won := true },
      by decide +kernel⟩,
    ⟨portIn .run 2 2 { cur := some { head := { lowHead with kind := .sync, len := 8 }, own := some .sync, data := [1, 2, 3, 4, 5, 6, 7, 0x80], discs := 4 }, sync := some { id := 0x55, long := false, aud := false, ann := none, won := true }, syncNext := some { id := 0x55, long := false, aud := false, ann := none } },
      5, { head := { lowHead with kind := .sync, len := 8 }, own := some .sync, data := [1, 2, 3, 4, 5, 6, 7, 0x80], discs := 4 },
      { id := 0x55, long := false, aud := false, ann := none, won := true },
      by decide +kernel⟩,
    ⟨portIn .run 2 2 { cur := some { head := lowHead, own := none, committed := true } }, 5,
      { head := lowHead, own := none, committed := true },
      (fun _ h => nomatch (show (none : Option (Nat × Bool × Nat × Option (Cand × Nat))) = some _ from h)),
        by decide +kernel⟩,
    ⟨portIn .run 2 2 { cur := some { head := lowHead, own := none, committed := true }, prevGood := some (0x123, false, 4, none) },
      5, { head := lowHead, own := none, committed := true }, (0x123, false, 4, none),
      by decide +kernel⟩⟩

theorem wit_BusErrorsMoveTheCounters :
    (∃ (s : State) (n : Port) (f : BusFrame) (e : BusErr) (first : Bool) (dominant : Bool) (runs : Nat) (ov : Nat) (uid : Nat) (j : Job) (x : JobPort),
      (e ≠ .tail) ∧ (e ≠ .eclipse) ∧ (s.carries n f) ∧ (s.estate n = esActive) ∧ ((s.port n).nxt = none) ∧
        (f.own = some (.job uid)) ∧ (s.retries n uid j x) ∧ (x.stage = .won) ∧
        (e = .ack → s.rd (portPg n) PORT_ESTATE_ACKRUN < 15) ∧ (s.rd (portPg n) PORT_ECNT_TEC + 8 + 8 * runs ≤ 127) ∧
        (s.rd (portPg n) PORT_ECNT_REC ≤ 127)) ∧
    (∃ (s : State) (n : Port) (f : BusFrame) (e : BusErr) (first : Bool) (dominant : Bool) (runs : Nat) (ov : Nat) (uid : Nat) (j : Job) (x : JobPort),
      (e ≠ .tail) ∧ (e ≠ .eclipse) ∧ (s.carries n f) ∧ (s.estate n = esActive) ∧ ((s.port n).nxt = none) ∧
        (f.own = some (.job uid)) ∧ (s.retries n uid j x) ∧ (x.stage = .won) ∧
        (e = .ack → s.rd (portPg n) PORT_ESTATE_ACKRUN < 15) ∧ (s.rd (portPg n) PORT_ECNT_TEC + 8 + 8 * runs ≤ 127) ∧
        (s.rd (portPg n) PORT_ECNT_REC ≤ 127) ∧ (e = .ack) ∧ (first = false) ∧ (dominant = true) ∧ (runs = 0) ∧
        (ov = 0)) ∧
    (∃ (s : State) (n : Port) (f : BusFrame) (e : BusErr) (uid : Nat) (j : Job) (x : JobPort),
      (e ≠ .tail) ∧ (e ≠ .eclipse) ∧ (s.carries n f) ∧ (s.estate n = esActive) ∧ ((s.port n).nxt = none) ∧
        (f.own = some (.job uid)) ∧ (s.job? uid = some j) ∧ (j.fwd = false) ∧ (j.lost = false) ∧ (j.res = .resident) ∧
        (j.on n = some x) ∧ (x.stage = .won) ∧ (x.doom = none) ∧ (j.limit ≠ 0) ∧ (j.limit ≤ x.fails + 1) ∧
        (e = .ack → s.rd (portPg n) PORT_ESTATE_ACKRUN < 15) ∧ (s.rd (portPg n) PORT_ECNT_TEC + 8 ≤ 127) ∧
        (s.rd (portPg n) PORT_ECNT_REC ≤ 127)) ∧
    (∃ (s : State) (n : Port) (f : BusFrame) (first : Bool) (dominant : Bool) (uid : Nat) (j : Job) (x : JobPort),
      (s.carries n f) ∧ (s.estate n = esActive) ∧ ((s.port n).nxt = none) ∧ (f.own = some (.job uid)) ∧
        (s.retries n uid j x) ∧ (x.stage = .won) ∧ (s.rd (portPg n) PORT_ESTATE_ACKRUN = 15) ∧
        (s.rd (portPg n) PORT_ECNT_TEC ≤ 247) ∧ (s.rd (portPg n) PORT_ECNT_REC ≤ 127)) ∧
    (∃ (s : State) (n : Port) (f : BusFrame) (uid : Nat) (j : Job) (x : JobPort),
      (s.carries n f) ∧ (s.estate n = esPassive) ∧ ((s.port n).nxt = none) ∧ (f.own = some (.job uid)) ∧
        (s.retries n uid j x) ∧ (x.stage = .won) ∧ (s.rd (portPg n) PORT_ESTATE_ACKRUN < 15) ∧
        (128 ≤ s.rd (portPg n) PORT_ECNT_TEC) ∧ (s.rd (portPg n) PORT_ECNT_TEC ≤ 255)) ∧
    (∃ (s : State) (n : Port) (first : Bool) (dominant : Bool) (uid : Nat) (j : Job) (x : JobPort),
      (s.faults = []) ∧ (s.onBus n = true) ∧ (offersMode (s.pmode n) = true) ∧ (s.estate n = esActive) ∧
        ((s.port n).cur = none) ∧ ((s.port n).nxt = none) ∧ (s.port n).cand = some (.job uid) ∧
        ((s.port n).candNext = false) ∧ ((s.port n).move = none) ∧ (s.retries n uid j x) ∧ (x.stage = .offered) ∧
        (s.rd (portPg n) PORT_ECNT_TEC + 8 ≤ 127) ∧ (s.rd (portPg n) PORT_ECNT_REC ≤ 127)) ∧
    (∃ (s : State) (n : Port) (f : BusFrame) (e : BusErr) (first : Bool) (dominant : Bool) (runs : Nat) (ov : Nat),
      (e ≠ .eclipse) ∧ (e = .tail → f.recv = true ∧ f.failed = false) ∧ (s.carries n f) ∧ (s.estate n = esActive) ∧
        ((s.port n).nxt = none) ∧ (f.own = none) ∧ (s.rd (portPg n) PORT_ECNT_TEC ≤ 127) ∧
        (s.rd (portPg n) PORT_ECNT_REC + (if first then 8 else 1) + 8 * runs ≤ 127)) ∧
    (∃ (s : State) (n : Port) (f : BusFrame) (e : BusErr) (first : Bool) (dominant : Bool) (runs : Nat) (ov : Nat),
      (e ≠ .eclipse) ∧ (e = .tail → f.recv = true ∧ f.failed = false) ∧ (s.carries n f) ∧ (s.estate n = esActive) ∧
        ((s.port n).nxt = none) ∧ (f.own = none) ∧ (s.rd (portPg n) PORT_ECNT_TEC ≤ 127) ∧
        (s.rd (portPg n) PORT_ECNT_REC + (if first then 8 else 1) + 8 * runs ≤ 127) ∧ (first = false)) ∧
    (∃ (s : State) (n : Port) (f : BusFrame) (e : BusErr) (first : Bool) (dominant : Bool) (runs : Nat) (ov : Nat),
      (e ≠ .eclipse) ∧ (e = .tail → f.recv = true ∧ f.failed = false) ∧ (s.carries n f) ∧ (s.estate n = esActive) ∧
        ((s.port n).nxt = none) ∧ (f.own = none) ∧ (s.rd (portPg n) PORT_ECNT_TEC ≤ 127) ∧
        (s.rd (portPg n) PORT_ECNT_REC + (if first then 8 else 1) + 8 * runs ≤ 127) ∧
        (f = { head := cometHead, own := none, recv := true }) ∧ (e = .tail) ∧ (first = false) ∧ (dominant = true) ∧
        (runs = 0) ∧ (ov = 0)) ∧
    (∃ (s : State) (n : Port) (f : BusFrame) (e : BusErr) (first : Bool),
      (e = .stuff ∨ e = .hcrc) ∧ (s.carries n f) ∧ (s.estate n = esPassive) ∧ ((s.port n).nxt = none) ∧ (f.own = none) ∧
        (f.committed = false) ∧ (s.rd (portPg n) PORT_ECNT_TEC ≤ 255) ∧ (128 ≤ s.rd (portPg n) PORT_ECNT_REC)) ∧
    (∃ (s : State) (n : Port) (f : BusFrame) (e : BusErr) (first : Bool),
      (e = .lcrc ∨ (e = .tail ∧ f.recv = true ∧ f.failed = false)) ∧ (s.carries n f) ∧ (s.estate n = esPassive) ∧
        (f.own = none) ∧ (s.rd (portPg n) PORT_ECNT_TEC ≤ 255) ∧ (128 ≤ s.rd (portPg n) PORT_ECNT_REC)) ∧
    (∃ (s : State) (n : Port) (f : BusFrame) (e : BusErr) (first : Bool),
      (e = .lcrc ∨ (e = .tail ∧ f.recv = true ∧ f.failed = false)) ∧ (s.carries n f) ∧ (s.estate n = esPassive) ∧
        (f.own = none) ∧ (s.rd (portPg n) PORT_ECNT_TEC ≤ 255) ∧ (128 ≤ s.rd (portPg n) PORT_ECNT_REC) ∧
        (f = { head := cometHead, own := none, recv := true }) ∧ (e = .tail)) ∧
    (∃ (s : State) (n : Port) (f : BusFrame) (g : BusFrame) (e : BusErr) (first : Bool) (dominant : Bool) (uid : Nat) (j : Job) (x : JobPort),
      (e ≠ .eclipse) ∧ (e = .tail → f.recv = true ∧ f.failed = false) ∧ (s.carries n f) ∧ (s.estate n = esActive) ∧
        (f.own = none) ∧ ((s.port n).nxt = some g) ∧ (g.own = some (.job uid)) ∧ (g.claim.verdict = .rejected) ∧
        (s.retries n uid j x) ∧ (x.stage = .won) ∧ (s.rd (portPg n) PORT_ECNT_TEC ≤ 127) ∧
        (s.rd (portPg n) PORT_ECNT_REC + 8 ≤ 127)) ∧
    (∃ (s : State) (n : Port) (f : BusFrame) (e : BusErr) (first : Bool) (uid : Nat) (j : Job) (x : JobPort),
      (e ≠ .tail) ∧ (e ≠ .eclipse) ∧ (s.carries n f) ∧ (s.estate n = esPassive) ∧ ((s.port n).nxt = none) ∧
        (f.own = some (.job uid)) ∧ (s.retries n uid j x) ∧ (x.stage = .won) ∧ (248 ≤ s.rd (portPg n) PORT_ECNT_TEC) ∧
        (s.rd (portPg n) PORT_ECNT_TEC ≤ 256)) ∧
    (∃ (s : State) (n : Port) (f : BusFrame) (e : BusErr) (first : Bool) (uid : Nat) (j : Job) (x : JobPort),
      (e ≠ .tail) ∧ (e ≠ .eclipse) ∧ (s.carries n f) ∧ (s.estate n = esPassive) ∧ ((s.port n).nxt = none) ∧
        (f.own = some (.job uid)) ∧ (s.retries n uid j x) ∧ (x.stage = .won) ∧ (248 ≤ s.rd (portPg n) PORT_ECNT_TEC) ∧
        (s.rd (portPg n) PORT_ECNT_TEC ≤ 256) ∧ (e = .stuff) ∧ (first = true)) ∧
    (∃ (s : State) (n : Port) (h : Head) (nextUp : Bool) (back : Nat) (e : Nat) (pulse : Nat),
      (s.faults = []) ∧ (s.onBus n = true) ∧ (headValid h = true) ∧ ((s.port n).cand = none) ∧ ((s.port n).nxt = none) ∧
        ((s.port n).cur = none) ∧ (nextUp = false) ∧ ((s.port n).move = none) ∧ (offersMode (s.pmode n) = true) ∧
        (s.pmode n ≠ pmLoopInt) ∧ (s.estate n = esActive) ∧ (h.snd.toNat ≠ s.rd (portPg n) PORT_SND_SND) ∧
        (s.violates n h (s.momentOf back) = true) ∧ (s.rd (portPg n) PORT_ECNT_TEC ≤ 127) ∧
        (s.rd (portPg n) PORT_ECNT_REC + 8 ≤ 127)) ∧
    (∃ (s : State) (n : Port) (e : BusErr) (inNextUp : Bool) (first : Bool) (dominant : Bool) (runs : Nat) (ov : Nat),
      (s.faults = []) ∧ (s.portRuns n = true) ∧ (s.estate n = esDetecting) ∧ ((s.port n).listenRate = true) ∧
        ((s.port n).cur = none) ∧ ((s.port n).move = none) ∧ (e ≠ .eclipse) ∧
        (s.rd (portPg n) PORT_LISTEN_RESTARTS ≤ 7)) :=
  ⟨⟨(withJob .run 2 { cur := some ownFrame } .won).wr (portPg 5) PORT_ECNT_TEC 100, 5, ownFrame, .bit, true, false, 2, 1,
    7, lowJob .won, { port := 5, stage := .won },
      by unfold State.carries State.retries; decide +kernel⟩,
    ⟨(withJob .run 2 { cur := some ownFrame } .won).wr (portPg 5) PORT_ESTATE_ACKRUN 14, 5, ownFrame, .ack, false, true,
      0, 0, 7, lowJob .won, { port := 5, stage := .won },
      by unfold State.carries State.retries; decide +kernel⟩,
    ⟨{ portIn .run 2 2 { cur := some ownFrame } with jobs := [(7, { lowJob .won with limit := 2, ports := [{ port := 5, stage := .won, fails := 1 }] })], nextUid := 9 },
      5, ownFrame, .form, 7, { lowJob .won with limit := 2, ports := [{ port := 5, stage := .won, fails := 1 }] },
      { port := 5, stage := .won, fails := 1 },
      by unfold State.carries; decide +kernel⟩,
    ⟨((withJob .run 2 { cur := some ownFrame } .won).wr (portPg 5) PORT_ESTATE_ACKRUN 15).wr (portPg 5) PORT_ECNT_TEC 119,
      5, ownFrame, false, true, 7, lowJob .won, { port := 5, stage := .won },
      by unfold State.carries State.retries; decide +kernel⟩,
    ⟨(withJob .run 3 { cur := some ownFrame } .won).wr (portPg 5) PORT_ECNT_TEC 130, 5, ownFrame, 7, lowJob .won,
      { port := 5, stage := .won },
      by unfold State.carries State.retries; decide +kernel⟩,
    ⟨withJob .run 2 { cand := some (.job 7) } .offered, 5, true, false, 7, lowJob .offered,
      { port := 5, stage := .offered },
      by unfold State.retries; decide +kernel⟩,
    ⟨portIn .run 2 2 { cur := some { head := lowHead, own := none } }, 5, { head := lowHead, own := none }, .stuff, true,
      false, 1, 2,
      by unfold State.carries; decide +kernel⟩,
    ⟨portIn .run 2 2 { cur := some { head := lowHead, own := none } }, 5, { head := lowHead, own := none }, .stuff, false,
      false, 1, 2,
      by unfold State.carries; decide +kernel⟩,
    ⟨portIn .run 2 2 { cur := some { head := cometHead, own := none, recv := true } }, 5,
      { head := cometHead, own := none, recv := true }, .tail, false, true, 0, 0,
      by unfold State.carries; decide +kernel⟩,
    ⟨(portIn .run 2 3 { cur := some { head := lowHead, own := none } }).wr (portPg 5) PORT_ECNT_REC 140, 5,
      { head := lowHead, own := none }, .hcrc, true,
      by unfold State.carries; decide +kernel⟩,
    ⟨(portIn .run 2 3 { cur := some { head := lowHead, own := none } }).wr (portPg 5) PORT_ECNT_REC 140, 5,
      { head := lowHead, own := none }, .lcrc, true,
      by unfold State.carries; decide +kernel⟩,
    ⟨(portIn .run 2 3 { cur := some { head := cometHead, own := none, recv := true } }).wr (portPg 5) PORT_ECNT_REC 140,
      5, { head := cometHead, own := none, recv := true }, .tail, true,
      by unfold State.carries; decide +kernel⟩,
    ⟨withJob .run 2 { cur := some { head := cometHead, own := none, recv := true }, nxt := some { head := lowHead, own := some (.job 7), nextUp := true } } .won,
      5, { head := cometHead, own := none, recv := true }, { head := lowHead, own := some (.job 7), nextUp := true },
      .tail, true, false, 7, lowJob .won, { port := 5, stage := .won },
      by unfold State.carries State.retries; decide +kernel⟩,
    ⟨(withJob .run 3 { cur := some ownFrame } .won).wr (portPg 5) PORT_ECNT_TEC 250, 5, ownFrame, .bit, false, 7,
      lowJob .won, { port := 5, stage := .won },
      by unfold State.carries State.retries; decide +kernel⟩,
    ⟨((withJob .run 3 { cur := some ownFrame } .won).wr (portPg 5) PORT_ECNT_TEC 256).wr (portPg 5) PORT_ERRCFG_AUTO 1, 5,
      ownFrame, .stuff, true, 7, lowJob .won, { port := 5, stage := .won },
      by unfold State.carries State.retries; decide +kernel⟩,
    ⟨((portIn .run 2 2 {}).wr (portPg 5) PORT_ECL_SW_OPEN 1).wr (portPg 5) PORT_ECL_ENFORCE 1, 5, lowHead, false, 0, 100,
      0,
      by decide +kernel⟩,
    ⟨(portIn .run 4 7 { listenRate := true, listenHeads := 1 }).wr (portPg 5) PORT_LISTEN_RESTARTS 3, 5, .stuff, false,
      true, false, 1, 2,
      by decide +kernel⟩⟩

theorem wit_PortsIntegrateAndRecover :
    (∃ (s : State) (n : Port),
      (s.faults = []) ∧ (s.portRuns n = true) ∧ (s.estate n = esIntegrating) ∧ ((s.port n).move = none) ∧
        (s.rd (portPg n) PORT_ECNT_TEC ≤ 255)) ∧
    (∃ (s : State) (n : Port),
      (s.faults = []) ∧ (s.portRuns n = true) ∧ (s.estate n ≠ esIntegrating) ∧ ((s.port n).move = none)) ∧
    (∃ (s : State) (n : Port),
      (s.faults = []) ∧ (s.portRuns n = true) ∧ (s.estate n = esRecovering)) ∧
    (∃ (s : State) (pp : PPort) (n : Port),
      (s.opens pp (portPg n)) ∧ (s.estate n = esBusOff)) ∧
    (∃ (s : State) (pp : PPort) (n : Port),
      (s.opens pp (portPg n)) ∧ (s.estate n ≠ esBusOff)) :=
  ⟨⟨portIn .run 2 1 { reint := true }, 5,
      by decide +kernel⟩,
    ⟨portIn .run 2 3 { reint := true }, 5,
      by decide +kernel⟩,
    ⟨(portIn .run 2 5 {}).wr (portPg 5) PORT_ECNT_TEC 256, 5,
      by decide +kernel⟩,
    ⟨portIn .run 2 4 {}, 0, 5,
      by unfold State.opens; decide +kernel⟩,
    ⟨portIn .run 2 2 {}, 0, 5,
      by unfold State.opens; decide +kernel⟩⟩

theorem wit_PortDetectorsReportAndWake :
    (∃ (s : State) (n : Port),
      (s.faults = []) ∧ (s.portRuns n = true) ∧ (2 ≤ s.pmode n)) ∧
    (∃ (s : State) (n : Port),
      (s.faults = []) ∧ (s.portRuns n = true) ∧ (s.pmode n = pmListen) ∧ (s.estate n = esDetecting) ∧
        (s.rd (portPg n) PORT_LISTEN_RESULT = 1) ∧ (s.rd (portPg n) PORT_LISTEN_TIMEOUT ≠ 0)) ∧
    (∃ (s : State) (n : Port),
      (s.faults = []) ∧ (s.down = false)) ∧
    (∃ (s : State) (n : Port),
      (s.faults = []) ∧ (s.down = false)) ∧
    (∃ (s : State) (n : Port) (w : WakeSeen) (m : Nat),
      (s.faults = []) ∧ (s.portRuns n = true) ∧ (s.pmode n = pmSleep) ∧ (s.isWake (s.port n).sleepCopy w = true) ∧
        (m = (if s.targetOk ((s.port n).sleepCopy.getD 9 0) then (s.port n).sleepCopy.getD 9 0 else pmConfig)) ∧
        (m = pmConfig ∨ ((m = pmNormal ∨ m = pmRestricted) ∧ s.abtOk n = true)) ∧ ((s.port n).move = none) ∧
        ((s.port n).moveNext = none) ∧ (s.moving = none) ∧ ((s.port n).window = false) ∧ ((s.port n).eye = none) ∧
        ((s.port n).sync = none) ∧ ((s.port n).syncNext = none)) ∧
    (∃ (s : State) (n : Port) (w : WakeSeen) (m : Nat),
      (s.faults = []) ∧ (s.portRuns n = true) ∧ (s.pmode n = pmSleep) ∧ (s.isWake (s.port n).sleepCopy w = true) ∧
        (m = (if s.targetOk ((s.port n).sleepCopy.getD 9 0) then (s.port n).sleepCopy.getD 9 0 else pmConfig)) ∧
        (m = pmConfig ∨ ((m = pmNormal ∨ m = pmRestricted) ∧ s.abtOk n = true)) ∧ ((s.port n).move = none) ∧
        ((s.port n).moveNext = none) ∧ (s.moving = none) ∧ ((s.port n).window = false) ∧ ((s.port n).eye = none) ∧
        ((s.port n).sync = none) ∧ ((s.port n).syncNext = none) ∧ (w = .frame { lowHead with len := 1 } [7]) ∧ (m = 2)) ∧
    (∃ (s : State) (n : Port) (w : WakeSeen),
      (s.faults = []) ∧ (s.portRuns n = true) ∧ (s.pmode n = pmSleep) ∧ (s.abtOk n = false) ∧
        (s.isWake (s.port n).sleepCopy w = true) ∧ (s.targetOk ((s.port n).sleepCopy.getD 9 0) = true) ∧
        ((s.port n).sleepCopy.getD 9 0 = pmNormal ∨ (s.port n).sleepCopy.getD 9 0 = pmRestricted) ∧
        ((s.port n).move = none) ∧ ((s.port n).moveNext = none) ∧ (s.moving = none)) ∧
    (∃ (s : State) (n : Port),
      (s.faults = []) ∧ (s.portRuns n = true) ∧ (1 ≤ s.pmode n) ∧ (s.pmode n ≤ 6) ∧
        (s.port n).move = some (.drain 7 true) ∧ ((s.port n).moveNext = none) ∧ (s.moving = none) ∧
        (s.isWake (s.wakeRegs n) .edge = true) ∧ (s.rd (portPg n) PAGE_CMD_CODE = 1)) :=
  ⟨⟨portIn .run 2 2 {}, 5,
      by decide +kernel⟩,
    ⟨(portIn .run 4 7 {}).wr (portPg 5) PORT_LISTEN_RESULT 1, 5,
      by decide +kernel⟩,
    ⟨inMode .run, 5,
      by decide +kernel⟩,
    ⟨inMode .run, 5,
      by decide +kernel⟩,
    ⟨portIn .configure 7 0 { sleepCopy := [1, 0, 0, 0, 0, 0, 0, 0, 0, 2] }, 5, .edge, 1,
      by decide +kernel⟩,
    ⟨portIn .run 7 0 { sleepCopy := [0, 0, 0, 0, 0, 0, 0, 0, 0, 2] }, 5, .frame { lowHead with len := 1 } [7], 2,
      by decide +kernel⟩,
    ⟨(portIn .run 7 0 { sleepCopy := [1, 0, 0, 0, 0, 0, 0, 0, 0, 2] }).wr (portPg 5) PORT_ABT_PH1 127 |>.wr (portPg 5) PORT_ABT_PRESC 63,
      5, .edge,
      by decide +kernel⟩,
    ⟨((busy (portIn .run 2 2 { move := some (.drain 7 true) }) (portPg 5) 1).wr (portPg 5) PORT_MODE_MOVING 1).wr (portPg 5) PORT_WAKE_CFG_EDGE 1,
      5,
      by decide +kernel⟩⟩

theorem wit_PortModesChange :
    (∃ (s : State) (pp : PPort) (n : Port) (m : Nat),
      (s.opens pp (portPg n)) ∧ (s.pmodeOk n = true) ∧ (s.pmode n = pmConfig ∧ s.freeRuns = false ∨ s.pmode n = pmSleep) ∧
        (m = s.arg0 (portPg n) % 16) ∧ (m = 2 ∨ m = 3 ∨ m = 5 ∨ m = 6) ∧ (s.abtOk n = true) ∧ ((s.port n).window = false) ∧
        ((s.port n).eye = none) ∧ ((s.port n).sync = none) ∧ ((s.port n).syncNext = none)) ∧
    (∃ (s : State) (pp : PPort) (n : Port) (m : Nat),
      (s.opens pp (portPg n)) ∧ (s.pmodeOk n = true) ∧ (s.pmode n = pmConfig ∧ s.freeRuns = false ∨ s.pmode n = pmSleep) ∧
        (m = s.arg0 (portPg n) % 16) ∧ (m = 2 ∨ m = 3 ∨ m = 5 ∨ m = 6) ∧ (s.abtOk n = true) ∧ ((s.port n).window = false) ∧
        ((s.port n).eye = none) ∧ ((s.port n).sync = none) ∧ ((s.port n).syncNext = none) ∧ (m = 6)) ∧
    (∃ (s : State) (pp : PPort) (n : Port) (m : Nat),
      (s.opens pp (portPg n)) ∧ (s.pmodeOk n = true) ∧ (s.pmode n = pmConfig ∧ s.freeRuns = false ∨ s.pmode n = pmSleep) ∧
        (m = s.arg0 (portPg n) % 16) ∧ (m = 2 ∨ m = 3 ∨ m = 5 ∨ m = 6) ∧ (s.abtOk n = true) ∧ ((s.port n).window = false) ∧
        ((s.port n).eye = none) ∧ ((s.port n).sync = none) ∧ ((s.port n).syncNext = none) ∧ (m = 3)) ∧
    (∃ (s : State) (pp : PPort) (n : Port),
      (s.opens pp (portPg n)) ∧ (s.pmodeOk n = true) ∧ (s.pmode n = pmConfig ∧ s.freeRuns = false ∨ s.pmode n = pmSleep) ∧
        (s.arg0 (portPg n) % 16 = pmListen) ∧ ((s.port n).window = false) ∧ ((s.port n).eye = none)) ∧
    (∃ (s : State) (pp : PPort) (n : Port),
      (s.opens pp (portPg n)) ∧ (s.pmodeOk n = true) ∧ (s.pmode n = pmConfig) ∧ (s.freeRuns = false) ∧
        (s.arg0 (portPg n) % 16 = pmSleep) ∧ (s.abtOk n = true) ∧ ((s.port n).window = false) ∧ ((s.port n).eye = none)) ∧
    (∃ (s : State) (pp : PPort) (n : Port) (m : Nat),
      (s.opens pp (portPg n)) ∧ (s.pmodeOk n = true) ∧ (s.pmode n = pmConfig ∧ m = pmOff ∨ s.pmode n = pmSleep ∧
        m ≤ pmConfig) ∧ (m = s.arg0 (portPg n) % 16) ∧ ((s.port n).window = false) ∧ ((s.port n).eye = none)) ∧
    (∃ (s : State) (pp : PPort) (n : Port) (m : Nat),
      (s.opens pp (portPg n)) ∧ (s.pmodeOk n = true) ∧ (s.pmode n = pmConfig ∧ m = pmOff ∨ s.pmode n = pmSleep ∧
        m ≤ pmConfig) ∧ (m = s.arg0 (portPg n) % 16) ∧ ((s.port n).window = false) ∧ ((s.port n).eye = none) ∧ (m = 1)) ∧
    (∃ (s : State) (pp : PPort) (n : Port) (m : Nat),
      (s.opens pp (portPg n)) ∧ (s.pmodeOk n = true) ∧ (s.pmode n = pmOff) ∧ (m = s.arg0 (portPg n) % 16) ∧ (m ≠ pmOff) ∧
        (m < 8) ∧ (s.badTiming n pmOff m = false)) ∧
    (∃ (s : State) (pp : PPort) (n : Port) (m : Nat),
      (s.opens pp (portPg n)) ∧ (s.pmodeOk n = true) ∧ (s.pmode n = pmOff) ∧ (m = s.arg0 (portPg n) % 16) ∧ (m ≠ pmOff) ∧
        (m < 8) ∧ (s.badTiming n pmOff m = false) ∧ (m = 2)) ∧
    (∃ (s : State) (pp : PPort) (n : Port) (m : Nat),
      (s.opens pp (portPg n)) ∧ (s.pmodeOk n = true) ∧ (m = s.arg0 (portPg n) % 16) ∧ (m < 8) ∧ ((s.pmode n = pmConfig ∧
        s.freeRuns = true ∧ 2 ≤ m) ∨ ((s.pmode n = pmNormal ∨ s.pmode n = pmRestricted ∨ s.pmode n = pmLoopExt) ∧
        m ≠ s.pmode n ∧ m ≠ pmNormal)) ∧ (s.badTiming n pmConfig m = false)) ∧
    (∃ (s : State) (pp : PPort) (n : Port) (m : Nat),
      (s.opens pp (portPg n)) ∧ (s.pmodeOk n = true) ∧ (m = s.arg0 (portPg n) % 16) ∧ (m < 8) ∧ ((s.pmode n = pmConfig ∧
        s.freeRuns = true ∧ 2 ≤ m) ∨ ((s.pmode n = pmNormal ∨ s.pmode n = pmRestricted ∨ s.pmode n = pmLoopExt) ∧
        m ≠ s.pmode n ∧ m ≠ pmNormal)) ∧ (s.badTiming n pmConfig m = false) ∧ (m = 1)) ∧
    (∃ (s : State) (pp : PPort) (n : Port) (m : Nat),
      (s.opens pp (portPg n)) ∧ (s.pmodeOk n = true) ∧ (m = s.arg0 (portPg n) % 16) ∧ (m < 8) ∧ ((s.pmode n = pmConfig ∧
        s.freeRuns = true ∧ 2 ≤ m) ∨ ((s.pmode n = pmNormal ∨ s.pmode n = pmRestricted ∨ s.pmode n = pmLoopExt) ∧
        m ≠ s.pmode n ∧ m ≠ pmNormal)) ∧ (s.badTiming n pmConfig m = false) ∧ (m = 7)) ∧
    (∃ (s : State) (pp : PPort) (n : Port) (m : Nat),
      (s.opens pp (portPg n)) ∧ (s.pmodeOk n = true) ∧ (m = s.arg0 (portPg n) % 16) ∧ (m ≤ pmConfig) ∧
        (s.mode = .configure ∨ s.mode = .test) ∧ (s.pmode n = pmListen ∨ s.pmode n = pmLoopInt) ∧
        ((s.port n).quiet = true) ∧ ((s.port n).window = false) ∧ ((s.port n).eye = none)) ∧
    (∃ (s : State) (pp : PPort) (n : Port) (m : Nat),
      (s.opens pp (portPg n)) ∧ (s.pmodeOk n = true) ∧ (m = s.arg0 (portPg n) % 16) ∧ (m ≤ pmConfig) ∧
        (s.mode = .configure ∨ s.mode = .test) ∧ (s.pmode n = pmListen ∨ s.pmode n = pmLoopInt) ∧
        ((s.port n).quiet = true) ∧ ((s.port n).window = false) ∧ ((s.port n).eye = none) ∧ (m = 0)) ∧
    (∃ (s : State) (pp : PPort) (n : Port),
      (s.opens pp (portPg n)) ∧ (s.pmodeOk n = true) ∧ (s.arg0 (portPg n) % 16 = pmNormal) ∧ (s.pmode n = pmRestricted ∨
        (s.pmode n = pmListen ∧ s.rd (portPg n) PORT_LISTEN_RESULT = 2)) ∧ ((s.port n).quiet = true) ∧
        ((s.port n).reint = false) ∧ ((s.port n).eye = none) ∧ ((s.port n).sync = none) ∧ ((s.port n).syncNext = none) ∧
        (s.estate n = esIntegrating ∨ s.estate n = esReceiving)) ∧
    (∃ (s : State) (pp : PPort) (n : Port),
      (s.opens pp (portPg n)) ∧ (s.pmodeOk n = true) ∧ (s.arg0 (portPg n) % 16 = pmNormal) ∧ (s.pmode n = pmRestricted) ∧
        ((s.port n).quiet = false ∨ (s.port n).reint = true)) ∧
    (∃ (s : State) (pp : PPort) (n : Port),
      (s.opens pp (portPg n)) ∧ (s.pmodeOk n = true) ∧ (s.arg0 (portPg n) % 16 = s.pmode n) ∧ (s.pmode n < 8) ∧
        (s.pmode n ≠ pmListen) ∧ ((s.port n).move = none) ∧ (s.rd (portPg n) PORT_MODE_MOVING = 0)) ∧
    (∃ (s : State) (pp : PPort) (n : Port) (m : Nat),
      (s.opens pp (portPg n)) ∧ (s.pmodeOk n = true) ∧ (m = s.arg0 (portPg n) % 16) ∧ (8 ≤ m ∨ (s.pmode n ≤ pmConfig ∧
        m ≠ s.pmode n ∧ s.badTiming n (s.pmode n) m = true)) ∧ ((s.port n).move = none) ∧
        (s.rd (portPg n) PORT_MODE_MOVING = 0)) ∧
    (∃ (s : State) (pp : PPort) (n : Port) (m : Nat),
      (s.opens pp (portPg n)) ∧ (s.pmodeOk n = true) ∧ (m = s.arg0 (portPg n) % 16) ∧ (8 ≤ m ∨ (s.pmode n ≤ pmConfig ∧
        m ≠ s.pmode n ∧ s.badTiming n (s.pmode n) m = true)) ∧ ((s.port n).move = none) ∧
        (s.rd (portPg n) PORT_MODE_MOVING = 0) ∧ (m = 2)) ∧
    (∃ (s : State) (n : Port) (m : Nat),
      (s.faults = []) ∧ (s.portRuns n = true) ∧ (s.stalled = false) ∧ (s.port n).move = some (.drain m true) ∧
        ((s.port n).moveNext = none) ∧ (s.moving = none) ∧ ((s.port n).cur = none) ∧ ((s.port n).nxt = none) ∧
        ((s.port n).cand = none) ∧ (m ≤ pmConfig ∨ m = pmSleep) ∧ (busMode (s.pmode n) = true) ∧ ((s.port n).eye = none) ∧
        (s.rd (portPg n) PAGE_CMD_CODE = 1)) ∧
    (∃ (s : State) (n : Port) (m : Nat),
      (s.faults = []) ∧ (s.portRuns n = true) ∧ (s.stalled = false) ∧ (s.port n).move = some (.drain m true) ∧
        ((s.port n).moveNext = none) ∧ (s.moving = none) ∧ ((s.port n).cur = none) ∧ ((s.port n).nxt = none) ∧
        ((s.port n).cand = none) ∧ (m ≤ pmConfig ∨ m = pmSleep) ∧ (busMode (s.pmode n) = true) ∧ ((s.port n).eye = none) ∧
        (s.rd (portPg n) PAGE_CMD_CODE = 1) ∧ (m = 7)) ∧
    (∃ (s : State) (n : Port) (m : Nat),
      (s.faults = []) ∧ (s.portRuns n = true) ∧ (s.stalled = false) ∧ (s.port n).move = some (.drain m true) ∧
        ((s.port n).moveNext = none) ∧ (s.moving = none) ∧ ((s.port n).cur = none) ∧ ((s.port n).nxt = none) ∧
        ((s.port n).cand = none) ∧ (m = pmNormal ∨ m = pmRestricted ∨ m = pmLoopInt ∨ m = pmLoopExt) ∧ (s.abtOk n = true) ∧
        (s.freeRuns = false) ∧ (busMode (s.pmode n) = true) ∧ ((s.port n).eye = none) ∧ ((s.port n).sync = none) ∧
        ((s.port n).syncNext = none) ∧ (s.rd (portPg n) PAGE_CMD_CODE = 1)) ∧
    (∃ (s : State) (n : Port) (m : Nat),
      (s.faults = []) ∧ (s.portRuns n = true) ∧ (s.stalled = false) ∧ (s.port n).move = some (.drain m true) ∧
        ((s.port n).moveNext = none) ∧ (s.moving = none) ∧ ((s.port n).cur = none) ∧ ((s.port n).nxt = none) ∧
        ((s.port n).cand = none) ∧ (m ≤ pmConfig ∨ m = pmSleep) ∧ (busMode (s.pmode n) = true) ∧ ((s.port n).eye = none) ∧
        (s.rd (portPg n) PAGE_CMD_CODE = 1)) ∧
    (∃ (s : State) (n : Port) (m : Nat),
      (s.faults = []) ∧ (s.portRuns n = true) ∧ (s.stalled = false) ∧ (s.port n).move = some (.drain m true) ∧
        ((s.port n).moveNext = none) ∧ (s.moving = none) ∧ ((s.port n).cur = none) ∧ ((s.port n).nxt = none) ∧
        ((s.port n).cand = none) ∧ (m ≤ pmConfig ∨ m = pmSleep) ∧ (busMode (s.pmode n) = true) ∧ ((s.port n).eye = none) ∧
        (s.rd (portPg n) PAGE_CMD_CODE = 1) ∧ (m = 0)) ∧
    (∃ (s : State) (n : Port) (r : Instr),
      (r = .portDrainDone n ∨ r = .forcedStop n ∨ ∃ ok trim, r = .powerUpCalibrationDone n ok trim) ∧ (s.faults = []) ∧
        (s.stalled = true)) ∧
    (∃ (s : State) (n : Port) (r : Instr),
      (r = .portDrainDone n ∨ r = .forcedStop n ∨ ∃ ok trim, r = .powerUpCalibrationDone n ok trim) ∧ (s.faults = []) ∧
        (s.stalled = true) ∧ (r = .forcedStop 5)) ∧
    (∃ (s : State) (n : Port) (r : Instr),
      (r = .portDrainDone n ∨ r = .forcedStop n ∨ ∃ ok trim, r = .powerUpCalibrationDone n ok trim) ∧ (s.faults = []) ∧
        (s.stalled = true) ∧ (r = .powerUpCalibrationDone 5 true 60)) ∧
    (∃ (s : State) (n : Port) (m : Nat) (trim : Fin 128),
      (s.faults = []) ∧ (s.portRuns n = true) ∧ (s.stalled = false) ∧ (s.flag (phyPg n) PHY_CAL_RUNNING = true) ∧
        (s.port n).move = some (.calibrate m true) ∧ ((s.port n).moveNext = none) ∧ (s.moving = none) ∧ (m = pmConfig ∨
        ((m = pmNormal ∨ m = pmRestricted ∨ m = pmSleep) ∧ s.abtOk n = true)) ∧ ((s.port n).window = false) ∧
        ((s.port n).eye = none) ∧ ((s.port n).sync = none) ∧ ((s.port n).syncNext = none) ∧ (s.pmode n = pmOff) ∧
        (s.rd (portPg n) PAGE_CMD_CODE = 1) ∧ (s.freeRuns = false) ∧
        ((s.rd crpPg CRP_CLK_CL_LOCK).testBit (n.val / 16) = true) ∧ (0 < trim.val) ∧ (trim.val < 100)) ∧
    (∃ (s : State) (n : Port) (m : Nat) (trim : Fin 128),
      (s.faults = []) ∧ (s.portRuns n = true) ∧ (s.stalled = false) ∧ (s.flag (phyPg n) PHY_CAL_RUNNING = true) ∧
        (s.port n).move = some (.calibrate m true) ∧ ((s.port n).moveNext = none) ∧ (s.moving = none) ∧ (m = pmConfig ∨
        ((m = pmNormal ∨ m = pmRestricted ∨ m = pmSleep) ∧ s.abtOk n = true)) ∧ ((s.port n).window = false) ∧
        ((s.port n).eye = none) ∧ ((s.port n).sync = none) ∧ ((s.port n).syncNext = none) ∧ (s.pmode n = pmOff) ∧
        (s.rd (portPg n) PAGE_CMD_CODE = 1) ∧ (s.freeRuns = false) ∧
        ((s.rd crpPg CRP_CLK_CL_LOCK).testBit (n.val / 16) = true) ∧ (0 < trim.val) ∧ (trim.val < 100) ∧ (m = 2)) ∧
    (∃ (s : State) (n : Port) (m : Nat) (trim : Fin 128),
      (s.faults = []) ∧ (s.portRuns n = true) ∧ (s.stalled = false) ∧ (s.flag (phyPg n) PHY_CAL_RUNNING = true) ∧
        (s.port n).move = some (.calibrate m true) ∧ ((s.port n).moveNext = none) ∧ (s.moving = none) ∧
        (s.freeRuns = false) ∧ ((s.rd crpPg CRP_CLK_CL_LOCK).testBit (n.val / 16) = true) ∧
        (s.rd (portPg n) PAGE_CMD_CODE = 1)) ∧
    (∃ (s : State) (n : Port) (ok : Bool) (trim : Fin 128),
      (s.faults = []) ∧ (s.portRuns n = true) ∧ (s.stalled = false) ∧ (s.flag (phyPg n) PHY_CAL_RUNNING = true) ∧
        ((s.port n).move = none) ∧ (s.flag (phyPg n) PAGE_STAT_BUSY = true) ∧ (s.rd (phyPg n) PAGE_CMD_CODE = 2) ∧
        (0 < trim.val) ∧ (trim.val < 100)) ∧
    (∃ (s : State) (n : Port) (ok : Bool) (trim : Fin 128),
      (s.faults = []) ∧ (s.portRuns n = true) ∧ (s.stalled = false) ∧ (s.flag (phyPg n) PHY_CAL_RUNNING = true) ∧
        ((s.port n).move = none) ∧ (s.flag (phyPg n) PAGE_STAT_BUSY = true) ∧ (s.rd (phyPg n) PAGE_CMD_CODE = 2) ∧
        (0 < trim.val) ∧ (trim.val < 100) ∧ (ok = false)) :=
  ⟨⟨arg (portIn .run 1 0 {}) (portPg 5) 2 0, 0, 5, 2,
      by unfold State.opens; decide +kernel⟩,
    ⟨arg (portIn .test 1 0 {}) (portPg 5) 6 0, 0, 5, 6,
      by unfold State.opens; decide +kernel⟩,
    ⟨arg (portIn .run 7 0 {}) (portPg 5) 3 0, 0, 5, 3,
      by unfold State.opens; decide +kernel⟩,
    ⟨arg (portIn .configure 1 0 {}) (portPg 5) 4 0, 0, 5,
      by unfold State.opens; decide +kernel⟩,
    ⟨arg ((portIn .configure 1 0 {}).wr (portPg 5) PORT_WAKE_CFG_EDGE 1) (portPg 5) 7 0, 0, 5,
      by unfold State.opens; decide +kernel⟩,
    ⟨arg (portIn .run 1 0 {}) (portPg 5) 0 0, 0, 5, 0,
      by unfold State.opens; decide +kernel⟩,
    ⟨arg (portIn .run 7 0 {}) (portPg 5) 1 0, 0, 5, 1,
      by unfold State.opens; decide +kernel⟩,
    ⟨arg (portIn .run 0 0 {}) (portPg 5) 1 0, 0, 5, 1,
      by unfold State.opens; decide +kernel⟩,
    ⟨arg (portIn .run 0 0 {}) (portPg 5) 2 0, 0, 5, 2,
      by unfold State.opens; decide +kernel⟩,
    ⟨arg ((portIn .run 1 0 {}).wr crpPg CRP_CLK_FREERUN 1) (portPg 5) 2 0, 0, 5, 2,
      by unfold State.opens; decide +kernel⟩,
    ⟨arg (portIn .run 2 2 {}) (portPg 5) 1 0, 0, 5, 1,
      by unfold State.opens; decide +kernel⟩,
    ⟨arg (portIn .run 3 6 {}) (portPg 5) 7 0, 0, 5, 7,
      by unfold State.opens; decide +kernel⟩,
    ⟨arg (portIn .configure 4 7 {}) (portPg 5) 1 0, 0, 5, 1,
      by unfold State.opens; decide +kernel⟩,
    ⟨arg (portIn .test 5 2 {}) (portPg 5) 0 0, 0, 5, 0,
      by unfold State.opens; decide +kernel⟩,
    ⟨arg (portIn .run 3 6 {}) (portPg 5) 2 0, 0, 5,
      by unfold State.opens; decide +kernel⟩,
    ⟨arg (portIn .run 3 6 { cur := some { head := lowHead, own := none } }) (portPg 5) 2 0, 0, 5,
      by unfold State.opens; decide +kernel⟩,
    ⟨arg (portIn .run 2 2 {}) (portPg 5) 2 0, 0, 5,
      by unfold State.opens; decide +kernel⟩,
    ⟨arg (portIn .run 2 2 {}) (portPg 5) 9 0, 0, 5, 9,
      by unfold State.opens; decide +kernel⟩,
    ⟨arg ((portIn .run 1 0 {}).wr (portPg 5) PORT_ABT_PH1 127 |>.wr (portPg 5) PORT_ABT_PRESC 63) (portPg 5) 2 0, 0, 5, 2,
      by unfold State.opens; decide +kernel⟩,
    ⟨(busy (portIn .run 2 2 { move := some (.drain 1 true) }) (portPg 5) 1).wr (portPg 5) PORT_MODE_MOVING 1, 5, 1,
      by decide +kernel⟩,
    ⟨(busy (portIn .run 2 2 { move := some (.drain 7 true) }) (portPg 5) 1).wr (portPg 5) PORT_MODE_MOVING 1, 5, 7,
      by decide +kernel⟩,
    ⟨(busy (portIn .run 2 2 { move := some (.drain 3 true) }) (portPg 5) 1).wr (portPg 5) PORT_MODE_MOVING 1, 5, 3,
      by decide +kernel⟩,
    ⟨(busy (portIn .run 2 2 { move := some (.drain 1 true) }) (portPg 5) 1).wr (portPg 5) PORT_MODE_MOVING 1, 5, 1,
      by decide +kernel⟩,
    ⟨(busy (portIn .run 2 2 { move := some (.drain 0 true) }) (portPg 5) 1).wr (portPg 5) PORT_MODE_MOVING 1, 5, 0,
      by decide +kernel⟩,
    ⟨{ portIn .run 2 2 { move := some (.drain 1 true) } with stalled := true }, 5, .portDrainDone 5,
      (.inl rfl), by decide +kernel⟩,
    ⟨{ portIn .run 2 2 { move := some (.drain 1 true) } with stalled := true }, 5, .forcedStop 5,
      (.inr (.inl rfl)), by decide +kernel⟩,
    ⟨{ portIn .run 0 0 { move := some (.calibrate 1 true) } with stalled := true }, 5, .powerUpCalibrationDone 5 true 60,
      (.inr (.inr ⟨true, 60, rfl⟩)), by decide +kernel⟩,
    ⟨((busy (portIn .run 0 0 { move := some (.calibrate 1 true) }) (portPg 5) 1).wr (phyPg 5) PHY_CAL_RUNNING 1).wr crpPg CRP_CLK_CL_LOCK 1,
      5, 1, 60,
      by decide +kernel⟩,
    ⟨((busy (portIn .run 0 0 { move := some (.calibrate 2 true) }) (portPg 5) 1).wr (phyPg 5) PHY_CAL_RUNNING 1).wr crpPg CRP_CLK_CL_LOCK 1,
      5, 2, 60,
      by decide +kernel⟩,
    ⟨((busy (portIn .run 0 0 { move := some (.calibrate 1 true) }) (portPg 5) 1).wr (phyPg 5) PHY_CAL_RUNNING 1).wr crpPg CRP_CLK_CL_LOCK 1,
      5, 1, 60,
      by decide +kernel⟩,
    ⟨busy ((portIn .run 1 0 {}).wr (phyPg 5) PHY_CAL_RUNNING 1) (phyPg 5) 2, 5, true, 60,
      by decide +kernel⟩,
    ⟨busy ((portIn .run 1 0 {}).wr (phyPg 5) PHY_CAL_RUNNING 1) (phyPg 5) 2, 5, false, 60,
      by decide +kernel⟩⟩

theorem wit_FilterListsAndPoolsAreSet :
    (∃ (s : State) (pp : PPort) (n : Port) (a : Nat) (k : Nat),
      (s.opens pp (portPg n)) ∧ (s.fltOk n = true) ∧ (s.stalled = false) ∧ (a = s.rd (portPg n) PORT_FLT_STAGE_FIRST) ∧
        (k = s.rd (portPg n) PORT_FLT_STAGE_COUNT) ∧ (a < 2 ^ 11) ∧ (a + k ≤ 2048) ∧ (∀ i < k,
        s.brokenIn (filterBase (n.val / 16) + 16 * (a + i)) 16 = false) ∧ (∀ i < k,
        s.elemValid (n.val / 16) (s.elem (n.val / 16) (a + i)) = true)) ∧
    (∃ (s : State) (pp : PPort) (n : Port) (a : Nat) (k : Nat) (i : Nat),
      (s.opens pp (portPg n)) ∧ (s.fltOk n = true) ∧ (s.stalled = false) ∧ (a = s.rd (portPg n) PORT_FLT_STAGE_FIRST) ∧
        (k = s.rd (portPg n) PORT_FLT_STAGE_COUNT) ∧ (a + k ≤ 2048) ∧ (i < k) ∧
        (s.brokenIn (filterBase (n.val / 16) + 16 * (a + i)) 16 = true ∨
        s.elemValid (n.val / 16) (s.elem (n.val / 16) (a + i)) = false) ∧ (∀ j < i,
        s.brokenIn (filterBase (n.val / 16) + 16 * (a + j)) 16 = false) ∧ (∀ j < i,
        s.elemValid (n.val / 16) (s.elem (n.val / 16) (a + j)) = true)) ∧
    (∃ (s : State) (pp : PPort) (n : Port) (a : Nat) (k : Nat) (i : Nat),
      (s.opens pp (portPg n)) ∧ (s.fltOk n = true) ∧ (s.stalled = false) ∧ (a = s.rd (portPg n) PORT_FLT_STAGE_FIRST) ∧
        (k = s.rd (portPg n) PORT_FLT_STAGE_COUNT) ∧ (a + k ≤ 2048) ∧ (i < k) ∧
        (s.brokenIn (filterBase (n.val / 16) + 16 * (a + i)) 16 = true ∨
        s.elemValid (n.val / 16) (s.elem (n.val / 16) (a + i)) = false) ∧ (∀ j < i,
        s.brokenIn (filterBase (n.val / 16) + 16 * (a + j)) 16 = false) ∧ (∀ j < i,
        s.elemValid (n.val / 16) (s.elem (n.val / 16) (a + j)) = true) ∧ (i = 0)) ∧
    (∃ (s : State) (pp : PPort) (n : Port),
      (s.opens pp (portPg n)) ∧ (s.fltOk n = true) ∧ (s.stalled = false) ∧
        (2048 < s.rd (portPg n) PORT_FLT_STAGE_FIRST + s.rd (portPg n) PORT_FLT_STAGE_COUNT)) ∧
    (∃ (s : State) (pp : PPort) (n : Port),
      (s.opens pp (portPg n)) ∧ (s.fltOk n = true) ∧ (s.stalled = true)) ∧
    (∃ (s : State) (pp : PPort) (c : Cl) (val : Word),
      (s.opens pp (clPg c)) ∧ (s.mode = .configure) ∧ (s.rxPoolBad c val.toNat = false)) ∧
    (∃ (s : State) (pp : PPort) (c : Cl) (f : Fin 64) (val : Word) (r : Instr),
      ((r = .clRxpoolWrite pp c val ∧ s.rxPoolBad c val.toNat = true) ∨ (r = .clBufareaWrite pp c val ∧
        s.bufAreaBad c val.toNat = true) ∨ (r = .clTxsoftWrite pp c val ∧ s.txSoftBad c val.toNat = true) ∨
        (r = .rxfCfgWrite pp c f val ∧ s.rxfCfgBad c f val.toNat = true)) ∧ (s.opens pp (clPg c)) ∧
        (s.mode = .configure)) ∧
    (∃ (s : State) (pp : PPort) (c : Cl) (f : Fin 64) (val : Word) (r : Instr),
      ((r = .clRxpoolWrite pp c val ∧ s.rxPoolBad c val.toNat = true) ∨ (r = .clBufareaWrite pp c val ∧
        s.bufAreaBad c val.toNat = true) ∨ (r = .clTxsoftWrite pp c val ∧ s.txSoftBad c val.toNat = true) ∨
        (r = .rxfCfgWrite pp c f val ∧ s.rxfCfgBad c f val.toNat = true)) ∧ (s.opens pp (clPg c)) ∧ (s.mode = .configure) ∧
        (val = 1) ∧ (r = .clBufareaWrite 0 1 1)) ∧
    (∃ (s : State) (pp : PPort) (c : Cl) (f : Fin 64) (val : Word) (r : Instr),
      ((r = .clRxpoolWrite pp c val ∧ s.rxPoolBad c val.toNat = true) ∨ (r = .clBufareaWrite pp c val ∧
        s.bufAreaBad c val.toNat = true) ∨ (r = .clTxsoftWrite pp c val ∧ s.txSoftBad c val.toNat = true) ∨
        (r = .rxfCfgWrite pp c f val ∧ s.rxfCfgBad c f val.toNat = true)) ∧ (s.opens pp (clPg c)) ∧ (s.mode = .configure) ∧
        (val = 0x027F) ∧ (r = .clTxsoftWrite 0 1 0x027F)) ∧
    (∃ (s : State) (pp : PPort) (c : Cl) (f : Fin 64) (val : Word) (r : Instr),
      ((r = .clRxpoolWrite pp c val ∧ s.rxPoolBad c val.toNat = true) ∨ (r = .clBufareaWrite pp c val ∧
        s.bufAreaBad c val.toNat = true) ∨ (r = .clTxsoftWrite pp c val ∧ s.txSoftBad c val.toNat = true) ∨
        (r = .rxfCfgWrite pp c f val ∧ s.rxfCfgBad c f val.toNat = true)) ∧ (s.opens pp (clPg c)) ∧ (s.mode = .configure) ∧
        (val = 0x7FFFFFFF) ∧ (r = .rxfCfgWrite 0 1 6 0x7FFFFFFF)) ∧
    (∃ (s : State) (pp : PPort) (c : Cl) (f : Fin 64) (val : Word) (r : Instr),
      ((r = .clRxpoolWrite pp c val ∧ s.rd (clPg c) CL_RXPOOL_BASE ≠ val.toNat % 2 ^ 7) ∨ (r = .clBufareaWrite pp c val ∧
        s.rd (clPg c) CL_BUFAREA_EN ≠ val.toNat % 2) ∨ (r = .clTxsoftWrite pp c val ∧
        s.rd (clPg c) CL_TXSOFT_BASE ≠ val.toNat % 2 ^ 7) ∨ (r = .rxfCfgWrite pp c f val ∧
        s.rd (clPg c) RXF_CFG_EN f ≠ val.toNat % 2)) ∧ (s.opens pp (clPg c)) ∧ (s.mode ≠ .configure)) ∧
    (∃ (s : State) (pp : PPort) (c : Cl) (f : Fin 64) (val : Word) (r : Instr),
      ((r = .clRxpoolWrite pp c val ∧ s.rd (clPg c) CL_RXPOOL_BASE ≠ val.toNat % 2 ^ 7) ∨ (r = .clBufareaWrite pp c val ∧
        s.rd (clPg c) CL_BUFAREA_EN ≠ val.toNat % 2) ∨ (r = .clTxsoftWrite pp c val ∧
        s.rd (clPg c) CL_TXSOFT_BASE ≠ val.toNat % 2 ^ 7) ∨ (r = .rxfCfgWrite pp c f val ∧
        s.rd (clPg c) RXF_CFG_EN f ≠ val.toNat % 2)) ∧ (s.opens pp (clPg c)) ∧ (s.mode ≠ .configure) ∧
        (r = .clBufareaWrite 0 1 1)) ∧
    (∃ (s : State) (pp : PPort) (c : Cl) (f : Fin 64) (val : Word) (r : Instr),
      ((r = .clRxpoolWrite pp c val ∧ s.rd (clPg c) CL_RXPOOL_BASE ≠ val.toNat % 2 ^ 7) ∨ (r = .clBufareaWrite pp c val ∧
        s.rd (clPg c) CL_BUFAREA_EN ≠ val.toNat % 2) ∨ (r = .clTxsoftWrite pp c val ∧
        s.rd (clPg c) CL_TXSOFT_BASE ≠ val.toNat % 2 ^ 7) ∨ (r = .rxfCfgWrite pp c f val ∧
        s.rd (clPg c) RXF_CFG_EN f ≠ val.toNat % 2)) ∧ (s.opens pp (clPg c)) ∧ (s.mode ≠ .configure) ∧
        (r = .clTxsoftWrite 0 1 1)) ∧
    (∃ (s : State) (pp : PPort) (c : Cl) (f : Fin 64) (val : Word) (r : Instr),
      ((r = .clRxpoolWrite pp c val ∧ s.rd (clPg c) CL_RXPOOL_BASE ≠ val.toNat % 2 ^ 7) ∨ (r = .clBufareaWrite pp c val ∧
        s.rd (clPg c) CL_BUFAREA_EN ≠ val.toNat % 2) ∨ (r = .clTxsoftWrite pp c val ∧
        s.rd (clPg c) CL_TXSOFT_BASE ≠ val.toNat % 2 ^ 7) ∨ (r = .rxfCfgWrite pp c f val ∧
        s.rd (clPg c) RXF_CFG_EN f ≠ val.toNat % 2)) ∧ (s.opens pp (clPg c)) ∧ (s.mode ≠ .configure) ∧
        (r = .rxfCfgWrite 0 1 6 1)) ∧
    (∃ (s : State) (pp : PPort) (c : Cl) (val : Word),
      (s.opens pp (clPg c)) ∧ (s.mode = .configure) ∧ (s.bufAreaBad c val.toNat = false)) ∧
    (∃ (s : State) (pp : PPort) (c : Cl) (val : Word),
      (s.opens pp (clPg c)) ∧ (s.mode = .configure) ∧ (s.txSoftBad c val.toNat = false)) ∧
    (∃ (s : State) (pp : PPort) (c : Cl) (f : Fin 64) (val : Word),
      (s.opens pp (clPg c)) ∧ (s.mode = .configure) ∧ (s.rxfCfgBad c f val.toNat = false)) :=
  ⟨⟨fifoS (((portIn .run 2 2 {}).wr (portPg 5) PORT_FLT_STAGE_FIRST 4).wr (portPg 5) PORT_FLT_STAGE_COUNT 2), 0, 5, 4, 2,
      by unfold State.opens; decide +kernel⟩,
    ⟨words (fifoS (((portIn .run 2 2 {}).wr (portPg 5) PORT_FLT_STAGE_FIRST 4).wr (portPg 5) PORT_FLT_STAGE_COUNT 2)) (filterBase 0 + 80) [0x05000012,
      0x123, 0x123, 6], 0, 5, 4, 2, 1,
      by unfold State.opens; decide +kernel⟩,
    ⟨{ fifoS (((portIn .run 2 2 {}).wr (portPg 5) PORT_FLT_STAGE_FIRST 4).wr (portPg 5) PORT_FLT_STAGE_COUNT 2) with ueWords := [filterBase 0 + 64] },
      0, 5, 4, 2, 0,
      by unfold State.opens; decide +kernel⟩,
    ⟨((portIn .run 2 2 {}).wr (portPg 5) PORT_FLT_STAGE_FIRST 2047).wr (portPg 5) PORT_FLT_STAGE_COUNT 2, 0, 5,
      by unfold State.opens; decide +kernel⟩,
    ⟨{ portIn .run 2 2 {} with stalled := true }, 0, 5,
      by unfold State.opens; decide +kernel⟩,
    ⟨inMode .configure, 0, 1, 0x00021000,
      by unfold State.opens; decide +kernel⟩,
    ⟨(inMode .configure).wr (clPg 1) CL_RXPOOL_SIZE 0, 0, 1, 6, 0x00050100, .clRxpoolWrite 0 1 0x00050100,
      (.inl ⟨rfl, by decide +kernel⟩), by unfold State.opens; decide +kernel⟩,
    ⟨(inMode .configure).wr (clPg 1) CL_RXPOOL_SIZE 128, 0, 1, 6, 1, .clBufareaWrite 0 1 1,
      (.inr (.inl ⟨rfl, by decide +kernel⟩)), by unfold State.opens; decide +kernel⟩,
    ⟨(inMode .configure).wr (clPg 1) CL_RXPOOL_SIZE 0, 0, 1, 6, 0x027F, .clTxsoftWrite 0 1 0x027F,
      (.inr (.inr (.inl ⟨rfl, by decide +kernel⟩))), by unfold State.opens; decide +kernel⟩,
    ⟨(inMode .configure).wr (clPg 1) CL_RXPOOL_SIZE 0, 0, 1, 6, 0x7FFFFFFF, .rxfCfgWrite 0 1 6 0x7FFFFFFF,
      (.inr (.inr (.inr (⟨rfl, by decide +kernel⟩)))), by unfold State.opens; decide +kernel⟩,
    ⟨inMode .run, 0, 1, 6, 1, .clRxpoolWrite 0 1 1,
      (.inl ⟨rfl, by decide +kernel⟩), by unfold State.opens; decide +kernel⟩,
    ⟨inMode .run, 0, 1, 6, 1, .clBufareaWrite 0 1 1,
      (.inr (.inl ⟨rfl, by decide +kernel⟩)), by unfold State.opens; decide +kernel⟩,
    ⟨inMode .run, 0, 1, 6, 1, .clTxsoftWrite 0 1 1,
      (.inr (.inr (.inl ⟨rfl, by decide +kernel⟩))), by unfold State.opens; decide +kernel⟩,
    ⟨inMode .run, 0, 1, 6, 1, .rxfCfgWrite 0 1 6 1,
      (.inr (.inr (.inr (⟨rfl, by decide +kernel⟩)))), by unfold State.opens; decide +kernel⟩,
    ⟨inMode .configure, 0, 1, 1,
      by unfold State.opens; decide +kernel⟩,
    ⟨inMode .configure, 0, 1, 0x0410,
      by unfold State.opens; decide +kernel⟩,
    ⟨inMode .configure, 0, 1, 63, 0x02000807,
      by unfold State.opens; decide +kernel⟩⟩

theorem wit_DoorbellsSubmitObjects :
    (∃ (s : State) (pp : PPort) (n : Port) (val : Word) (c : Nat) (i : Nat) (o : TxObj),
      (s.opens pp (portPg n)) ∧ (c = n.val / 16) ∧ (i = val.toNat % 2 ^ 13) ∧ (val.toNat / 2 ^ 16 % 2 ^ 8 = 0) ∧
        (s.objectInUse c i = none) ∧ (s.brokenIn (objectBase c + 32 * i) 32 = false) ∧ (o = s.txObj c i) ∧
        (s.refusal c o = 0) ∧ (o.kind ≠ 1) ∧ (∀ q ∈ s.portSet c o, s.fencedCl (q / 16) = false)) ∧
    (∃ (s : State) (pp : PPort) (n : Port) (val : Word) (c : Nat) (i : Nat) (o : TxObj),
      (s.opens pp (portPg n)) ∧ (c = n.val / 16) ∧ (i = val.toNat % 2 ^ 13) ∧ (val.toNat / 2 ^ 16 % 2 ^ 8 = 0) ∧
        (s.objectInUse c i = none) ∧ (s.brokenIn (objectBase c + 32 * i) 32 = false) ∧ (o = s.txObj c i) ∧
        (s.refusal c o = 0) ∧ (o.kind = 1) ∧ (o.src = 2) ∧ (∀ q ∈ s.portSet c o, s.fencedCl (q / 16) = false)) ∧
    (∃ (s : State) (pp : PPort) (n : Port) (val : Word) (c : Nat) (i : Nat) (o : TxObj),
      (s.opens pp (portPg n)) ∧ (c = n.val / 16) ∧ (i = val.toNat % 2 ^ 13) ∧ (val.toNat / 2 ^ 16 % 2 ^ 8 = 0) ∧
        (s.objectInUse c i = none) ∧ (s.brokenIn (objectBase c + 32 * i) 32 = false) ∧ (o = s.txObj c i) ∧
        (s.refusal c o = 0) ∧ (o.kind = 1) ∧ (o.src ≠ 2) ∧ (∀ q ∈ s.portSet c o, s.fencedCl (q / 16) = false)) ∧
    (∃ (s : State) (pp : PPort) (n : Port) (val : Word) (c : Nat) (i : Nat) (o : TxObj),
      (s.opens pp (portPg n)) ∧ (c = n.val / 16) ∧ (i = val.toNat % 2 ^ 13) ∧ (val.toNat / 2 ^ 16 % 2 ^ 8 = 0) ∧
        (s.objectInUse c i = none) ∧ (s.brokenIn (objectBase c + 32 * i) 32 = false) ∧ (o = s.txObj c i) ∧
        (s.refusal c o = 0) ∧ (o.kind = 1) ∧ (o.src ≠ 2) ∧ (∀ q ∈ s.portSet c o, s.fencedCl (q / 16) = false) ∧
        (o = (words (chanS 1 { mode := .halted, cfg := some (chanC false true false) }) (objectBase 0 + 96) [0x07010201,
        0x123, 63, 0x20, 0x10000, 1]).txObj 0 3)) ∧
    (∃ (s : State) (pp : PPort) (n : Port) (val : Word) (c : Nat) (i : Nat) (q : Nat) (o : TxObj),
      (s.opens pp (portPg n)) ∧ (c = n.val / 16) ∧ (i = val.toNat % 2 ^ 13) ∧ (val.toNat / 2 ^ 16 % 2 ^ 8 = 0) ∧
        (s.objectInUse c i = none) ∧ (s.brokenIn (objectBase c + 32 * i) 32 = false) ∧ (o = s.txObj c i) ∧
        (s.refusal c o = 0) ∧ (q ∈ s.portSet c o) ∧ (s.fencedCl (q / 16) = true)) ∧
    (∃ (s : State) (pp : PPort) (n : Port) (val : Word) (c : Nat) (i : Nat) (o : TxObj),
      (s.opens pp (portPg n)) ∧ (c = n.val / 16) ∧ (i = val.toNat % 2 ^ 13) ∧ (val.toNat / 2 ^ 16 % 2 ^ 8 = 0) ∧
        (s.objectInUse c i = none) ∧ (s.brokenIn (objectBase c + 32 * i) 32 = false) ∧ (o = s.txObj c i) ∧
        (s.refusal c o ≠ 0)) ∧
    (∃ (s : State) (pp : PPort) (n : Port) (val : Word) (c : Nat) (finds : List (Nat × Find)),
      (s.opens pp (portPg n)) ∧ (c = n.val / 16) ∧ (∀ k ≤ val.toNat / 2 ^ 16 % 2 ^ 8,
        (s.objectInUse c ((val.toNat % 2 ^ 13 + k) % 8192)).isSome = true ∨
        s.brokenIn (objectBase c + 32 * ((val.toNat % 2 ^ 13 + k) % 8192)) 32 = true)) ∧
    (∃ (s : State) (pp : PPort) (n : Port) (val : Word) (c : Nat) (finds : List (Nat × Find)),
      (s.opens pp (portPg n)) ∧ (c = n.val / 16) ∧ (∀ k ≤ val.toNat / 2 ^ 16 % 2 ^ 8,
        (s.objectInUse c ((val.toNat % 2 ^ 13 + k) % 8192)).isSome = true ∨
        s.brokenIn (objectBase c + 32 * ((val.toNat % 2 ^ 13 + k) % 8192)) 32 = true) ∧ (val = 0x10003)) ∧
    (∃ (s : State) (pp : PPort) (n : Port) (val : Word) (c : Nat) (i : Nat),
      (s.opens pp (portPg n)) ∧ (c = n.val / 16) ∧ (i = val.toNat % 2 ^ 13) ∧ (val.toNat / 2 ^ 16 % 2 ^ 8 = 0) ∧
        (s.objectInUse c i = none) ∧ (s.brokenIn (objectBase c + 32 * i) 32 = false)) :=
  ⟨⟨words (portIn .run 2 2 {}) (objectBase 0 + 96) [0x07000200, 0x123, 0x00550004, 0x8020, 0x04030201], 0, 5, 3, 0, 3,
    (words (portIn .run 2 2 {}) (objectBase 0 + 96) [0x07000200, 0x123, 0x00550004, 0x8020, 0x04030201]).txObj 0 3,
      by unfold State.opens; decide +kernel⟩,
    ⟨words ((portIn .run 2 2 {}).wr (clPg 0) CL_TXSOFT_BASE 4 |>.wr (clPg 0) CL_TXSOFT_SIZE 2) (objectBase 0 + 96) [0x07000241,
      0x123, 63, 0x20, 0x40000, 0], 0, 5, 3, 0, 3,
      (words ((portIn .run 2 2 {}).wr (clPg 0) CL_TXSOFT_BASE 4 |>.wr (clPg 0) CL_TXSOFT_SIZE 2) (objectBase 0 + 96) [0x07000241,
      0x123, 63, 0x20, 0x40000, 0]).txObj 0 3,
      by unfold State.opens; decide +kernel⟩,
    ⟨words (chanS 1 { mode := .enabled, cfg := some (chanC false true false) }) (objectBase 0 + 96) [0x07010221, 0x123,
      63, 0x20, 0x10000, 1], 0, 5, 3, 0, 3,
      (words (chanS 1 { mode := .enabled, cfg := some (chanC false true false) }) (objectBase 0 + 96) [0x07010221, 0x123,
      63, 0x20, 0x10000, 1]).txObj 0 3,
      by unfold State.opens; decide +kernel⟩,
    ⟨words (chanS 1 { mode := .halted, cfg := some (chanC false true false) }) (objectBase 0 + 96) [0x07010201, 0x123, 63,
      0x20, 0x10000, 1], 0, 5, 3, 0, 3,
      (words (chanS 1 { mode := .halted, cfg := some (chanC false true false) }) (objectBase 0 + 96) [0x07010201, 0x123,
      63, 0x20, 0x10000, 1]).txObj 0 3,
      by unfold State.opens; decide +kernel⟩,
    ⟨words (((portIn .run 2 2 {}).wr (clPg 0) CL_PSET_PORTS 0x100020 0).wr devPg DEV_CLUSTERS_FENCED 2) (objectBase 0 + 96) [0x07000280,
      0x123, 0x00550004, 0, 0x04030201], 0, 5, 3, 0, 3, 20,
      (words (((portIn .run 2 2 {}).wr (clPg 0) CL_PSET_PORTS 0x100020 0).wr devPg DEV_CLUSTERS_FENCED 2) (objectBase 0 + 96) [0x07000280,
      0x123, 0x00550004, 0, 0x04030201]).txObj 0 3,
      by unfold State.opens; decide +kernel⟩,
    ⟨words (portIn .run 2 2 {}) (objectBase 0 + 96) [0x07000200, 0x123, 0x00550004, 0, 0x04030201], 0, 5, 3, 0, 3,
      (words (portIn .run 2 2 {}) (objectBase 0 + 96) [0x07000200, 0x123, 0x00550004, 0, 0x04030201]).txObj 0 3,
      by unfold State.opens; decide +kernel⟩,
    ⟨withJob .run 2 {} .pending, 0, 5, 3, 0, [],
      by unfold State.opens; decide +kernel⟩,
    ⟨{ withJob .run 2 {} .pending with ueWords := [objectBase 0 + 128] }, 0, 5, 0x10003, 0, [],
      by unfold State.opens; decide +kernel⟩,
    ⟨words (portIn .run 2 2 {}) (objectBase 0 + 96) [0x07000200, 0x123, 0x00550004, 0x8020, 0x04030201], 0, 5, 3, 0, 3,
      by unfold State.opens; decide +kernel⟩⟩

theorem wit_CancelsSettle :
    (∃ (s : State) (pp : PPort) (n : Port) (uid : Nat) (j : Job) (x : JobPort),
      (s.opens pp (portPg n)) ∧ (s.stalled = false) ∧ ((s.arg0 (portPg n)).testBit 31 = false) ∧
        (s.objectInUse (n.val / 16) (s.arg0 (portPg n) % 2 ^ 13) = some uid) ∧ (s.job? uid = some j) ∧ (j.fwd = false) ∧
        (j.on n = some x) ∧ (x.stage = .pending) ∧ (j.res = .resident) ∧ (s.reading j.chan (.fetch uid) = false) ∧
        (s.cancelWaits n = false)) ∧
    (∃ (s : State) (pp : PPort) (n : Port) (uid : Nat) (j : Job),
      (s.opens pp (portPg n)) ∧ (s.stalled = false) ∧ ((s.arg0 (portPg n)).testBit 31 = true) ∧
        (s.objectInUse (n.val / 16) (s.arg0 (portPg n) % 2 ^ 13) = some uid) ∧ (s.job? uid = some j) ∧ (j.fwd = false) ∧
        ((j.ports.map (·.port)).Nodup) ∧ (∀ x ∈ j.ports, x.stage = .pending) ∧ (j.res = .resident) ∧
        (s.reading j.chan (.fetch uid) = false) ∧ (s.cancelWaits n = false)) ∧
    (∃ (s : State) (pp : PPort) (n : Port) (uid : Nat) (j : Job) (x : JobPort),
      (s.opens pp (portPg n)) ∧ ((s.arg0 (portPg n)).testBit 31 = false) ∧
        (s.objectInUse (n.val / 16) (s.arg0 (portPg n) % 2 ^ 13) = some uid) ∧ (s.job? uid = some j) ∧ (j.on n = some x) ∧
        (x.stage = .offered)) ∧
    (∃ (s : State) (pp : PPort) (n : Port) (uid : Nat) (j : Job) (x : JobPort),
      (x.stage = .won ∨ ∃ r, x.stage = .final r) ∧ (s.opens pp (portPg n)) ∧ (s.stalled = false) ∧
        ((s.arg0 (portPg n)).testBit 31 = false) ∧ (s.objectInUse (n.val / 16) (s.arg0 (portPg n) % 2 ^ 13) = some uid) ∧
        (s.job? uid = some j) ∧ (j.on n = some x) ∧ (s.cancelWaits n = false) ∧ (s.jobReads uid = false)) ∧
    (∃ (s : State) (pp : PPort) (n : Port) (uid : Nat) (j : Job) (x : JobPort),
      (x.stage = .won ∨ ∃ r, x.stage = .final r) ∧ (s.opens pp (portPg n)) ∧ (s.stalled = false) ∧
        ((s.arg0 (portPg n)).testBit 31 = false) ∧ (s.objectInUse (n.val / 16) (s.arg0 (portPg n) % 2 ^ 13) = some uid) ∧
        (s.job? uid = some j) ∧ (j.on n = some x) ∧ (s.cancelWaits n = false) ∧ (s.jobReads uid = false) ∧
        (j = { lowJob .pending with ports := [{ port := 5, stage := .final .sent }, { port := 6 }] }) ∧
        (x = { port := 5, stage := .final .sent })) ∧
    (∃ (s : State) (pp : PPort) (n : Port),
      (s.opens pp (portPg n)) ∧ (s.objectInUse (n.val / 16) (s.arg0 (portPg n) % 2 ^ 13) = none)) ∧
    (∃ (s : State) (pp : PPort) (n : Port) (uid : Nat) (j : Job),
      (s.opens pp (portPg n)) ∧ ((s.arg0 (portPg n)).testBit 31 = false) ∧
        (s.objectInUse (n.val / 16) (s.arg0 (portPg n) % 2 ^ 13) = some uid) ∧ (s.job? uid = some j) ∧
        (n.val ∉ j.ports.map (·.port))) ∧
    (∃ (s : State) (pp : PPort) (n : Port) (uid : Nat) (j : Job) (x : JobPort),
      (s.opens pp (portPg n)) ∧ (s.stalled = false) ∧ (s.jobs = [(uid, j)]) ∧ (j.fwd = false) ∧ (j.on n = some x) ∧
        (x.stage = .pending) ∧ (j.res = .resident) ∧ (s.reading j.chan (.fetch uid) = false) ∧
        (s.cancelWaits n = false)) ∧
    (∃ (s : State) (pp : PPort) (n : Port),
      (s.opens pp (portPg n)) ∧ (s.stalled = false) ∧ (s.cancelWaits n = false) ∧ (∀ e ∈ s.jobs, e.2.on n = none)) ∧
    (∃ (s : State) (n : Port) (uid : Nat) (q : CancelRun),
      (s.faults = []) ∧ (s.stalled = false) ∧ ((s.port n).cancel = some q) ∧ (q.job = some uid) ∧
        (s.cancelWaits n = false) ∧ (s.jobReads uid = false) ∧ (s.rd (portPg n) PAGE_CMD_CODE = 0x20)) ∧
    (∃ (s : State) (n : Port) (uid : Nat) (q : CancelRun),
      (s.faults = []) ∧ (s.stalled = false) ∧ ((s.port n).cancel = some q) ∧ (q.job = some uid) ∧
        (s.cancelWaits n = false) ∧ (s.jobReads uid = false) ∧ (s.rd (portPg n) PAGE_CMD_CODE = 0x20) ∧
        (q = { job := some 7, cancelled := 1, late := 0 })) ∧
    (∃ (s : State) (n : Port) (q : CancelRun),
      (s.faults = []) ∧ (s.stalled = false) ∧ ((s.port n).cancel = some q) ∧ (q.job = none) ∧ (s.cancelWaits n = false) ∧
        (∀ e ∈ s.jobs, e.2.res ≠ .resident ∨ e.2.elig < q.start ∨ (e.2.on n).map JobPort.stage ≠ some .pending) ∧
        (s.rd (portPg n) PAGE_CMD_CODE = 0x21)) ∧
    (∃ (s : State) (n : Port) (q : CancelRun),
      (s.faults = []) ∧ (s.stalled = false) ∧ ((s.port n).cancel = some q) ∧ (q.job = none) ∧ (s.cancelWaits n = false) ∧
        (∀ e ∈ s.jobs, e.2.res ≠ .resident ∨ e.2.elig < q.start ∨ (e.2.on n).map JobPort.stage ≠ some .pending) ∧
        (s.rd (portPg n) PAGE_CMD_CODE = 0x21) ∧ (q = { job := none, start := 5, cancelled := 3, late := 0 })) ∧
    (∃ (s : State) (n : Port) (uid : Nat) (q : CancelRun),
      (s.faults = []) ∧ ((s.port n).cancel = some q) ∧ (q.job = some uid) ∧ (s.cancelWaits n = true ∨
        s.jobReads uid = true ∨ s.stalled = true)) :=
  ⟨⟨arg (withJob .run 2 {} .pending) (portPg 5) 3 0, 0, 5, 7, lowJob .pending, { port := 5 },
      by unfold State.opens; decide +kernel⟩,
    ⟨arg (withJob .run 2 {} .pending) (portPg 5) 0x80000003 0, 0, 5, 7, lowJob .pending,
      by unfold State.opens; decide +kernel⟩,
    ⟨arg (withJob .run 2 { cand := some (.job 7) } .offered) (portPg 5) 3 0, 0, 5, 7, lowJob .offered,
      { port := 5, stage := .offered },
      by unfold State.opens; decide +kernel⟩,
    ⟨arg (withJob .run 2 { cur := some ownFrame } .won) (portPg 5) 3 0, 0, 5, 7, lowJob .won,
      { port := 5, stage := .won },
      (.inl rfl), by unfold State.opens; decide +kernel⟩,
    ⟨arg { portIn .run 2 2 {} with jobs := [(7, { lowJob .pending with ports := [{ port := 5, stage := .final .sent }, { port := 6 }] })], nextUid := 9 } (portPg 5) 3 0,
      0, 5, 7, { lowJob .pending with ports := [{ port := 5, stage := .final .sent }, { port := 6 }] },
      { port := 5, stage := .final .sent },
      (.inr ⟨.sent, rfl⟩), by unfold State.opens; decide +kernel⟩,
    ⟨arg (withJob .run 2 {} .pending) (portPg 5) 4 0, 0, 5,
      by unfold State.opens; decide +kernel⟩,
    ⟨arg (withJob .run 2 {} .pending) (portPg 6) 3 0, 0, 6, 7, lowJob .pending,
      by unfold State.opens; decide +kernel⟩,
    ⟨withJob .run 2 {} .pending, 0, 5, 7, lowJob .pending, { port := 5 },
      by unfold State.opens; decide +kernel⟩,
    ⟨withJob .run 2 {} .pending, 0, 6,
      by unfold State.opens; decide +kernel⟩,
    ⟨busy (withJob .run 2 { cancel := some { job := some 7, cancelled := 1, late := 2 } } .pending) (portPg 5) 0x20, 5, 7,
      { job := some 7, cancelled := 1, late := 2 },
      by decide +kernel⟩,
    ⟨busy (withJob .run 2 { cancel := some { job := some 7, cancelled := 1, late := 0 } } .pending) (portPg 5) 0x20, 5, 7,
      { job := some 7, cancelled := 1, late := 0 },
      by decide +kernel⟩,
    ⟨busy (withJob .run 2 { cancel := some { job := none, start := 5, cancelled := 3, late := 2 } } .pending) (portPg 5) 0x21,
      5, { job := none, start := 5, cancelled := 3, late := 2 },
      by decide +kernel⟩,
    ⟨busy (withJob .run 2 { cancel := some { job := none, start := 5, cancelled := 3, late := 0 } } .pending) (portPg 5) 0x21,
      5, { job := none, start := 5, cancelled := 3, late := 0 },
      by decide +kernel⟩,
    ⟨{ portIn .run 2 2 { cand := some (.job 7), cancel := some { job := some 7, cancelled := 1, late := 0 } } with jobs := [(7, { lowJob .offered with ports := [{ port := 5, stage := .offered, cancelBy := [5] }] })] },
      5, 7, { job := some 7, cancelled := 1, late := 0 },
      by decide +kernel⟩⟩

theorem wit_FetchesTakeBlocksAndEnd :
    (∃ (s : State) (m : Chan) (r : Req) (uid : Nat) (a : Nat) (j : Job),
      (s.faults = []) ∧ (s.moverRuns = true) ∧ ((s.chan m).mode = .enabled) ∧ ((s.chan m).head = some r) ∧
        (r.kind = .fetch uid) ∧ (s.job? uid = some j) ∧ (j.res = .waitFetch ∨ j.res = .waitBlock) ∧
        (s.quotaFits j.lead r.len = true) ∧ (takeFrom (s.freeOf j.cl (s.txUnits j.cl)) (orderFor r.len) = some a)) ∧
    (∃ (s : State) (m : Chan) (r : Req) (uid : Nat) (j : Job),
      (s.faults = []) ∧ (s.moverRuns = true) ∧ ((s.chan m).mode = .enabled) ∧ ((s.chan m).head = some r) ∧
        (r.kind = .fetch uid) ∧ (s.job? uid = some j) ∧ (j.res = .waitFetch ∨ j.res = .waitBlock) ∧ (j.cl < 8) ∧
        (s.quotaFits j.lead r.len = false ∨ takeFrom (s.freeOf j.cl (s.txUnits j.cl)) (orderFor r.len) = none)) ∧
    (∃ (s : State) (m : Chan) (r : Req) (uid : Nat) (j : Job) (rest : List Req),
      (s.faults = []) ∧ (s.down = false) ∧ ((s.chan m).queue = r :: rest) ∧ (r.kind = .fetch uid) ∧ (r.withdrawn = false) ∧
        (r.len ≤ r.got) ∧ (s.job? uid = some j) ∧ (j.res = .fetching)) :=
  ⟨⟨{ inMode .run with chans := [(1, { mode := .enabled, cfg := some (chanC false true false), queue := [fetchR] })], jobs := [(7, tailJob .waitFetch)], nextUid := 9 },
    1, fetchR, 7, 0, tailJob .waitFetch,
      by decide +kernel⟩,
    ⟨{ inMode .run with chans := [(1, { mode := .enabled, cfg := some (chanC false true false), queue := [fetchR] })], jobs := [(7, tailJob .waitFetch)], nextUid := 9, blocks := [⟨0, 65536, .tx, [.job 7], false⟩], regs := [(fieldKey (portPg 5) PORT_TX_QUOTA_UNITS 0, 1)] },
      1, fetchR, 7, tailJob .waitFetch,
      by decide +kernel⟩,
    ⟨{ chanS 1 { mode := .enabled, cfg := some (chanC false true false), queue := [{ fetchR with issued := 256, got := 256 }] } with jobs := [(7, tailJob .fetching)], nextUid := 9 },
      1, { fetchR with issued := 256, got := 256 }, 7, tailJob .fetching, [],
      by decide +kernel⟩⟩

theorem wit_RecordsAreWrittenAndObjectsShown :
    (∃ (s : State) (k : Tgt) (r : Rec) (a : List Rec) (b : List Rec),
      (s.faults = []) ∧ (splitRec (s.ringFree k != 0) (s.tgt k).recs = some (a, r, b)) ∧ (r.drop = false) ∧
        (s.linkUp (k.val / 4) = true) ∧ ((s.pp (k.val / 4)).masters = true)) ∧
    (∃ (s : State) (k : Tgt) (r : Rec) (a : List Rec) (b : List Rec),
      (s.faults = []) ∧ (splitRec (s.ringFree k != 0) (s.tgt k).recs = some (a, r, b)) ∧ (r.drop = false) ∧
        (s.linkUp (k.val / 4) = true) ∧ ((s.pp (k.val / 4)).masters = true) ∧
        (r = { slot := true, words := List.range 16 })) ∧
    (∃ (s : State) (k : Tgt) (r : Rec) (a : List Rec) (b : List Rec),
      (s.faults = []) ∧ (splitRec (s.ringFree k != 0) (s.tgt k).recs = some (a, r, b)) ∧ (r.drop = true ∨
        s.linkUp (k.val / 4) = false)) ∧
    (∃ (s : State) (k : Tgt) (r : Rec) (a : List Rec) (b : List Rec),
      (s.faults = []) ∧ (splitRec (s.ringFree k != 0) (s.tgt k).recs = some (a, r, b)) ∧ (r.drop = true ∨
        s.linkUp (k.val / 4) = false) ∧ (r = { slot := false, words := List.range 16, job := some 7 })) ∧
    (∃ (s : State) (k : Tgt) (r : Rec) (a : List Rec) (b : List Rec),
      (s.faults = []) ∧ (splitRec (s.ringFree k != 0) (s.tgt k).recs = some (a, r, b)) ∧ (r.drop = false) ∧
        (s.linkUp (k.val / 4) = true) ∧ ((s.pp (k.val / 4)).masters = false)) ∧
    (∃ (s : State) (k : Tgt),
      (s.faults = []) ∧ (splitRec (s.ringFree k != 0) (s.tgt k).recs = none)) ∧
    (∃ (s : State) (pp : PPort) (c : Cl),
      (s.opens pp (clPg c))) :=
  ⟨⟨{ ((linked ((inMode .run).wr (tnPg 2) T_RING_CFG_EN 1) 0).wr (tnPg 2) T_RING_PUT_PUT 2).wr (tnPg 2) T_RING_GET_GET 1 with jobs := [(7, lowJob .won)], tgts := [(2, { recs := [{ slot := false, words := List.range 16, job := some 7 }, { slot := true, words := List.range 16 }] })], srcs := [(privKey 2 1, { en := true }), (privKey 2 2, { en := true })] },
    2, { slot := false, words := List.range 16, job := some 7 }, [], [{ slot := true, words := List.range 16 }],
      by decide +kernel⟩,
    ⟨{ ((linked ((inMode .run).wr (tnPg 2) T_RING_CFG_EN 0) 0).wr (tnPg 2) T_RING_PUT_PUT 2).wr (tnPg 2) T_RING_GET_GET 1 with jobs := [(7, lowJob .won)], tgts := [(2, { recs := [{ slot := false, words := List.range 16, job := some 7 }, { slot := true, words := List.range 16 }] })], srcs := [(privKey 2 1, { en := true }), (privKey 2 2, { en := true })] },
      2, { slot := true, words := List.range 16 }, [{ slot := false, words := List.range 16, job := some 7 }], [],
      by decide +kernel⟩,
    ⟨{ ((linked ((inMode .run).wr (tnPg 2) T_RING_CFG_EN 1) 0).wr (tnPg 2) T_RING_PUT_PUT 2).wr (tnPg 2) T_RING_GET_GET 1 with jobs := [(7, lowJob .won)], tgts := [(2, { recs := [{ slot := true, words := List.range 16, drop := true }] })], srcs := [(privKey 2 1, { en := true }), (privKey 2 2, { en := true })] },
      2, { slot := true, words := List.range 16, drop := true }, [], [],
      by decide +kernel⟩,
    ⟨({ ((linked ((inMode .run).wr (tnPg 2) T_RING_CFG_EN 1) 0).wr (tnPg 2) T_RING_PUT_PUT 2).wr (tnPg 2) T_RING_GET_GET 1 with jobs := [(7, lowJob .won)], tgts := [(2, { recs := [{ slot := false, words := List.range 16, job := some 7 }] })], srcs := [(privKey 2 1, { en := true }), (privKey 2 2, { en := true })] }).wr (ppPg 0) PP_LINK_SPEED 0,
      2, { slot := false, words := List.range 16, job := some 7 }, [], [],
      by decide +kernel⟩,
    ⟨({ ((linked ((inMode .run).wr (tnPg 2) T_RING_CFG_EN 1) 0).wr (tnPg 2) T_RING_PUT_PUT 2).wr (tnPg 2) T_RING_GET_GET 1 with jobs := [(7, lowJob .won)], tgts := [(2, { recs := [{ slot := false, words := List.range 16, job := some 7 }] })], srcs := [(privKey 2 1, { en := true }), (privKey 2 2, { en := true })] }).modPp 0 (fun x => { x with bme := false }),
      2, { slot := false, words := List.range 16, job := some 7 }, [], [],
      by decide +kernel⟩,
    ⟨{ ((linked ((inMode .run).wr (tnPg 2) T_RING_CFG_EN 0) 0).wr (tnPg 2) T_RING_PUT_PUT 2).wr (tnPg 2) T_RING_GET_GET 1 with jobs := [(7, lowJob .won)], tgts := [(2, { recs := [{ slot := false, words := List.range 16, job := some 7 }, { ({ slot := false, words := [] } : Rec) with waiting := true }] })], srcs := [(privKey 2 1, { en := true }), (privKey 2 2, { en := true })] },
      2,
      by decide +kernel⟩,
    ⟨arg (withJob .run 2 {} .pending) (clPg 0) 3 0, 0, 0,
      by unfold State.opens; decide +kernel⟩⟩

theorem wit_EntriesAreReleased :
    (∃ (s : State) (pp : PPort) (c : Cl) (f : Fin 64) (val : Word) (d : Nat),
      (s.opens pp (clPg c)) ∧ (d = (val.toNat % 2 ^ 16 + 65536 - s.rd (clPg c) RXF_GET_GET f) % 65536) ∧
        (d ≤ s.fifoFill c f)) ∧
    (∃ (s : State) (pp : PPort) (c : Cl) (f : Fin 64) (val : Word) (d : Nat),
      (s.opens pp (clPg c)) ∧ (d = (val.toNat % 2 ^ 16 + 65536 - s.rd (clPg c) RXF_GET_GET f) % 65536) ∧
        (d ≤ s.fifoFill c f) ∧ (val = 5) ∧ (d = 3)) ∧
    (∃ (s : State) (pp : PPort) (c : Cl) (f : Fin 64) (val : Word),
      (s.opens pp (clPg c)) ∧ (s.fifoFill c f < (val.toNat % 2 ^ 16 + 65536 - s.rd (clPg c) RXF_GET_GET f) % 65536)) ∧
    (∃ (s : State) (pp : PPort) (c : Cl) (f : Nat),
      (s.opens pp (clPg c)) ∧ (s.mode = .configure) ∧ (f = s.arg0 (clPg c) % 64)) ∧
    (∃ (s : State) (pp : PPort) (c : Cl) (pseq : Nat) (port : Nat) (n : Nat) (rest : List Block),
      (s.opens pp (clPg c)) ∧ (s.blocks = ⟨s.arg0 (clPg c), n, .rx, [.direct pseq port], false⟩ :: rest) ∧
        (s.arg0 (clPg c) / 0x800000 = c.val) ∧ (∀ b ∈ rest, b.users ≠ []) ∧ (∀ b ∈ rest, b.addr ≠ s.arg0 (clPg c))) ∧
    (∃ (s : State) (pp : PPort) (c : Cl),
      (s.opens pp (clPg c)) ∧ (s.mode ≠ .configure)) ∧
    (∃ (s : State) (pp : PPort) (c : Cl),
      (∀ b ∈ s.blocks, b.addr = s.arg0 (clPg c) → ∀ q p, User.direct q p ∉ b.users) ∧ (s.opens pp (clPg c))) :=
  ⟨⟨{ (((inMode .run).wr (clPg 0) RXF_PUT_PUT 5 6).wr (clPg 0) RXF_GET_GET 2 6).wr (clPg 0) RXF_SEQ_SEQ 5 6 with blocks := [⟨0x100, 256, .rx, [.entry 0 6 2 2 5], false⟩, ⟨0x200, 256, .rx, [.entry 0 6 4 4 5], false⟩] },
    0, 0, 6, 4, 2,
      by unfold State.opens; decide +kernel⟩,
    ⟨{ (((inMode .run).wr (clPg 0) RXF_PUT_PUT 5 6).wr (clPg 0) RXF_GET_GET 2 6).wr (clPg 0) RXF_SEQ_SEQ 5 6 with blocks := [⟨0x100, 256, .rx, [.entry 0 6 2 2 5], false⟩, ⟨0x200, 256, .rx, [.entry 0 6 4 4 5], false⟩] },
      0, 0, 6, 5, 3,
      by unfold State.opens; decide +kernel⟩,
    ⟨{ (((inMode .run).wr (clPg 0) RXF_PUT_PUT 5 6).wr (clPg 0) RXF_GET_GET 2 6).wr (clPg 0) RXF_SEQ_SEQ 5 6 with blocks := [⟨0x100, 256, .rx, [.entry 0 6 2 2 5], false⟩, ⟨0x200, 256, .rx, [.entry 0 6 4 4 5], false⟩] },
      0, 0, 6, 6,
      by unfold State.opens; decide +kernel⟩,
    ⟨arg { { (((inMode .run).wr (clPg 0) RXF_PUT_PUT 5 6).wr (clPg 0) RXF_GET_GET 2 6).wr (clPg 0) RXF_SEQ_SEQ 5 6 with blocks := [⟨0x100, 256, .rx, [.entry 0 6 2 2 5], false⟩, ⟨0x200, 256, .rx, [.entry 0 6 4 4 5], false⟩] } with mode := .configure } (clPg 0) 6 0,
      0, 0, 6,
      by unfold State.opens; decide +kernel⟩,
    ⟨arg { inMode .run with blocks := [⟨0x100, 256, .rx, [.direct 3 5], false⟩] } (clPg 0) 0x100 0, 0, 0, 3, 5, 256, [],
      by unfold State.opens; decide +kernel⟩,
    ⟨inMode .run, 0, 0,
      by unfold State.opens; decide +kernel⟩,
    ⟨arg (inMode .run) (clPg 0) 0x100 0, 0, 0,
      (fun _ h => nomatch h), by unfold State.opens; decide +kernel⟩⟩

theorem wit_RungsEntriesAndTrimsChange :
    (∃ (s : State) (pp : PPort) (n : Port),
      (s.opens pp (phyPg n)) ∧ (s.rungOk n = true) ∧ (s.flag (phyPg n) PHY_REFINE_RUNNING = false)) ∧
    (∃ (s : State) (pp : PPort) (n : Port),
      (s.opens pp (phyPg n)) ∧ (s.rungOk n = true) ∧ (s.flag (phyPg n) PHY_REFINE_RUNNING = true)) ∧
    (∃ (s : State) (n : Port) (ceil : Nat) (rx : Nat) (rest : List (Nat × Nat)),
      (s.faults = []) ∧ (s.down = false) ∧ (s.fencedCl (n.val / 16) = false) ∧ (s.flag (phyPg n) PAGE_STAT_BUSY = false) ∧
        (s.flag (phyPg n) PHY_REFINE_RUNNING = false) ∧ ((s.port n).heldRung = (ceil, rx) :: rest) ∧ (ceil < 4) ∧
        (rx < 16)) ∧
    (∃ (s : State) (n : Port) (ceil : Nat) (rx : Nat) (rest : List (Nat × Nat)),
      (s.faults = []) ∧ (s.down = false) ∧ (s.fencedCl (n.val / 16) = false) ∧ (s.flag (phyPg n) PAGE_STAT_BUSY = false) ∧
        (s.flag (phyPg n) PHY_REFINE_RUNNING = true) ∧ ((s.port n).heldRung = (ceil, rx) :: rest)) ∧
    (∃ (s : State) (n : Port),
      (s.faults = []) ∧ ((s.port n).heldRung = [] ∨ s.flag (phyPg n) PAGE_STAT_BUSY = true)) ∧
    (∃ (s : State) (pp : PPort) (n : Port),
      (s.opens pp (phyPg n)) ∧ (s.pmode n = pmConfig)) ∧
    (∃ (s : State) (pp : PPort) (n : Port) (r : Instr),
      ((r = .setRung pp n ∧ s.rungOk n = false) ∨ (r = .calibrate pp n ∧ s.pmode n ≠ pmConfig) ∨ (r = .eyeScan pp n ∧
        s.eyeOk n = false)) ∧ (s.opens pp (phyPg n))) ∧
    (∃ (s : State) (pp : PPort) (n : Port) (r : Instr),
      ((r = .setRung pp n ∧ s.rungOk n = false) ∨ (r = .calibrate pp n ∧ s.pmode n ≠ pmConfig) ∨ (r = .eyeScan pp n ∧
        s.eyeOk n = false)) ∧ (s.opens pp (phyPg n)) ∧ (r = .calibrate 0 5)) ∧
    (∃ (s : State) (pp : PPort) (n : Port) (r : Instr),
      ((r = .setRung pp n ∧ s.rungOk n = false) ∨ (r = .calibrate pp n ∧ s.pmode n ≠ pmConfig) ∨ (r = .eyeScan pp n ∧
        s.eyeOk n = false)) ∧ (s.opens pp (phyPg n)) ∧ (r = .eyeScan 0 5)) ∧
    (∃ (s : State) (pp : PPort) (n : Port) (a : Nat) (named : Nat → Nat → Prop),
      (∀ snd rung, named snd rung ↔ snd < 64 ∧ rung < 4 ∧ (a.testBit 8 = true ∨ snd = a % 64) ∧
        (a / 2 ^ 12 % 16).testBit rung = true) ∧ (s.opens pp (phyPg n)) ∧ (a = s.arg0 (phyPg n)) ∧ (s.ueWords = []) ∧
        (s.poison = [])) ∧
    (∃ (s : State) (pp : PPort) (n : Port) (a : Nat) (named : Nat → Nat → Prop),
      (∀ snd rung, named snd rung ↔ snd < 64 ∧ rung < 4 ∧ (a.testBit 8 = true ∨ snd = a % 64) ∧
        (a / 2 ^ 12 % 16).testBit rung = true) ∧ (s.opens pp (phyPg n)) ∧ (a = s.arg0 (phyPg n)) ∧ (s.ueWords = []) ∧
        (s.poison = []) ∧ (a = 0x1100)) ∧
    (∃ (s : State) (n : Port) (up : Bool) (c : Nat),
      (s.faults = []) ∧ (s.calibrates n = true) ∧ (c = s.rd (phyPg n) PHY_TERM_CODE) ∧ (1 < c) ∧ (c < 99)) ∧
    (∃ (s : State) (n : Port) (up : Bool) (c : Nat),
      (s.faults = []) ∧ (s.calibrates n = true) ∧ (c = s.rd (phyPg n) PHY_TERM_CODE) ∧ (1 < c) ∧ (c < 99) ∧ (up = false) ∧
        (c = 98)) ∧
    (∃ (s : State) (n : Port) (up : Bool) (c : Nat) (d : Nat),
      (s.faults = []) ∧ (s.calibrates n = true) ∧ (c = s.rd (phyPg n) PHY_TERM_CODE) ∧
        (d = (if up then min (c + 1) 100 else c - 1)) ∧ (d = 0 ∨ d = 100)) ∧
    (∃ (s : State) (n : Port) (up : Bool) (c : Nat) (d : Nat),
      (s.faults = []) ∧ (s.calibrates n = true) ∧ (c = s.rd (phyPg n) PHY_TERM_CODE) ∧
        (d = (if up then min (c + 1) 100 else c - 1)) ∧ (d = 0 ∨ d = 100) ∧ (up = false) ∧ (c = 1) ∧ (d = 0)) ∧
    (∃ (s : State) (n : Port) (up : Bool) (ok : Bool) (r : Instr),
      (s.faults = []) ∧ (s.calibrates n = false) ∧ (r = .terminationTrim n up ok ∨ r = .dbandTxCalibration n ok ∨
        r = .samplerCalibration n ok)) ∧
    (∃ (s : State) (n : Port) (up : Bool) (ok : Bool) (r : Instr),
      (s.faults = []) ∧ (s.calibrates n = false) ∧ (r = .terminationTrim n up ok ∨ r = .dbandTxCalibration n ok ∨
        r = .samplerCalibration n ok) ∧ (r = .dbandTxCalibration 5 true)) ∧
    (∃ (s : State) (n : Port) (up : Bool) (ok : Bool) (r : Instr),
      (s.faults = []) ∧ (s.calibrates n = false) ∧ (r = .terminationTrim n up ok ∨ r = .dbandTxCalibration n ok ∨
        r = .samplerCalibration n ok) ∧ (r = .samplerCalibration 5 true)) ∧
    (∃ (s : State) (n : Port) (r : Instr),
      (s.faults = []) ∧ (s.calibrates n = true) ∧ (r = .dbandTxCalibration n true ∨ r = .samplerCalibration n true)) ∧
    (∃ (s : State) (n : Port) (r : Instr),
      (s.faults = []) ∧ (s.calibrates n = true) ∧ (r = .dbandTxCalibration n true ∨ r = .samplerCalibration n true) ∧
        (r = .samplerCalibration 5 true)) ∧
    (∃ (s : State) (n : Port) (r : Instr),
      (r = .dbandTxCalibration n false ∨ r = .samplerCalibration n false ∨ ∃ up, r = .terminationTrim n up false) ∧
        (s.faults = []) ∧ (s.calibrates n = true)) ∧
    (∃ (s : State) (n : Port) (r : Instr),
      (r = .dbandTxCalibration n false ∨ r = .samplerCalibration n false ∨ ∃ up, r = .terminationTrim n up false) ∧
        (s.faults = []) ∧ (s.calibrates n = true) ∧ (r = .samplerCalibration 5 false)) ∧
    (∃ (s : State) (n : Port) (r : Instr),
      (r = .dbandTxCalibration n false ∨ r = .samplerCalibration n false ∨ ∃ up, r = .terminationTrim n up false) ∧
        (s.faults = []) ∧ (s.calibrates n = true) ∧ (r = .terminationTrim 5 true false)) :=
  ⟨⟨arg (portIn .run 2 2 {}) (phyPg 5) 0x32 0, 0, 5,
      by unfold State.opens; decide +kernel⟩,
    ⟨(arg (portIn .run 2 2 {}) (phyPg 5) 0x32 0).wr (phyPg 5) PHY_REFINE_RUNNING 1, 0, 5,
      by unfold State.opens; decide +kernel⟩,
    ⟨portIn .run 2 2 { heldRung := [(1, 3), (2, 1)] }, 5, 1, 3, [(2, 1)],
      by decide +kernel⟩,
    ⟨(portIn .run 2 2 { heldRung := [(1, 3), (2, 1)] }).wr (phyPg 5) PHY_REFINE_RUNNING 1, 5, 1, 3, [(2, 1)],
      by decide +kernel⟩,
    ⟨inMode .run, 5,
      by decide +kernel⟩,
    ⟨portIn .configure 1 0 {}, 0, 5,
      by unfold State.opens; decide +kernel⟩,
    ⟨(portIn .run 7 0 {}).wr devPg DEV_CLUSTERS_FENCED 1, 0, 5, .setRung 0 5,
      (.inl ⟨rfl, by decide +kernel⟩), by unfold State.opens; decide +kernel⟩,
    ⟨(portIn .run 7 0 {}).wr devPg DEV_CLUSTERS_FENCED 1, 0, 5, .calibrate 0 5,
      (.inr (.inl ⟨rfl, by decide +kernel⟩)), by unfold State.opens; decide +kernel⟩,
    ⟨(portIn .run 7 0 {}).wr devPg DEV_CLUSTERS_FENCED 1, 0, 5, .eyeScan 0 5,
      (.inr (.inr ⟨rfl, by decide +kernel⟩)), by unfold State.opens; decide +kernel⟩,
    ⟨arg (words (inMode .run) (lastEntry 5 9 0) [7]) (phyPg 5) 0x3009 0, 0, 5, 0x3009, fun snd rung => snd < 64 ∧
      rung < 4 ∧ ((0x3009 : Nat).testBit 8 = true ∨ snd = 0x3009 % 64) ∧ (0x3009 / 2 ^ 12 % 16).testBit rung = true,
      (fun _ _ => Iff.rfl), by unfold State.opens; decide +kernel⟩,
    ⟨arg (words (inMode .run) (lastEntry 5 9 0) [7]) (phyPg 5) 0x1100 0, 0, 5, 0x1100, fun snd rung => snd < 64 ∧
      rung < 4 ∧ ((0x1100 : Nat).testBit 8 = true ∨ snd = 0x1100 % 64) ∧ (0x1100 / 2 ^ 12 % 16).testBit rung = true,
      (fun _ _ => Iff.rfl), by unfold State.opens; decide +kernel⟩,
    ⟨(inMode .run).wr (phyPg 5) PHY_TERM_CODE 2, 5, true, 2,
      by decide +kernel⟩,
    ⟨(inMode .run).wr (phyPg 5) PHY_TERM_CODE 98, 5, false, 98,
      by decide +kernel⟩,
    ⟨(inMode .run).wr (phyPg 5) PHY_TERM_CODE 99, 5, true, 99, 100,
      by decide +kernel⟩,
    ⟨(inMode .run).wr (phyPg 5) PHY_TERM_CODE 1, 5, false, 1, 0,
      by decide +kernel⟩,
    ⟨inMode .loader, 5, true, true, .terminationTrim 5 true true,
      by decide +kernel⟩,
    ⟨inMode .loader, 5, true, true, .dbandTxCalibration 5 true,
      by decide +kernel⟩,
    ⟨inMode .loader, 5, true, true, .samplerCalibration 5 true,
      by decide +kernel⟩,
    ⟨inMode .run, 5, .dbandTxCalibration 5 true,
      by decide +kernel⟩,
    ⟨inMode .run, 5, .samplerCalibration 5 true,
      by decide +kernel⟩,
    ⟨inMode .run, 5, .dbandTxCalibration 5 false,
      (.inl rfl), by decide +kernel⟩,
    ⟨inMode .run, 5, .samplerCalibration 5 false,
      (.inr (.inl rfl)), by decide +kernel⟩,
    ⟨inMode .run, 5, .terminationTrim 5 true false,
      (.inr (.inr ⟨true, rfl⟩)), by decide +kernel⟩⟩

theorem wit_EyeScansAndWindowsFillTheirMemory :
    (∃ (s : State) (pp : PPort) (n : Port) (a : Nat) (area : Nat),
      (s.opens pp (phyPg n)) ∧ (s.eyeOk n = true) ∧ (a = s.arg0 (phyPg n)) ∧ (area = s.arg1 (phyPg n)) ∧ (a / 4 % 4 ≠ 3) ∧
        (a / 16 % 4 ≤ 1) ∧ (area % 64 = 0) ∧ (area / 0x800000 = n.val / 16) ∧ ((area + 16255) / 0x800000 = n.val / 16) ∧
        (a / 16 % 4 = 1 ∨ (s.port n).cand = none ∨ (s.port n).cand = some .sync)) ∧
    (∃ (s : State) (pp : PPort) (n : Port) (a : Nat) (area : Nat),
      (s.opens pp (phyPg n)) ∧ (s.eyeOk n = true) ∧ (a = s.arg0 (phyPg n)) ∧ (area = s.arg1 (phyPg n)) ∧ (a / 4 % 4 ≠ 3) ∧
        (a / 16 % 4 ≤ 1) ∧ (area % 64 = 0) ∧ (area / 0x800000 = n.val / 16) ∧ ((area + 16255) / 0x800000 = n.val / 16) ∧
        (a / 16 % 4 = 1 ∨ (s.port n).cand = none ∨ (s.port n).cand = some .sync) ∧ (a = 0x30201)) ∧
    (∃ (s : State) (pp : PPort) (n : Port) (a : Nat) (area : Nat),
      (s.opens pp (phyPg n)) ∧ (s.eyeOk n = true) ∧ (a = s.arg0 (phyPg n)) ∧ (area = s.arg1 (phyPg n)) ∧
        ((s.port n).eye = none) ∧ (a / 4 % 4 = 3 ∨ 1 < a / 16 % 4 ∨ area % 64 ≠ 0 ∨ area / 0x800000 ≠ n.val / 16 ∨
        (area + 16255) / 0x800000 ≠ n.val / 16)) ∧
    (∃ (s : State) (pp : PPort) (n : Port) (a : Nat) (area : Nat),
      (s.opens pp (phyPg n)) ∧ (s.eyeOk n = true) ∧ (a = s.arg0 (phyPg n)) ∧ (area = s.arg1 (phyPg n)) ∧
        ((s.port n).eye = none) ∧ (a / 4 % 4 = 3 ∨ 1 < a / 16 % 4 ∨ area % 64 ≠ 0 ∨ area / 0x800000 ≠ n.val / 16 ∨
        (area + 16255) / 0x800000 ≠ n.val / 16) ∧ (a = 0x30011) ∧ (area = 0x1020)) ∧
    (∃ (s : State) (pp : PPort) (n : Port) (a : Nat) (area : Nat),
      (s.opens pp (phyPg n)) ∧ (s.eyeOk n = true) ∧ (a = s.arg0 (phyPg n)) ∧ (area = s.arg1 (phyPg n)) ∧
        ((s.port n).eye = none) ∧ (a / 4 % 4 = 3 ∨ 1 < a / 16 % 4 ∨ area % 64 ≠ 0 ∨ area / 0x800000 ≠ n.val / 16 ∨
        (area + 16255) / 0x800000 ≠ n.val / 16) ∧ (a = 0x30011) ∧ (area = 0x7FC0C0)) ∧
    (∃ (s : State) (pp : PPort) (n : Port) (a : Nat) (area : Nat),
      (s.opens pp (phyPg n)) ∧ (s.eyeOk n = true) ∧ (a = s.arg0 (phyPg n)) ∧ (area = s.arg1 (phyPg n)) ∧
        ((s.port n).eye = none) ∧ (a / 4 % 4 = 3 ∨ 1 < a / 16 % 4 ∨ area % 64 ≠ 0 ∨ area / 0x800000 ≠ n.val / 16 ∨
        (area + 16255) / 0x800000 ≠ n.val / 16) ∧ (a = 0x30011) ∧ (area = 0x801000)) ∧
    (∃ (s : State) (n : Port) (counts : List Byte) (r : Instr),
      (s.faults = []) ∧ (r = .eyeScanDone n counts ∨ r = .eyeScanTimeout n counts) ∧ ((s.port n).eye = none ∨
        s.stalled = true)) ∧
    (∃ (s : State) (n : Port) (counts : List Byte) (r : Instr),
      (s.faults = []) ∧ (r = .eyeScanDone n counts ∨ r = .eyeScanTimeout n counts) ∧ ((s.port n).eye = none ∨
        s.stalled = true) ∧ (r = .eyeScanTimeout 5 [])) ∧
    (∃ (s : State) (n : Port) (counts : List Byte) (area : Nat) (tails : Bool) (late : Bool) (x : Nat × Nat × Nat),
      (s.faults = []) ∧ (s.stalled = false) ∧ (area + 16256 ≤ 0x4000000) ∧ (s.port n).eye = some (area, tails, x) ∧
        (s.ueWords = []) ∧ (s.poison = []) ∧ (s.rd (phyPg n) PAGE_CMD_CODE = 3) ∧ (if late = true then tails = true ∧
        counts.length < 16256 else counts.length = 16256)) ∧
    (∃ (s : State) (n : Port) (counts : List Byte) (area : Nat) (tails : Bool) (late : Bool) (x : Nat × Nat × Nat),
      (s.faults = []) ∧ (s.stalled = false) ∧ (area + 16256 ≤ 0x4000000) ∧ (s.port n).eye = some (area, tails, x) ∧
        (s.ueWords = []) ∧ (s.poison = []) ∧ (s.rd (phyPg n) PAGE_CMD_CODE = 3) ∧ (if late = true then tails = true ∧
        counts.length < 16256 else counts.length = 16256) ∧ (tails = true) ∧ (late = true)) ∧
    (∃ (s : State) (n : Port),
      (s.faults = []) ∧ (s.rt.tb ≠ .free)) ∧
    (∃ (s : State) (n : Port),
      (s.faults = []) ∧ (s.rt.tb = .free) ∧ ((s.port n).rungWait = none)) ∧
    (∃ (s : State) (n : Port) (k : Contribution) (a : Nat),
      (s.faults = []) ∧ (s.rt.tb = .free) ∧ ((s.port n).window = true) ∧ ((s.port n).contribs = [k]) ∧
        ((s.port n).tailErrs = []) ∧ ((s.port n).rungWait = none) ∧ (k.entry < 256) ∧
        (a = lastEntry n (k.entry % 64) (k.entry / 64)) ∧ (s.ltLocked a = true ∨ k.entry ∈ (s.port n).writtenInWindow) ∧
        (s.ueWords = []) ∧ (s.poison = [])) ∧
    (∃ (s : State) (n : Port) (k : Contribution) (a : Nat),
      (s.faults = []) ∧ (s.rt.tb = .free) ∧ ((s.port n).window = true) ∧ ((s.port n).contribs = [k]) ∧
        ((s.port n).tailErrs = []) ∧ ((s.port n).writtenInWindow = []) ∧ ((s.port n).rungWait = none) ∧ (k.entry < 256) ∧
        (a = lastEntry n (k.entry % 64) (k.entry / 64)) ∧ (s.ltLocked a = false) ∧ (s.ltValid a = false) ∧
        (s.ueWords = []) ∧ (s.poison = []) ∧ (k.ctle < 32) ∧ (k.vga < 64) ∧ (k.phase < 256) ∧ (k.ffe < 2 ^ 32) ∧
        (k.dfe < 2 ^ 32) ∧ (k.thr < 2 ^ 30) ∧ (k.eyeH < 256) ∧ (k.eyeW < 256) ∧ (k.snr < 256)) ∧
    (∃ (s : State) (n : Port) (ceil : Nat) (rx : Nat),
      (s.faults = []) ∧ (s.rt.tb = .free) ∧ (s.stalled = false) ∧ ((s.port n).window = true) ∧ ((s.port n).contribs = []) ∧
        ((s.port n).tailErrs = []) ∧ (s.port n).rungWait = some (ceil, rx) ∧ (ceil < 4) ∧ (rx < 16) ∧
        (s.rd (phyPg n) PAGE_CMD_CODE = 1)) :=
  ⟨⟨arg (portIn .test 6 2 {}) (phyPg 5) 0x30211 0x7FC040, 0, 5, 0x30211, 0x7FC040,
      by unfold State.opens; decide +kernel⟩,
    ⟨arg (portIn .test 5 2 {}) (phyPg 5) 0x30201 0x7FC040, 0, 5, 0x30201, 0x7FC040,
      by unfold State.opens; decide +kernel⟩,
    ⟨arg (portIn .test 6 2 {}) (phyPg 5) 0x3001D 0x1000, 0, 5, 0x3001D, 0x1000,
      by unfold State.opens; decide +kernel⟩,
    ⟨arg (portIn .test 6 2 {}) (phyPg 5) 0x30011 0x1020, 0, 5, 0x30011, 0x1020,
      by unfold State.opens; decide +kernel⟩,
    ⟨arg (portIn .test 6 2 {}) (phyPg 5) 0x30011 0x7FC0C0, 0, 5, 0x30011, 0x7FC0C0,
      by unfold State.opens; decide +kernel⟩,
    ⟨arg (portIn .test 6 2 {}) (phyPg 5) 0x30011 0x801000, 0, 5, 0x30011, 0x801000,
      by unfold State.opens; decide +kernel⟩,
    ⟨portIn .test 6 2 {}, 5, [], .eyeScanDone 5 [],
      by decide +kernel⟩,
    ⟨{ portIn .test 6 2 { eye := some (0x1000, true, 1, 3, 2) } with stalled := true }, 5, [], .eyeScanTimeout 5 [],
      by decide +kernel⟩,
    ⟨busy (portIn .test 6 2 { eye := some (0x1000, false, 1, 3, 2) }) (phyPg 5) 3, 5, List.replicate 16256 7, 0x1000,
      false, false, (1, 3, 2),
      by decide +kernel⟩,
    ⟨busy (portIn .test 6 2 { eye := some (0x1000, true, 1, 3, 2) }) (phyPg 5) 3, 5, [1, 2], 0x1000, true, true, (1, 3,
      2),
      by decide +kernel⟩,
    ⟨rtS .run { tb := .locked }, 5,
      by decide +kernel⟩,
    ⟨portIn .run 2 2 { window := true, contribs := [{ entry := 73, ctle := 31, vga := 40, phase := 200, ffe := 0x80FF7F01, dfe := 5, thr := 0x3FFFFFFF, eyeH := 9, eyeW := 8, snr := 7 }] },
      5,
      by decide +kernel⟩,
    ⟨words (portIn .run 2 2 { window := true, contribs := [{ entry := 73, ctle := 31, vga := 40, phase := 200, ffe := 0x80FF7F01, dfe := 5, thr := 0x3FFFFFFF, eyeH := 9, eyeW := 8, snr := 7 }] }) (lastEntry 5 9 1) [0x80000002],
      5, { entry := 73, ctle := 31, vga := 40, phase := 200, ffe := 0x80FF7F01, dfe := 5, thr := 0x3FFFFFFF, eyeH := 9, eyeW := 8, snr := 7 },
      lastEntry 5 9 1,
      by decide +kernel⟩,
    ⟨portIn .run 2 2 { window := true, contribs := [{ entry := 73, ctle := 31, vga := 40, phase := 200, ffe := 0x80FF7F01, dfe := 5, thr := 0x3FFFFFFF, eyeH := 9, eyeW := 8, snr := 7 }] },
      5, { entry := 73, ctle := 31, vga := 40, phase := 200, ffe := 0x80FF7F01, dfe := 5, thr := 0x3FFFFFFF, eyeH := 9, eyeW := 8, snr := 7 },
      lastEntry 5 9 1,
      by decide +kernel⟩,
    ⟨busy (portIn .run 2 2 { window := true, rungWait := some (2, 3) }) (phyPg 5) 1, 5, 2, 3,
      by decide +kernel⟩⟩

theorem wit_ChannelsFollowTheirCommands :
    (∃ (s : State) (pp : PPort) (m : Chan) (md : Nat),
      (s.opens pp (movPg m)) ∧ ((s.chan m).mode = .disabled) ∧ (md = s.rd (movPg m) MOV_CFG_MODE) ∧ (md = 1 ∨ md = 2) ∧
        (6 ≤ s.rd (movPg m) MOV_CFG_BURST) ∧ (s.rd (movPg m) MOV_CFG_BURST ≤ 12) ∧ ((s.chanCfg m).descBad = false)) ∧
    (∃ (s : State) (pp : PPort) (m : Chan) (md : Nat),
      (s.opens pp (movPg m)) ∧ ((s.chan m).mode = .disabled) ∧ (md = s.rd (movPg m) MOV_CFG_MODE) ∧ (md = 1 ∨ md = 2) ∧
        (6 ≤ s.rd (movPg m) MOV_CFG_BURST) ∧ (s.rd (movPg m) MOV_CFG_BURST ≤ 12) ∧ ((s.chanCfg m).descBad = false) ∧
        (md = 2)) ∧
    (∃ (s : State) (pp : PPort) (m : Chan),
      (s.opens pp (movPg m)) ∧ (s.disableOk m = true)) ∧
    (∃ (s : State) (pp : PPort) (m : Chan),
      (s.opens pp (movPg m)) ∧ (s.resumeOk m = true)) ∧
    (∃ (s : State) (pp : PPort) (m : Chan) (h : ChanCfg),
      (s.opens pp (movPg m)) ∧ (s.setDescOk m = true) ∧ ((s.chan m).cfg = some h) ∧ ((s.chanCfg m).descBad = false)) ∧
    (∃ (s : State) (pp : PPort) (m : Chan),
      (s.opens pp (movPg m)) ∧ (s.setDescOk m = true) ∧ ((s.chan m).cfg = none) ∧ ((s.chanCfg m).descBad = false)) ∧
    (∃ (s : State) (pp : PPort) (m : Chan) (r : Instr) (code : Nat),
      ((r = .enable pp m ∧ code = 1 ∧ (s.chan m).mode = .disabled ∧ (s.rd (movPg m) MOV_CFG_MODE = 0 ∨
        s.rd (movPg m) MOV_CFG_MODE = 3 ∨ s.rd (movPg m) MOV_CFG_BURST < 6 ∨ 12 < s.rd (movPg m) MOV_CFG_BURST ∨
        (s.chanCfg m).descBad = true)) ∨ (r = .setDesc pp m ∧ code = 4 ∧ s.setDescOk m = true ∧
        (s.chanCfg m).descBad = true)) ∧ (s.opens pp (movPg m))) ∧
    (∃ (s : State) (pp : PPort) (m : Chan) (r : Instr) (code : Nat),
      ((r = .enable pp m ∧ code = 1 ∧ (s.chan m).mode = .disabled ∧ (s.rd (movPg m) MOV_CFG_MODE = 0 ∨
        s.rd (movPg m) MOV_CFG_MODE = 3 ∨ s.rd (movPg m) MOV_CFG_BURST < 6 ∨ 12 < s.rd (movPg m) MOV_CFG_BURST ∨
        (s.chanCfg m).descBad = true)) ∨ (r = .setDesc pp m ∧ code = 4 ∧ s.setDescOk m = true ∧
        (s.chanCfg m).descBad = true)) ∧ (s.opens pp (movPg m)) ∧ (r = .setDesc 0 33) ∧ (code = 4)) ∧
    (∃ (s : State) (pp : PPort) (m : Chan) (r : Instr),
      ((r = .enable pp m ∧ (s.chan m).mode ≠ .disabled) ∨ (r = .disable pp m ∧ s.disableOk m = false) ∨ (r = .resume pp m ∧
        s.resumeOk m = false) ∨ (r = .setDesc pp m ∧ s.setDescOk m = false) ∨ (r = .abort pp m ∧ s.abortOk m = false) ∨
        (r = .xfer pp m ∧ s.xferOk m = false)) ∧ (s.opens pp (movPg m))) ∧
    (∃ (s : State) (pp : PPort) (m : Chan) (r : Instr),
      ((r = .enable pp m ∧ (s.chan m).mode ≠ .disabled) ∨ (r = .disable pp m ∧ s.disableOk m = false) ∨ (r = .resume pp m ∧
        s.resumeOk m = false) ∨ (r = .setDesc pp m ∧ s.setDescOk m = false) ∨ (r = .abort pp m ∧ s.abortOk m = false) ∨
        (r = .xfer pp m ∧ s.xferOk m = false)) ∧ (s.opens pp (movPg m)) ∧ (r = .disable 0 33)) ∧
    (∃ (s : State) (pp : PPort) (m : Chan) (r : Instr),
      ((r = .enable pp m ∧ (s.chan m).mode ≠ .disabled) ∨ (r = .disable pp m ∧ s.disableOk m = false) ∨ (r = .resume pp m ∧
        s.resumeOk m = false) ∨ (r = .setDesc pp m ∧ s.setDescOk m = false) ∨ (r = .abort pp m ∧ s.abortOk m = false) ∨
        (r = .xfer pp m ∧ s.xferOk m = false)) ∧ (s.opens pp (movPg m)) ∧ (r = .resume 0 33)) ∧
    (∃ (s : State) (pp : PPort) (m : Chan) (r : Instr),
      ((r = .enable pp m ∧ (s.chan m).mode ≠ .disabled) ∨ (r = .disable pp m ∧ s.disableOk m = false) ∨ (r = .resume pp m ∧
        s.resumeOk m = false) ∨ (r = .setDesc pp m ∧ s.setDescOk m = false) ∨ (r = .abort pp m ∧ s.abortOk m = false) ∨
        (r = .xfer pp m ∧ s.xferOk m = false)) ∧ (s.opens pp (movPg m)) ∧ (r = .setDesc 0 33)) ∧
    (∃ (s : State) (pp : PPort) (m : Chan) (r : Instr),
      ((r = .enable pp m ∧ (s.chan m).mode ≠ .disabled) ∨ (r = .disable pp m ∧ s.disableOk m = false) ∨ (r = .resume pp m ∧
        s.resumeOk m = false) ∨ (r = .setDesc pp m ∧ s.setDescOk m = false) ∨ (r = .abort pp m ∧ s.abortOk m = false) ∨
        (r = .xfer pp m ∧ s.xferOk m = false)) ∧ (s.opens pp (movPg m)) ∧ (r = .abort 0 33)) ∧
    (∃ (s : State) (pp : PPort) (m : Chan) (r : Instr),
      ((r = .enable pp m ∧ (s.chan m).mode ≠ .disabled) ∨ (r = .disable pp m ∧ s.disableOk m = false) ∨ (r = .resume pp m ∧
        s.resumeOk m = false) ∨ (r = .setDesc pp m ∧ s.setDescOk m = false) ∨ (r = .abort pp m ∧ s.abortOk m = false) ∨
        (r = .xfer pp m ∧ s.xferOk m = false)) ∧ (s.opens pp (movPg m)) ∧ (r = .xfer 0 33)) ∧
    (∃ (s : State) (pp : PPort) (m : Chan),
      (s.opens pp (movPg m)) ∧ (s.abortOk m = true)) ∧
    (∃ (s : State) (pp : PPort) (m : Chan) (g : ChanCfg) (a : Nat) (n : Nat),
      (s.opens pp (movPg m)) ∧ (s.xferOk m = true) ∧ ((s.chan m).cfg = some g) ∧ (g.push = true ∨
        (s.softRange (m.val / 32) a n = true ∧ s.heldIn a ((a + n + 63) / 64 * 64 - a) = false)) ∧ (a = s.arg0 (movPg m)) ∧
        (n = s.arg1 (movPg m)) ∧ (a % 64 = 0) ∧ (n % 4 = 0) ∧ (4 ≤ n) ∧ (n ≤ 0x800000) ∧ (sliceBase (m.val / 32) ≤ a) ∧
        (a + n ≤ sliceBase (m.val / 32 + 1))) ∧
    (∃ (s : State) (pp : PPort) (m : Chan) (g : ChanCfg) (a : Nat) (n : Nat),
      (s.opens pp (movPg m)) ∧ (s.xferOk m = true) ∧ ((s.chan m).cfg = some g) ∧ (g.push = true ∨
        (s.softRange (m.val / 32) a n = true ∧ s.heldIn a ((a + n + 63) / 64 * 64 - a) = false)) ∧ (a = s.arg0 (movPg m)) ∧
        (n = s.arg1 (movPg m)) ∧ (a % 64 = 0) ∧ (n % 4 = 0) ∧ (4 ≤ n) ∧ (n ≤ 0x800000) ∧ (sliceBase (m.val / 32) ≤ a) ∧
        (a + n ≤ sliceBase (m.val / 32 + 1)) ∧ (g = chanC false true false)) ∧
    (∃ (s : State) (pp : PPort) (m : Chan) (g : ChanCfg) (a : Nat) (n : Nat),
      (s.opens pp (movPg m)) ∧ (s.xferOk m = true) ∧ ((s.chan m).cfg = some g) ∧ (a = s.arg0 (movPg m)) ∧
        (n = s.arg1 (movPg m)) ∧ (a % 64 ≠ 0 ∨ n % 4 ≠ 0 ∨ n < 4 ∨ 0x800000 < n ∨ a < sliceBase (m.val / 32) ∨
        sliceBase (m.val / 32 + 1) < a + n ∨ (g.push = false ∧ (s.softRange (m.val / 32) a n = false ∨
        s.heldIn (a / 64 * 64) ((a + n + 63) / 64 * 64 - a / 64 * 64) = true)))) ∧
    (∃ (s : State) (pp : PPort) (m : Chan) (g : ChanCfg) (a : Nat) (n : Nat),
      (s.opens pp (movPg m)) ∧ (s.xferOk m = true) ∧ ((s.chan m).cfg = some g) ∧ (a = s.arg0 (movPg m)) ∧
        (n = s.arg1 (movPg m)) ∧ (a % 64 ≠ 0 ∨ n % 4 ≠ 0 ∨ n < 4 ∨ 0x800000 < n ∨ a < sliceBase (m.val / 32) ∨
        sliceBase (m.val / 32 + 1) < a + n ∨ (g.push = false ∧ (s.softRange (m.val / 32) a n = false ∨
        s.heldIn (a / 64 * 64) ((a + n + 63) / 64 * 64 - a / 64 * 64) = true))) ∧ (a = 0x801040) ∧ (n = 0x102)) ∧
    (∃ (s : State) (pp : PPort) (m : Chan) (g : ChanCfg) (a : Nat) (n : Nat),
      (s.opens pp (movPg m)) ∧ (s.xferOk m = true) ∧ ((s.chan m).cfg = some g) ∧ (a = s.arg0 (movPg m)) ∧
        (n = s.arg1 (movPg m)) ∧ (a % 64 ≠ 0 ∨ n % 4 ≠ 0 ∨ n < 4 ∨ 0x800000 < n ∨ a < sliceBase (m.val / 32) ∨
        sliceBase (m.val / 32 + 1) < a + n ∨ (g.push = false ∧ (s.softRange (m.val / 32) a n = false ∨
        s.heldIn (a / 64 * 64) ((a + n + 63) / 64 * 64 - a / 64 * 64) = true))) ∧ (a = 0x801040) ∧ (n = 0)) ∧
    (∃ (s : State) (pp : PPort) (m : Chan) (g : ChanCfg) (a : Nat) (n : Nat),
      (s.opens pp (movPg m)) ∧ (s.xferOk m = true) ∧ ((s.chan m).cfg = some g) ∧ (a = s.arg0 (movPg m)) ∧
        (n = s.arg1 (movPg m)) ∧ (a % 64 ≠ 0 ∨ n % 4 ≠ 0 ∨ n < 4 ∨ 0x800000 < n ∨ a < sliceBase (m.val / 32) ∨
        sliceBase (m.val / 32 + 1) < a + n ∨ (g.push = false ∧ (s.softRange (m.val / 32) a n = false ∨
        s.heldIn (a / 64 * 64) ((a + n + 63) / 64 * 64 - a / 64 * 64) = true))) ∧ (a = 0x7FFFC0) ∧ (n = 64)) ∧
    (∃ (s : State) (pp : PPort) (m : Chan) (g : ChanCfg) (a : Nat) (n : Nat),
      (s.opens pp (movPg m)) ∧ (s.xferOk m = true) ∧ ((s.chan m).cfg = some g) ∧ (a = s.arg0 (movPg m)) ∧
        (n = s.arg1 (movPg m)) ∧ (a % 64 ≠ 0 ∨ n % 4 ≠ 0 ∨ n < 4 ∨ 0x800000 < n ∨ a < sliceBase (m.val / 32) ∨
        sliceBase (m.val / 32 + 1) < a + n ∨ (g.push = false ∧ (s.softRange (m.val / 32) a n = false ∨
        s.heldIn (a / 64 * 64) ((a + n + 63) / 64 * 64 - a / 64 * 64) = true))) ∧ (a = 0xFFFFC0) ∧ (n = 128)) ∧
    (∃ (s : State) (pp : PPort) (m : Chan) (g : ChanCfg) (a : Nat) (n : Nat),
      (s.opens pp (movPg m)) ∧ (s.xferOk m = true) ∧ ((s.chan m).cfg = some g) ∧ (a = s.arg0 (movPg m)) ∧
        (n = s.arg1 (movPg m)) ∧ (a % 64 ≠ 0 ∨ n % 4 ≠ 0 ∨ n < 4 ∨ 0x800000 < n ∨ a < sliceBase (m.val / 32) ∨
        sliceBase (m.val / 32 + 1) < a + n ∨ (g.push = false ∧ (s.softRange (m.val / 32) a n = false ∨
        s.heldIn (a / 64 * 64) ((a + n + 63) / 64 * 64 - a / 64 * 64) = true))) ∧ (a = 0x800000) ∧ (n = 0x800004)) ∧
    (∃ (s : State) (pp : PPort) (m : Chan) (g : ChanCfg) (a : Nat) (n : Nat),
      (s.opens pp (movPg m)) ∧ (s.xferOk m = true) ∧ ((s.chan m).cfg = some g) ∧ (a = s.arg0 (movPg m)) ∧
        (n = s.arg1 (movPg m)) ∧ (a % 64 ≠ 0 ∨ n % 4 ≠ 0 ∨ n < 4 ∨ 0x800000 < n ∨ a < sliceBase (m.val / 32) ∨
        sliceBase (m.val / 32 + 1) < a + n ∨ (g.push = false ∧ (s.softRange (m.val / 32) a n = false ∨
        s.heldIn (a / 64 * 64) ((a + n + 63) / 64 * 64 - a / 64 * 64) = true))) ∧ (g = chanC false true false) ∧
        (a = 0x841040)) ∧
    (∃ (s : State) (pp : PPort) (m : Chan) (g : ChanCfg) (a : Nat) (n : Nat),
      (s.opens pp (movPg m)) ∧ (s.xferOk m = true) ∧ ((s.chan m).cfg = some g) ∧ (a = s.arg0 (movPg m)) ∧
        (n = s.arg1 (movPg m)) ∧ (a % 64 ≠ 0 ∨ n % 4 ≠ 0 ∨ n < 4 ∨ 0x800000 < n ∨ a < sliceBase (m.val / 32) ∨
        sliceBase (m.val / 32 + 1) < a + n ∨ (g.push = false ∧ (s.softRange (m.val / 32) a n = false ∨
        s.heldIn (a / 64 * 64) ((a + n + 63) / 64 * 64 - a / 64 * 64) = true))) ∧ (g = chanC false true false) ∧
        (a = 0x801040)) ∧
    (∃ (s : State) (m : Chan),
      (s.reqOf m .xfer = none ∨ (s.chan m).cfg = none ∨ ∃ r g, s.reqOf m .xfer = some r ∧ (s.chan m).cfg = some g ∧
        (if g.push then r.issued else r.got) < r.len) ∧ (s.faults = [])) ∧
    (∃ (s : State) (m : Chan) (r : Req) (g : ChanCfg),
      (s.faults = []) ∧ (s.down = false) ∧ (s.reqOf m .xfer = some r) ∧ ((s.chan m).cfg = some g) ∧ (r.withdrawn = false) ∧
        (r.len ≤ (if g.push then r.issued else r.got))) :=
  ⟨⟨(chanS 33 {}).wr (movPg 33) MOV_CFG_MODE 1, 0, 33, 1,
      by unfold State.opens; decide +kernel⟩,
    ⟨(chanS 33 {}).wr (movPg 33) MOV_CFG_MODE 2, 0, 33, 2,
      by unfold State.opens; decide +kernel⟩,
    ⟨chanS 33 { mode := .enabled, cfg := some (chanC false true false) }, 0, 33,
      by unfold State.opens; decide +kernel⟩,
    ⟨{ (chanS 33 { mode := .halted, cfg := some (chanC false true false), failed := [readB], queue := [fetchR] }).wr (movPg 33) MOV_STATE_CAUSE 2 with jobs := [(7, tailJob .waitChan)], nextUid := 9 },
      0, 33,
      by unfold State.opens; decide +kernel⟩,
    ⟨(chanS 33 { mode := .halted, cfg := some (chanC true true false) }).wr (movPg 33) MOV_STATE_CAUSE 6, 0, 33,
      chanC true true false,
      by unfold State.opens; decide +kernel⟩,
    ⟨chanS 33 {}, 0, 33,
      by unfold State.opens; decide +kernel⟩,
    ⟨((chanS 33 {}).wr (movPg 33) MOV_CFG_MODE 3), 0, 33, .enable 0 33, 1,
      (.inl ⟨rfl, rfl, by decide +kernel⟩), by unfold State.opens; decide +kernel⟩,
    ⟨(chanS 33 {}).wr (movPg 33) MOV_STEP1_STEP 3, 0, 33, .setDesc 0 33, 4,
      (.inr ⟨rfl, rfl, by decide +kernel⟩), by unfold State.opens; decide +kernel⟩,
    ⟨chanS 33 { mode := .enabled, cfg := some (chanC false true false) }, 0, 33, .enable 0 33,
      (.inl ⟨rfl, by decide +kernel⟩), by unfold State.opens; decide +kernel⟩,
    ⟨chanS 33 { mode := .enabled, cfg := some (chanC false true false), queue := [xferR] }, 0, 33, .disable 0 33,
      (.inr (.inl ⟨rfl, by decide +kernel⟩)), by unfold State.opens; decide +kernel⟩,
    ⟨chanS 33 { mode := .enabled, cfg := some (chanC false true false) }, 0, 33, .resume 0 33,
      (.inr (.inr (.inl ⟨rfl, by decide +kernel⟩))), by unfold State.opens; decide +kernel⟩,
    ⟨chanS 33 { mode := .enabled, cfg := some (chanC false true false), queue := [xferR] }, 0, 33, .setDesc 0 33,
      (.inr (.inr (.inr (.inl ⟨rfl, by decide +kernel⟩)))), by unfold State.opens; decide +kernel⟩,
    ⟨chanS 33 {}, 0, 33, .abort 0 33,
      (.inr (.inr (.inr (.inr (.inl ⟨rfl, by decide +kernel⟩))))), by unfold State.opens; decide +kernel⟩,
    ⟨chanS 33 {}, 0, 33, .xfer 0 33,
      (.inr (.inr (.inr (.inr (.inr (⟨rfl, by decide +kernel⟩)))))), by unfold State.opens; decide +kernel⟩,
    ⟨{ (chanS 33 { mode := .halted, cfg := some (chanC true true false), queue := [xferR] }).wr (movPg 33) MOV_XFER_STATE 1 with blocks := [⟨0x801000, 512, .soft, [.xfer 33], false⟩] },
      0, 33,
      by unfold State.opens; decide +kernel⟩,
    ⟨arg (chanS 33 { mode := .enabled, cfg := some (chanC true true false) }) (movPg 33) 0x801040 0x104, 0, 33,
      chanC true true false, 0x801040, 0x104,
      by unfold State.opens; decide +kernel⟩,
    ⟨arg (((chanS 33 { mode := .enabled, cfg := some (chanC false true false) }).wr (clPg 1) CL_TXSOFT_BASE 0).wr (clPg 1) CL_TXSOFT_SIZE 4) (movPg 33) 0x801040 0x104,
      0, 33, chanC false true false, 0x801040, 0x104,
      by unfold State.opens; decide +kernel⟩,
    ⟨arg (chanS 33 { mode := .enabled, cfg := some (chanC true true false) }) (movPg 33) 0x801044 0x104, 0, 33,
      chanC true true false, 0x801044, 0x104,
      by unfold State.opens; decide +kernel⟩,
    ⟨arg (chanS 33 { mode := .enabled, cfg := some (chanC true true false) }) (movPg 33) 0x801040 0x102, 0, 33,
      chanC true true false, 0x801040, 0x102,
      by unfold State.opens; decide +kernel⟩,
    ⟨arg (chanS 33 { mode := .enabled, cfg := some (chanC true true false) }) (movPg 33) 0x801040 0, 0, 33,
      chanC true true false, 0x801040, 0,
      by unfold State.opens; decide +kernel⟩,
    ⟨arg (chanS 33 { mode := .enabled, cfg := some (chanC true true false) }) (movPg 33) 0x7FFFC0 64, 0, 33,
      chanC true true false, 0x7FFFC0, 64,
      by unfold State.opens; decide +kernel⟩,
    ⟨arg (chanS 33 { mode := .enabled, cfg := some (chanC true true false) }) (movPg 33) 0xFFFFC0 128, 0, 33,
      chanC true true false, 0xFFFFC0, 128,
      by unfold State.opens; decide +kernel⟩,
    ⟨arg (chanS 33 { mode := .enabled, cfg := some (chanC true true false) }) (movPg 33) 0x800000 0x800004, 0, 33,
      chanC true true false, 0x800000, 0x800004,
      by unfold State.opens; decide +kernel⟩,
    ⟨arg (((chanS 33 { mode := .enabled, cfg := some (chanC false true false) }).wr (clPg 1) CL_TXSOFT_BASE 0).wr (clPg 1) CL_TXSOFT_SIZE 4) (movPg 33) 0x841040 0x104,
      0, 33, chanC false true false, 0x841040, 0x104,
      by unfold State.opens; decide +kernel⟩,
    ⟨arg { ((chanS 33 { mode := .enabled, cfg := some (chanC false true false) }).wr (clPg 1) CL_TXSOFT_BASE 0).wr (clPg 1) CL_TXSOFT_SIZE 4 with blocks := [⟨0x801000, 512, .soft, [.xfer 34], false⟩] } (movPg 33) 0x801040 0x104,
      0, 33, chanC false true false, 0x801040, 0x104,
      by unfold State.opens; decide +kernel⟩,
    ⟨chanS 33 {}, 33,
      (.inl (by decide +kernel)), by decide +kernel⟩,
    ⟨{ chanS 33 { mode := .enabled, cfg := some (chanC true true false), queue := [{ xferR with issued := 512 }] } with blocks := [⟨0x801000, 512, .soft, [.xfer 33], false⟩] },
      33, { xferR with issued := 512 }, chanC true true false,
      by decide +kernel⟩⟩

theorem wit_BurstsLeaveOrWait :
    (∃ (s : State) (m : Chan) (g : ChanCfg) (r : Req) (a : Nat) (n : Nat),
      (s.faults = []) ∧ (s.moverRuns = true) ∧ ((s.chan m).mode = .enabled) ∧ ((s.chan m).cfg = some g) ∧
        (g.push = false) ∧ ((s.chan m).failed = []) ∧ ((s.chan m).head = some r) ∧ (s.granted? m g.pp = true) ∧ (a,
        n) = g.burstOf r (r.start.getD (s.chan m).pos)) ∧
    (∃ (s : State) (m : Chan) (g : ChanCfg) (r : Req) (a : Nat) (n : Nat),
      (s.faults = []) ∧ (s.moverRuns = true) ∧ ((s.chan m).mode = .enabled) ∧ ((s.chan m).cfg = some g) ∧
        (g.push = false) ∧ ((s.chan m).failed = []) ∧ ((s.chan m).head = some r) ∧ (s.granted? m g.pp = true) ∧ (a,
        n) = g.burstOf r (r.start.getD (s.chan m).pos) ∧ (g = chanC false true true)) ∧
    (∃ (s : State) (m : Chan) (g : ChanCfg) (b : Burst) (rest : List Burst) (finds : List (Nat × Find)),
      (s.faults = []) ∧ (s.moverRuns = true) ∧ ((s.chan m).mode = .enabled) ∧ ((s.chan m).cfg = some g) ∧
        ((s.chan m).failed = b :: rest) ∧ (s.granted? m g.pp = true)) ∧
    (∃ (s : State) (m : Chan) (finds : List (Nat × Find)),
      (s.moverRuns = false ∨ (s.chan m).mode ≠ .enabled ∨ (s.chan m).cfg = none ∨ ((s.chan m).failed = [] ∧
        ((s.chan m).head = none ∨ ∃ r, (s.chan m).head = some r ∧ s.unfetched r = true))) ∧ (s.faults = [])) ∧
    (∃ (s : State) (m : Chan) (g : ChanCfg) (r : Req) (a : Nat) (n : Nat),
      (s.faults = []) ∧ (s.moverRuns = true) ∧ ((s.chan m).mode = .enabled) ∧ ((s.chan m).cfg = some g) ∧ (g.push = true) ∧
        ((s.chan m).failed = []) ∧ ((s.chan m).head = some r) ∧ (s.granted? m g.pp = true) ∧ (a,
        n) = g.burstOf r (r.start.getD (s.chan m).pos) ∧ (s.ueWords = []) ∧ (s.poison = [])) ∧
    (∃ (s : State) (m : Chan) (g : ChanCfg) (r : Req) (finds : List (Nat × Find)),
      (s.faults = []) ∧ (s.moverRuns = true) ∧ ((s.chan m).mode = .enabled) ∧ ((s.chan m).cfg = some g) ∧
        ((s.chan m).failed = []) ∧ ((s.chan m).head = some r) ∧ (s.unfetched r = false) ∧ (r.start = none) ∧
        (r.useDesc = true) ∧ (g.wrap = false) ∧ (g.total < (s.chan m).pos + g.needs r)) ∧
    (∃ (s : State) (m : Chan) (g : ChanCfg) (r : Req) (finds : List (Nat × Find)),
      (s.faults = []) ∧ (s.moverRuns = true) ∧ ((s.chan m).mode = .enabled) ∧ ((s.chan m).cfg = some g) ∧
        ((s.chan m).failed = []) ∧ ((s.chan m).head = some r) ∧ (s.unfetched r = false) ∧ (r.start = none) ∧
        (r.useDesc = true) ∧ (g.wrap = true ∨ (s.chan m).pos + g.needs r ≤ g.total) ∧ (g.credit = true) ∧
        (s.rd (movPg m) MOV_CREDIT_ELEMS < g.needs r) ∧ ((s.chan m).waiting = false)) :=
  ⟨⟨chanS 33 { mode := .enabled, cfg := some (chanC false true false), queue := [xferR] }, 33, chanC false true false,
    xferR, 0x10000, 256,
      by decide +kernel⟩,
    ⟨(chanS 33 { mode := .enabled, cfg := some (chanC false true true), queue := [xferR] }).wr (movPg 33) MOV_CREDIT_ELEMS 5,
      33, chanC false true true, xferR, 0x10000, 256,
      by decide +kernel⟩,
    ⟨chanS 33 { mode := .enabled, cfg := some (chanC false true false), queue := [xferR], failed := [readB, { readB with num := 4 }] },
      33, chanC false true false, readB, [{ readB with num := 4 }], [],
      by decide +kernel⟩,
    ⟨{ chanS 33 { mode := .enabled, cfg := some (chanC false true false), queue := [xferR] } with mode := .safe }, 33, [],
      (.inl (by decide +kernel)), by decide +kernel⟩,
    ⟨(chanS 33 { mode := .enabled, cfg := some (chanC true true false), queue := [xferR] }).mputs 0x801000 [1, 2, 3], 33,
      chanC true true false, xferR, 0x10000, 256,
      by decide +kernel⟩,
    ⟨chanS 33 { mode := .enabled, cfg := some (chanC true false false), queue := [xferR], pos := 3 }, 33,
      chanC true false false, xferR, [],
      by decide +kernel⟩,
    ⟨chanS 33 { mode := .enabled, cfg := some (chanC true true true), queue := [xferR] }, 33, chanC true true true, xferR,
      [],
      by decide +kernel⟩⟩

theorem wit_CompletionsAndPushesLand :
    (∃ (s : State) (m : Chan) (b : Burst) (data : List Byte) (ns : Nat),
      (s.faults = []) ∧ (s.down = false) ∧ (((s.chan m).outst.find? fun x => x.num == b.num) = some b) ∧
        (b.discard = false) ∧ (data.length = b.len) ∧ (s.ueWords = []) ∧ (s.poison = []) ∧
        (b.store + b.len ≤ 0x4000000)) ∧
    (∃ (s : State) (m : Chan) (b : Burst) (data : List Byte) (ns : Nat),
      (s.faults = []) ∧ (s.down = false) ∧ (((s.chan m).outst.find? fun x => x.num == b.num) = some b) ∧
        (b.discard = true) ∧ (data.length = b.len)) ∧
    (∃ (s : State) (m : Chan) (num : Nat) (data : List Byte) (ns : Nat),
      (∀ b, ((s.chan m).outst.find? fun x => x.num == num) = some b → data.length ≠ b.len) ∧ (s.faults = [])) ∧
    (∃ (s : State) (m : Chan) (num : Nat) (data : List Byte) (ns : Nat),
      (∀ b, ((s.chan m).outst.find? fun x => x.num == num) = some b → data.length ≠ b.len) ∧ (s.faults = []) ∧
        (num = 4)) ∧
    (∃ (s : State) (m : Chan),
      (∀ r ∈ (s.chan m).queue, ∀ uid, r.kind = .push uid → r.withdrawn = true ∨ r.issued < r.len) ∧ (s.faults = [])) ∧
    (∃ (s : State) (m : Chan) (r : Req) (uid : Nat) (pre : List Req) (rest : List Req) (j : PushJob),
      (∀ q ∈ pre, ∀ v, q.kind ≠ .push v) ∧ (s.faults = []) ∧ (s.down = false) ∧ ((s.chan m).queue = pre ++ r :: rest) ∧
        (r.withdrawn = false) ∧ (r.kind = .push uid) ∧ (r.len ≤ r.issued) ∧ (mapGet? s.pushes uid = some j)) ∧
    (∃ (s : State) (pp : PPort) (m : Chan) (val : Word),
      (s.opens pp (movPg m))) ∧
    (∃ (s : State) (pp : PPort) (m : Chan) (val : Word),
      (s.opens pp (movPg m)) ∧ (val = 2)) :=
  ⟨⟨chanS 33 { mode := .enabled, cfg := some (chanC false true false), outst := [readB], queue := [xferR] }, 33, readB,
    [1, 2, 3, 4, 5, 6, 7, 8], 900,
      by decide +kernel⟩,
    ⟨chanS 33 { mode := .enabled, cfg := some (chanC false true false), outst := [{ readB with discard := true }], queue := [xferR] },
      33, { readB with discard := true }, [1, 2, 3, 4, 5, 6, 7, 8], 900,
      by decide +kernel⟩,
    ⟨chanS 33 { mode := .enabled, cfg := some (chanC false true false), outst := [readB], queue := [xferR] }, 33, 3, [1,
      2], 900,
      (fun b h => by cases h; decide), by decide +kernel⟩,
    ⟨chanS 33 { mode := .enabled, cfg := some (chanC false true false), outst := [readB], queue := [xferR] }, 33, 4, [1,
      2], 900,
      (fun b h => nomatch (show none = some b from h)), by decide +kernel⟩,
    ⟨chanS 33 { mode := .enabled, cfg := some (chanC true true false), queue := [xferR, { kind := .push 11, len := 64, store := 0x800000, useDesc := true, issued := 32 }] },
      33,
      (fun r h _ _ => (by decide +kernel : ∀ r ∈ ((chanS 33 { mode := .enabled, cfg := some (chanC true true false), queue := [xferR, { kind := .push 11, len := 64, store := 0x800000, useDesc := true, issued := 32 }] }).chan 33).queue,
        r.withdrawn = true ∨ r.issued < r.len) r h), by decide +kernel⟩,
    ⟨{ chanS 33 { mode := .enabled, cfg := some (chanC true true false), queue := [{ kind := .push 11, len := 64, store := 0x800000, useDesc := true, issued := 64, paddr := 0x1000010000 }] } with pushes := [(11, ⟨2, List.range 16, 0x800000, false, 33, false⟩)], blocks := [⟨0x800000, 256, .rx, [.push 11], false⟩] },
      33, { kind := .push 11, len := 64, store := 0x800000, useDesc := true, issued := 64, paddr := 0x1000010000 }, 11,
      [], [], ⟨2, List.range 16, 0x800000, false, 33, false⟩,
      (fun _ h => nomatch h), by decide +kernel⟩,
    ⟨(chanS 33 {}).wr (movPg 33) MOV_CREDIT_ELEMS 200000, 0, 33, 0xFFFFFFFF,
      by unfold State.opens; decide +kernel⟩,
    ⟨(chanS 33 { mode := .enabled, cfg := some (chanC true true true), queue := [xferR], waiting := true }).wr (movPg 33) MOV_CREDIT_ELEMS 1,
      0, 33, 2,
      by unfold State.opens; decide +kernel⟩⟩

theorem wit_ClaimsBeginAndEnd :
    (∃ (s : State) (pp : PPort) (k : Tgt) (fast : Bool) (key : Nat) (x : IntSrc),
      (s.faults = []) ∧ (s.down = false) ∧ (s.icuRuns = true) ∧ (pp.val = k.val / 4) ∧ ((fast && s.stackMode k) = false) ∧
        (s.stackMode k = true → (s.tgt k).stack.length ≠ 8) ∧ (s.claimTop k fast = some (key, x))) ∧
    (∃ (s : State) (pp : PPort) (k : Tgt) (fast : Bool) (key : Nat) (x : IntSrc),
      (s.faults = []) ∧ (s.down = false) ∧ (s.icuRuns = true) ∧ (pp.val = k.val / 4) ∧ ((fast && s.stackMode k) = false) ∧
        (s.stackMode k = true → (s.tgt k).stack.length ≠ 8) ∧ (s.claimTop k fast = some (key, x)) ∧ (fast = true)) ∧
    (∃ (s : State) (pp : PPort) (k : Tgt) (fast : Bool),
      (s.faults = []) ∧ (s.down = false) ∧ (s.icuRuns = true) ∧ (pp.val = k.val / 4) ∧ ((fast && s.stackMode k) = false) ∧
        (s.stackMode k = true → (s.tgt k).stack.length ≠ 8) ∧ (s.claimTop k fast = none)) ∧
    (∃ (s : State) (pp : PPort) (k : Tgt) (fast : Bool),
      (s.faults = []) ∧ (s.down = false) ∧ (s.icuRuns = true) ∧ (pp.val = k.val / 4) ∧ ((fast && s.stackMode k) = false) ∧
        (s.stackMode k = true → (s.tgt k).stack.length ≠ 8) ∧ (s.claimTop k fast = none) ∧ (fast = true)) ∧
    (∃ (s : State) (pp : PPort) (k : Tgt),
      (s.faults = []) ∧ (s.down = false) ∧ (s.icuRuns = true) ∧ (pp.val = k.val / 4) ∧ (s.stackMode k = true) ∧
        ((s.tgt k).stack.length = 8)) ∧
    (∃ (s : State) (pp : PPort) (k : Tgt) (fast : Bool),
      (s.faults = []) ∧ (s.down = false) ∧ (s.icuRuns = false ∨ pp.val ≠ k.val / 4 ∨ (fast && s.stackMode k) = true)) ∧
    (∃ (s : State) (pp : PPort) (k : Tgt) (fast : Bool),
      (s.faults = []) ∧ (s.down = false) ∧ (s.icuRuns = false ∨ pp.val ≠ k.val / 4 ∨ (fast && s.stackMode k) = true) ∧
        (pp = 1)) ∧
    (∃ (s : State) (pp : PPort) (k : Tgt) (fast : Bool),
      (s.faults = []) ∧ (s.down = false) ∧ (s.icuRuns = false ∨ pp.val ≠ k.val / 4 ∨ (fast && s.stackMode k) = true) ∧
        (fast = true)) ∧
    (∃ (s : State) (pp : PPort) (k : Tgt) (fast : Bool) (val : Word) (key : Nat),
      (s.opens pp (if fast = true then tfPg k else tnPg k)) ∧ (s.stackMode k = false) ∧
        (key = keyOn k (val.toNat % 4096)) ∧ ((s.src key).active = true) ∧ ((s.src key).atgt = k.val) ∧
        ((s.src key).afast = fast)) ∧
    (∃ (s : State) (pp : PPort) (k : Tgt) (fast : Bool) (val : Word) (key : Nat),
      (s.opens pp (if fast = true then tfPg k else tnPg k)) ∧ (s.stackMode k = false) ∧
        (key = keyOn k (val.toNat % 4096)) ∧ ((s.src key).active = true) ∧ ((s.src key).atgt = k.val) ∧
        ((s.src key).afast = fast) ∧ (fast = true)) ∧
    (∃ (s : State) (pp : PPort) (k : Tgt) (level : Nat) (key : Nat) (rest : List (Nat × Nat)),
      (s.opens pp (tnPg k)) ∧ ((s.tgt k).stack = (level, key) :: rest)) ∧
    (∃ (s : State) (pp : PPort) (k : Tgt) (fast : Bool) (val : Word) (x : IntSrc),
      (s.opens pp (if fast = true then tfPg k else tnPg k)) ∧ (x = s.src (keyOn k (val.toNat % 4096))) ∧
        (s.stackMode k = true ∨ x.active = false ∨ x.atgt ≠ k.val ∨ x.afast ≠ fast)) ∧
    (∃ (s : State) (pp : PPort) (k : Tgt) (fast : Bool) (val : Word) (x : IntSrc),
      (s.opens pp (if fast = true then tfPg k else tnPg k)) ∧ (x = s.src (keyOn k (val.toNat % 4096))) ∧
        (s.stackMode k = true ∨ x.active = false ∨ x.atgt ≠ k.val ∨ x.afast ≠ fast) ∧ (fast = true) ∧ (x = pend)) ∧
    (∃ (s : State) (pp : PPort) (k : Tgt) (fast : Bool) (val : Word) (x : IntSrc),
      (s.opens pp (if fast = true then tfPg k else tnPg k)) ∧ (x = s.src (keyOn k (val.toNat % 4096))) ∧
        (s.stackMode k = true ∨ x.active = false ∨ x.atgt ≠ k.val ∨ x.afast ≠ fast) ∧ (fast = true)) ∧
    (∃ (s : State) (pp : PPort) (k : Tgt) (fast : Bool) (val : Word) (x : IntSrc),
      (s.opens pp (if fast = true then tfPg k else tnPg k)) ∧ (x = s.src (keyOn k (val.toNat % 4096))) ∧
        (s.stackMode k = true ∨ x.active = false ∨ x.atgt ≠ k.val ∨ x.afast ≠ fast) ∧
        (x = { ({ pend with active := true, atgt := 2, afast := false } : IntSrc) with atgt := 1 })) ∧
    (∃ (s : State) (pp : PPort) (k : Tgt),
      (s.opens pp (tnPg k)) ∧ ((s.tgt k).stack = [])) :=
  ⟨⟨srcS .run 20 pend, 0, 2, false, 20, pend,
      by decide +kernel⟩,
    ⟨(srcS .run 20 pend).wr (tnPg 2) T_CFG_FAST 2, 0, 2, true, 20, pend,
      by decide +kernel⟩,
    ⟨{ inMode .run with tgts := [(2, { outN := true, msgN := true, outF := true, msgF := true })] }, 0, 2, false,
      by decide +kernel⟩,
    ⟨{ inMode .run with tgts := [(2, { outN := true, msgN := true, outF := true, msgF := true })] }, 0, 2, true,
      by decide +kernel⟩,
    ⟨{ (inMode .run).wr (tnPg 2) T_CFG_MODE 1 with tgts := [(2, { stack := (List.range 8).map fun i => (i, 64 + i) })] },
      0, 2,
      by decide +kernel⟩,
    ⟨inMode .loader, 0, 2, false,
      by decide +kernel⟩,
    ⟨srcS .run 20 pend, 1, 2, false,
      by decide +kernel⟩,
    ⟨{ (inMode .run).wr (tnPg 2) T_CFG_MODE 1 with tgts := [(2, { stack := (List.range 8).map fun i => (i, 64 + i) })] },
      0, 2, true,
      by decide +kernel⟩,
    ⟨srcS .run 20 { pend with active := true, atgt := 2, afast := false }, 0, 2, false, 20, 20,
      by unfold State.opens; decide +kernel⟩,
    ⟨srcS .run 20 { pend with active := true, atgt := 2, afast := true }, 0, 2, true, 20, 20,
      by unfold State.opens; decide +kernel⟩,
    ⟨{ srcS .run 20 { pend with active := true, atgt := 2, afast := false } with tgts := [(2, { stack := [(3, 20)] })] },
      0, 2, 3, 20, [],
      by unfold State.opens; decide +kernel⟩,
    ⟨(srcS .run 20 { pend with active := true, atgt := 2, afast := false }).wr (tnPg 2) T_CFG_MODE 1, 0, 2, false, 20,
      { pend with active := true, atgt := 2, afast := false },
      by unfold State.opens; decide +kernel⟩,
    ⟨srcS .run 20 pend, 0, 2, true, 20, pend,
      by unfold State.opens; decide +kernel⟩,
    ⟨srcS .run 20 { pend with active := true, atgt := 2, afast := false }, 0, 2, true, 20,
      { pend with active := true, atgt := 2, afast := false },
      by unfold State.opens; decide +kernel⟩,
    ⟨srcS .run 20 { ({ pend with active := true, atgt := 2, afast := false } : IntSrc) with atgt := 1 }, 0, 2, false, 20,
      { ({ pend with active := true, atgt := 2, afast := false } : IntSrc) with atgt := 1 },
      by unfold State.opens; decide +kernel⟩,
    ⟨inMode .run, 0, 2,
      by unfold State.opens; decide +kernel⟩⟩

theorem wit_ClaimReturnsHighestRank :
    ∃ (s : State) (k : Tgt) (fast : Bool) (key : Nat) (x : IntSrc),
      (s.claimTop k fast = some (key, x)) :=
  ⟨srcS .run 20 pend, 2, false, 20, pend,
      by decide +kernel⟩

theorem wit_SourcesCountAndMessagesAreSent :
    (∃ (s : State) (k : Tgt) (fast : Bool) (key : Nat) (x : IntSrc),
      (s.faults = []) ∧ (s.icuRuns = true) ∧ ((if fast = true then (s.tgt k).outF else (s.tgt k).outN) = false) ∧
        (fast = true ∨ s.stackMode k = true ∨ s.activeClaims k (some true) = 0) ∧ (s.decisionTop k fast = some (key,
        x))) ∧
    (∃ (s : State) (k : Tgt) (fast : Bool) (key : Nat) (x : IntSrc),
      (s.faults = []) ∧ (s.icuRuns = true) ∧ ((if fast = true then (s.tgt k).outF else (s.tgt k).outN) = false) ∧
        (fast = true ∨ s.stackMode k = true ∨ s.activeClaims k (some true) = 0) ∧ (s.decisionTop k fast = some (key, x)) ∧
        (fast = true)) ∧
    (∃ (s : State) (k : Tgt) (fast : Bool) (pp : PPort) (v : Fin 9),
      (s.faults = []) ∧ (pp.val = k.val / 4) ∧ (v.val = 2 * (k.val % 4) + (if fast = true then 1 else 0)) ∧
        (s.delivers pp = true) ∧ ((s.pp pp).vecMasked v = false) ∧
        ((if fast = true then (s.tgt k).msgF else (s.tgt k).msgN) = true) ∧ (s.msgWaits k fast = false) ∧
        (s.claimTop k fast ≠ none)) ∧
    (∃ (s : State) (k : Tgt) (fast : Bool) (pp : PPort) (v : Fin 9),
      (s.faults = []) ∧ (pp.val = k.val / 4) ∧ (v.val = 2 * (k.val % 4) + (if fast = true then 1 else 0)) ∧
        (s.delivers pp = true) ∧ ((s.pp pp).vecMasked v = false) ∧
        ((if fast = true then (s.tgt k).msgF else (s.tgt k).msgN) = true) ∧ (s.msgWaits k fast = false) ∧
        (s.claimTop k fast ≠ none) ∧ (fast = true) ∧ (v = 5)) ∧
    (∃ (s : State) (k : Tgt) (fast : Bool),
      (s.faults = []) ∧ (s.icuRuns = false ∨ (if fast = true then (s.tgt k).outF else (s.tgt k).outN) = true ∨
        s.decisionTop k fast = none ∨ (fast = false ∧ s.stackMode k = false ∧ s.activeClaims k (some true) ≠ 0))) ∧
    (∃ (s : State) (k : Tgt) (fast : Bool),
      (s.faults = []) ∧ (s.icuRuns = false ∨ (if fast = true then (s.tgt k).outF else (s.tgt k).outN) = true ∨
        s.decisionTop k fast = none ∨ (fast = false ∧ s.stackMode k = false ∧ s.activeClaims k (some true) ≠ 0)) ∧
        (fast = true)) ∧
    (∃ (s : State) (k : Tgt) (fast : Bool) (pp : PPort) (v : Fin 9),
      (s.faults = []) ∧ (pp.val = k.val / 4) ∧ (v.val = 2 * (k.val % 4) + (if fast = true then 1 else 0)) ∧
        (s.delivers pp = true) ∧ ((s.pp pp).vecMasked v = false) ∧
        ((if fast = true then (s.tgt k).msgF else (s.tgt k).msgN) = true) ∧ (s.msgWaits k fast = false) ∧
        (s.claimTop k fast = none)) ∧
    (∃ (s : State) (k : Tgt) (fast : Bool) (pp : PPort) (v : Fin 9),
      (s.faults = []) ∧ (pp.val = k.val / 4) ∧ (v.val = 2 * (k.val % 4) + (if fast = true then 1 else 0)) ∧
        (s.delivers pp = true) ∧ ((s.pp pp).vecMasked v = false) ∧
        ((if fast = true then (s.tgt k).msgF else (s.tgt k).msgN) = true) ∧ (s.msgWaits k fast = false) ∧
        (s.claimTop k fast = none) ∧ (fast = true) ∧ (v = 5)) ∧
    (∃ (s : State) (pp : PPort),
      (s.faults = []) ∧ (s.delivers pp = true) ∧ ((s.pp pp).vecMasked 8 = false) ∧ ((s.pp pp).vec8 = true)) ∧
    (∃ (s : State) (pp : PPort) (v : Fin 9) (k : Nat) (fast : Bool),
      (s.faults = []) ∧ (k = 4 * pp.val + v.val / 2) ∧ (fast = (v.val % 2 == 1)) ∧ (s.delivers pp = false ∨
        (s.pp pp).vecMasked v = true ∨ (v.val = 8 ∧ (s.pp pp).vec8 = false) ∨ (v.val < 8 ∧
        ((if fast = true then (s.tgt k).msgF else (s.tgt k).msgN) = false ∨ s.msgWaits k fast = true)))) ∧
    (∃ (s : State) (pp : PPort) (v : Fin 9) (k : Nat) (fast : Bool),
      (s.faults = []) ∧ (k = 4 * pp.val + v.val / 2) ∧ (fast = (v.val % 2 == 1)) ∧ (s.delivers pp = false ∨
        (s.pp pp).vecMasked v = true ∨ (v.val = 8 ∧ (s.pp pp).vec8 = false) ∨ (v.val < 8 ∧
        ((if fast = true then (s.tgt k).msgF else (s.tgt k).msgN) = false ∨ s.msgWaits k fast = true))) ∧ (v = 8) ∧
        (k = 4)) ∧
    (∃ (s : State) (pp : PPort) (k : Tgt) (val : Word),
      (s.opens pp (tnPg k)) ∧ (s.routedTo k (val.toNat % 4096) = true)) ∧
    (∃ (s : State) (g : Group),
      (s.faults = [])) ∧
    (∃ (s : State) (key : Fin 4352),
      (s.faults = []) ∧ ((s.src key).delay = true)) ∧
    (∃ (s : State) (k : Tgt),
      (s.faults = []) ∧ (s.down = false) ∧ (s.rd (tnPg k) T_TIMER_PERIOD ≠ 0) ∧ (s.icuRuns = true) ∧
        ((s.src (privKey k 4)).en = true)) ∧
    (∃ (s : State) (pp : PPort) (k : Tgt),
      (s.opens pp (tnPg k)) ∧ (s.icuRuns = true) ∧ ((s.src (privKey k 6)).en = true)) ∧
    (∃ (s : State) (pp : PPort) (k : Tgt) (val : Word),
      (s.opens pp (tnPg k)) ∧ (s.routedTo k (val.toNat % 4096) = false)) ∧
    (∃ (s : State) (pp : PPort) (k : Tgt) (val : Word),
      (s.opens pp (tnPg k)) ∧ (s.routedTo k (val.toNat % 4096) = false) ∧ (val = 4088)) ∧
    (∃ (s : State) (pp : PPort) (k : Tgt) (key : Fin 4352) (r : Instr),
      ((r = .coalescingDelayExpiry key ∧ (s.src key).delay = false) ∨ (r = .timerExpiry k ∧
        s.rd (tnPg k) T_TIMER_PERIOD = 0) ∨ (r = .timerExpiry k ∧ (s.src (privKey k 4)).en = false) ∨
        (r = .tSelfFire pp k ∧ s.opens pp (tnPg k) ∧ (s.src (privKey k 6)).en = false)) ∧ (s.faults = [])) ∧
    (∃ (s : State) (pp : PPort) (k : Tgt) (key : Fin 4352) (r : Instr),
      ((r = .coalescingDelayExpiry key ∧ (s.src key).delay = false) ∨ (r = .timerExpiry k ∧
        s.rd (tnPg k) T_TIMER_PERIOD = 0) ∨ (r = .timerExpiry k ∧ (s.src (privKey k 4)).en = false) ∨
        (r = .tSelfFire pp k ∧ s.opens pp (tnPg k) ∧ (s.src (privKey k 6)).en = false)) ∧ (s.faults = []) ∧
        (r = .timerExpiry 2)) ∧
    (∃ (s : State) (pp : PPort) (k : Tgt) (key : Fin 4352) (r : Instr),
      ((r = .coalescingDelayExpiry key ∧ (s.src key).delay = false) ∨ (r = .timerExpiry k ∧
        s.rd (tnPg k) T_TIMER_PERIOD = 0) ∨ (r = .timerExpiry k ∧ (s.src (privKey k 4)).en = false) ∨
        (r = .tSelfFire pp k ∧ s.opens pp (tnPg k) ∧ (s.src (privKey k 6)).en = false)) ∧ (s.faults = []) ∧
        (r = .timerExpiry 2)) ∧
    (∃ (s : State) (pp : PPort) (k : Tgt) (key : Fin 4352) (r : Instr),
      ((r = .coalescingDelayExpiry key ∧ (s.src key).delay = false) ∨ (r = .timerExpiry k ∧
        s.rd (tnPg k) T_TIMER_PERIOD = 0) ∨ (r = .timerExpiry k ∧ (s.src (privKey k 4)).en = false) ∨
        (r = .tSelfFire pp k ∧ s.opens pp (tnPg k) ∧ (s.src (privKey k 6)).en = false)) ∧ (s.faults = []) ∧
        (r = .tSelfFire 0 2)) :=
  ⟨⟨srcS .run 20 pend, 2, false, 20, pend,
      by decide +kernel⟩,
    ⟨(srcS .run 20 pend).wr (tnPg 2) T_CFG_FAST 2, 2, true, 20, pend,
      by decide +kernel⟩,
    ⟨{ linked (inMode .run) 0 with tgts := [(2, { msgN := true, outN := true, msgF := true, outF := true })], pps := [(0, { bme := true, msixEn := true, msix := [(19, 0), (23, 0), (35, 0)] })], srcs := [(20, pend)] },
      2, false, 0, 4,
      by decide +kernel⟩,
    ⟨({ linked (inMode .run) 0 with tgts := [(2, { msgN := true, outN := true, msgF := true, outF := true })], pps := [(0, { bme := true, msixEn := true, msix := [(19, 0), (23, 0), (35, 0)] })], srcs := [(20, pend)] }).wr (tnPg 2) T_CFG_FAST 2,
      2, true, 0, 5,
      by decide +kernel⟩,
    ⟨inMode .loader, 2, false,
      by decide +kernel⟩,
    ⟨inMode .run, 2, true,
      by decide +kernel⟩,
    ⟨{ linked (inMode .run) 0 with tgts := [(2, { msgN := true, outN := true, msgF := true, outF := true })], pps := [(0, { bme := true, msixEn := true, msix := [(19, 0), (23, 0), (35, 0)] })], srcs := [] },
      2, false, 0, 4,
      by decide +kernel⟩,
    ⟨{ linked (inMode .run) 0 with tgts := [(2, { msgN := true, outN := true, msgF := true, outF := true })], pps := [(0, { bme := true, msixEn := true, msix := [(19, 0), (23, 0), (35, 0)] })], srcs := [] },
      2, true, 0, 5,
      by decide +kernel⟩,
    ⟨{ linked (inMode .run) 0 with tgts := [(2, { msgN := true, outN := true, msgF := true, outF := true })], pps := [(0, { bme := true, msixEn := true, msix := [(19, 0), (23, 0), (35, 0)], vec8 := true })], srcs := [] },
      0,
      by decide +kernel⟩,
    ⟨{ inMode .run with tgts := [(2, { outN := true, msgN := true, outF := true, msgF := true })] }, 0, 4, 2, false,
      by decide +kernel⟩,
    ⟨{ linked (inMode .run) 0 with tgts := [(2, { msgN := true, outN := true, msgF := true, outF := true })], pps := [(0, { bme := true, msixEn := true, msix := [(19, 0), (23, 0), (35, 0)] })], srcs := [] },
      0, 8, 4, false,
      by decide +kernel⟩,
    ⟨srcS .run 20 pend, 0, 2, 0x80000014,
      by unfold State.opens; decide +kernel⟩,
    ⟨{ inMode .run with holdOff := [2, 3] }, 3,
      by decide +kernel⟩,
    ⟨srcS .run 20 { pend with delay := true }, 20,
      by decide +kernel⟩,
    ⟨(srcS .run 4132 { en := true }).wr (tnPg 2) T_TIMER_PERIOD 9, 2,
      by decide +kernel⟩,
    ⟨srcS .run 4134 { en := true, count := 255 }, 0, 2,
      by unfold State.opens; decide +kernel⟩,
    ⟨srcS .run 20 { pend with tgt := 3 }, 0, 2, 0x80000014,
      by unfold State.opens; decide +kernel⟩,
    ⟨inMode .run, 0, 2, 4088,
      by unfold State.opens; decide +kernel⟩,
    ⟨srcS .run 20 pend, 0, 2, 20, .coalescingDelayExpiry 20,
      (.inl ⟨rfl, by decide +kernel⟩), by decide +kernel⟩,
    ⟨inMode .run, 0, 2, 20, .timerExpiry 2,
      (.inr (.inl ⟨rfl, by decide +kernel⟩)), by decide +kernel⟩,
    ⟨(inMode .run).wr (tnPg 2) T_TIMER_PERIOD 9, 0, 2, 20, .timerExpiry 2,
      (.inr (.inr (.inl ⟨rfl, by decide +kernel⟩))), by decide +kernel⟩,
    ⟨inMode .run, 0, 2, 20, .tSelfFire 0 2,
      (.inr (.inr (.inr (⟨rfl, ⟨rfl, rfl, by decide +kernel⟩, by decide +kernel⟩)))), by decide +kernel⟩⟩

theorem wit_LinesAndFramesFollowEachOther :
    (∃ (s : State) (e : Nat),
      (s.faults = []) ∧ (s.tbRuns = true) ∧ (s.rtSrc = 1) ∧ (s.rt.tb = .locked) ∧ (s.rt.est = true) ∧ (s.armed = []) ∧
        (s.rd (ephPg 0) RT_STAT_MISS_F = 0) ∧ (((e : Int) - s.rt.period).natAbs ≤ s.rtWin) ∧
        (s.rt.line + 1 < s.rt.lines)) ∧
    (∃ (s : State) (e : Nat),
      (s.faults = []) ∧ (s.tbRuns = true) ∧ (s.rtSrc = 1) ∧ (s.rt.tb = .locked) ∧ (s.rt.est = true) ∧ (s.armed = []) ∧
        (s.rd (ephPg 0) RT_STAT_MISS_F = 0) ∧ (((e : Int) - s.rt.period).natAbs ≤ s.rtWin) ∧ (s.rt.line + 1 < s.rt.lines) ∧
        (e = 699900)) ∧
    (∃ (s : State) (e : Nat),
      (s.faults = []) ∧ (s.tbRuns = true) ∧ (s.rtSrc = 1) ∧ (s.rt.tb = .locked) ∧ (s.rt.est = true) ∧ (s.armed = []) ∧
        (s.rt.pulseSeen = false) ∧ (s.rt.setFrame = none) ∧ (((e : Int) - s.rt.period).natAbs ≤ s.rtWin) ∧
        (s.rt.line + 1 = s.rt.lines) ∧ (s.rt.frame % 2 = 0 ∨ s.noWindows)) ∧
    (∃ (s : State) (e : Nat),
      (s.faults = []) ∧ (s.tbRuns = true) ∧ (s.rtSrc = 1) ∧ (s.rt.tb = .locked) ∧ (s.rt.est = true) ∧ (s.armed = []) ∧
        (s.rt.pulseSeen = false) ∧ (s.rt.setFrame = none) ∧ (((e : Int) - s.rt.period).natAbs ≤ s.rtWin) ∧
        (s.rt.line + 1 < s.rt.lines) ∧ (s.noWindows)) ∧
    (∃ (s : State) (e : Nat) (n : Nat),
      (s.faults = []) ∧ (s.tbRuns = true) ∧ (s.rtSrc = 1) ∧ (s.rt.tb ≠ .free) ∧ (s.rt.est = true) ∧ (s.armed = []) ∧
        (s.rt.pulseSeen = true) ∧ (s.rt.setFrame = none) ∧ (((e : Int) - s.rt.period).natAbs ≤ s.rtWin) ∧
        (n = s.rt.sincePulse + 1) ∧ (s.rt.lastLen = some n) ∧ (2 ≤ n) ∧ (n ≤ 4096) ∧ (n ≤ s.rt.line + 1)) ∧
    (∃ (s : State) (e : Nat),
      (s.faults = []) ∧ (s.tbRuns = true) ∧ (s.rtSrc = 1) ∧ (s.rt.tb = .free ∨
        (s.rtWin < ((e : Int) - s.rt.period).natAbs ∧ s.rt.outEdges < 7))) ∧
    (∃ (s : State) (e : Nat),
      (s.faults = []) ∧ (s.tbRuns = true) ∧ (s.rtSrc = 1) ∧ (s.rt.tb = .free ∨
        (s.rtWin < ((e : Int) - s.rt.period).natAbs ∧ s.rt.outEdges < 7)) ∧ (e = 2000000)) ∧
    (∃ (s : State) (e : Nat) (m : Nat) (q : Nat) (k : Nat),
      (s.faults = []) ∧ (s.tbRuns = true) ∧ (s.rtSrc = 1) ∧ (s.rt.tb = .free) ∧ (s.rt.setFrame = none) ∧ (s.armed = []) ∧
        (s.rt.edgeSeen = true) ∧ (m = (s.rt.sinceEdge + e).toNat) ∧ (81920 ≤ m) ∧ (m ≤ 4096000) ∧
        (s.rt.prevPeriod = some q) ∧ (s.agree m q = true) ∧ (16 ≤ s.rt.acqEdges) ∧ (s.rt.acqF1 = some k) ∧ (1 ≤ k) ∧
        (k ≤ 4095)) ∧
    (∃ (s : State),
      (s.faults = []) ∧ (s.tbRuns = true) ∧ (s.rtSrc = 1) ∧ (s.rt.tb = .locked) ∧ (s.rt.est = true) ∧
        (s.rd (ephPg 0) RT_STAT_MISS_L < 64) ∧ (s.rd (ephPg 0) RT_STAT_MISS_F < 3) ∧ (s.rt.line + 1 < s.rt.lines)) ∧
    (∃ (s : State),
      (s.faults = []) ∧ (s.tbRuns = true) ∧ (s.rtSrc = 1) ∧ (s.rt.tb = .flywheel) ∧ (s.rt.est = true) ∧
        (s.rd (ephPg 0) RT_STAT_MISS_L = 64) ∧ (s.rt.setFrame = none) ∧ (s.rt.line + 1 < s.rt.lines) ∧ (s.noWindows)) ∧
    (∃ (s : State),
      (s.faults = []) ∧ (s.tbRuns = true) ∧ (s.rt.tb = .free ∨ s.rtSrc ≠ 1) ∧ (s.rt.line + 1 < s.rt.lines)) ∧
    (∃ (s : State),
      (s.faults = []) ∧ (s.tbRuns = true) ∧ (s.rt.tb = .free) ∧ (s.armed = []) ∧ (s.rt.lines ≤ s.rt.line + 1) ∧
        (s.rt.setFrame = none ∨ s.stalled = true) ∧ ((s.rtSrc = 1 ∧ s.rt.est = true) ∨
        s.rd (ephPg 0) RT_NOM_LINES = s.rt.lines)) ∧
    (∃ (s : State) (f : Nat),
      (s.faults = []) ∧ (s.tbRuns = true) ∧ (s.rt.tb = .free) ∧ (s.armed = []) ∧ (s.stalled = false) ∧
        (s.rt.lines ≤ s.rt.line + 1) ∧ (s.rt.setFrame = some f)) ∧
    (∃ (s : State),
      (s.tbRuns = true) ∧ (s.rt.tb ≠ .free) ∧ (s.rtSrc = 1)) ∧
    (∃ (s : State) (e : Nat) (r : Instr),
      (((r = .lineEdge e ∨ r = .framePulse e ∨ r = .missingLineEdge) ∧ s.rtSrc ≠ 1) ∨ (r = .missingLineEdge ∧
        s.rt.tb = .free) ∨ (r = .lineEnd ∧ s.tbRuns = false)) ∧ (s.faults = [])) ∧
    (∃ (s : State) (e : Nat) (r : Instr),
      (((r = .lineEdge e ∨ r = .framePulse e ∨ r = .missingLineEdge) ∧ s.rtSrc ≠ 1) ∨ (r = .missingLineEdge ∧
        s.rt.tb = .free) ∨ (r = .lineEnd ∧ s.tbRuns = false)) ∧ (s.faults = []) ∧ (r = .framePulse 5)) ∧
    (∃ (s : State) (e : Nat) (r : Instr),
      (((r = .lineEdge e ∨ r = .framePulse e ∨ r = .missingLineEdge) ∧ s.rtSrc ≠ 1) ∨ (r = .missingLineEdge ∧
        s.rt.tb = .free) ∨ (r = .lineEnd ∧ s.tbRuns = false)) ∧ (s.faults = []) ∧ (r = .missingLineEdge)) ∧
    (∃ (s : State) (e : Nat) (r : Instr),
      (((r = .lineEdge e ∨ r = .framePulse e ∨ r = .missingLineEdge) ∧ s.rtSrc ≠ 1) ∨ (r = .missingLineEdge ∧
        s.rt.tb = .free) ∨ (r = .lineEnd ∧ s.tbRuns = false)) ∧ (s.faults = []) ∧ (r = .missingLineEdge)) ∧
    (∃ (s : State) (e : Nat) (r : Instr),
      (((r = .lineEdge e ∨ r = .framePulse e ∨ r = .missingLineEdge) ∧ s.rtSrc ≠ 1) ∨ (r = .missingLineEdge ∧
        s.rt.tb = .free) ∨ (r = .lineEnd ∧ s.tbRuns = false)) ∧ (s.faults = []) ∧ (r = .lineEnd)) :=
  ⟨⟨rtS .run { tb := .locked, est := true, period := 700000, line := 5 }, 700100,
      by decide +kernel⟩,
    ⟨rtS .run { tb := .locked, est := true, period := 700000, line := 5 }, 699900,
      by decide +kernel⟩,
    ⟨rtS .run { tb := .locked, est := true, period := 700000, line := 1124, frame := 0xFFFFFFFF }, 700016,
      by unfold State.noWindows; decide +kernel⟩,
    ⟨rtS .run { tb := .locked, est := true, period := 700000, line := 5 }, 700000,
      by unfold State.noWindows; decide +kernel⟩,
    ⟨rtS .run { tb := .locked, est := true, period := 700000, line := 624, pulseSeen := true, sincePulse := 624, lastLen := some 625 },
      700000, 625,
      by decide +kernel⟩,
    ⟨rtS .run {  }, 5,
      by decide +kernel⟩,
    ⟨rtS .run { tb := .locked, est := true, period := 700000 }, 2000000,
      by decide +kernel⟩,
    ⟨rtS .run { edgeSeen := true, prevPeriod := some 700000, acqEdges := 16, acqF1 := some 1124, line := 7 }, 700000,
      700000, 700000, 1124,
      by decide +kernel⟩,
    ⟨rtS .run { tb := .locked, est := true, period := 700000, line := 5 },
      by decide +kernel⟩,
    ⟨(rtS .run { tb := .flywheel, est := true, period := 700000, line := 5 }).wr (ephPg 0) RT_STAT_MISS_L 64,
      by unfold State.noWindows; decide +kernel⟩,
    ⟨rtS .run { line := 5 },
      by decide +kernel⟩,
    ⟨rtS .run { line := 1124 },
      by decide +kernel⟩,
    ⟨busy (rtS .run { line := 1124, setFrame := some 9 }) (ephPg 0) 1, 9,
      by decide +kernel⟩,
    ⟨rtS .run { tb := .locked, est := true, period := 700000, line := 5 },
      by decide +kernel⟩,
    ⟨(inMode .run).wr (ephPg 0) RT_CFG_SRC 0, 5, .lineEdge 5,
      (.inl ⟨.inl rfl, by decide +kernel⟩), by decide +kernel⟩,
    ⟨(inMode .run).wr (ephPg 0) RT_CFG_SRC 2, 5, .framePulse 5,
      (.inl ⟨.inr (.inl rfl), by decide +kernel⟩), by decide +kernel⟩,
    ⟨(inMode .run).wr (ephPg 0) RT_CFG_SRC 2, 5, .missingLineEdge,
      (.inl ⟨.inr (.inr rfl), by decide +kernel⟩), by decide +kernel⟩,
    ⟨inMode .run, 5, .missingLineEdge,
      (.inr (.inl ⟨rfl, by decide +kernel⟩)), by decide +kernel⟩,
    ⟨inMode .loader, 5, .lineEnd,
      (.inr (.inr ⟨rfl, by decide +kernel⟩)), by decide +kernel⟩⟩

theorem wit_TheTimeBaseIsControlled :
    (∃ (s : State) (pp : PPort) (val : Word) (e : Nat) (m : RTime) (d : Int),
      (s.opens pp (ephPg 0)) ∧ (s.tbRuns = true) ∧ (s.rtSrc = 2) ∧ (m = (s.rd (ephPg 0) RT_MARK_FRAME_FRAME,
        bits val.toNat 0 12, bits val.toNat 12 8)) ∧ (d = (s.rtNow e).distance s.rt.lines m) ∧
        (d.natAbs ≤ 256 * s.rd (ephPg 0) RT_CFG_MARK_WIN) ∧ (s.rt.tb ≠ .free ∨ s.rt.markRun = 0 ∨ s.noWindows)) ∧
    (∃ (s : State) (pp : PPort) (val : Word) (e : Nat) (m : RTime) (d : Int),
      (s.opens pp (ephPg 0)) ∧ (s.tbRuns = true) ∧ (s.rtSrc = 2) ∧ (m = (s.rd (ephPg 0) RT_MARK_FRAME_FRAME,
        bits val.toNat 0 12, bits val.toNat 12 8)) ∧ (d = (s.rtNow e).distance s.rt.lines m) ∧
        (d.natAbs ≤ 256 * s.rd (ephPg 0) RT_CFG_MARK_WIN) ∧ (s.rt.tb ≠ .free ∨ s.rt.markRun = 0 ∨ s.noWindows) ∧
        (val = 5) ∧ (m = (10, 5, 0)) ∧ (d = 0)) ∧
    (∃ (s : State) (pp : PPort) (val : Word) (e : Nat) (m : RTime) (d : Int),
      (s.opens pp (ephPg 0)) ∧ (s.tbRuns = true) ∧ (s.rtSrc = 2) ∧ (m = (s.rd (ephPg 0) RT_MARK_FRAME_FRAME,
        bits val.toNat 0 12, bits val.toNat 12 8)) ∧ (s.armed = []) ∧ (d = (s.rtNow e).distance s.rt.lines m) ∧
        (256 * s.rd (ephPg 0) RT_CFG_MARK_WIN < d.natAbs) ∧ (s.noWindows)) ∧
    (∃ (s : State) (pp : PPort) (val : Word) (e : Nat) (m : RTime) (d : Int),
      (s.opens pp (ephPg 0)) ∧ (s.tbRuns = true) ∧ (s.rtSrc = 2) ∧ (m = (s.rd (ephPg 0) RT_MARK_FRAME_FRAME,
        bits val.toNat 0 12, bits val.toNat 12 8)) ∧ (s.armed = []) ∧ (d = (s.rtNow e).distance s.rt.lines m) ∧
        (256 * s.rd (ephPg 0) RT_CFG_MARK_WIN < d.natAbs) ∧ (s.noWindows) ∧ (m = (9, 100, 0)) ∧ (d = -263680)) ∧
    (∃ (s : State) (pp : PPort) (val : Word) (e : Nat),
      (s.opens pp (ephPg 0)) ∧ (s.tbRuns = false ∨ s.rtSrc ≠ 2)) ∧
    (∃ (s : State) (pp : PPort) (val : Word),
      (s.opens pp (ephPg 0)) ∧ (bits val.toNat 0 2 = 3 ∨ bits val.toNat 8 8 = 0 ∨ bits val.toNat 16 4 = 0)) ∧
    (∃ (s : State) (pp : PPort) (val : Word),
      (s.opens pp (ephPg 0)) ∧ (bits val.toNat 0 2 = 3 ∨ bits val.toNat 8 8 = 0 ∨ bits val.toNat 16 4 = 0) ∧
        (val = 0x00030001)) ∧
    (∃ (s : State) (pp : PPort) (val : Word),
      (s.opens pp (ephPg 0)) ∧ (bits val.toNat 0 2 = 3 ∨ bits val.toNat 8 8 = 0 ∨ bits val.toNat 16 4 = 0) ∧
        (val = 0x00001001)) ∧
    (∃ (s : State) (pp : PPort) (val : Word),
      (s.opens pp (ephPg 0)) ∧ (bits val.toNat 0 2 ≠ 3) ∧ (bits val.toNat 8 8 ≠ 0) ∧ (bits val.toNat 16 4 ≠ 0) ∧
        (bits val.toNat 0 2 = s.rtSrc ∨ (s.rt.setFrame = none ∧ s.noWindows))) ∧
    (∃ (s : State) (pp : PPort) (val : Word),
      (s.opens pp (ephPg 0)) ∧ (bits val.toNat 0 2 ≠ 3) ∧ (bits val.toNat 8 8 ≠ 0) ∧ (bits val.toNat 16 4 ≠ 0) ∧
        (bits val.toNat 0 2 = s.rtSrc ∨ (s.rt.setFrame = none ∧ s.noWindows)) ∧ (val = 0x0003101D)) ∧
    (∃ (s : State) (pp : PPort),
      (s.opens pp (ephPg 0))) :=
  ⟨⟨(rtS .run { est := true, period := 700000, line := 5, frame := 10 }).wr (ephPg 0) RT_CFG_SRC 2 |>.wr (ephPg 0) RT_MARK_FRAME_FRAME 10,
    0, 0x00040006, 100, (10, 6, 64), 320,
      by unfold State.opens State.noWindows; decide +kernel⟩,
    ⟨(rtS .run { est := true, period := 700000, line := 5, frame := 10 , markRun := 1 }).wr (ephPg 0) RT_CFG_SRC 2 |>.wr (ephPg 0) RT_MARK_FRAME_FRAME 10,
      0, 5, 100, (10, 5, 0), 0,
      by unfold State.opens State.noWindows; decide +kernel⟩,
    ⟨(rtS .run { est := true, period := 700000, line := 5, frame := 10 }).wr (ephPg 0) RT_CFG_SRC 2 |>.wr (ephPg 0) RT_MARK_FRAME_FRAME 10,
      0, 100, 0, (10, 100, 0), 24320,
      by unfold State.opens State.noWindows; decide +kernel⟩,
    ⟨(rtS .run { est := true, period := 700000, line := 5, frame := 10 , markRun := 1 }).wr (ephPg 0) RT_CFG_SRC 2 |>.wr (ephPg 0) RT_MARK_FRAME_FRAME 9,
      0, 100, 0, (9, 100, 0), -263680,
      by unfold State.opens State.noWindows; decide +kernel⟩,
    ⟨inMode .run, 0, 5, 0,
      by unfold State.opens; decide +kernel⟩,
    ⟨inMode .run, 0, 0x00031003,
      by unfold State.opens; decide +kernel⟩,
    ⟨inMode .run, 0, 0x00030001,
      by unfold State.opens; decide +kernel⟩,
    ⟨inMode .run, 0, 0x00001001,
      by unfold State.opens; decide +kernel⟩,
    ⟨rtS .run { tb := .locked }, 0, 0x00031002,
      by unfold State.opens State.noWindows; decide +kernel⟩,
    ⟨rtS .run {}, 0, 0x0003101D,
      by unfold State.opens State.noWindows; decide +kernel⟩,
    ⟨arg (inMode .run) (ephPg 0) 77 0, 0,
      by unfold State.opens; decide +kernel⟩⟩

theorem wit_EntriesAreArmedAndFire :
    (∃ (s : State) (c : Cl) (i : Fin 1024) (e : Nat) (K : Nat) (begun : List Port) (x : EphEntry) (t0 : RTime),
      (s.faults = []) ∧ (mapRising s.armed = true) ∧ (s.ephRuns c = true) ∧
        (mapGet? s.armed (1024 * c.val + i.val) = some t0) ∧ ((s.rtNow e).before t0 = false) ∧ (∀ y ∈ s.armedOf c,
        y.1 = i.val ∨ firesFirst (i.val, t0) y = true) ∧ (s.brokenIn (ephBase c + 32 * i.val) 32 = false) ∧
        (x = s.ephEntry c i) ∧ (x.action = 6) ∧ (K = 128 + 16 * c.val + bits x.arg0 0 4) ∧ (s.icuRuns = true) ∧
        ((s.src K).en = true)) ∧
    (∃ (s : State) (c : Cl) (i : Fin 1024) (e : Nat) (K : Nat) (begun : List Port) (x : EphEntry) (t0 : RTime),
      (s.faults = []) ∧ (mapRising s.armed = true) ∧ (s.ephRuns c = true) ∧
        (mapGet? s.armed (1024 * c.val + i.val) = some t0) ∧ ((s.rtNow e).before t0 = false) ∧ (∀ y ∈ s.armedOf c,
        y.1 = i.val ∨ firesFirst (i.val, t0) y = true) ∧ (s.brokenIn (ephBase c + 32 * i.val) 32 = false) ∧
        (x = s.ephEntry c i) ∧ (x.action = 6) ∧ (K = 128 + 16 * c.val + bits x.arg0 0 4) ∧ (s.icuRuns = true) ∧
        ((s.src K).en = true) ∧
        (x = ({ words ((rtS .run { line := 6 }).wr (ephPg 1) EPH_CFG_EN 1) (ephBase 1 + 96) [0x246, 0, 5, 0, 2] with armed := [(1027, (0, 5, 0)), (1028, (0, 6, 0))], srcs := [(146, { en := true })] }).ephEntry 1 3)) ∧
    (∃ (s : State) (c : Cl) (i : Fin 1024) (e : Nat) (begun : List Port) (x : EphEntry) (t0 : RTime),
      (s.faults = []) ∧ (mapRising s.armed = true) ∧ (s.ephRuns c = true) ∧
        (mapGet? s.armed (1024 * c.val + i.val) = some t0) ∧ ((s.rtNow e).before t0 = false) ∧ (∀ y ∈ s.armedOf c,
        y.1 = i.val ∨ firesFirst (i.val, t0) y = true) ∧ (s.brokenIn (ephBase c + 32 * i.val) 32 = false) ∧
        (x = s.ephEntry c i)) ∧
    (∃ (s : State) (c : Cl) (i : Fin 1024) (e : Nat) (begun : List Port) (x : EphEntry) (t0 : RTime),
      (s.faults = []) ∧ (mapRising s.armed = true) ∧ (s.ephRuns c = true) ∧
        (mapGet? s.armed (1024 * c.val + i.val) = some t0) ∧ ((s.rtNow e).before t0 = false) ∧ (∀ y ∈ s.armedOf c,
        y.1 = i.val ∨ firesFirst (i.val, t0) y = true) ∧ (s.brokenIn (ephBase c + 32 * i.val) 32 = false) ∧
        (x = s.ephEntry c i) ∧ (x = ({ words ((rtS .run { line := 6 }).wr (ephPg 1) EPH_CFG_EN 1) (ephBase 1 + 96) [3, 0, 5, 0, 0, 0xFF] with armed := [(1027, (0, 5, 0))], srcs := [(146, { en := true })] }).ephEntry 1 3)) ∧
    (∃ (s : State) (c : Cl) (i : Fin 1024) (e : Nat) (begun : List Port) (x : EphEntry) (t0 : RTime),
      (s.faults = []) ∧ (mapRising s.armed = true) ∧ (s.ephRuns c = true) ∧
        (mapGet? s.armed (1024 * c.val + i.val) = some t0) ∧ ((s.rtNow e).before t0 = false) ∧ (∀ y ∈ s.armedOf c,
        y.1 = i.val ∨ firesFirst (i.val, t0) y = true) ∧ (s.brokenIn (ephBase c + 32 * i.val) 32 = false) ∧
        (x = s.ephEntry c i) ∧ (x = ({ words ((rtS .run { line := 6 }).wr (ephPg 1) EPH_CFG_EN 1) (ephBase 1 + 96) [4, 0, 5, 0, 0x123, 0xFF] with armed := [(1027, (0, 5, 0))], srcs := [(146, { en := true })] }).ephEntry 1 3)) ∧
    (∃ (s : State) (c : Cl) (i : Fin 1024) (e : Nat) (begun : List Port) (x : EphEntry) (t0 : RTime),
      (s.faults = []) ∧ (mapRising s.armed = true) ∧ (s.ephRuns c = true) ∧
        (mapGet? s.armed (1024 * c.val + i.val) = some t0) ∧ ((s.rtNow e).before t0 = false) ∧ (∀ y ∈ s.armedOf c,
        y.1 = i.val ∨ firesFirst (i.val, t0) y = true) ∧ (s.brokenIn (ephBase c + 32 * i.val) 32 = false) ∧
        (x = s.ephEntry c i) ∧ (x = ({ words ((rtS .run { line := 6 }).wr (ephPg 1) EPH_CFG_EN 1) (ephBase 1 + 96) [5, 0, 5, 0, 0] with armed := [(1027, (0, 5, 0))], srcs := [(146, { en := true })] }).ephEntry 1 3)) ∧
    (∃ (s : State) (c : Cl) (i : Fin 1024) (e : Nat) (begun : List Port) (x : EphEntry) (t0 : RTime),
      (s.faults = []) ∧ (mapRising s.armed = true) ∧ (s.ephRuns c = true) ∧
        (mapGet? s.armed (1024 * c.val + i.val) = some t0) ∧ ((s.rtNow e).before t0 = false) ∧ (∀ y ∈ s.armedOf c,
        y.1 = i.val ∨ firesFirst (i.val, t0) y = true) ∧ (s.brokenIn (ephBase c + 32 * i.val) 32 = false) ∧
        (x = s.ephEntry c i) ∧ (x = ({ words ((rtS .run { line := 6 }).wr (ephPg 1) EPH_CFG_EN 1) (ephBase 1 + 96) [6, 0, 5, 0, 2] with armed := [(1027, (0, 5, 0))], srcs := [(146, { en := true })] }).ephEntry 1 3)) ∧
    (∃ (s : State) (c : Cl) (i : Fin 1024) (e : Nat) (find : Option Find) (begun : List Port),
      (∀ t0, mapGet? s.armed (1024 * c.val + i.val) = some t0 → s.ephRuns c = false ∨ (s.rtNow e).before t0 = true ∨
        ∃ y ∈ s.armedOf c, y.1 ≠ i.val ∧ firesFirst (i.val, t0) y = false) ∧ (s.faults = [])) ∧
    (∃ (s : State) (c : Cl) (i : Fin 1024) (e : Nat) (find : Option Find) (begun : List Port),
      (∀ t0, mapGet? s.armed (1024 * c.val + i.val) = some t0 → s.ephRuns c = false ∨ (s.rtNow e).before t0 = true ∨
        ∃ y ∈ s.armedOf c, y.1 ≠ i.val ∧ firesFirst (i.val, t0) y = false) ∧ (s.faults = []) ∧ (i = 3)) ∧
    (∃ (s : State) (c : Cl) (i : Fin 1024) (e : Nat) (find : Option Find) (begun : List Port),
      (∀ t0, mapGet? s.armed (1024 * c.val + i.val) = some t0 → s.ephRuns c = false ∨ (s.rtNow e).before t0 = true ∨
        ∃ y ∈ s.armedOf c, y.1 ≠ i.val ∧ firesFirst (i.val, t0) y = false) ∧ (s.faults = []) ∧ (i = 3)) ∧
    (∃ (s : State) (c : Cl) (i : Fin 1024) (e : Nat) (find : Option Find) (begun : List Port),
      (∀ t0, mapGet? s.armed (1024 * c.val + i.val) = some t0 → s.ephRuns c = false ∨ (s.rtNow e).before t0 = true ∨
        ∃ y ∈ s.armedOf c, y.1 ≠ i.val ∧ firesFirst (i.val, t0) y = false) ∧ (s.faults = []) ∧ (i = 3)) ∧
    (∃ (s : State) (pp : PPort) (c : Cl) (i : Fin 1024) (x : EphEntry),
      (s.opens pp (ephPg c)) ∧ ((s.arg0 (ephPg c)).testBit 31 = false) ∧ (i.val = s.arg0 (ephPg c) % 1024) ∧
        (mapRising s.armed = true) ∧ (s.brokenIn (ephBase c + 32 * i.val) 32 = false) ∧ (x = s.ephEntry c i) ∧
        (x.action ≠ 0) ∧ (x.valid = true) ∧ (x.rep = 0 → s.ephRuns c = false ∨ RTime.before (s.rt.frame, s.rt.line,
        255) (x.frame, x.line, x.sub) = true)) ∧
    (∃ (s : State) (pp : PPort) (c : Cl) (i : Fin 1024) (x : EphEntry),
      (s.opens pp (ephPg c)) ∧ ((s.arg0 (ephPg c)).testBit 31 = false) ∧ (i.val = s.arg0 (ephPg c) % 1024) ∧
        (mapRising s.armed = true) ∧ (s.brokenIn (ephBase c + 32 * i.val) 32 = false) ∧ (x = s.ephEntry c i) ∧
        (x.action ≠ 0) ∧ (x.valid = true) ∧ (x.rep = 0 → s.ephRuns c = false ∨ RTime.before (s.rt.frame, s.rt.line,
        255) (x.frame, x.line, x.sub) = true) ∧
        (x = ({ words ((rtS .run { line := 6 }).wr (ephPg 1) EPH_CFG_EN 1) (ephBase 1 + 96) [0x246, 0, 7, 0, 2] with armed := [(1027, (0, 5, 0))], srcs := [(146, { en := true })] }).ephEntry 1 3)) ∧
    (∃ (s : State) (pp : PPort) (c : Cl) (i : Fin 1024) (x : EphEntry),
      (s.opens pp (ephPg c)) ∧ ((s.arg0 (ephPg c)).testBit 31 = false) ∧ (i.val = s.arg0 (ephPg c) % 1024) ∧
        (mapRising s.armed = true) ∧ (s.brokenIn (ephBase c + 32 * i.val) 32 = false) ∧ (x = s.ephEntry c i) ∧
        (x.action ≠ 0) ∧ (x.valid = true) ∧ (x.rep = 0 → s.ephRuns c = false ∨ RTime.before (s.rt.frame, s.rt.line,
        255) (x.frame, x.line, x.sub) = true) ∧
        (x = ({ words ((rtS .run { line := 6 }).wr (ephPg 1) EPH_CFG_EN 1) (ephBase 1 + 96) [6, 0, 2, 0, 2] with armed := [(1027, (0, 5, 0))], srcs := [(146, { en := true })] }).ephEntry 1 3)) ∧
    (∃ (s : State) (pp : PPort) (c : Cl) (i : Fin 1024) (x : EphEntry),
      (s.opens pp (ephPg c)) ∧ ((s.arg0 (ephPg c)).testBit 31 = false) ∧ (i.val = s.arg0 (ephPg c) % 1024) ∧
        (mapRising s.armed = true) ∧ (x = s.ephEntry c i) ∧ (s.brokenIn (ephBase c + 32 * i.val) 32 = false) ∧
        (x.action = 0 ∨ x.valid = false)) ∧
    (∃ (s : State) (pp : PPort) (c : Cl) (i : Fin 1024) (x : EphEntry),
      (s.opens pp (ephPg c)) ∧ ((s.arg0 (ephPg c)).testBit 31 = false) ∧ (i.val = s.arg0 (ephPg c) % 1024) ∧
        (mapRising s.armed = true) ∧ (x = s.ephEntry c i) ∧ (s.brokenIn (ephBase c + 32 * i.val) 32 = false) ∧
        (x.action = 0 ∨ x.valid = false) ∧
        (x = ({ words ((rtS .run { line := 6 }).wr (ephPg 1) EPH_CFG_EN 1) (ephBase 1 + 96) [0x2, 0, 5, 0, 2] with armed := [(1027, (0, 5, 0))], srcs := [(146, { en := true })] }).ephEntry 1 3)) ∧
    (∃ (s : State) (pp : PPort) (c : Cl),
      (s.opens pp (ephPg c)) ∧ ((s.arg0 (ephPg c)).testBit 31 = true) ∧ (s.ephRuns c = false) ∧
        (mapRising s.armed = true)) ∧
    (∃ (s : State) (pp : PPort) (c : Cl) (i : Fin 1024),
      (s.opens pp (ephPg c)) ∧ ((s.arg0 (ephPg c)).testBit 31 = false) ∧ (i.val = s.arg0 (ephPg c) % 1024) ∧
        (mapRising s.armed = true)) ∧
    (∃ (s : State) (pp : PPort) (c : Cl) (i : Fin 1024),
      (s.opens pp (ephPg c)) ∧ ((s.arg0 (ephPg c)).testBit 31 = false) ∧ (i.val = s.arg0 (ephPg c) % 1024) ∧
        (mapRising s.armed = true) ∧ (i = 4)) ∧
    (∃ (s : State) (pp : PPort) (c : Cl),
      (s.opens pp (ephPg c)) ∧ ((s.arg0 (ephPg c)).testBit 31 = true) ∧ (mapRising s.armed = true)) :=
  ⟨⟨{ words ((rtS .run { line := 6 }).wr (ephPg 1) EPH_CFG_EN 1) (ephBase 1 + 96) [6, 0, 5, 0, 2] with armed := [(1027, (0, 5, 0))], srcs := [(146, { en := true })] },
    1, 3, 0, 146, [], ({ words ((rtS .run { line := 6 }).wr (ephPg 1) EPH_CFG_EN 1) (ephBase 1 + 96) [6, 0, 5, 0, 2] with armed := [(1027, (0, 5, 0))], srcs := [(146, { en := true })] }).ephEntry 1 3,
    (0, 5, 0),
      by decide +kernel⟩,
    ⟨{ words ((rtS .run { line := 6 }).wr (ephPg 1) EPH_CFG_EN 1) (ephBase 1 + 96) [0x246, 0, 5, 0, 2] with armed := [(1027, (0, 5, 0)), (1028, (0, 6, 0))], srcs := [(146, { en := true })] },
      1, 3, 0, 146, [], ({ words ((rtS .run { line := 6 }).wr (ephPg 1) EPH_CFG_EN 1) (ephBase 1 + 96) [0x246, 0, 5, 0, 2] with armed := [(1027, (0, 5, 0)), (1028, (0, 6, 0))], srcs := [(146, { en := true })] }).ephEntry 1 3,
      (0, 5, 0),
      by decide +kernel⟩,
    ⟨{ words ((rtS .run { line := 6 }).wr (ephPg 1) EPH_CFG_EN 1) (ephBase 1 + 96) [2, 0, 5, 0, 0x1, 0xFF] with armed := [(1027, (0, 5, 0))], srcs := [(146, { en := true })] },
      1, 3, 0, [], ({ words ((rtS .run { line := 6 }).wr (ephPg 1) EPH_CFG_EN 1) (ephBase 1 + 96) [2, 0, 5, 0, 0x1, 0xFF] with armed := [(1027, (0, 5, 0))], srcs := [(146, { en := true })] }).ephEntry 1 3,
      (0, 5, 0),
      by decide +kernel⟩,
    ⟨{ words ((rtS .run { line := 6 }).wr (ephPg 1) EPH_CFG_EN 1) (ephBase 1 + 96) [3, 0, 5, 0, 0, 0xFF] with armed := [(1027, (0, 5, 0))], srcs := [(146, { en := true })] },
      1, 3, 0, [], ({ words ((rtS .run { line := 6 }).wr (ephPg 1) EPH_CFG_EN 1) (ephBase 1 + 96) [3, 0, 5, 0, 0, 0xFF] with armed := [(1027, (0, 5, 0))], srcs := [(146, { en := true })] }).ephEntry 1 3,
      (0, 5, 0),
      by decide +kernel⟩,
    ⟨{ words ((rtS .run { line := 6 }).wr (ephPg 1) EPH_CFG_EN 1) (ephBase 1 + 96) [4, 0, 5, 0, 0x123, 0xFF] with armed := [(1027, (0, 5, 0))], srcs := [(146, { en := true })] },
      1, 3, 0, [], ({ words ((rtS .run { line := 6 }).wr (ephPg 1) EPH_CFG_EN 1) (ephBase 1 + 96) [4, 0, 5, 0, 0x123, 0xFF] with armed := [(1027, (0, 5, 0))], srcs := [(146, { en := true })] }).ephEntry 1 3,
      (0, 5, 0),
      by decide +kernel⟩,
    ⟨{ words ((rtS .run { line := 6 }).wr (ephPg 1) EPH_CFG_EN 1) (ephBase 1 + 96) [5, 0, 5, 0, 0] with armed := [(1027, (0, 5, 0))], srcs := [(146, { en := true })] },
      1, 3, 0, [], ({ words ((rtS .run { line := 6 }).wr (ephPg 1) EPH_CFG_EN 1) (ephBase 1 + 96) [5, 0, 5, 0, 0] with armed := [(1027, (0, 5, 0))], srcs := [(146, { en := true })] }).ephEntry 1 3,
      (0, 5, 0),
      by decide +kernel⟩,
    ⟨{ words ((rtS .run { line := 6 }).wr (ephPg 1) EPH_CFG_EN 1) (ephBase 1 + 96) [6, 0, 5, 0, 2] with armed := [(1027, (0, 5, 0))], srcs := [(146, { en := true })] },
      1, 3, 0, [], ({ words ((rtS .run { line := 6 }).wr (ephPg 1) EPH_CFG_EN 1) (ephBase 1 + 96) [6, 0, 5, 0, 2] with armed := [(1027, (0, 5, 0))], srcs := [(146, { en := true })] }).ephEntry 1 3,
      (0, 5, 0),
      by decide +kernel⟩,
    ⟨{ words ((rtS .run { line := 6 }).wr (ephPg 1) EPH_CFG_EN 1) (ephBase 1 + 96) [6, 0, 5, 0, 2] with armed := [(1027, (0, 5, 0))], srcs := [(146, { en := true })] },
      1, 4, 0, none, [],
      (fun t0 h => nomatch (show (none : Option RTime) = some t0 from h)), by decide +kernel⟩,
    ⟨({ words ((rtS .run { line := 6 }).wr (ephPg 1) EPH_CFG_EN 1) (ephBase 1 + 96) [6, 0, 5, 0, 2] with armed := [(1027, (0, 5, 0))], srcs := [(146, { en := true })] }).wr (ephPg 1) EPH_CFG_EN 0,
      1, 3, 0, none, [],
      (fun t0 h => .inl (by decide +kernel)), by decide +kernel⟩,
    ⟨{ words ((rtS .run { line := 6 }).wr (ephPg 1) EPH_CFG_EN 1) (ephBase 1 + 96) [6, 0, 5, 0, 2] with armed := [(1027, (0, 9, 0))], srcs := [(146, { en := true })] },
      1, 3, 0, none, [],
      (fun t0 h => .inr (.inl (by cases (show some ((0, 9, 0) : RTime) = some t0 from h); decide +kernel))),
        by decide +kernel⟩,
    ⟨{ words ((rtS .run { line := 6 }).wr (ephPg 1) EPH_CFG_EN 1) (ephBase 1 + 96) [6, 0, 5, 0, 2] with armed := [(1027, (0, 5, 0)), (1028, (0, 4, 0))], srcs := [(146, { en := true })] },
      1, 3, 0, none, [],
      (fun t0 h => .inr (.inr (by cases (show some ((0, 5, 0) : RTime) = some t0 from h); decide +kernel))),
        by decide +kernel⟩,
    ⟨arg ({ words ((rtS .run { line := 6 }).wr (ephPg 1) EPH_CFG_EN 1) (ephBase 1 + 96) [6, 0, 7, 0, 2] with armed := [(1027, (0, 5, 0))], srcs := [(146, { en := true })] }) (ephPg 1) 3 0,
      0, 1, 3, ({ words ((rtS .run { line := 6 }).wr (ephPg 1) EPH_CFG_EN 1) (ephBase 1 + 96) [6, 0, 7, 0, 2] with armed := [(1027, (0, 5, 0))], srcs := [(146, { en := true })] }).ephEntry 1 3,
      by unfold State.opens; decide +kernel⟩,
    ⟨arg ({ words ((rtS .run { line := 6 }).wr (ephPg 1) EPH_CFG_EN 1) (ephBase 1 + 96) [0x246, 0, 7, 0, 2] with armed := [(1027, (0, 5, 0))], srcs := [(146, { en := true })] }) (ephPg 1) 3 0,
      0, 1, 3, ({ words ((rtS .run { line := 6 }).wr (ephPg 1) EPH_CFG_EN 1) (ephBase 1 + 96) [0x246, 0, 7, 0, 2] with armed := [(1027, (0, 5, 0))], srcs := [(146, { en := true })] }).ephEntry 1 3,
      by unfold State.opens; decide +kernel⟩,
    ⟨arg (({ words ((rtS .run { line := 6 }).wr (ephPg 1) EPH_CFG_EN 1) (ephBase 1 + 96) [6, 0, 2, 0, 2] with armed := [(1027, (0, 5, 0))], srcs := [(146, { en := true })] }).wr (ephPg 1) EPH_CFG_EN 0) (ephPg 1) 3 0,
      0, 1, 3, ({ words ((rtS .run { line := 6 }).wr (ephPg 1) EPH_CFG_EN 1) (ephBase 1 + 96) [6, 0, 2, 0, 2] with armed := [(1027, (0, 5, 0))], srcs := [(146, { en := true })] }).ephEntry 1 3,
      by unfold State.opens; decide +kernel⟩,
    ⟨arg ({ words ((rtS .run { line := 6 }).wr (ephPg 1) EPH_CFG_EN 1) (ephBase 1 + 96) [0, 0, 5, 0, 2] with armed := [(1027, (0, 5, 0))], srcs := [(146, { en := true })] }) (ephPg 1) 3 0,
      0, 1, 3, ({ words ((rtS .run { line := 6 }).wr (ephPg 1) EPH_CFG_EN 1) (ephBase 1 + 96) [0, 0, 5, 0, 2] with armed := [(1027, (0, 5, 0))], srcs := [(146, { en := true })] }).ephEntry 1 3,
      by unfold State.opens; decide +kernel⟩,
    ⟨arg ({ words ((rtS .run { line := 6 }).wr (ephPg 1) EPH_CFG_EN 1) (ephBase 1 + 96) [0x2, 0, 5, 0, 2] with armed := [(1027, (0, 5, 0))], srcs := [(146, { en := true })] }) (ephPg 1) 3 0,
      0, 1, 3, ({ words ((rtS .run { line := 6 }).wr (ephPg 1) EPH_CFG_EN 1) (ephBase 1 + 96) [0x2, 0, 5, 0, 2] with armed := [(1027, (0, 5, 0))], srcs := [(146, { en := true })] }).ephEntry 1 3,
      by unfold State.opens; decide +kernel⟩,
    ⟨(arg ({ words ((rtS .run { line := 6 }).wr (ephPg 1) EPH_CFG_EN 1) (ephBase 1 + 96) [6, 0, 5, 0, 2] with armed := [(1027, (0, 5, 0))], srcs := [(146, { en := true })] }) (ephPg 1) 0x80000000 0).wr (ephPg 1) EPH_CFG_EN 0,
      0, 1,
      by unfold State.opens; decide +kernel⟩,
    ⟨arg ({ words ((rtS .run { line := 6 }).wr (ephPg 1) EPH_CFG_EN 1) (ephBase 1 + 96) [6, 0, 5, 0, 2] with armed := [(1027, (0, 5, 0))], srcs := [(146, { en := true })] }) (ephPg 1) 3 0,
      0, 1, 3,
      by unfold State.opens; decide +kernel⟩,
    ⟨arg ({ words ((rtS .run { line := 6 }).wr (ephPg 1) EPH_CFG_EN 1) (ephBase 1 + 96) [6, 0, 5, 0, 2] with armed := [(1027, (0, 5, 0))], srcs := [(146, { en := true })] }) (ephPg 1) 4 0,
      0, 1, 4,
      by unfold State.opens; decide +kernel⟩,
    ⟨arg ({ words ((rtS .run { line := 6 }).wr (ephPg 1) EPH_CFG_EN 1) (ephBase 1 + 96) [6, 0, 5, 0, 2] with armed := [(1027, (0, 5, 0)), (1028, (0, 6, 0)), (2050, (0, 1, 0))], srcs := [(146, { en := true })] }) (ephPg 1) 0x80000000 0,
      0, 1,
      by unfold State.opens; decide +kernel⟩⟩

theorem wit_BackwardStepsMoveFramesEntries :
    (∃ (s : State) (f : Nat),
      (s.faults = []) ∧ (s.tbRuns = true) ∧ (s.rt.tb = .free) ∧ (s.stalled = false) ∧ (s.rt.lines ≤ s.rt.line + 1) ∧
        (s.rt.setFrame = some f) ∧ (RTime.before (f, 0, 0) (s.rt.frame, s.rt.line, 255) = true)) ∧
    (∃ (s : State) (pp : PPort) (val : Word) (e : Nat) (m : RTime),
      (s.opens pp (ephPg 0)) ∧ (s.tbRuns = true) ∧ (s.rtSrc = 2) ∧ (m = (s.rd (ephPg 0) RT_MARK_FRAME_FRAME,
        bits val.toNat 0 12, bits val.toNat 12 8)) ∧ (m.before (s.rtNow e) = true) ∧
        (256 * s.rd (ephPg 0) RT_CFG_MARK_WIN < ((s.rtNow e).distance s.rt.lines m).natAbs) ∧ (s.rt.tb ≠ .free ∨
        s.rt.markRun = 0 ∨ s.noWindows)) :=
  ⟨⟨{ words (rtS .run { line := 1124, frame := 10, setFrame := some 3 }) (ephBase 1 + 96) [0x246, 1, 5, 0, 2] with armed := [(1027, (11, 5, 0)), (1028, (12, 5, 0))] },
    3,
      by decide +kernel⟩,
    ⟨{ words ((rtS .run { est := true, period := 700000, line := 5, frame := 10 }).wr (ephPg 0) RT_CFG_SRC 2 |>.wr (ephPg 0) RT_MARK_FRAME_FRAME 3) (ephBase 1 + 96) [0x246, 1, 5, 0, 2] with armed := [(1027, (11, 5, 0)), (1028, (12, 5, 0))] },
      0, 100, 0, (3, 100, 0),
      by unfold State.opens State.noWindows; decide +kernel⟩⟩

theorem wit_TargetConfigurationEndsClaims :
    (∃ (s : State) (pp : PPort) (k : Tgt) (val : Word),
      (s.opens pp (tnPg k)) ∧ (mapRising s.srcs = true) ∧ (s.mode = .configure) ∧
        (bits val.toNat 0 1 ≠ s.rd (tnPg k) T_CFG_MODE ∨ bits val.toNat 4 4 ≠ s.rd (tnPg k) T_CFG_FAST)) ∧
    (∃ (s : State) (pp : PPort) (k : Tgt) (val : Word),
      (s.opens pp (tnPg k)) ∧ (mapRising s.srcs = true) ∧ (s.mode = .configure) ∧
        (bits val.toNat 0 1 ≠ s.rd (tnPg k) T_CFG_MODE ∨ bits val.toNat 4 4 ≠ s.rd (tnPg k) T_CFG_FAST) ∧ (val = 0x30)) ∧
    (∃ (s : State) (pp : PPort) (k : Tgt) (val : Word),
      (s.opens pp (tnPg k)) ∧ (s.mode ≠ .configure) ∧ (bits val.toNat 0 1 ≠ s.rd (tnPg k) T_CFG_MODE ∨
        bits val.toNat 4 4 ≠ s.rd (tnPg k) T_CFG_FAST)) ∧
    (∃ (s : State) (pp : PPort) (k : Tgt) (val : Word),
      (s.opens pp (tnPg k)) ∧ (s.rd (tnPg k) T_CFG_MODE = bits val.toNat 0 1) ∧
        (s.rd (tnPg k) T_CFG_FAST = bits val.toNat 4 4)) ∧
    (∃ (s : State) (pp : PPort) (k : Tgt) (val : Word),
      (s.opens pp (tnPg k)) ∧ (s.rd (tnPg k) T_CFG_MODE = bits val.toNat 0 1) ∧
        (s.rd (tnPg k) T_CFG_FAST = bits val.toNat 4 4) ∧ (val = 0x50)) :=
  ⟨⟨{ srcS .configure 20 { pend with active := true, atgt := 2 } with tgts := [(2, { outN := true, stack := [(3, 20)] })] },
    0, 2, 1,
      by unfold State.opens; decide +kernel⟩,
    ⟨srcS .configure 20 { pend with active := true, atgt := 2 }, 0, 2, 0x30,
      by unfold State.opens; decide +kernel⟩,
    ⟨srcS .run 20 { pend with active := true, atgt := 2 }, 0, 2, 1,
      by unfold State.opens; decide +kernel⟩,
    ⟨inMode .run, 0, 2, 0,
      by unfold State.opens; decide +kernel⟩,
    ⟨(inMode .run).wr (tnPg 2) T_CFG_FAST 5, 0, 2, 0x50,
      by unfold State.opens; decide +kernel⟩⟩

theorem wit_SourcesRingsAndMailboxesAreWritten :
    (∃ (s : State) (pp : PPort) (val : Word) (n : Nat),
      (val.toNat.testBit 0 = false ∨ (s.src n).en = true ∨ sourcePage n = none ∨ ∃ p, sourcePage n = some p ∧
        s.pageCond p = false) ∧ (s.opens pp icuPg) ∧ (n = s.rd icuPg ICU_SRC_SEL_SRC) ∧ (sharedExists n = true) ∧
        (bits val.toNat 16 4 ≠ 0)) ∧
    (∃ (s : State) (pp : PPort) (val : Word) (n : Nat),
      (val.toNat.testBit 0 = false ∨ (s.src n).en = true ∨ sourcePage n = none ∨ ∃ p, sourcePage n = some p ∧
        s.pageCond p = false) ∧ (s.opens pp icuPg) ∧ (n = s.rd icuPg ICU_SRC_SEL_SRC) ∧ (sharedExists n = true) ∧
        (bits val.toNat 16 4 ≠ 0) ∧ (val = 0x00050320)) ∧
    (∃ (s : State) (pp : PPort) (val : Word) (n : Nat),
      (val.toNat.testBit 0 = false ∨ (s.src n).en = true ∨ sourcePage n = none ∨ ∃ p, sourcePage n = some p ∧
        s.pageCond p = false) ∧ (s.opens pp icuPg) ∧ (n = s.rd icuPg ICU_SRC_SEL_SRC) ∧ (sharedExists n = true) ∧
        (bits val.toNat 16 4 ≠ 0) ∧ (n = 70)) ∧
    (∃ (s : State) (pp : PPort) (val : Word) (n : Nat),
      (val.toNat.testBit 0 = false ∨ (s.src n).en = true ∨ sourcePage n = none ∨ ∃ p, sourcePage n = some p ∧
        s.pageCond p = false) ∧ (s.opens pp icuPg) ∧ (n = s.rd icuPg ICU_SRC_SEL_SRC) ∧ (sharedExists n = true) ∧
        (bits val.toNat 16 4 ≠ 0) ∧ (n = 261)) ∧
    (∃ (s : State) (pp : PPort) (val : Word) (n : Nat) (p : Nat),
      (s.opens pp icuPg) ∧ (n = s.rd icuPg ICU_SRC_SEL_SRC) ∧ (sharedExists n = true) ∧ (bits val.toNat 16 4 ≠ 0) ∧
        (val.toNat.testBit 0 = true) ∧ ((s.src n).en = false) ∧ (sourcePage n = some p) ∧ (s.pageCond p = true) ∧
        (s.icuRuns = true)) ∧
    (∃ (s : State) (pp : PPort) (val : Word),
      (s.opens pp icuPg) ∧ (sharedExists (s.rd icuPg ICU_SRC_SEL_SRC) = false ∨ bits val.toNat 16 4 = 0)) ∧
    (∃ (s : State) (pp : PPort) (val : Word),
      (s.opens pp icuPg) ∧ (sharedExists (s.rd icuPg ICU_SRC_SEL_SRC) = false ∨ bits val.toNat 16 4 = 0) ∧
        (val = 0x321)) ∧
    (∃ (s : State) (pp : PPort) (k : Tgt) (val : Word),
      (s.opens pp (tnPg k)) ∧ (bits val.toNat 0 4 < 4)) ∧
    (∃ (s : State) (pp : PPort) (k : Tgt) (val : Word),
      (s.opens pp (tnPg k)) ∧ (4 ≤ bits val.toNat 0 4) ∧ (s.flag (tnPg k) T_RING_CFG_EN = false ∨
        (bits val.toNat 0 4 = s.rd (tnPg k) T_RING_CFG_LOG2 ∧ (val.toNat.testBit 8 = true ∨
        s.rd (tnPg k) T_RING_RSV_SLOTS = 0)))) ∧
    (∃ (s : State) (pp : PPort) (k : Tgt) (val : Word),
      (s.opens pp (tnPg k)) ∧ (4 ≤ bits val.toNat 0 4) ∧ (s.flag (tnPg k) T_RING_CFG_EN = false ∨
        (bits val.toNat 0 4 = s.rd (tnPg k) T_RING_CFG_LOG2 ∧ (val.toNat.testBit 8 = true ∨
        s.rd (tnPg k) T_RING_RSV_SLOTS = 0))) ∧ (val = 0x5)) ∧
    (∃ (s : State) (pp : PPort) (k : Tgt) (val : Word),
      (s.opens pp (tnPg k)) ∧ (4 ≤ bits val.toNat 0 4) ∧ (s.flag (tnPg k) T_RING_CFG_EN = true) ∧
        (bits val.toNat 0 4 ≠ s.rd (tnPg k) T_RING_CFG_LOG2 ∨ (val.toNat.testBit 8 = false ∧
        s.rd (tnPg k) T_RING_RSV_SLOTS ≠ 0))) ∧
    (∃ (s : State) (pp : PPort) (k : Tgt) (val : Word),
      (s.opens pp (tnPg k)) ∧ (4 ≤ bits val.toNat 0 4) ∧ (s.flag (tnPg k) T_RING_CFG_EN = true) ∧
        (bits val.toNat 0 4 ≠ s.rd (tnPg k) T_RING_CFG_LOG2 ∨ (val.toNat.testBit 8 = false ∧
        s.rd (tnPg k) T_RING_RSV_SLOTS ≠ 0)) ∧ (val = 0x5)) ∧
    (∃ (s : State) (pp : PPort) (k : Tgt) (val : Word),
      (s.opens pp (tnPg k)) ∧
        ((bits (3 : Word).toNat 0 16 + 65536 - (((inMode .run).wr (tnPg 2) T_RING_PUT_PUT 5).wr (tnPg 2) T_RING_GET_GET 3).rd (tnPg 2) T_RING_GET_GET) % 65536 ≤ (((inMode .run).wr (tnPg 2) T_RING_PUT_PUT 5).wr (tnPg 2) T_RING_GET_GET 3).ringFill 2)) ∧
    (∃ (s : State) (pp : PPort) (k : Tgt) (val : Word),
      (s.opens pp (tnPg k)) ∧
        ((bits (5 : Word).toNat 0 16 + 65536 - (((inMode .run).wr (tnPg 2) T_RING_PUT_PUT 5).wr (tnPg 2) T_RING_GET_GET 3).rd (tnPg 2) T_RING_GET_GET) % 65536 ≤ (((inMode .run).wr (tnPg 2) T_RING_PUT_PUT 5).wr (tnPg 2) T_RING_GET_GET 3).ringFill 2)) ∧
    (∃ (s : State) (pp : PPort) (k : Tgt) (val : Word),
      (s.opens pp (tnPg k)) ∧
        ((((inMode .run).wr (tnPg 2) T_RING_PUT_PUT 5).wr (tnPg 2) T_RING_GET_GET 3).ringFill 2 < (bits (6 : Word).toNat 0 16 + 65536 - (((inMode .run).wr (tnPg 2) T_RING_PUT_PUT 5).wr (tnPg 2) T_RING_GET_GET 3).rd (tnPg 2) T_RING_GET_GET) % 65536)) ∧
    (∃ (s : State) (pp : PPort) (k : Tgt) (val : Word),
      (s.opens pp (tnPg k)) ∧
        ((((inMode .run).wr (tnPg 2) T_RING_PUT_PUT 5).wr (tnPg 2) T_RING_GET_GET 3).ringFill 2 < (bits (2 : Word).toNat 0 16 + 65536 - (((inMode .run).wr (tnPg 2) T_RING_PUT_PUT 5).wr (tnPg 2) T_RING_GET_GET 3).rd (tnPg 2) T_RING_GET_GET) % 65536)) ∧
    (∃ (s : State) (pp : PPort) (k : Tgt) (val : Word) (d : Nat),
      (s.opens pp (tnPg k)) ∧ (d = bits val.toNat 0 4)) ∧
    (∃ (s : State) (pp : PPort) (k : Tgt) (val : Word) (d : Nat),
      (s.opens pp (tnPg k)) ∧ (d = bits val.toNat 0 4) ∧ (val = 0x12340004) ∧ (d = 4)) ∧
    (∃ (s : State) (pp : PPort) (k : Tgt),
      (s.faults = []) ∧ (s.down = false)) :=
  ⟨⟨(srcS .run 20 { pend with pin := true }).wr icuPg ICU_SRC_SEL_SRC 20, 0, 0x00050321, 20,
      (.inr (.inl (by decide +kernel))), by unfold State.opens; decide +kernel⟩,
    ⟨(srcS .run 20 pend).wr icuPg ICU_SRC_SEL_SRC 20, 0, 0x00050320, 20,
      (.inl (by decide +kernel)), by unfold State.opens; decide +kernel⟩,
    ⟨(inMode .run).wr icuPg ICU_SRC_SEL_SRC 70, 0, 0x00050321, 70,
      (.inr (.inr (.inl (by decide +kernel)))), by unfold State.opens; decide +kernel⟩,
    ⟨(inMode .run).wr icuPg ICU_SRC_SEL_SRC 261, 0, 0x00050321, 261,
      (.inr (.inr (.inr ⟨portPg 5, by decide +kernel⟩))), by unfold State.opens; decide +kernel⟩,
    ⟨(((inMode .run).wr (portPg 5) PAGE_IRQ_PEND_PEND 2).wr (portPg 5) PAGE_IRQ_EN_EN 2).wr icuPg ICU_SRC_SEL_SRC 261, 0,
      0x00050321, 261, portPg 5,
      by unfold State.opens; decide +kernel⟩,
    ⟨(inMode .run).wr icuPg ICU_SRC_SEL_SRC 13, 0, 0x00050321,
      by unfold State.opens; decide +kernel⟩,
    ⟨(inMode .run).wr icuPg ICU_SRC_SEL_SRC 20, 0, 0x321,
      by unfold State.opens; decide +kernel⟩,
    ⟨inMode .run, 0, 2, 0x103,
      by unfold State.opens; decide +kernel⟩,
    ⟨((inMode .run).wr (tnPg 2) T_RING_PUT_PUT 5).wr (tnPg 2) T_RING_GET_GET 3, 0, 2, 0x105,
      by unfold State.opens; decide +kernel⟩,
    ⟨((inMode .run).wr (tnPg 2) T_RING_PUT_PUT 5).wr (tnPg 2) T_RING_GET_GET 3, 0, 2, 0x5,
      by unfold State.opens; decide +kernel⟩,
    ⟨(((inMode .run).wr (tnPg 2) T_RING_PUT_PUT 5).wr (tnPg 2) T_RING_GET_GET 3).wr (tnPg 2) T_RING_CFG_EN 1, 0, 2, 0x105,
      by unfold State.opens; decide +kernel⟩,
    ⟨(((((inMode .run).wr (tnPg 2) T_RING_PUT_PUT 5).wr (tnPg 2) T_RING_GET_GET 3).wr (tnPg 2) T_RING_CFG_EN 1).wr (tnPg 2) T_RING_CFG_LOG2 5).wr (tnPg 2) T_RING_RSV_SLOTS 1,
      0, 2, 0x5,
      by unfold State.opens; decide +kernel⟩,
    ⟨((inMode .run).wr (tnPg 2) T_RING_PUT_PUT 5).wr (tnPg 2) T_RING_GET_GET 3, 0, 2, 3,
      by unfold State.opens; decide +kernel⟩,
    ⟨((inMode .run).wr (tnPg 2) T_RING_PUT_PUT 5).wr (tnPg 2) T_RING_GET_GET 3, 0, 2, 5,
      by unfold State.opens; decide +kernel⟩,
    ⟨((inMode .run).wr (tnPg 2) T_RING_PUT_PUT 5).wr (tnPg 2) T_RING_GET_GET 3, 0, 2, 6,
      by unfold State.opens; decide +kernel⟩,
    ⟨((inMode .run).wr (tnPg 2) T_RING_PUT_PUT 5).wr (tnPg 2) T_RING_GET_GET 3, 0, 2, 2,
      by unfold State.opens; decide +kernel⟩,
    ⟨{ (inMode .run).wr (tnPg 2) T_MAIL_IN_VALID 1 with srcs := [(4131, { en := true })] }, 1, 4, 0x12340002, 2,
      by unfold State.opens; decide +kernel⟩,
    ⟨inMode .run, 1, 4, 0x12340004, 4,
      by unfold State.opens; decide +kernel⟩,
    ⟨((inMode .run).wr (tnPg 2) T_MAIL_IN_VALID 1).wr (tnPg 2) T_MAIL_IN_LOST 4, 3, 2,
      by decide +kernel⟩⟩

theorem wit_EventsAreClassified :
    (∃ (s : State) (l : Nat) (src : FaultSrc) (x : LineState) (now : Nat) (c0 : Nat) (c1 : Nat) (l1 : Nat) (lvl : Nat),
      ((∃ f, src = .inject f) ∨ (s.masked ⟨l, src⟩ = false ∧ (l = 58 ∨ s.lcfg l FCO_LCFG_A_EN ≠ 0))) ∧
        (s.collects = true) ∧ (x = s.line l) ∧ (now = s.windowNow l) ∧ (c0 = (if s.lcfg l FCO_LCFG_A_W ≠ 0 ∧ 0 < x.count ∧
        s.lcfg l FCO_LCFG_A_W ≤ now - x.wstart then 0 else x.count)) ∧ (c1 = min (c0 + 1) 255) ∧
        (l1 = (if s.lcfg l FCO_LCFG_A_N ≤ c1 then max (s.lcfg l FCO_LCFG_A_BASE) (s.lcfg l FCO_LCFG_A_CNT) else s.lcfg l FCO_LCFG_A_BASE)) ∧
        (lvl = max (if x.sticky = true then max (max l1 (min (x.level + 1) (s.lcfg l FCO_LCFG_A_CAP))) x.level else l1) (match src with | .inject (some v) => v | _ => 0))) ∧
    (∃ (s : State) (l : Nat) (src : FaultSrc) (x : LineState) (now : Nat) (c0 : Nat) (c1 : Nat) (l1 : Nat) (lvl : Nat),
      ((∃ f, src = .inject f) ∨ (s.masked ⟨l, src⟩ = false ∧ (l = 58 ∨ s.lcfg l FCO_LCFG_A_EN ≠ 0))) ∧
        (s.collects = true) ∧ (x = s.line l) ∧ (now = s.windowNow l) ∧ (c0 = (if s.lcfg l FCO_LCFG_A_W ≠ 0 ∧ 0 < x.count ∧
        s.lcfg l FCO_LCFG_A_W ≤ now - x.wstart then 0 else x.count)) ∧ (c1 = min (c0 + 1) 255) ∧
        (l1 = (if s.lcfg l FCO_LCFG_A_N ≤ c1 then max (s.lcfg l FCO_LCFG_A_BASE) (s.lcfg l FCO_LCFG_A_CNT) else s.lcfg l FCO_LCFG_A_BASE)) ∧
        (lvl = max (if x.sticky = true then max (max l1 (min (x.level + 1) (s.lcfg l FCO_LCFG_A_CAP))) x.level else l1) (match src with | .inject (some v) => v | _ => 0)) ∧
        (l = 8) ∧ (src = .cl 0) ∧
        (x = ({ inMode .run with lines := [(8, { sticky := true, level := 2, count := 7 })] }).line 8) ∧
        (now = ({ inMode .run with lines := [(8, { sticky := true, level := 2, count := 7 })] }).windowNow 8) ∧ (c0 = 7) ∧
        (c1 = 8) ∧ (l1 = 3) ∧ (lvl = 3)) ∧
    (∃ (s : State) (l : Nat) (src : FaultSrc) (x : LineState) (now : Nat) (c0 : Nat) (c1 : Nat) (l1 : Nat) (lvl : Nat),
      ((∃ f, src = .inject f) ∨ (s.masked ⟨l, src⟩ = false ∧ (l = 58 ∨ s.lcfg l FCO_LCFG_A_EN ≠ 0))) ∧
        (s.collects = true) ∧ (x = s.line l) ∧ (now = s.windowNow l) ∧ (c0 = (if s.lcfg l FCO_LCFG_A_W ≠ 0 ∧ 0 < x.count ∧
        s.lcfg l FCO_LCFG_A_W ≤ now - x.wstart then 0 else x.count)) ∧ (c1 = min (c0 + 1) 255) ∧
        (l1 = (if s.lcfg l FCO_LCFG_A_N ≤ c1 then max (s.lcfg l FCO_LCFG_A_BASE) (s.lcfg l FCO_LCFG_A_CNT) else s.lcfg l FCO_LCFG_A_BASE)) ∧
        (lvl = max (if x.sticky = true then max (max l1 (min (x.level + 1) (s.lcfg l FCO_LCFG_A_CAP))) x.level else l1) (match src with | .inject (some v) => v | _ => 0)) ∧
        (l = 45) ∧ (src = .inject (some 3)) ∧ (x = ({ inMode .update with resets := [.cores] }).line 45) ∧
        (now = ({ inMode .update with resets := [.cores] }).windowNow 45) ∧ (l1 = 2) ∧ (lvl = 3)) ∧
    (∃ (s : State) (pp : PPort) (hi : Bool) (val : Word),
      (s.opens pp fcoPg)) ∧
    (∃ (s : State) (pp : PPort) (hi : Bool) (val : Word),
      (s.opens pp fcoPg) ∧ (hi = false)) :=
  ⟨⟨inMode .run, 20, .dev, (inMode .run).line 20, (inMode .run).windowNow 20, 0, 1, 0, 0,
      (.inr (by decide +kernel)), by decide +kernel⟩,
    ⟨{ inMode .run with lines := [(8, { sticky := true, level := 2, count := 7 })] }, 8, .cl 0,
      ({ inMode .run with lines := [(8, { sticky := true, level := 2, count := 7 })] }).line 8,
      ({ inMode .run with lines := [(8, { sticky := true, level := 2, count := 7 })] }).windowNow 8, 7, 8, 3, 3,
      (.inr (by decide +kernel)), by decide +kernel⟩,
    ⟨{ inMode .update with resets := [.cores] }, 45, .inject (some 3),
      ({ inMode .update with resets := [.cores] }).line 45, ({ inMode .update with resets := [.cores] }).windowNow 45, 0,
      1, 2, 3,
      (.inl ⟨some 3, rfl⟩), by decide +kernel⟩,
    ⟨{ inMode .run with lines := [(3, { sticky := true, level := 2, count := 1 }), (40, { sticky := true, level := 1 })] },
      0, true, 0x108,
      by unfold State.opens; decide +kernel⟩,
    ⟨{ inMode .run with lines := [(3, { sticky := true, level := 2, count := 1 }), (40, { sticky := true, level := 1 })] },
      0, false, 0x108,
      by unfold State.opens; decide +kernel⟩⟩

theorem wit_ReactionsFollowTheLevel :
    (∃ (s : State) (e : FaultEvent),
      (s.collects = true) ∧ (s.masked e = true)) ∧
    (∃ (s : State) (l : Nat) (lvl : Nat),
      (s.faults = []) ∧ (s.mode ≠ .safe) ∧ (s.mode ≠ .update) ∧ (s.unfencing = none) ∧ (lvl ≤ 3) ∧
        ((if lvl = 0 then s.lcfg l FCO_LCFG_B_NOTE else if lvl = 1 then s.lcfg l FCO_LCFG_B_MINOR else if lvl = 2 then s.lcfg l FCO_LCFG_B_MAJOR else s.lcfg l FCO_LCFG_B_SEVERE) = 1) ∧
        (s.icuRuns = true) ∧ ((s.src (64 + l)).en = true)) ∧
    (∃ (s : State) (l : Nat) (lvl : Nat),
      (s.faults = []) ∧ (s.mode ≠ .safe) ∧ (s.mode ≠ .update) ∧ (s.unfencing = none) ∧ (lvl ≤ 3) ∧
        ((if lvl = 0 then s.lcfg l FCO_LCFG_B_NOTE else if lvl = 1 then s.lcfg l FCO_LCFG_B_MINOR else if lvl = 2 then s.lcfg l FCO_LCFG_B_MAJOR else s.lcfg l FCO_LCFG_B_SEVERE) = 1) ∧
        (s.icuRuns = true) ∧ ((s.src (64 + l)).en = true) ∧ (l = 47)) ∧
    (∃ (s : State) (l : Nat) (lvl : Nat) (src : FaultSrc),
      (s.faults = []) ∧ (s.mode ≠ .safe) ∧ (s.mode ≠ .update) ∧ (s.unfencing = none) ∧ (lvl ≤ 3) ∧
        (s.reaction l lvl = 0)) ∧
    (∃ (s : State) (l : Nat) (c : Nat) (lvl : Nat) (src : FaultSrc),
      (s.mode = .run ∨ s.mode = .degraded) ∧ (s.moving = none) ∧ (lineCluster l = some c) ∧ (s.fencedCl c = false) ∧
        (s.reaction l lvl = 3)) ∧
    (∃ (s : State) (l : Nat) (lvl : Nat) (src : FaultSrc),
      (s.mode ≠ .safe) ∧ (s.mode ≠ .update) ∧ (s.reaction l lvl = 2) ∧ (l = 45 ∨ l = 46)) ∧
    (∃ (s : State) (l : Nat) (lvl : Nat) (src : FaultSrc),
      (s.mode ≠ .safe) ∧ (s.mode ≠ .update) ∧ (s.reaction l lvl = 2) ∧ (l = 45 ∨ l = 46) ∧ (l = 46)) ∧
    (∃ (s : State) (l : Nat) (src : FaultSrc),
      (s.faults = []) ∧ (s.collects = true) ∧ (s.mode ≠ .update)) ∧
    (∃ (s : State) (l : Nat) (src : FaultSrc),
      (s.faults = []) ∧ (s.collects = true) ∧ (s.mode ≠ .update) ∧ (l = 45) ∧ (src = .dev)) :=
  ⟨⟨(inMode .run).wr devPg DEV_CLUSTERS_FENCED 1, ⟨8, .cl 0⟩,
      by decide +kernel⟩,
    ⟨srcS .run 73 { en := true }, 9, 1,
      by decide +kernel⟩,
    ⟨srcS .run 111 { en := true }, 47, 1,
      by decide +kernel⟩,
    ⟨inMode .run, 9, 0, .cl 1,
      by decide +kernel⟩,
    ⟨inMode .run, 9, 1, 3, .cl 1,
      by decide +kernel⟩,
    ⟨{ inMode .run with stalled := true }, 45, 2, .dev,
      by decide +kernel⟩,
    ⟨{ inMode .run with stalled := true }, 46, 2, .dev,
      by decide +kernel⟩,
    ⟨inMode .run, 9, .cl 1,
      by decide +kernel⟩,
    ⟨inMode .configure, 45, .dev,
      by decide +kernel⟩⟩

theorem wit_DetectorsRaiseEvents :
    (∃ (s : State) (w : ResetWhat),
      (s.resets.contains (resetJobOf w) = true ∨ ∃ c : Cl, w = .fence c ∧ s.unfencing = some c.val) ∧ (s.faults = []) ∧
        (s.down = false) ∧ (w ≠ .safe)) ∧
    (∃ (s : State) (w : ResetWhat),
      (s.resets.contains (resetJobOf w) = true ∨ ∃ c : Cl, w = .fence c ∧ s.unfencing = some c.val) ∧ (s.faults = []) ∧
        (s.down = false) ∧ (w ≠ .safe) ∧ (w = .fence 2)) ∧
    (∃ (s : State) (l : Line),
      (s.faults = []) ∧ (s.down = false) ∧ (s.lineCond l = true)) ∧
    (∃ (s : State) (l : Line),
      (s.faults = []) ∧ (s.down = false) ∧ (s.lineCond l = true) ∧ (l = 48)) ∧
    (∃ (s : State) (w : ResetWhat) (l : Line) (r : Instr),
      ((r = .reactFail w ∧ (w = .safe ∨ (s.resets.contains (resetJobOf w) = false ∧ s.unfencing = none))) ∨
        (r = .levelLineTick l ∧ s.lineCond l = false) ∨ (r = .resetDone w ∧ s.resets.contains (resetJobOf w) = false)) ∧
        (s.faults = [])) ∧
    (∃ (s : State) (w : ResetWhat) (l : Line) (r : Instr),
      ((r = .reactFail w ∧ (w = .safe ∨ (s.resets.contains (resetJobOf w) = false ∧ s.unfencing = none))) ∨
        (r = .levelLineTick l ∧ s.lineCond l = false) ∨ (r = .resetDone w ∧ s.resets.contains (resetJobOf w) = false)) ∧
        (s.faults = []) ∧ (w = .cores) ∧ (r = .reactFail .cores)) ∧
    (∃ (s : State) (w : ResetWhat) (l : Line) (r : Instr),
      ((r = .reactFail w ∧ (w = .safe ∨ (s.resets.contains (resetJobOf w) = false ∧ s.unfencing = none))) ∨
        (r = .levelLineTick l ∧ s.lineCond l = false) ∨ (r = .resetDone w ∧ s.resets.contains (resetJobOf w) = false)) ∧
        (s.faults = []) ∧ (l = 49) ∧ (r = .levelLineTick 49)) ∧
    (∃ (s : State) (w : ResetWhat) (l : Line) (r : Instr),
      ((r = .reactFail w ∧ (w = .safe ∨ (s.resets.contains (resetJobOf w) = false ∧ s.unfencing = none))) ∨
        (r = .levelLineTick l ∧ s.lineCond l = false) ∨ (r = .resetDone w ∧ s.resets.contains (resetJobOf w) = false)) ∧
        (s.faults = []) ∧ (w = .cores) ∧ (r = .resetDone .cores)) ∧
    (∃ (s : State),
      (s.faults = []) ∧ (s.down = false)) ∧
    (∃ (s : State),
      (s.faults = []) ∧ (s.down = false)) ∧
    (∃ (s : State),
      (s.faults = []) ∧ (s.down = false) ∧ (s.parityBad = [])) ∧
    (∃ (s : State),
      (s.faults = []) ∧ (s.down = false) ∧ (s.mode ≠ .loader) ∧ (s.parityBad = []) ∧ (∀ n < 4,
        s.rd (ppPg n) PP_PANIC_STATE = 0)) ∧
    (∃ (s : State) (pp : PPort) (val : Word),
      (s.opens pp fcoPg) ∧ (bits val.toNat 0 6 ≠ 58) ∧ (bits val.toNat 8 3 ≤ 4)) ∧
    (∃ (s : State) (pp : PPort) (val : Word),
      (s.opens pp fcoPg) ∧ (bits val.toNat 0 6 ≠ 58) ∧ (bits val.toNat 8 3 ≤ 4) ∧ (val = 9)) ∧
    (∃ (s : State) (pp : PPort) (val : Word),
      (s.opens pp fcoPg) ∧ (bits val.toNat 0 6 = 58 ∨ 4 < bits val.toNat 8 3)) ∧
    (∃ (s : State) (pp : PPort) (val : Word),
      (s.opens pp fcoPg) ∧ (bits val.toNat 0 6 = 58 ∨ 4 < bits val.toNat 8 3) ∧ (val = 0x509)) ∧
    (∃ (s : State) (w : ResetWhat) (n : Port),
      (w = .port n ∨ ∃ c : Cl, w = .ports c ∧ n.val / 16 = c.val) ∧ (s.faults = []) ∧ (s.down = false) ∧
        (s.resets.contains (resetJobOf w) = true)) ∧
    (∃ (s : State) (w : ResetWhat) (n : Port),
      (w = .port n ∨ ∃ c : Cl, w = .ports c ∧ n.val / 16 = c.val) ∧ (s.faults = []) ∧ (s.down = false) ∧
        (s.resets.contains (resetJobOf w) = true) ∧ (w = .ports 0)) ∧
    (∃ (s : State) (w : ResetWhat),
      (∀ n, w ≠ .port n) ∧ (∀ c, w ≠ .ports c) ∧ (s.faults = []) ∧ (s.down = false) ∧
        (s.resets.contains (resetJobOf w) = true)) :=
  ⟨⟨{ inMode .run with resets := [.cores] }, .cores,
      (.inl (by decide +kernel)), by decide +kernel⟩,
    ⟨{ inMode .configure with unfencing := some 2 }, .fence 2,
      (.inr ⟨2, by decide +kernel⟩), by decide +kernel⟩,
    ⟨{ inMode .run with chip := { outRange := 4 } }, 52,
      by decide +kernel⟩,
    ⟨{ inMode .run with fuses := { mismatch := true } }, 48,
      by decide +kernel⟩,
    ⟨inMode .run, .safe, 5, .reactFail .safe,
      (.inl ⟨rfl, by decide +kernel⟩), by decide +kernel⟩,
    ⟨inMode .run, .cores, 5, .reactFail .cores,
      (.inl ⟨rfl, by decide +kernel⟩), by decide +kernel⟩,
    ⟨inMode .run, .safe, 49, .levelLineTick 49,
      (.inr (.inl ⟨rfl, by decide +kernel⟩)), by decide +kernel⟩,
    ⟨inMode .run, .cores, 5, .resetDone .cores,
      (.inr (.inr ⟨rfl, by decide +kernel⟩)), by decide +kernel⟩,
    ⟨inMode .run,
      by decide +kernel⟩,
    ⟨inMode .run,
      by decide +kernel⟩,
    ⟨inMode .loader,
      by decide +kernel⟩,
    ⟨inMode .run,
      by decide +kernel⟩,
    ⟨inMode .run, 0, 0xC09,
      by unfold State.opens; decide +kernel⟩,
    ⟨inMode .run, 0, 9,
      by unfold State.opens; decide +kernel⟩,
    ⟨inMode .run, 0, 58,
      by unfold State.opens; decide +kernel⟩,
    ⟨inMode .run, 0, 0x509,
      by unfold State.opens; decide +kernel⟩,
    ⟨{ portIn .run 2 2 {} with resets := [.port 5, .cores] }, .port 5, 5,
      (.inl rfl), by decide +kernel⟩,
    ⟨{ portIn .run 2 2 {} with resets := [.ports 0] }, .ports 0, 5,
      (.inr ⟨0, rfl, rfl⟩), by decide +kernel⟩,
    ⟨{ inMode .run with resets := [.fence 2, .cores] }, .cores,
      (fun _ h => by cases h), (fun _ h => by cases h), by decide +kernel⟩⟩

theorem wit_FencesAndSafeEnd :
    (∃ (s : State) (pp : PPort) (c : Nat),
      (s.opens pp fcoPg) ∧ (s.unfenceOk = true) ∧ (c = s.arg0 fcoPg % 8)) ∧
    (∃ (s : State) (pp : PPort) (r : Instr),
      ((r = .unfence pp ∧ s.unfenceOk = false) ∨ (r = .defaults pp ∧ s.defaultsOk = false)) ∧ (s.opens pp fcoPg)) ∧
    (∃ (s : State) (pp : PPort) (r : Instr),
      ((r = .unfence pp ∧ s.unfenceOk = false) ∨ (r = .defaults pp ∧ s.defaultsOk = false)) ∧ (s.opens pp fcoPg) ∧
        (r = .defaults 0)) ∧
    (∃ (s : State) (locked : Bool) (r : Instr),
      ((r = .unfenceDone locked ∧ (s.unfencing = none ∨ s.stalled = true)) ∨ (r = .safeExitDone ∧
        (s.moving ≠ some .safeExit ∨ s.stalled = true ∨ (s.chans.any fun e => !e.2.outst.isEmpty) = true))) ∧
        (s.faults = [])) ∧
    (∃ (s : State) (locked : Bool) (r : Instr),
      ((r = .unfenceDone locked ∧ (s.unfencing = none ∨ s.stalled = true)) ∨ (r = .safeExitDone ∧
        (s.moving ≠ some .safeExit ∨ s.stalled = true ∨ (s.chans.any fun e => !e.2.outst.isEmpty) = true))) ∧
        (s.faults = []) ∧ (locked = false) ∧ (r = .unfenceDone false)) ∧
    (∃ (s : State) (locked : Bool) (r : Instr),
      ((r = .unfenceDone locked ∧ (s.unfencing = none ∨ s.stalled = true)) ∨ (r = .safeExitDone ∧
        (s.moving ≠ some .safeExit ∨ s.stalled = true ∨ (s.chans.any fun e => !e.2.outst.isEmpty) = true))) ∧
        (s.faults = []) ∧ (r = .safeExitDone)) ∧
    (∃ (s : State) (locked : Bool) (r : Instr),
      ((r = .unfenceDone locked ∧ (s.unfencing = none ∨ s.stalled = true)) ∨ (r = .safeExitDone ∧
        (s.moving ≠ some .safeExit ∨ s.stalled = true ∨ (s.chans.any fun e => !e.2.outst.isEmpty) = true))) ∧
        (s.faults = []) ∧ (r = .safeExitDone)) ∧
    (∃ (s : State) (locked : Bool) (r : Instr),
      ((r = .unfenceDone locked ∧ (s.unfencing = none ∨ s.stalled = true)) ∨ (r = .safeExitDone ∧
        (s.moving ≠ some .safeExit ∨ s.stalled = true ∨ (s.chans.any fun e => !e.2.outst.isEmpty) = true))) ∧
        (s.faults = []) ∧ (r = .safeExitDone)) ∧
    (∃ (s : State) (c : Nat),
      (s.faults = []) ∧ (s.stalled = false) ∧ (s.mode ≠ .degraded) ∧ (s.mode ≠ .run) ∧ (s.unfencing = some c) ∧ (c < 8)) ∧
    (∃ (s : State) (c : Nat) (left : Nat),
      (s.faults = []) ∧ (s.stalled = false) ∧ (s.mode = .degraded) ∧ (s.unfencing = some c) ∧
        (left = clearBits (s.rd devPg DEV_CLUSTERS_FENCED) (2 ^ c))) ∧
    (∃ (s : State) (c : Nat) (left : Nat),
      (s.faults = []) ∧ (s.stalled = false) ∧ (s.mode = .degraded) ∧ (s.unfencing = some c) ∧
        (left = clearBits (s.rd devPg DEV_CLUSTERS_FENCED) (2 ^ c)) ∧ (left = 1)) ∧
    (∃ (s : State) (c : Nat),
      (s.faults = []) ∧ (s.stalled = false) ∧ (s.unfencing = some c)) ∧
    (∃ (s : State),
      (s.faults = []) ∧ (s.stalled = false) ∧ (s.moving = some .safeExit) ∧
        ((s.chans.any fun e => !e.2.outst.isEmpty) = false)) ∧
    (∃ (s : State) (pp : PPort),
      (s.opens pp fcoPg) ∧ (s.defaultsOk = true)) :=
  ⟨⟨{ words (arg ((inMode .configure).wr devPg DEV_CLUSTERS_FENCED 12) fcoPg 3 0) (sliceBase 3 + 64) [1] with armed := [(3075, (1, 1, 1)), (1028, (1, 1, 1))], bufCount := [(3073, 5)] },
    0, 3,
      by unfold State.opens; decide +kernel⟩,
    ⟨inMode .run, 0, .unfence 0,
      (.inl ⟨rfl, by decide +kernel⟩), by unfold State.opens; decide +kernel⟩,
    ⟨inMode .run, 0, .defaults 0,
      (.inr ⟨rfl, by decide +kernel⟩), by unfold State.opens; decide +kernel⟩,
    ⟨inMode .run, true, .unfenceDone true,
      (.inl ⟨rfl, by decide +kernel⟩), by decide +kernel⟩,
    ⟨{ inMode .configure with unfencing := some 3, stalled := true }, false, .unfenceDone false,
      (.inl ⟨rfl, by decide +kernel⟩), by decide +kernel⟩,
    ⟨inMode .run, true, .safeExitDone,
      (.inr ⟨rfl, by decide +kernel⟩), by decide +kernel⟩,
    ⟨{ inMode .safe with moving := some .safeExit, stalled := true }, true, .safeExitDone,
      (.inr ⟨rfl, by decide +kernel⟩), by decide +kernel⟩,
    ⟨{ inMode .safe with moving := some .safeExit, chans := [(33, { outst := [readB] })] }, true, .safeExitDone,
      (.inr ⟨rfl, by decide +kernel⟩), by decide +kernel⟩,
    ⟨{ busy ((inMode .configure).wr devPg DEV_CLUSTERS_FENCED 12) fcoPg 1 with unfencing := some 3 }, 3,
      by decide +kernel⟩,
    ⟨{ busy ((inMode .degraded).wr devPg DEV_CLUSTERS_FENCED 8) fcoPg 1 with unfencing := some 3 }, 3, 0,
      by decide +kernel⟩,
    ⟨{ busy ((inMode .degraded).wr devPg DEV_CLUSTERS_FENCED 9) fcoPg 1 with unfencing := some 3 }, 3, 1,
      by decide +kernel⟩,
    ⟨{ busy ((inMode .degraded).wr devPg DEV_CLUSTERS_FENCED 8) fcoPg 1 with unfencing := some 3 }, 3,
      by decide +kernel⟩,
    ⟨{ busy (inMode .safe) devPg 1 with moving := some .safeExit },
      by decide +kernel⟩,
    ⟨{ (inMode .safe).wr fcoPg FCO_LCFG_A_N 9 5 with parityBad := [10] }, 0,
      by unfold State.opens; decide +kernel⟩⟩

theorem wit_SnapshotsAreTakenAndWritten :
    (∃ (s : State) (volts : List (BitVec 16)),
      (s.faults = []) ∧ (s.telRuns = true) ∧ (s.snap = none) ∧ (s.linkUp (s.rd telPg TEL_CFG_PP) = true)) ∧
    (∃ (s : State) (volts : List (BitVec 16)),
      (s.faults = []) ∧ (s.telRuns = true) ∧ (s.snap ≠ none ∨ s.linkUp (s.rd telPg TEL_CFG_PP) = false)) ∧
    (∃ (s : State) (x : Snapshot),
      (s.faults = []) ∧ (s.down = false) ∧ (s.snap = some x) ∧ (s.serves x.pp = true)) ∧
    (∃ (s : State) (pp : PPort),
      (s.opens pp telPg)) ∧
    (∃ (s : State) (volts : List (BitVec 16)) (r : Instr),
      ((r = .snapshotDue volts ∧ s.telRuns = false) ∨ (r = .snapshotWritten ∧ (s.down = true ∨ ∀ x,
        s.snap = some x → s.serves x.pp = false))) ∧ (s.faults = [])) ∧
    (∃ (s : State) (volts : List (BitVec 16)) (r : Instr),
      ((r = .snapshotDue volts ∧ s.telRuns = false) ∨ (r = .snapshotWritten ∧ (s.down = true ∨ ∀ x,
        s.snap = some x → s.serves x.pp = false))) ∧ (s.faults = []) ∧ (r = .snapshotWritten)) ∧
    (∃ (s : State) (volts : List (BitVec 16)) (r : Instr),
      ((r = .snapshotDue volts ∧ s.telRuns = false) ∨ (r = .snapshotWritten ∧ (s.down = true ∨ ∀ x,
        s.snap = some x → s.serves x.pp = false))) ∧ (s.faults = []) ∧ (r = .snapshotWritten)) :=
  ⟨⟨{ ((linked (inMode .run) 1).wr telPg TEL_CFG_EN 1 |>.wr telPg TEL_CFG_PP 1).wr telPg TEL_BASE_LO_ADDR 5 |>.wr telPg TEL_CFG_LOG2 2 with telNext := 6 },
    [1, 2, 3, 4, 5, 6],
      by decide +kernel⟩,
    ⟨{ (linked (inMode .run) 1).wr telPg TEL_CFG_EN 1 |>.wr telPg TEL_CFG_PP 1 with snap := some ⟨4, 1, 0x3000, [1, 2, 3, 4]⟩ },
      [],
      by decide +kernel⟩,
    ⟨{ (linked (inMode .run) 1).wr telPg TEL_CFG_EN 1 |>.wr telPg TEL_CFG_PP 1 with snap := some ⟨4, 1, 0x3000, [1, 2, 3, 4]⟩ },
      ⟨4, 1, 0x3000, [1, 2, 3, 4]⟩,
      by decide +kernel⟩,
    ⟨(linked (inMode .run) 1).wr telPg TEL_CFG_EN 1 |>.wr telPg TEL_CFG_PP 1, 0,
      by unfold State.opens; decide +kernel⟩,
    ⟨inMode .run, [1], .snapshotDue [1],
      (.inl ⟨rfl, by decide +kernel⟩), by decide +kernel⟩,
    ⟨(linked (inMode .run) 1).wr telPg TEL_CFG_EN 1 |>.wr telPg TEL_CFG_PP 1, [], .snapshotWritten,
      (.inr ⟨rfl, .inr fun _ h => nomatch h⟩), by decide +kernel⟩,
    ⟨({ (linked (inMode .run) 1).wr telPg TEL_CFG_EN 1 |>.wr telPg TEL_CFG_PP 1 with snap := some ⟨4, 1, 0x3000, [1, 2, 3, 4]⟩ } : State).wr (ppPg 1) PP_LINK_SPEED 0,
      [], .snapshotWritten,
      (.inr ⟨rfl, .inr fun x h => by cases h; decide +kernel⟩), by decide +kernel⟩⟩

theorem wit_ScansComputeCheckValues :
    (∃ (s : State) (pp : PPort) (u : Unit16) (g : Alg),
      (s.opens pp (cvPg u)) ∧ (s.cvAlg u = some g) ∧ (s.rd (cvPg u) CV_LEN_BYTES ≠ 0) ∧ (s.rd (cvPg u) CV_CFG_SRC = 0) ∧
        (s.rd64 (cvPg u) CV_ADDR_LO_ADDR CV_ADDR_HI_ADDR + s.rd (cvPg u) CV_LEN_BYTES ≤ 0x4000000)) ∧
    (∃ (s : State) (pp : PPort) (u : Unit16) (g : Alg) (a : Nat) (n : Nat) (q : Nat),
      (s.opens pp (cvPg u)) ∧ (s.cvAlg u = some g) ∧ (n = s.rd (cvPg u) CV_LEN_BYTES) ∧ (n ≠ 0) ∧
        (s.rd (cvPg u) CV_CFG_SRC = 1) ∧ (q = s.rd (cvPg u) CV_CFG_PP) ∧
        (a = s.rd64 (cvPg u) CV_ADDR_LO_ADDR CV_ADDR_HI_ADDR) ∧ (s.serves q = true)) ∧
    (∃ (s : State) (pp : PPort) (u : Unit16) (g : Alg),
      (s.opens pp (cvPg u)) ∧ (s.cvAlg u = some g) ∧ (s.rd (cvPg u) CV_LEN_BYTES ≠ 0) ∧ (s.rd (cvPg u) CV_CFG_SRC = 1) ∧
        (s.serves (s.rd (cvPg u) CV_CFG_PP) = false)) ∧
    (∃ (s : State) (pp : PPort) (u : Unit16),
      (s.opens pp (cvPg u)) ∧ (s.cvAlg u = none ∨ s.rd (cvPg u) CV_LEN_BYTES = 0 ∨ (s.rd (cvPg u) CV_CFG_SRC = 0 ∧
        0x4000000 < s.rd64 (cvPg u) CV_ADDR_LO_ADDR CV_ADDR_HI_ADDR + s.rd (cvPg u) CV_LEN_BYTES))) ∧
    (∃ (s : State) (u : Unit16) (g : Alg) (data : List Byte) (us : Nat) (a : Nat) (w : Nat),
      (s.faults = []) ∧ (s.down = false) ∧ (s.stalled = false) ∧ (s.scanning u = true) ∧ (s.cvAlg u = some g) ∧
        (data.length ≤ s.rd (cvPg u) CV_LEN_BYTES) ∧ (s.rd (cvPg u) CV_CFG_SRC = 0) ∧ (s.ueWords = []) ∧ (s.poison = []) ∧
        (a = s.rd64 (cvPg u) CV_ADDR_LO_ADDR CV_ADDR_HI_ADDR) ∧ (a / 32 * 32 ≤ w) ∧ (w % 32 = 0) ∧
        (w < a + s.rd (cvPg u) CV_LEN_BYTES) ∧ (a + s.rd (cvPg u) CV_LEN_BYTES ≤ 0x4000000)) ∧
    (∃ (s : State) (u : Unit16) (g : Alg) (data : List Byte) (us : Nat) (a : Nat) (w : Nat),
      (s.faults = []) ∧ (s.down = false) ∧ (s.stalled = false) ∧ (s.scanning u = true) ∧ (s.cvAlg u = some g) ∧
        (data.length ≤ s.rd (cvPg u) CV_LEN_BYTES) ∧ (s.rd (cvPg u) CV_CFG_SRC = 0) ∧ (s.ueWords = []) ∧ (s.poison = []) ∧
        (a = s.rd64 (cvPg u) CV_ADDR_LO_ADDR CV_ADDR_HI_ADDR) ∧ (a / 32 * 32 ≤ w) ∧ (w % 32 = 0) ∧
        (w < a + s.rd (cvPg u) CV_LEN_BYTES) ∧ (a + s.rd (cvPg u) CV_LEN_BYTES ≤ 0x4000000) ∧ (a = 0x4E) ∧ (w = 0x60)) ∧
    (∃ (s : State) (u : Unit16) (g : Alg) (data : List Byte) (us : Nat) (f : Nat) (late : Bool),
      (s.faults = []) ∧ (s.down = false) ∧ (s.stalled = false) ∧ (s.scanning u = true) ∧ (s.cvAlg u = some g) ∧
        (data.length ≤ s.rd (cvPg u) CV_LEN_BYTES) ∧ (mapGet? s.scanFail u = some f) ∧ (s.rd (cvPg u) CV_CFG_SRC = 1 ∨
        (s.ueWords = [] ∧ s.poison = [])) ∧ (late = true → s.rd (cvPg u) CV_LIMIT_MS ≠ 0)) ∧
    (∃ (s : State) (u : Unit16) (g : Alg) (data : List Byte) (us : Nat) (f : Nat) (late : Bool),
      (s.faults = []) ∧ (s.down = false) ∧ (s.stalled = false) ∧ (s.scanning u = true) ∧ (s.cvAlg u = some g) ∧
        (data.length ≤ s.rd (cvPg u) CV_LEN_BYTES) ∧ (mapGet? s.scanFail u = some f) ∧ (s.rd (cvPg u) CV_CFG_SRC = 1 ∨
        (s.ueWords = [] ∧ s.poison = [])) ∧ (late = true → s.rd (cvPg u) CV_LIMIT_MS ≠ 0) ∧ (late = true)) ∧
    (∃ (s : State) (u : Unit16) (data : List Byte) (finds : List (Nat × Find)) (us : Nat) (r : Instr),
      (r = .scanDone u data finds us ∨ r = .cvLimitExpiry u data us) ∧ (s.faults = []) ∧ (s.stalled = true ∨
        s.scanning u = false ∨ (r = .cvLimitExpiry u data us ∧ s.rd (cvPg u) CV_LIMIT_MS = 0))) ∧
    (∃ (s : State) (u : Unit16) (data : List Byte) (finds : List (Nat × Find)) (us : Nat) (r : Instr),
      (r = .scanDone u data finds us ∨ r = .cvLimitExpiry u data us) ∧ (s.faults = []) ∧ (s.stalled = true ∨
        s.scanning u = false ∨ (r = .cvLimitExpiry u data us ∧ s.rd (cvPg u) CV_LIMIT_MS = 0)) ∧
        (r = .cvLimitExpiry 2 [] 9)) ∧
    (∃ (s : State) (u : Unit16) (data : List Byte) (finds : List (Nat × Find)) (us : Nat) (r : Instr),
      (r = .scanDone u data finds us ∨ r = .cvLimitExpiry u data us) ∧ (s.faults = []) ∧ (s.stalled = true ∨
        s.scanning u = false ∨ (r = .cvLimitExpiry u data us ∧ s.rd (cvPg u) CV_LIMIT_MS = 0)) ∧
        (r = .cvLimitExpiry 2 [] 9)) ∧
    (∃ (s : State) (u : Unit16) (g : Alg) (data : List Byte) (us : Nat) (reg : Nat) (res : Nat),
      (s.faults = []) ∧ (s.down = false) ∧ (s.stalled = false) ∧ (s.scanning u = true) ∧ (s.cvAlg u = some g) ∧
        (data.length = s.rd (cvPg u) CV_LEN_BYTES) ∧ (mapGet? s.scanFail u = none) ∧ (s.rd (cvPg u) CV_CFG_SRC = 1 ∨
        (s.ueWords = [] ∧ s.poison = [])) ∧
        (reg = g.run (s.rd (cvPg u) CV_CFG_TAIL) (if s.rd (cvPg u) CV_CFG_CONT = 0 then g.init else s.rd64 (cvPg u) CV_RAW_LO_REG CV_RAW_HI_REG % 2 ^ g.w) data) ∧
        (res = g.result reg)) ∧
    (∃ (s : State) (u : Unit16) (g : Alg) (data : List Byte) (us : Nat),
      (s.faults = []) ∧ (s.down = false) ∧ (s.stalled = false) ∧ (s.scanning u = true) ∧ (s.cvAlg u = some g) ∧
        (s.rd (cvPg u) CV_LIMIT_MS ≠ 0) ∧ (data.length ≤ s.rd (cvPg u) CV_LEN_BYTES) ∧ (mapGet? s.scanFail u = none) ∧
        (s.rd (cvPg u) CV_CFG_SRC = 1 ∨ (s.ueWords = [] ∧ s.poison = []))) :=
  ⟨⟨((inMode .run).wr (cvPg 2) CV_CFG_ALG 3).wr (cvPg 2) CV_LEN_BYTES 4, 0, 2, ⟨32, 0x1EDC6F41, 0xFFFFFFFF, true, true,
    0xFFFFFFFF⟩,
      by unfold State.opens; decide +kernel⟩,
    ⟨(((linked (inMode .run) 1).wr (cvPg 2) CV_CFG_ALG 3).wr (cvPg 2) CV_LEN_BYTES 4).wr (cvPg 2) CV_CFG_SRC 1 |>.wr (cvPg 2) CV_CFG_PP 1 |>.wr (cvPg 2) CV_ADDR_LO_ADDR 0xFFE,
      0, 2, ⟨32, 0x1EDC6F41, 0xFFFFFFFF, true, true, 0xFFFFFFFF⟩, 0xFFE, 4, 1,
      by unfold State.opens; decide +kernel⟩,
    ⟨((((linked (inMode .run) 1).wr (cvPg 2) CV_CFG_ALG 3).wr (cvPg 2) CV_LEN_BYTES 4).wr (cvPg 2) CV_CFG_SRC 1 |>.wr (cvPg 2) CV_CFG_PP 1 |>.wr (cvPg 2) CV_ADDR_LO_ADDR 0xFFE).wr (ppPg 1) PP_LINK_SPEED 0,
      0, 2, ⟨32, 0x1EDC6F41, 0xFFFFFFFF, true, true, 0xFFFFFFFF⟩,
      by unfold State.opens; decide +kernel⟩,
    ⟨((inMode .run).wr (cvPg 2) CV_CFG_ALG 9).wr (cvPg 2) CV_LEN_BYTES 4, 0, 2,
      by unfold State.opens; decide +kernel⟩,
    ⟨(busy (((inMode .run).wr (cvPg 2) CV_CFG_ALG 3).wr (cvPg 2) CV_LEN_BYTES 4) (cvPg 2) 1).wr (cvPg 2) CV_ADDR_LO_ADDR 0x41,
      2, ⟨32, 0x1EDC6F41, 0xFFFFFFFF, true, true, 0xFFFFFFFF⟩, [], 9, 0x41, 0x40,
      by decide +kernel⟩,
    ⟨((busy (((inMode .run).wr (cvPg 2) CV_CFG_ALG 3).wr (cvPg 2) CV_LEN_BYTES 4) (cvPg 2) 1).wr (cvPg 2) CV_ADDR_LO_ADDR 0x4E).wr (cvPg 2) CV_LEN_BYTES 40,
      2, ⟨32, 0x1EDC6F41, 0xFFFFFFFF, true, true, 0xFFFFFFFF⟩, List.replicate 18 7, 9, 0x4E, 0x60,
      by decide +kernel⟩,
    ⟨{ busy ((((linked (inMode .run) 1).wr (cvPg 2) CV_CFG_ALG 3).wr (cvPg 2) CV_LEN_BYTES 4).wr (cvPg 2) CV_CFG_SRC 1 |>.wr (cvPg 2) CV_CFG_PP 1 |>.wr (cvPg 2) CV_ADDR_LO_ADDR 0xFFE) (cvPg 2) 1 with scanFail := [(2, 0x1000)] },
      2, ⟨32, 0x1EDC6F41, 0xFFFFFFFF, true, true, 0xFFFFFFFF⟩, [1, 2], 9, 0x1000, false,
      by decide +kernel⟩,
    ⟨{ busy (((((linked (inMode .run) 1).wr (cvPg 2) CV_CFG_ALG 3).wr (cvPg 2) CV_LEN_BYTES 4).wr (cvPg 2) CV_CFG_SRC 1 |>.wr (cvPg 2) CV_CFG_PP 1 |>.wr (cvPg 2) CV_ADDR_LO_ADDR 0xFFE).wr (cvPg 2) CV_LIMIT_MS 7) (cvPg 2) 1 with scanFail := [(2, 0x1000)] },
      2, ⟨32, 0x1EDC6F41, 0xFFFFFFFF, true, true, 0xFFFFFFFF⟩, [1, 2], 9, 0x1000, true,
      by decide +kernel⟩,
    ⟨{ busy (((inMode .run).wr (cvPg 2) CV_CFG_ALG 3).wr (cvPg 2) CV_LEN_BYTES 4) (cvPg 2) 1 with stalled := true }, 2,
      [], [], 9, .scanDone 2 [] [] 9,
      (.inl rfl), by decide +kernel⟩,
    ⟨((inMode .run).wr (cvPg 2) CV_CFG_ALG 3).wr (cvPg 2) CV_LEN_BYTES 4, 2, [], [], 9, .cvLimitExpiry 2 [] 9,
      (.inr rfl), by decide +kernel⟩,
    ⟨busy (((inMode .run).wr (cvPg 2) CV_CFG_ALG 3).wr (cvPg 2) CV_LEN_BYTES 4) (cvPg 2) 1, 2, [], [], 9,
      .cvLimitExpiry 2 [] 9,
      (.inr rfl), by decide +kernel⟩,
    ⟨(busy (((inMode .run).wr (cvPg 2) CV_CFG_ALG 3).wr (cvPg 2) CV_LEN_BYTES 4) (cvPg 2) 1).wr (cvPg 2) CV_CFG_CMP 0, 2,
      ⟨32, 0x1EDC6F41, 0xFFFFFFFF, true, true, 0xFFFFFFFF⟩, [1, 2, 3, 4], 7, 3503223659, 691047668,
      by decide +kernel⟩,
    ⟨busy ((((inMode .run).wr (cvPg 2) CV_CFG_ALG 3).wr (cvPg 2) CV_LEN_BYTES 4).wr (cvPg 2) CV_LIMIT_MS 7) (cvPg 2) 1, 2,
      ⟨32, 0x1EDC6F41, 0xFFFFFFFF, true, true, 0xFFFFFFFF⟩, [1, 2, 3], 7,
      by decide +kernel⟩⟩

theorem wit_IdentificationRegisterReads :
    ∃ (s : State),
      (s.faults = []) ∧ (s.chip.aonDown = false) :=
  ⟨inMode .run,
      by decide +kernel⟩

theorem wit_TapInstructionsSelectTheirRegister :
    (∃ (s : State),
      (s.faults = []) ∧ (s.chip.aonDown = false) ∧ ((inMode .configure).fuses.debugOpen = false)) ∧
    (∃ (s : State),
      (s.faults = []) ∧ (s.chip.aonDown = false) ∧
        (({ (inMode .configure).wr devPg PAGE_FENCE_VALUE 5 with fuses := { debugOpen := true, keyDead := true } } : State).fuses.debugOpen = true)) :=
  ⟨⟨inMode .configure,
      by decide +kernel⟩,
    ⟨{ (inMode .configure).wr devPg PAGE_FENCE_VALUE 5 with fuses := { debugOpen := true, keyDead := true } },
      by decide +kernel⟩⟩

theorem wit_QuotesAndUnlocksFollowTheKey :
    (∃ (s : State) (pp : PPort),
      (s.opens pp secPg) ∧ (s.stalled = true)) ∧
    (∃ (s : State) (pp : PPort),
      (s.opens pp secPg) ∧ (s.stalled = false) ∧ (s.fuses.keyDead = false)) ∧
    (∃ (s : State) (pp : PPort),
      (s.opens pp secPg) ∧ (s.stalled = false) ∧ (s.fuses.keyDead = true)) ∧
    (∃ (s : State) (pp : PPort) (sig : Bool),
      (s.opens pp secPg) ∧ (s.unlockOk = false)) ∧
    (∃ (s : State) (pp : PPort) (sig : Bool),
      (s.opens pp secPg) ∧ (s.unlockOk = false) ∧ (sig = false)) ∧
    (∃ (s : State) (ws : List Word) (sig : Bool),
      (s.faults = []) ∧ (s.chip.aonDown = false) ∧ (ws.length = 32) ∧ (s.flag secPg PAGE_STAT_BUSY = true ∨ s.down = true ∨
        s.unlockOk = false)) ∧
    (∃ (s : State) (ws : List Word) (sig : Bool),
      (s.faults = []) ∧ (s.chip.aonDown = false) ∧ (ws.length = 32) ∧ (s.flag secPg PAGE_STAT_BUSY = true ∨ s.down = true ∨
        s.unlockOk = false) ∧ (sig = false)) ∧
    (∃ (s : State) (ws : List Word) (sig : Bool),
      (s.faults = []) ∧ (s.chip.aonDown = true ∨ ws.length ≠ 32)) ∧
    (∃ (s : State),
      (s.faults = []) ∧ (s.stalled = true ∨ s.runningCode secPg ≠ some 2 ∨ s.fuses.unlockPend = false)) ∧
    (∃ (s : State) (pp : PPort),
      (s.tokenMatches (s.rd secPg SEC_TOKEN_BYTES ·) = true) ∧ (s.opens pp secPg) ∧ (s.stalled = false) ∧
        (s.unlockOk = true)) ∧
    (∃ (s : State) (ws : List Word),
      (s.tokenMatches ((ws.map BitVec.toNat).getD · 0) = true) ∧ (s.faults = []) ∧ (s.chip.aonDown = false) ∧
        (s.stalled = false) ∧ (ws.length = 32) ∧ (s.down = false) ∧ (s.unlockOk = true) ∧
        (s.flag secPg PAGE_STAT_BUSY = false)) ∧
    (∃ (s : State) (pp : PPort) (sig : Bool) (good : Bool) (st : Nat),
      (s.opens pp secPg) ∧ (s.stalled = false) ∧ (s.unlockOk = true) ∧
        (good = s.tokenMatches (s.rd secPg SEC_TOKEN_BYTES ·)) ∧ ((good && sig) = false) ∧
        (st = (if good = true then 0x82 else 0x81))) ∧
    (∃ (s : State) (pp : PPort) (sig : Bool) (good : Bool) (st : Nat),
      (good = s.tokenMatches (s.rd secPg SEC_TOKEN_BYTES ·)) ∧ (s.opens pp secPg) ∧ (s.stalled = false) ∧
        (s.unlockOk = true) ∧ ((good && sig) = false) ∧ (st = (if good = true then 0x82 else 0x81)) ∧ (sig = false) ∧
        (good = true) ∧ (st = 0x82)) ∧
    (∃ (s : State),
      (s.faults = []) ∧ (s.down = false) ∧ (s.stalled = false) ∧ (s.runningCode secPg = some 2) ∧
        (s.fuses.unlockPend = true)) :=
  ⟨⟨{ inMode .run with stalled := true }, 0,
      by unfold State.opens; decide +kernel⟩,
    ⟨(inMode .run).wr secPg SEC_NONCE_BYTES 9 3, 0,
      by unfold State.opens; decide +kernel⟩,
    ⟨{ inMode .run with fuses := { keyDead := true } }, 0,
      by unfold State.opens; decide +kernel⟩,
    ⟨inMode .run, 0, true,
      by unfold State.opens; decide +kernel⟩,
    ⟨(inMode .configure).wr secPg SEC_STATE_FAILS 4, 0, false,
      by unfold State.opens; decide +kernel⟩,
    ⟨busy (inMode .configure) secPg 2, (List.replicate 32 0), true,
      by decide +kernel⟩,
    ⟨inMode .run, (List.replicate 32 0), false,
      by decide +kernel⟩,
    ⟨{ inMode .configure with chip := { aonDown := true } }, (List.replicate 32 0), true,
      by decide +kernel⟩,
    ⟨{ busy (inMode .configure) secPg 2 with stalled := true },
      by decide +kernel⟩,
    ⟨tokenS, 0,
      token_matches, by unfold State.opens; decide +kernel⟩,
    ⟨inMode .configure, tokenWords,
      token_words_match, by decide +kernel⟩,
    ⟨inMode .configure, 0, true, false, 0x81,
      by unfold State.opens; decide +kernel⟩,
    ⟨tokenS, 0, false, true, 0x82,
      token_matches.symm, by unfold State.opens; decide +kernel⟩,
    ⟨{ busy (inMode .configure) secPg 2 with fuses := { unlockPend := true } },
      by decide +kernel⟩⟩

theorem wit_MoonWakesAreRecorded :
    (∃ (s : State) (n : Port) (r : List Nat) (mask : Nat),
      (s.faults = []) ∧ (s.chip.aonDown = false) ∧ (s.mode = .dormant) ∧ (s.moving = none) ∧ (s.chip.wake = none) ∧
        (mapGet? s.chip.moon n = some r) ∧ (r.getD 0 0 = 1) ∧
        (mask = s.rd aonPg AON_WAKE_PP_PPS / 2 ^ (4 * (n.val / 16)) % 2 ^ 4)) ∧
    (∃ (s : State) (n : Port) (r : List Nat),
      (s.faults = []) ∧ (s.chip.aonDown = false) ∧ (s.moving = some .toDormant) ∧ (mapGet? s.chip.moon n = some r) ∧
        (r.getD 0 0 = 1)) ∧
    (∃ (s : State) (n : Port) (h : Head) (d : List Byte) (r : List Nat) (mask : Nat),
      (s.faults = []) ∧ (s.chip.aonDown = false) ∧ (s.mode = .dormant) ∧ (s.moving = none) ∧ (s.chip.wake = none) ∧
        (mapGet? s.chip.moon n = some r) ∧ (moonFrames r = true) ∧ (wakeMatches r h d = true) ∧ (r.getD 0 0 = 0) ∧
        (mask = s.rd aonPg AON_WAKE_PP_PPS / 2 ^ (4 * (n.val / 16)) % 2 ^ 4)) ∧
    (∃ (s : State) (n : Port) (w : WakeSeen) (r : Instr),
      ((r = .moonWakeCondition n w ∧ (mapGet? s.chip.moon n = none ∨ s.chip.aonDown = true)) ∨ (r = .wakeTimerExpiry ∧
        (s.rd aonPg AON_TIMER_SECONDS = 0 ∨ (s.mode ≠ .dormant ∧ s.moving ≠ some .toDormant))) ∨ (r = .perstRiseInDormant ∧
        (s.mode ≠ .dormant ∨ s.chip.aonDown = true))) ∧ (s.faults = [])) ∧
    (∃ (s : State) (n : Port) (w : WakeSeen) (r : Instr),
      ((r = .moonWakeCondition n w ∧ (mapGet? s.chip.moon n = none ∨ s.chip.aonDown = true)) ∨ (r = .wakeTimerExpiry ∧
        (s.rd aonPg AON_TIMER_SECONDS = 0 ∨ (s.mode ≠ .dormant ∧ s.moving ≠ some .toDormant))) ∨ (r = .perstRiseInDormant ∧
        (s.mode ≠ .dormant ∨ s.chip.aonDown = true))) ∧ (s.faults = []) ∧ (r = .wakeTimerExpiry)) ∧
    (∃ (s : State) (n : Port) (w : WakeSeen) (r : Instr),
      ((r = .moonWakeCondition n w ∧ (mapGet? s.chip.moon n = none ∨ s.chip.aonDown = true)) ∨ (r = .wakeTimerExpiry ∧
        (s.rd aonPg AON_TIMER_SECONDS = 0 ∨ (s.mode ≠ .dormant ∧ s.moving ≠ some .toDormant))) ∨ (r = .perstRiseInDormant ∧
        (s.mode ≠ .dormant ∨ s.chip.aonDown = true))) ∧ (s.faults = []) ∧ (r = .wakeTimerExpiry)) ∧
    (∃ (s : State) (n : Port) (w : WakeSeen) (r : Instr),
      ((r = .moonWakeCondition n w ∧ (mapGet? s.chip.moon n = none ∨ s.chip.aonDown = true)) ∨ (r = .wakeTimerExpiry ∧
        (s.rd aonPg AON_TIMER_SECONDS = 0 ∨ (s.mode ≠ .dormant ∧ s.moving ≠ some .toDormant))) ∨ (r = .perstRiseInDormant ∧
        (s.mode ≠ .dormant ∨ s.chip.aonDown = true))) ∧ (s.faults = []) ∧ (r = .perstRiseInDormant)) ∧
    (∃ (s : State) (n : PPort),
      (s.faults = []) ∧ ((s.pp n).moonWake = false)) ∧
    (∃ (s : State),
      (s.faults = []) ∧ (s.chip.aonDown = false) ∧ (s.mode = .dormant) ∧ (s.moving = none) ∧ (s.chip.wake = none) ∧
        (s.rd aonPg AON_TIMER_SECONDS ≠ 0)) ∧
    (∃ (s : State),
      (s.faults = []) ∧ (s.chip.aonDown = false) ∧ (s.mode = .dormant) ∧ (s.chip.wake = none)) ∧
    (∃ (s : State) (n : PPort),
      (s.faults = []) ∧ ((s.pp n).moonWake = true)) :=
  ⟨⟨{ inMode .dormant with chip := { moon := [(5, [1])] } }, 5, [1], 15,
      by decide +kernel⟩,
    ⟨{ busy (inMode .configure) devPg 1 with chip := { moon := [(5, [1])] }, moving := some .toDormant }, 5, [1],
      by decide +kernel⟩,
    ⟨{ inMode .dormant with chip := { moon := [(5, [0, 0x48C0000, 0, 0x1FFC0000, 1, 0, 0, 0, 0, 0, 62, 15])] } }, 5,
      lowHead, [1, 2, 3, 4], [0, 0x48C0000, 0, 0x1FFC0000, 1, 0, 0, 0, 0, 0, 62, 15], 15,
      by decide +kernel⟩,
    ⟨inMode .run, 5, .edge, .moonWakeCondition 5 .edge,
      (.inl ⟨rfl, by decide +kernel⟩), by decide +kernel⟩,
    ⟨inMode .dormant, 5, .edge, .wakeTimerExpiry,
      (.inr (.inl ⟨rfl, by decide +kernel⟩)), by decide +kernel⟩,
    ⟨(inMode .run).wr aonPg AON_TIMER_SECONDS 60, 5, .edge, .wakeTimerExpiry,
      (.inr (.inl ⟨rfl, by decide +kernel⟩)), by decide +kernel⟩,
    ⟨inMode .run, 5, .edge, .perstRiseInDormant,
      (.inr (.inr ⟨rfl, by decide +kernel⟩)), by decide +kernel⟩,
    ⟨inMode .run, 2,
      by decide +kernel⟩,
    ⟨(inMode .dormant).wr aonPg AON_TIMER_SECONDS 60,
      by decide +kernel⟩,
    ⟨inMode .dormant,
      by decide +kernel⟩,
    ⟨{ inMode .dormant with pps := [(2, { moonWake := true })] }, 2,
      by decide +kernel⟩⟩

theorem wit_StepsRunTheCommandInFront :
    (∃ (s : State) (c : Instr) (rest : List Instr),
      (s.pending = c :: rest)) ∧
    (∃ (s : State),
      (s.pending = []) ∧ (s.stalled = true ∨ s.moving ≠ some .toDormant)) ∧
    (∃ (s : State),
      (s.pending = []) ∧ (s.stalled = false) ∧ (s.moving = some .toDormant)) :=
  ⟨⟨{ inMode .run with pending := [.tapReset, .idcode] }, .tapReset, [.idcode],
      by decide +kernel⟩,
    ⟨inMode .run,
      by decide +kernel⟩,
    ⟨{ busy (inMode .configure) devPg 1 with moving := some .toDormant, jobs := [(7, lowJob .pending)], chip := { moon := [(5, [1])] } },
      by decide +kernel⟩⟩

theorem wit_StepsKeepTheStateSound :
    ∃ (s : State) (t : State),
      (s.sound) ∧ (step s = .next t) :=
  ⟨inMode .run, inMode .run,
      sound_run, rfl⟩

theorem wit_FusesOnlyGrow :
    ∃ (s : State) (t : State),
      (step s = .next t) :=
  ⟨inMode .run, inMode .run,
      rfl⟩

end Sys2Proof.Tests
end

/-!
PROOFS. Writes of plain registers (R8, R10, R47, R50): what a refusal shows and leaves alone, what a register's fields hold after
an accepted write, how REGISTER_WRITE reaches a register of a PORT page; and the bit timing of a port (R107).
-/
namespace Sys2Proof.Machine

/-! ### The end of a command that raises no fault -/

/-- Noting the moment changes the moments only. -/
theorem State.noteMoment_frame (s : State) : s.noteMoment = { s with moments := s.noteMoment.moments } := by
  unfold State.noteMoment
  extract_lets m
  split <;> rfl

/-- With no fault raised, the end of a command changes the moments only. -/
theorem State.done_frame_of_nil {s : State} (h : s.faults = []) : s.done = { s with moments := s.done.moments } := by
  rw [State.done_of_nil h]
  exact s.noteMoment_frame

theorem State.done_regs_of_nil {s : State} (h : s.faults = []) : s.done.regs = s.regs := by
  rw [State.done_frame_of_nil h]

/-! ### A refusal -/

/-- A port page has no vector of its own: its pending bits reach the interrupt sources only. -/
theorem State.pageRise_frame_port (s : State) {p n : Nat} (hp : pageAt p = some (.port n)) (was : Bool) :
    s.pageRise p was = { s with srcs := (s.pageRise p was).srcs } := by
  unfold State.pageRise
  split
  · rfl
  · simp only [hp]
    exact State.event_frame _ _

theorem State.irq_frame_port (s : State) {p n : Nat} (hp : pageAt p = some (.port n)) (b : Nat) :
    s.irq p b = { s with regs := (s.irq p b).regs, srcs := (s.irq p b).srcs } := by
  unfold State.irq
  rw [State.pageRise_frame_port _ hp]
  rfl

/-- The registers that a refusal writes, before its interrupt bit (R45, R47). -/
def State.noteRefusal (s : State) (p : Nat) (c : RefCause) : State :=
  ((s.bump p PAGE_STAT_REFUSALS).wr p PAGE_STAT_ERR 1).wr p PAGE_STAT_REFCAUSE c.code

/-- A refusal notes itself in PAGE_STAT; the first one since ERR was clear also sets the page's ERR interrupt bit. -/
theorem State.refuse_cases (s : State) (p : Nat) (c : RefCause) :
    s.refuse p c = s.noteRefusal p c ∨ s.refuse p c = (s.noteRefusal p c).irq p 2 := by
  unfold State.refuse
  extract_lets was s1
  split
  · exact .inl rfl
  · exact .inr rfl

theorem State.noteRefusal_rd_err (s : State) (p : Nat) (c : RefCause) : (s.noteRefusal p c).rd p PAGE_STAT_ERR = 1 := by
  have hne : fieldKey p PAGE_STAT_REFCAUSE 0 ≠ fieldKey p PAGE_STAT_ERR 0 :=
    headKey_ne (by decide) (by decide) (by decide) (by decide) (.inr (by decide))
  rw [State.noteRefusal, State.rd_wr_ne _ _ hne, State.rd_wr_self]
  rfl

theorem State.noteRefusal_rd_refcause (s : State) (p : Nat) (c : RefCause) :
    (s.noteRefusal p c).rd p PAGE_STAT_REFCAUSE = c.code := by
  rw [State.noteRefusal, State.rd_wr_self]
  cases c <;> rfl

theorem State.refuse_rd_stat (s : State) (p : Nat) (c : RefCause) {f : Field}
    (hne : fieldKey p PAGE_IRQ_PEND_PEND 0 ≠ fieldKey p f 0) : (s.refuse p c).rd p f = (s.noteRefusal p c).rd p f := by
  rcases s.refuse_cases p c with h | h
  · rw [h]
  · rw [h, State.irq_rd_ne _ _ _ hne]

/-- A refusal sets ERR (R45). -/
theorem State.refuse_rd_err (s : State) (p : Nat) (c : RefCause) : (s.refuse p c).rd p PAGE_STAT_ERR = 1 := by
  rw [s.refuse_rd_stat p c (headKey_ne (by decide) (by decide) (by decide) (by decide) (.inr (by decide))),
    State.noteRefusal_rd_err]

/-- A refusal latches its cause (R47). -/
theorem State.refuse_rd_refcause (s : State) (p : Nat) (c : RefCause) :
    (s.refuse p c).rd p PAGE_STAT_REFCAUSE = c.code := by
  rw [s.refuse_rd_stat p c (headKey_ne (by decide) (by decide) (by decide) (by decide) (.inr (by decide))),
    State.noteRefusal_rd_refcause]

/-- The fields that a refusal writes (R45, R47). -/
def refuseKeys (p : Nat) : List Nat :=
  [fieldKey p PAGE_STAT_ERR 0, fieldKey p PAGE_STAT_REFCAUSE 0, fieldKey p PAGE_STAT_REFUSALS 0,
    fieldKey p PAGE_IRQ_PEND_PEND 0]

theorem State.refuse_regsBut (s : State) (p : Nat) (c : RefCause) : s.regsBut (s.refuse p c) (refuseKeys p) := by
  have hnote : s.regsBut (s.noteRefusal p c) (refuseKeys p) := by
    rw [State.noteRefusal, State.bump_eq]
    refine State.regsBut_wr (State.regsBut_wr (State.regsBut_wr (s.regsBut_refl _) _ _ _ _ ?_) _ _ _ _ ?_) _ _ _ _ ?_ <;>
      simp [refuseKeys]
  rcases s.refuse_cases p c with h | h
  · rw [h]; exact hnote
  · rw [h]; exact State.regsBut_irq hnote _ _ (by simp [refuseKeys])

/-- A refusal on a port page changes registers and interrupt sources only. -/
theorem State.refuse_frame_port (s : State) {p n : Nat} (hp : pageAt p = some (.port n)) (c : RefCause) :
    s.refuse p c = { s with regs := (s.refuse p c).regs, srcs := (s.refuse p c).srcs } := by
  rcases s.refuse_cases p c with h | h
  · rw [h]; rfl
  · rw [h, State.irq_frame_port _ hp]; rfl

/-! ### The fields of a register after a write (R8, R10) -/

/-- The key of an indexed field of page `p`. -/
def itemKey (p : Nat) (x : Field × Nat) : Nat := fieldKey p x.1 x.2

/-- The fields of a register take their parts of the written word. -/
def State.putFields (s : State) (p v : Nat) (fs : List (Field × Nat)) : State := s.each fs fun s x => s.putField p v x

theorem State.putFields_cons (s : State) (p v : Nat) (x : Field × Nat) (fs : List (Field × Nat)) :
    s.putFields p v (x :: fs) = (s.putField p v x).putFields p v fs := rfl

theorem State.putField_rw (s : State) (p v : Nat) {x : Field × Nat} (h : x.1.ty = .rw) :
    s.putField p v x = s.wr p x.1 (bits v x.1.lo x.1.w) x.2 := by
  simp only [State.putField, h]

theorem State.putFields_frame (s : State) (p v : Nat) {fs : List (Field × Nat)} (hrw : ∀ x ∈ fs, x.1.ty = .rw) :
    s.putFields p v fs = { s with regs := (s.putFields p v fs).regs } := by
  induction fs generalizing s with
  | nil => rfl
  | cons x fs ih =>
    rw [State.putFields_cons, State.putField_rw s p v (hrw x (by simp)), ih _ fun y hy => hrw y (by simp [hy])]
    rfl

theorem State.putFields_regsBut (s : State) (p v : Nat) {fs : List (Field × Nat)} (hrw : ∀ x ∈ fs, x.1.ty = .rw) :
    s.regsBut (s.putFields p v fs) (fs.map (itemKey p)) := by
  induction fs generalizing s with
  | nil => exact s.regsBut_refl _
  | cons x fs ih =>
    rw [State.putFields_cons, State.putField_rw s p v (hrw x (by simp))]
    have hhead : s.regsBut (s.wr p x.1 (bits v x.1.lo x.1.w) x.2) ((x :: fs).map (itemKey p)) :=
      State.regsBut_wr (s.regsBut_refl _) _ _ _ _ (by simp [itemKey])
    have htail := ih (s.wr p x.1 (bits v x.1.lo x.1.w) x.2) fun y hy => hrw y (by simp [hy])
    exact State.regsBut_trans hhead (State.regsBut_mono htail fun k hk => List.mem_cons_of_mem _ hk)

/-- Every RW field of a register holds its part of the written word, where the fields stand apart. -/
theorem State.putFields_rd (s : State) (p v : Nat) {fs : List (Field × Nat)} (hrw : ∀ x ∈ fs, x.1.ty = .rw)
    (hkeys : (fs.map (itemKey p)).Nodup) {x : Field × Nat} (hx : x ∈ fs) :
    (s.putFields p v fs).rd p x.1 x.2 = bits v x.1.lo x.1.w := by
  induction fs generalizing s with
  | nil => cases hx
  | cons y fs ih =>
    rw [List.map_cons, List.nodup_cons] at hkeys
    obtain ⟨hapart, hkeys⟩ := hkeys
    have hrw' : ∀ z ∈ fs, z.1.ty = .rw := fun z hz => hrw z (by simp [hz])
    rw [State.putFields_cons, State.putField_rw s p v (hrw y (by simp))]
    rcases List.mem_cons.1 hx with rfl | hx
    · rw [State.regsBut_rd (State.putFields_regsBut _ p v hrw') hapart, State.rd_wr_self, bits, Nat.mod_mod]
    · exact ih _ hrw' hkeys hx

/-- Fields of which none is RWC are writable in every mode. -/
theorem State.rwcBroken_of_rw (s : State) (p v : Nat) {fs : List (Field × Nat)} (hrw : ∀ x ∈ fs, x.1.ty = .rw) :
    s.rwcBroken p v fs = false := by
  rw [State.rwcBroken, List.any_eq_false]
  intro x hx
  simp [hrw x hx]

section SetFields
variable {s : State} {pp p v : Nat} {fs : List (Field × Nat)} (hopen : s.opens pp p) (hrw : ∀ x ∈ fs, x.1.ty = .rw)
include hopen hrw

/-- A page that the gate lets through takes a good value of a register of RW fields. -/
theorem State.setFields_accepted (after : State → State) :
    s.setFields pp p v fs false after = after (s.putFields p v fs) := by
  simp only [State.setFields, s.rwcBroken_of_rw p v hrw, Bool.false_eq_true, if_false]
  exact State.guarded_opens hopen _

/-- A page that the gate lets through refuses a bad value of a register of RW fields (R10, R47). -/
theorem State.setFields_badValue (after : State → State) :
    s.setFields pp p v fs true after = s.refuse p .badValue := by
  obtain ⟨-, hdeaf, hgate⟩ := hopen
  simp [State.setFields, s.rwcBroken_of_rw p v hrw, State.guarded, hdeaf, hgate]

end SetFields

/-! ### A register write of a PORT page -/

theorem pageAt_portPg (n : Port) : pageAt (portPg n) = some (.port n) := by
  have hsub : portPg n - 0x80 = n := Nat.add_sub_cancel_left ..
  have hlow : 0x80 ≤ portPg n := Nat.le_add_right ..
  have hhigh : portPg n < 0x100 := Nat.add_lt_add_left n.isLt 0x80
  unfold pageAt
  repeat rw [if_neg (by omega)]
  rw [if_pos hhigh, hsub]

theorem State.down_of_not_deaf {s : State} (h : s.deaf = false) : s.down = false := by
  unfold State.deaf at h
  exact (Bool.or_eq_false_iff.1 h).1

/-- A part of a word's low half is not cut by taking that half. -/
theorem bits_mod_word (v : Nat) {lo w : Nat} (h : lo + w ≤ 32) : bits (v % 2 ^ 32) lo w = bits v lo w := by
  have hsplit : 2 ^ 32 = 2 ^ lo * 2 ^ (32 - lo) := by rw [← Nat.pow_add]; congr 1; omega
  rw [bits, bits, hsplit, Nat.mod_mul_right_div_self, Nat.mod_mod_of_dvd _ (Nat.pow_dvd_pow 2 (by omega))]

/-- REGISTER_WRITE is a write of BAR0, then the end of the command. -/
theorem exec_registerWrite (pp : PPort) (off : BitVec 22) (wide : Bool) (val : BitVec 64) (s : State) :
    exec (.registerWrite pp off wide val) s = .next (s.regWrite pp off.toNat wide val.toNat).done := rfl

/-- A 4-byte write at a register of a PORT page that has no row of its own reaches the register's fields (R8, R37). -/
theorem State.regWrite_port_plain {s : State} {pp : PPort} {n : Port} {a o : Nat} (hdeaf : s.deaf = false)
    (hd3 : (s.pp pp).d3 = false) (ha : a = portPg n * 4096 + o) (hlow : 0x040 ≤ o) (hhigh : o < 4096) (halign : o % 4 = 0)
    (hdb : o ≠ 0x140) (v : Nat) :
    s.regWrite pp a false v = s.plainWrite pp (portPg n) (.port n) o (v % 2 ^ 32) := by
  have hn := n.isLt
  have hpage : a / 4096 = portPg n := by omega
  have hoff : a % 4096 = o := by omega
  have hport : portPg n = 0x80 + n := rfl
  have hmsix : isMsix a = false := by simp [isMsix]; omega
  have hopen : opensValue a = false := by simp [opensValue, ephPg, secPg]; omega
  have hok : barOk a false = true := by
    simp [barOk, hpage, pageAt_portPg]; omega
  have hword : s.writeWord pp a (v % 2 ^ 32) = s.plainWrite pp (portPg n) (.port n) o (v % 2 ^ 32) := by
    simp [State.writeWord, hmsix, hpage, hoff, pageAt_portPg, hopen, State.ownWrite, hdb, Nat.not_lt.2 hlow]
  rw [← hword]
  simp [State.regWrite, State.down_of_not_deaf hdeaf, State.barServes, hd3, hok, hdeaf]

/-! ### PORT_ABT (R106, R107) -/

/-- The fields of PORT_ABT. -/
def abtFields : List Field := [PORT_ABT_PRESC, PORT_ABT_PH1, PORT_ABT_PH2, PORT_ABT_SJW]

/-- The fields of PORT_ABT, each with its index. -/
def abtItems : List (Field × Nat) := abtFields.map fun f => (f, 0)

theorem fieldsAt_portAbt (n : Nat) : fieldsAt (.port n) 0x040 = abtItems := rfl

theorem abtItems_rw : ∀ x ∈ abtItems, x.1.ty = .rw := by decide

theorem abtItems_keys (p : Nat) : abtItems.map (itemKey p) = abtFields.map fun f => fieldKey p f 0 := rfl

theorem abtItems_keys_nodup (p : Nat) : (abtItems.map (itemKey p)).Nodup := by
  simp [abtItems, abtFields, itemKey, fieldKey, PORT_ABT_PRESC, PORT_ABT_PH1, PORT_ABT_PH2, PORT_ABT_SJW]

theorem abtFields_within_word : ∀ f ∈ abtFields, f.lo + f.w ≤ 32 := by decide

/-- A value of PORT_ABT is bad where a phase is empty. -/
theorem badValue_portAbt (n v : Nat) :
    badValue (.port n) 0x040 (v % 2 ^ 32) = (bits v 8 7 == 0 || bits v 16 6 == 0) := by
  simp only [badValue, if_true]
  rw [bits_mod_word v (by decide), bits_mod_word v (by decide)]

section AbtWrite
variable {s : State} {pp : PPort} {n : Port} {off : BitVec 22} {val : BitVec 64} (hopen : s.opens pp (portPg n))
  (hd3 : (s.pp pp).d3 = false) (hoff : off.toNat = portPg n * 4096 + 0x040)
include hopen hd3 hoff

/-- REGISTER_WRITE at PORT_ABT writes its four fields unless a phase is empty. -/
theorem exec_registerWrite_portAbt : exec (.registerWrite pp off false val) s =
    .next (s.setFields pp (portPg n) (val.toNat % 2 ^ 32) abtItems
      (bits val.toNat 8 7 == 0 || bits val.toNat 16 6 == 0) id).done := by
  obtain ⟨-, hdeaf, -⟩ := hopen
  rw [exec_registerWrite, State.regWrite_port_plain hdeaf hd3 hoff (by decide) (by decide) (by decide) (by decide),
    State.plainWrite, badValue_portAbt, fieldsAt_portAbt]
  rfl

theorem exec_registerWrite_portAbt_refused (hbad : bits val.toNat 8 7 = 0 ∨ bits val.toNat 16 6 = 0) :
    exec (.registerWrite pp off false val) s = .next (s.refuse (portPg n) .badValue).done := by
  have hval : (bits val.toNat 8 7 == 0 || bits val.toNat 16 6 == 0) = true := by simpa using hbad
  rw [exec_registerWrite_portAbt hopen hd3 hoff, hval, State.setFields_badValue hopen abtItems_rw]

theorem exec_registerWrite_portAbt_accepted (h1 : bits val.toNat 8 7 ≠ 0) (h2 : bits val.toNat 16 6 ≠ 0) :
    exec (.registerWrite pp off false val) s = .next (s.putFields (portPg n) (val.toNat % 2 ^ 32) abtItems).done := by
  have hval : (bits val.toNat 8 7 == 0 || bits val.toNat 16 6 == 0) = false := by simp [h1, h2]
  rw [exec_registerWrite_portAbt hopen hd3 hoff, hval, State.setFields_accepted hopen abtItems_rw, id]

end AbtWrite

/-- Settles O16: an empty phase is the one bad value, and it is refused; every other value reaches the four RW fields. -/
theorem bitTimingRefusesEmptyPhases : Obligations.BitTimingRefusesEmptyPhases := by
  intro s pp n off val hopen hd3 hoff
  have hnil : s.faults = [] := hopen.1
  refine ⟨fun hbad => ?_, fun h1 h2 => ?_⟩
  · have hnil' := (s.refuse_faults (portPg n) .badValue).trans hnil
    have hregs := State.done_regs_of_nil hnil'
    refine ⟨_, exec_registerWrite_portAbt_refused hopen hd3 hoff hbad, ?_, ?_, ?_, ?_⟩
    · rw [State.rd_congr hregs, State.refuse_rd_err]
    · rw [State.rd_congr hregs, State.refuse_rd_refcause]
    · intro k hk
      rw [hregs]
      exact s.refuse_regsBut _ _ k hk
    · rw [State.done_frame_of_nil hnil', s.refuse_frame_port (pageAt_portPg n)]
  · have hframe := s.putFields_frame (portPg n) (val.toNat % 2 ^ 32) abtItems_rw
    have hnil' : (s.putFields (portPg n) (val.toNat % 2 ^ 32) abtItems).faults = [] := by rw [hframe]; exact hnil
    have hregs := State.done_regs_of_nil hnil'
    refine ⟨_, exec_registerWrite_portAbt_accepted hopen hd3 hoff h1 h2, fun f hf => ?_, ?_, ?_⟩
    · have hx : (f, 0) ∈ abtItems := List.mem_map_of_mem hf
      rw [State.rd_congr hregs, s.putFields_rd _ _ abtItems_rw (abtItems_keys_nodup _) hx]
      exact bits_mod_word _ (abtFields_within_word f hf)
    · intro k hk
      rw [hregs]
      exact s.putFields_regsBut _ _ abtItems_rw k hk
    · rw [State.done_frame_of_nil hnil', hframe]

end Sys2Proof.Machine

/-!
PROOFS. Backward steps of raster time (R326): the parts of the state that the time base and the ends of training windows may
change, what a backward step does to the armed occurrences, and the two ways to step back, SET_FRAME (R318) and a mark (R317).
-/
namespace Sys2Proof.Machine

/-! ### What an operation may change

`blank` empties the parts of a state that an operation may change: two states that are equal once blanked agree everywhere
else. -/

/-- `t` is `s` but for what `blank` empties. -/
def State.eqUpTo (blank : State → State) (s t : State) : Prop := blank t = blank s

section EqUpTo
variable {blank : State → State} {s t u : State}

/-- Whatever can be read of a blanked state is the same in both. -/
theorem State.eqUpTo.get {γ : Sort _} (h : s.eqUpTo blank t) (get : State → γ) (hget : ∀ x, get (blank x) = get x) :
    get t = get s :=
  calc get t = get (blank t) := (hget t).symm
    _ = get (blank s) := congrArg get h
    _ = get s := hget s

theorem State.eqUpTo.trans (h : s.eqUpTo blank t) (g : t.eqUpTo blank u) : s.eqUpTo blank u := Eq.trans g h

theorem State.eqUpTo.of_pair {γ : Type} {p : γ × State} {v : γ} (h : s.eqUpTo blank p.2) (hp : p = (v, t)) :
    s.eqUpTo blank t := by
  rw [hp] at h
  exact h

/-- A fold that carries the state, alone or in a pair, changes no more than its steps. -/
theorem State.foldl_eqUpTo {α β : Type} (stateOf : β → State) (l : List α) (f : β → α → β) (b : β)
    (hf : ∀ b, ∀ x ∈ l, (stateOf b).eqUpTo blank (stateOf (f b x))) : (stateOf b).eqUpTo blank (stateOf (l.foldl f b)) := by
  induction l generalizing b with
  | nil => rfl
  | cons x l ih => exact (hf b x (by simp)).trans (ih _ fun b y hy => hf b y (by simp [hy]))

theorem State.each_eqUpTo {α : Type} (l : List α) (f : State → α → State)
    (hf : ∀ s : State, ∀ x ∈ l, s.eqUpTo blank (f s x)) : s.eqUpTo blank (s.each l f) :=
  State.foldl_eqUpTo id l f s hf

end EqUpTo

theorem State.each_fixed {α : Type} {s : State} {l : List α} {f : State → α → State} (h : ∀ x ∈ l, f s x = s) :
    s.each l f = s := by
  induction l with
  | nil => rfl
  | cons x l ih => rw [State.each, List.foldl_cons, h x (by simp)]; exact ih fun y hy => h y (by simp [hy])

/-- Without registers and interrupt sources. -/
def State.blankFlags (s : State) : State := { s with regs := [], srcs := [] }

/-- Without what the time base changes: registers, interrupt sources, the raster. -/
def State.blankTime (s : State) : State := { s with regs := [], srcs := [], rt := {} }

/-- Without what the end of a training window changes. -/
def State.blankFold (s : State) : State :=
  { s with regs := [], srcs := [], ports := [], mem := [], undef := [], freeCtr := 0, ueWords := [], poison := [] }

/-- Without what the end of a line may change in FREE: what the time base changes, the armed occurrences and the moments. -/
def State.blankLine (s : State) : State := { s with moments := [], regs := [], srcs := [], rt := {}, armed := [] }

/-- Without what a mark that steps back may change: what the end of a line changes, and what the end of a window changes. -/
def State.blankMark (s : State) : State :=
  { s with
    moments := [], regs := [], srcs := [], ports := [], rt := {}, armed := [], mem := [], undef := [], freeCtr := 0
    ueWords := [], poison := [] }

section Blanks
variable {s t : State}

theorem State.eqUpTo.time (h : s.eqUpTo blankFlags t) : s.eqUpTo blankTime t :=
  h.get State.blankTime fun _ => rfl
theorem State.eqUpTo.fold (h : s.eqUpTo blankFlags t) : s.eqUpTo blankFold t :=
  h.get State.blankFold fun _ => rfl
theorem State.eqUpTo.line (h : s.eqUpTo blankTime t) : s.eqUpTo blankLine t :=
  h.get State.blankLine fun _ => rfl
theorem State.eqUpTo.lineMark (h : s.eqUpTo blankLine t) : s.eqUpTo blankMark t :=
  h.get State.blankMark fun _ => rfl
theorem State.eqUpTo.foldMark (h : s.eqUpTo blankFold t) : s.eqUpTo blankMark t :=
  h.get State.blankMark fun _ => rfl

theorem State.eqUpTo.line_frame (h : s.eqUpTo blankLine t) :
    t = { s with moments := t.moments, regs := t.regs, srcs := t.srcs, rt := t.rt, armed := t.armed } :=
  h.get (fun x => { x with
    moments := t.moments, regs := t.regs, srcs := t.srcs, rt := t.rt, armed := t.armed }) fun _ => rfl

theorem State.eqUpTo.mark_frame (h : s.eqUpTo blankMark t) :
    t = { s with
      moments := t.moments, regs := t.regs, srcs := t.srcs, ports := t.ports, rt := t.rt, armed := t.armed, mem := t.mem
      undef := t.undef, freeCtr := t.freeCtr, ueWords := t.ueWords, poison := t.poison } :=
  h.get (fun x => { x with
    moments := t.moments, regs := t.regs, srcs := t.srcs, ports := t.ports, rt := t.rt, armed := t.armed, mem := t.mem
    undef := t.undef, freeCtr := t.freeCtr, ueWords := t.ueWords, poison := t.poison }) fun _ => rfl

theorem State.eqUpTo.time_armed (h : s.eqUpTo blankTime t) : t.armed = s.armed :=
  h.get (·.armed) fun _ => rfl
theorem State.eqUpTo.time_ports (h : s.eqUpTo blankTime t) : t.ports = s.ports :=
  h.get (·.ports) fun _ => rfl
theorem State.eqUpTo.time_faults (h : s.eqUpTo blankTime t) : t.faults = s.faults :=
  h.get (·.faults) fun _ => rfl
theorem State.eqUpTo.fold_armed (h : s.eqUpTo blankFold t) : t.armed = s.armed :=
  h.get (·.armed) fun _ => rfl
theorem State.eqUpTo.fold_rt (h : s.eqUpTo blankFold t) : t.rt = s.rt :=
  h.get (·.rt) fun _ => rfl

/-- The time base does not reach the table of an ephemeris. -/
theorem State.eqUpTo.time_ephEntry (h : s.eqUpTo blankTime t) (c i : Nat) : t.ephEntry c i = s.ephEntry c i :=
  h.get (·.ephEntry c i) fun _ => rfl

end Blanks

/-! ### Flags of a page without vectors -/

theorem State.wr_eqUpTo (s : State) (p : Nat) (f : Field) (v i : Nat) : s.eqUpTo blankFlags (s.wr p f v i) := rfl

section Flags
variable {p : Nat} (hp : ∀ n, pageAt p ≠ some (.pp n))
include hp

theorem State.pageRise_eqUpTo (s : State) (was : Bool) : s.eqUpTo blankFlags (s.pageRise p was) := by
  unfold State.pageRise
  split
  · rfl
  · split
    · exact absurd ‹_› (hp _)
    · rw [State.event_frame]; rfl
    · rfl

theorem State.irq_eqUpTo (s : State) (b : Nat) : s.eqUpTo blankFlags (s.irq p b) :=
  State.eqUpTo.trans (t := s.orBits p PAGE_IRQ_PEND_PEND b) rfl (State.pageRise_eqUpTo hp _ _)

theorem State.cmdEnd_eqUpTo (s : State) (st d : Nat) : s.eqUpTo blankFlags (s.cmdEnd p st d) := by
  unfold State.cmdEnd
  extract_lets s1
  have h1 : s.eqUpTo blankFlags s1 :=
    ((s.wr_eqUpTo _ _ _ _).trans (State.wr_eqUpTo _ _ _ _ _)).trans (State.wr_eqUpTo _ _ _ _ _)
  exact (h1.trans (State.irq_eqUpTo hp s1 1)).trans (State.wr_eqUpTo _ _ _ _ _)

end Flags

theorem pageAt_ephPg_zero_ne_pp (n : Nat) : pageAt (ephPg 0) ≠ some (.pp n) := by simp [pageAt, ephPg]

theorem pageAt_phyPg_ne_pp {n : Nat} (hn : n < 128) (k : Nat) : pageAt (phyPg n) ≠ some (.pp k) := by
  have hlow : 0x100 ≤ phyPg n := Nat.le_add_right ..
  have hhigh : phyPg n < 0x180 := Nat.add_lt_add_left hn 0x100
  unfold pageAt
  repeat rw [if_neg (by omega)]
  rw [if_pos hhigh]
  simp

/-! ### The time base -/

@[simp] theorem State.modRt_rt (s : State) (f : Raster → Raster) : (s.modRt f).rt = f s.rt := rfl

theorem State.modRt_eqUpTo (s : State) (f : Raster → Raster) : s.eqUpTo blankTime (s.modRt f) := rfl

theorem State.disc_eqUpTo (s : State) : s.eqUpTo blankTime s.disc :=
  (State.irq_eqUpTo pageAt_ephPg_zero_ne_pp (s.bump (ephPg 0) RT_CNT_DISC_COUNT) (bit 6)).time

theorem State.setTb_eqUpTo (s : State) (tb : Tb) : s.eqUpTo blankTime (s.setTb tb) := by
  unfold State.setTb
  split
  · rfl
  · exact (s.modRt_eqUpTo _).trans (State.irq_eqUpTo pageAt_ephPg_zero_ne_pp _ _).time

theorem State.rateChange_eqUpTo (s : State) : s.eqUpTo blankTime s.rateChange :=
  (State.irq_eqUpTo pageAt_ephPg_zero_ne_pp s (bit 8)).time.trans (State.disc_eqUpTo _)

theorem State.noteRates_eqUpTo (was s : State) : s.eqUpTo blankTime (was.noteRates s) := by
  unfold State.noteRates
  extract_lets s1
  have h1 : s.eqUpTo blankTime s1 := by
    unfold s1
    split
    · rfl
    · exact s.rateChange_eqUpTo
  split
  · exact h1
  · exact h1.trans s1.rateChange_eqUpTo

theorem State.setLines_eqUpTo (s : State) (n : Nat) : s.eqUpTo blankTime (s.setLines n) := by
  unfold State.setLines
  extract_lets old beyond kept new
  split <;> rfl

theorem State.linePeriod_eqUpTo (s : State) : s.eqUpTo blankTime s.linePeriod := by
  unfold State.linePeriod
  split <;> rfl

/-- In FREE the end of a frame changes what is noted of marks only: there is no time base to lose (R317). -/
theorem State.markFrame_of_free {s : State} (hfree : s.rt.tb = .free) : ∃ seen miss run,
    s.markFrame = s.modRt fun r => { r with markSeen := seen, markMiss := miss, markRun := run } := by
  by_cases hlink : s.rtSrc = 2
  · by_cases hseen : s.rt.markSeen = true
    · exact ⟨false, 0, s.rt.markRun, by simp [State.markFrame, State.modRt, hlink, hseen]⟩
    · exact ⟨s.rt.markSeen, min 3 (s.rt.markMiss + 1), 0, by simp [State.markFrame, State.modRt, hlink, hseen, hfree]⟩
  · exact ⟨s.rt.markSeen, s.rt.markMiss, s.rt.markRun, by simp [State.markFrame, State.modRt, hlink]⟩

@[simp] theorem State.linePeriod_tb (s : State) : s.linePeriod.rt.tb = s.rt.tb := by
  unfold State.linePeriod
  split <;> rfl

@[simp] theorem State.linePeriod_setFrame (s : State) : s.linePeriod.rt.setFrame = s.rt.setFrame := by
  unfold State.linePeriod
  split <;> rfl

/-- In FREE the start of a frame ends no training window (R197). -/
theorem State.frameBegins_eqUpTo {s : State} (hfree : s.rt.tb = .free) (step : Bool) :
    s.eqUpTo blankTime (s.frameBegins step) := by
  unfold State.frameBegins
  extract_lets p r nominal set f s1 s2 s3
  have h1 : s.eqUpTo blankTime s1 := by
    refine State.eqUpTo.trans ?_ (State.modRt_eqUpTo _ _)
    split
    · exact s.setLines_eqUpTo _
    · rfl
  have h2 : s2 = s1 := if_pos hfree
  have h3 : s2.eqUpTo blankTime s3 := by
    unfold s3
    split
    · exact (State.cmdEnd_eqUpTo pageAt_ephPg_zero_ne_pp s2 stOk 0).time.trans (State.disc_eqUpTo _)
    · rfl
  rw [if_neg (by simp [r, hfree])]
  exact h1.trans (h2 ▸ h3)

@[simp] theorem State.disc_lineStart (s : State) : s.disc.lineStart = s.lineStart := by simp [State.disc, State.lineStart]

theorem State.rateChange_lineStart (s : State) : s.rateChange.lineStart = s.lineStart := by
  rw [State.rateChange, State.disc_lineStart]
  simp [State.lineStart]

theorem State.noteRates_lineStart (was s : State) : (was.noteRates s).lineStart = s.lineStart := by
  unfold State.noteRates
  extract_lets s1
  have h1 : s1.lineStart = s.lineStart := by
    unfold s1
    split
    · rfl
    · exact s.rateChange_lineStart
  split
  · exact h1
  · rw [s1.rateChange_lineStart, h1]

/-- A frame that SET_FRAME waits for begins with the number it gave (R318). -/
theorem State.frameBegins_lineStart {s : State} {f : Nat} (hfree : s.rt.tb = .free) (hstall : s.stalled = false)
    (hset : s.rt.setFrame = some f) (step : Bool) : (s.frameBegins step).lineStart = (f, 0, 0) := by
  simp [State.frameBegins, hfree, hstall, hset, State.lineStart, State.disc]

/-- In FREE a frame boundary that SET_FRAME sets behind the current line steps back to it (R318, R326). -/
theorem State.lineEnds_setFrame_backward {s : State} {f : Nat} (hfree : s.rt.tb = .free) (hstall : s.stalled = false)
    (hlast : s.rt.lines ≤ s.rt.line + 1) (hset : s.rt.setFrame = some f)
    (hback : RTime.before (f, 0, 0) (s.rt.frame, s.rt.line, 255) = true) (len : Nat) :
    ∃ u : State, s.eqUpTo blankTime u ∧ u.lineStart = (f, 0, 0) ∧ s.lineEnds len none = u.rewind (f, 0, 0) := by
  let s0 := (s.modRt fun r => { r with sinceEdge := r.sinceEdge + len }).linePeriod
  have hfree0 : s0.rt.tb = .free := by simp [s0, hfree]
  obtain ⟨seen, miss, run, hmark⟩ := State.markFrame_of_free hfree0
  let s1 := s0.modRt fun r => { r with markSeen := seen, markMiss := miss, markRun := run }
  have hfree1 : s1.rt.tb = .free := hfree0
  have hset1 : s1.rt.setFrame = some f := by simp [s1, s0, hset]
  have h1 : s.eqUpTo blankTime s1 :=
    ((s.modRt_eqUpTo _).trans (State.linePeriod_eqUpTo _)).trans (s0.modRt_eqUpTo _)
  have hstall1 : s1.stalled = false := (h1.get (·.stalled) fun _ => rfl).trans hstall
  have hline : (s1.frameBegins false).lineStart = (f, 0, 0) := State.frameBegins_lineStart hfree1 hstall1 hset1 false
  refine ⟨s1.frameBegins false, h1.trans (State.frameBegins_eqUpTo hfree1 false), hline, ?_⟩
  simp [State.lineEnds, hfree, hlast, hmark, hline, hback, s0, s1]

/-! ### The end of training windows (R197-R199) -/

theorem State.modPort_eqUpTo (s : State) (n : Nat) (f : PortState → PortState) : s.eqUpTo blankFold (s.modPort n f) := rfl

theorem State.divOpen_eqUpTo (s : State) (a : Int) (b : Nat) : s.eqUpTo blankFold (s.divOpen a b).2 := by
  unfold State.divOpen
  split <;> rfl

theorem State.meanCoefs_eqUpTo (s : State) (cs : List (List Int)) : s.eqUpTo blankFold (s.meanCoefs cs).2 :=
  State.foldl_eqUpTo Prod.snd _ _ _ fun b _ _ => b.2.divOpen_eqUpTo _ _

theorem State.blendCoefs_eqUpTo (s : State) (old new : List Int) : s.eqUpTo blankFold (s.blendCoefs old new).2 :=
  State.foldl_eqUpTo Prod.snd _ _ _ fun b _ _ => b.2.divOpen_eqUpTo _ _

theorem State.meanMargin_eqUpTo (s : State) (cs : List Contribution) : s.eqUpTo blankFold (s.meanMargin cs).2 := by
  unfold State.meanMargin
  split <;> rfl

theorem State.mputs_eqUpTo (s : State) (a : Nat) (bs : List Byte) : s.eqUpTo blankFold (s.mputs a bs) := by
  unfold State.mputs
  extract_lets n gone s1
  exact State.eqUpTo.trans (t := s1) rfl (State.foldl_eqUpTo Prod.fst bs _ (s1, a) fun _ _ _ => rfl)

theorem State.foldEntry_eqUpTo (s : State) {n : Nat} (hn : n < 128) (i : Nat) : s.eqUpTo blankFold (s.foldEntry n i) := by
  unfold State.foldEntry
  extract_lets x a cs k errs s1 cnt
  have h1 : s.eqUpTo blankFold s1 := by
    unfold s1
    split
    · split
      next m u hm =>
      have hmean : s.eqUpTo blankFold u := (s.meanCoefs_eqUpTo _).of_pair hm
      extract_lets valid
      split
      next v w hv =>
      have hblend : u.eqUpTo blankFold w := by
        split at hv
        · exact (u.blendCoefs_eqUpTo _ _).of_pair hv
        · cases hv; rfl
      split
      next mg y hy =>
      have hmargin : w.eqUpTo blankFold y := (w.meanMargin_eqUpTo _).of_pair hy
      extract_lets ctl ctl1 s4
      have h4 : s.eqUpTo blankFold s4 := ((hmean.trans hblend).trans hmargin).trans (y.mputs_eqUpTo _ _)
      split
      · exact h4
      · exact h4.trans (State.irq_eqUpTo (pageAt_phyPg_ne_pp hn) s4 4).fold
    · rfl
  split
  · exact (h1.trans (s1.mputs_eqUpTo _ _)).trans (State.mputs_eqUpTo _ _ _)
  · exact h1

theorem State.fold_eqUpTo (s : State) {n : Nat} (hn : n < 128) : s.eqUpTo blankFold (s.fold n) := by
  unfold State.fold
  extract_lets es s1 s2
  have h1 : s.eqUpTo blankFold s1 := State.each_eqUpTo es _ fun s i _ => s.foldEntry_eqUpTo hn i
  have h2 : s1.eqUpTo blankFold s2 := by
    unfold s2
    split
    · rfl
    · exact (s1.wr_eqUpTo _ _ _ _).fold
  exact (h1.trans h2).trans (s2.modPort_eqUpTo _ _)

theorem State.applyRung_eqUpTo (s : State) (n ceil rx : Nat) : s.eqUpTo blankFlags (s.applyRung n ceil rx) :=
  (s.wr_eqUpTo _ _ _ _).trans (State.wr_eqUpTo _ _ _ _ _)

theorem State.endRungWait_eqUpTo (s : State) {n : Nat} (hn : n < 128) : s.eqUpTo blankFold (s.endRungWait n) := by
  unfold State.endRungWait State.byCores
  split
  · rfl
  · split
    · rfl
    · exact (((s.modPort_eqUpTo _ _).trans (State.applyRung_eqUpTo _ _ _ _).fold).trans
        (State.wr_eqUpTo _ _ _ _ _).fold).trans (State.cmdEnd_eqUpTo (pageAt_phyPg_ne_pp hn) _ _ _).fold

theorem State.windowEnd_eqUpTo (s : State) {n : Nat} (hn : n < 128) : s.eqUpTo blankFold (s.windowEnd n) := by
  unfold State.windowEnd
  extract_lets s1
  have h1 : s.eqUpTo blankFold s1 := by
    unfold s1
    split
    · exact (s.fold_eqUpTo hn).trans (State.endRungWait_eqUpTo _ hn)
    · rfl
  split
  · exact h1
  · exact h1.trans (s1.modPort_eqUpTo _ _)

theorem State.windowsEnd_eqUpTo (s : State) : s.eqUpTo blankFold s.windowsEnd :=
  State.each_eqUpTo _ _ fun s _ hn => s.windowEnd_eqUpTo (List.mem_range.1 hn)

theorem State.noWindows.of_ports {s t : State} (h : s.noWindows) (hports : t.ports = s.ports) : t.noWindows := by
  intro n hn
  rw [State.port, hports]
  exact h n hn

/-- Where no window runs and nothing was written in one, the end of the windows changes nothing. -/
theorem State.windowsEnd_of_noWindows {s : State} (h : s.noWindows) : s.windowsEnd = s := by
  have hport : ∀ n ∈ List.range 128, s.windowEnd n = s := by
    intro n hn
    obtain ⟨hwindow, hwritten⟩ := h n (List.mem_range.1 hn)
    simp [State.windowEnd, hwindow, hwritten]
  exact State.each_fixed hport

/-! ### A backward step (R326) -/

theorem mapGet?_map {α β : Type} (m : SMap α) (f : Nat → α → β) (k : Nat) :
    mapGet? (m.map fun e => (e.1, f e.1 e.2)) k = (mapGet? m k).map (f k) := by
  induction m with
  | nil => rfl
  | cons e m ih =>
    obtain ⟨j, v⟩ := e
    by_cases hj : j = k
    · simp [mapGet?, hj]
    · simpa [mapGet?, hj] using ih

/-- Where the occurrence `t0` of entry `i` of CLc stands after a backward step to `now` (R326). -/
def State.rewound (s : State) (now : RTime) (c i : Nat) (t0 : RTime) : RTime :=
  if (s.ephEntry c i).rep = 1 then (s.ephEntry c i).firstFrom now else t0

theorem State.rewind_armed (s : State) (now : RTime) (c : Nat) {i : Nat} (hi : i < 1024) :
    mapGet? (s.rewind now).armed (1024 * c + i) = (mapGet? s.armed (1024 * c + i)).map (s.rewound now c i) := by
  have hc : (1024 * c + i) / 1024 = c := by omega
  have hmod : (1024 * c + i) % 1024 = i := by omega
  calc mapGet? (s.rewind now).armed (1024 * c + i)
    _ = (mapGet? s.armed (1024 * c + i)).map (s.rewound now ((1024 * c + i) / 1024) ((1024 * c + i) % 1024)) :=
      mapGet?_map s.armed (fun k => s.rewound now (k / 1024) (k % 1024)) _
    _ = (mapGet? s.armed (1024 * c + i)).map (s.rewound now c i) := by rw [hc, hmod]

theorem State.rewind_eqUpTo (s : State) (now : RTime) : s.eqUpTo blankLine (s.rewind now) := rfl
@[simp] theorem State.rewind_rt (s : State) (now : RTime) : (s.rewind now).rt = s.rt := rfl
@[simp] theorem State.rewind_ports (s : State) (now : RTime) : (s.rewind now).ports = s.ports := rfl
@[simp] theorem State.rewind_ephEntry (s : State) (now : RTime) (c i : Nat) :
    (s.rewind now).ephEntry c i = s.ephEntry c i := rfl

theorem State.rewound_congr {s t : State} {c i : Nat} (h : t.ephEntry c i = s.ephEntry c i) (now : RTime) :
    t.rewound now c i = s.rewound now c i := by
  funext t0
  rw [State.rewound, State.rewound, h]

/-! ### SET_FRAME (R318) -/

theorem exec_lineEnd (s : State) : exec .lineEnd s = .next s.lineEnd.done := rfl

/-- In FREE a line ends with its period, and what that changes of the rates is noted (R309, R314). -/
theorem State.lineEnd_of_free {s : State} (hruns : s.tbRuns = true) (hfree : s.rt.tb = .free) :
    s.lineEnd = s.noteRates (s.lineEnds s.rt.lineTime none) := by
  simp [State.lineEnd, hruns, hfree]

section Done
variable {s : State} (h : s.faults = [])
include h

theorem State.done_eqUpTo_line : s.eqUpTo blankLine s.done := by
  rw [State.done_frame_of_nil h]
  rfl

theorem State.done_armed_of_nil : s.done.armed = s.armed := by rw [State.done_frame_of_nil h]

theorem State.done_lineStart_of_nil : s.done.lineStart = s.lineStart := by
  rw [State.done_frame_of_nil h]
  rfl

theorem State.done_ephEntry_of_nil (c i : Nat) : s.done.ephEntry c i = s.ephEntry c i := by
  rw [State.done_frame_of_nil h]
  rfl

end Done

/-- A frame boundary in FREE that SET_FRAME sets behind the current line (R318, R326). -/
theorem lineEnd_setFrame_rewinds {s : State} {f : Nat} (hnil : s.faults = []) (hruns : s.tbRuns = true)
    (hfree : s.rt.tb = .free) (hstall : s.stalled = false) (hlast : s.rt.lines ≤ s.rt.line + 1)
    (hset : s.rt.setFrame = some f) (hback : RTime.before (f, 0, 0) (s.rt.frame, s.rt.line, 255) = true) :
    ∃ t : State, exec .lineEnd s = .next t ∧ t.lineStart = (f, 0, 0) ∧
      (∀ c < 8, ∀ i < 1024, mapGet? t.armed (1024 * c + i) =
        (mapGet? s.armed (1024 * c + i)).map (s.rewound (f, 0, 0) c i)) ∧
      s.eqUpTo State.blankLine t := by
  obtain ⟨u, hu, hline, hends⟩ := State.lineEnds_setFrame_backward hfree hstall hlast hset hback s.rt.lineTime
  have hrates : (u.rewind (f, 0, 0)).eqUpTo State.blankTime s.lineEnd := by
    rw [State.lineEnd_of_free hruns hfree, hends]
    exact State.noteRates_eqUpTo _ _
  have hnil' : s.lineEnd.faults = [] := hrates.time_faults.trans (hu.time_faults.trans hnil)
  refine ⟨_, exec_lineEnd s, ?_, fun c _ i hi => ?_,
    ((hu.line.trans (u.rewind_eqUpTo _)).trans hrates.line).trans (State.done_eqUpTo_line hnil')⟩
  · calc s.lineEnd.done.lineStart = s.lineEnd.lineStart := State.done_lineStart_of_nil hnil'
      _ = u.lineStart := by rw [State.lineEnd_of_free hruns hfree, hends, State.noteRates_lineStart]; rfl
      _ = (f, 0, 0) := hline
  · rw [State.done_armed_of_nil hnil', hrates.time_armed, State.rewind_armed _ _ _ hi,
      State.rewound_congr (hu.time_ephEntry c i), hu.time_armed]

/-! ### A mark (R317) -/

/-- The time base stands at the mark's time, and the discontinuity is counted; training windows have not ended yet. -/
def State.atMark (s : State) (m : RTime) : State :=
  ((s.modRt fun r => { r with frame := m.1, line := m.2.1, sub := m.2.2, fine := 0 }).irq (ephPg 0) (bit 9)).disc

theorem State.stepMark_backward (s : State) {now m : RTime} (h : m.before now = true) :
    s.stepMark now m = (s.atMark m).windowsEnd.rewind m := if_pos h

theorem State.atMark_eqUpTo (s : State) (m : RTime) : s.eqUpTo blankTime (s.atMark m) :=
  (s.modRt_eqUpTo _).trans ((State.irq_eqUpTo pageAt_ephPg_zero_ne_pp _ _).time.trans (State.disc_eqUpTo _))

theorem State.atMark_rt (s : State) (m : RTime) : (s.atMark m).rt =
    { s.rt with frame := m.1, line := m.2.1, sub := m.2.2, fine := 0, discs := s.rt.discs + 1 } := by
  simp [State.atMark, State.disc]

section StepBack
variable {now m : RTime} (hback : m.before now = true)
include hback

theorem State.stepMark_eqUpTo (s : State) : s.eqUpTo blankMark (s.stepMark now m) := by
  rw [s.stepMark_backward hback]
  exact ((s.atMark_eqUpTo m).line.lineMark.trans (State.windowsEnd_eqUpTo _).foldMark).trans
    (State.rewind_eqUpTo _ m).lineMark

theorem State.stepMark_rt (s : State) : (s.stepMark now m).rt =
    { s.rt with frame := m.1, line := m.2.1, sub := m.2.2, fine := 0, discs := s.rt.discs + 1 } := by
  rw [s.stepMark_backward hback, State.rewind_rt, (s.atMark m).windowsEnd_eqUpTo.fold_rt, State.atMark_rt]

theorem State.stepMark_noWindows {s : State} (h : s.noWindows) : (s.stepMark now m).noWindows := by
  have hmark : (s.atMark m).noWindows := h.of_ports (s.atMark_eqUpTo m).time_ports
  rw [s.stepMark_backward hback, State.windowsEnd_of_noWindows hmark]
  exact hmark.of_ports (State.rewind_ports _ _)

/-- A mark that steps back moves the occurrences by the table as the training windows leave it (R326). -/
theorem State.stepMark_armed (s : State) (c : Nat) {i : Nat} (hi : i < 1024) :
    mapGet? (s.stepMark now m).armed (1024 * c + i) =
      (mapGet? s.armed (1024 * c + i)).map ((s.stepMark now m).rewound m c i) := by
  have harmed : (s.atMark m).windowsEnd.armed = s.armed :=
    (s.atMark m).windowsEnd_eqUpTo.fold_armed.trans (s.atMark_eqUpTo m).time_armed
  rw [s.stepMark_backward hback, State.rewind_armed _ _ _ hi, harmed,
    State.rewound_congr (State.rewind_ephEntry (s.atMark m).windowsEnd m c i)]

end StepBack

/-- An accepted mark is counted. -/
def State.countMark (s : State) : State := s.modRt fun r => { r with markSeen := true, markRun := min 2 (r.markRun + 1) }

/-- An accepted mark: the second in a row locks the time base, which ends the training windows where it was FREE (R197, R317). -/
def State.acceptMark (s : State) : State :=
  if s.countMark.rt.markRun < 2 then s.countMark
  else if s.countMark.rt.tb = .free then (s.countMark.setTb .locked).windowsEnd
  else s.countMark.setTb .locked

/-- A mark of an error outside the window steps the time base, another slews it; either is then accepted (R317). -/
theorem State.mark_eq (s : State) (m : RTime) (e : Nat) {err : Int} {far : Bool}
    (herr : err = (s.rtNow e).distance s.rt.lines m)
    (hfar : far = decide ((256 * s.rd (ephPg 0) RT_CFG_MARK_WIN : Int) < err.natAbs)) :
    s.mark m.1 m.2.1 m.2.2 e =
      (if far then (s.noteMark err far).stepMark (s.rtNow e) m else (s.noteMark err far).slewMark err).acceptMark := by
  subst hfar herr
  rfl

/-- A mark further off than the window steps the time base (R317). -/
theorem State.mark_far {s : State} {m : RTime} {e : Nat}
    (hfar : 256 * s.rd (ephPg 0) RT_CFG_MARK_WIN < ((s.rtNow e).distance s.rt.lines m).natAbs) :
    s.mark m.1 m.2.1 m.2.2 e =
      ((s.noteMark ((s.rtNow e).distance s.rt.lines m) true).stepMark (s.rtNow e) m).acceptMark := by
  rw [s.mark_eq m e rfl (decide_eq_true (by exact_mod_cast hfar)).symm, if_pos rfl]

/-- Unless an accepted mark ends training windows, it changes the time base only. -/
theorem State.acceptMark_cases {s : State} (h : s.rt.tb ≠ .free ∨ s.rt.markRun = 0 ∨ s.noWindows) :
    s.acceptMark = s.countMark ∨ s.acceptMark = s.countMark.setTb .locked := by
  have htb : s.countMark.rt.tb = s.rt.tb := rfl
  have hrun : s.countMark.rt.markRun = min 2 (s.rt.markRun + 1) := rfl
  have hports : (s.countMark.setTb .locked).ports = s.ports := (State.setTb_eqUpTo _ _).time_ports
  unfold State.acceptMark
  split
  · exact .inl rfl
  · right
    split
    · rcases h with h | h | h
      · exact absurd (htb ▸ ‹_›) h
      · omega
      · exact State.windowsEnd_of_noWindows (h.of_ports hports)
    · rfl

theorem State.setTb_lineStart (s : State) (tb : Tb) : (s.setTb tb).lineStart = s.lineStart := by
  unfold State.setTb
  split
  · rfl
  · simp [State.lineStart]

section Accept
variable {s : State} (h : s.rt.tb ≠ .free ∨ s.rt.markRun = 0 ∨ s.noWindows)
include h

theorem State.acceptMark_eqUpTo : s.eqUpTo blankTime s.acceptMark := by
  have hcount : s.eqUpTo blankTime s.countMark := s.modRt_eqUpTo _
  rcases State.acceptMark_cases h with heq | heq <;> rw [heq]
  · exact hcount
  · exact hcount.trans (State.setTb_eqUpTo _ _)

theorem State.acceptMark_lineStart : s.acceptMark.lineStart = s.lineStart := by
  rcases State.acceptMark_cases h with heq | heq <;> rw [heq]
  · rfl
  · exact State.setTb_lineStart _ _

end Accept

theorem State.noteMark_eqUpTo (s : State) (err : Int) (far : Bool) : s.eqUpTo blankFlags (s.noteMark err far) :=
  (s.wr_eqUpTo _ _ _ _).trans (State.wr_eqUpTo _ _ _ _ _)

/-- A mark before the current time and outside the window steps back, and is then accepted (R317). -/
theorem State.mark_backward {s : State} {e : Nat} {m : RTime} (hback : m.before (s.rtNow e) = true)
    (hfar : 256 * s.rd (ephPg 0) RT_CFG_MARK_WIN < ((s.rtNow e).distance s.rt.lines m).natAbs)
    (hquiet : s.rt.tb ≠ .free ∨ s.rt.markRun = 0 ∨ s.noWindows) :
    ∃ v : State, s.mark m.1 m.2.1 m.2.2 e = v.acceptMark ∧ s.eqUpTo blankMark v ∧
      v.rt = { s.rt with frame := m.1, line := m.2.1, sub := m.2.2, fine := 0, discs := s.rt.discs + 1 } ∧
      (∀ (c : Nat) {i : Nat}, i < 1024 →
        mapGet? v.armed (1024 * c + i) = (mapGet? s.armed (1024 * c + i)).map (v.rewound m c i)) ∧
      (v.rt.tb ≠ .free ∨ v.rt.markRun = 0 ∨ v.noWindows) := by
  obtain ⟨u, hu⟩ : ∃ u, u = s.noteMark ((s.rtNow e).distance s.rt.lines m) true := ⟨_, rfl⟩
  have hnote : s.eqUpTo blankFlags u := hu ▸ s.noteMark_eqUpTo _ _
  have hnoteRt : u.rt = s.rt := hnote.get (·.rt) fun _ => rfl
  have hrt := u.stepMark_rt hback
  rw [hnoteRt] at hrt
  refine ⟨u.stepMark (s.rtNow e) m, by rw [hu]; exact State.mark_far hfar,
    hnote.time.line.lineMark.trans (u.stepMark_eqUpTo hback), hrt, fun c i hi => ?_, ?_⟩
  · rw [u.stepMark_armed hback c hi, hnote.time.time_armed]
  · rw [hrt]
    exact hquiet.imp_right (.imp_right fun h => State.stepMark_noWindows hback (h.of_ports hnote.time.time_ports))

theorem exec_rtMarkLineWrite (pp : PPort) (val : Word) (e : Nat) (s : State) :
    exec (.rtMarkLineWrite pp val e) s = .next (s.markWrite pp val.toNat e).done := rfl

/-- RT_MARK_LINE_WRITE in LINK mode is a mark, then the end of the command (R317, R338). -/
theorem exec_rtMarkLineWrite_link {s : State} {pp : PPort} {val : Word} {e : Nat} {m : RTime} (hopen : s.opens pp (ephPg 0))
    (hruns : s.tbRuns = true) (hlink : s.rtSrc = 2)
    (hm : m = (s.rd (ephPg 0) RT_MARK_FRAME_FRAME, bits val.toNat 0 12, bits val.toNat 12 8)) :
    exec (.rtMarkLineWrite pp val e) s = .next (s.mark m.1 m.2.1 m.2.2 e).done := by
  rw [exec_rtMarkLineWrite, State.markWrite, State.guarded_opens hopen, if_pos (by simp [hruns, hlink]), hm]

/-- A mark before the current time and outside the window steps back (R317, R326). -/
theorem rtMarkLineWrite_rewinds {s : State} {pp : PPort} {val : Word} {e : Nat} {m : RTime} (hopen : s.opens pp (ephPg 0))
    (hruns : s.tbRuns = true) (hlink : s.rtSrc = 2)
    (hm : m = (s.rd (ephPg 0) RT_MARK_FRAME_FRAME, bits val.toNat 0 12, bits val.toNat 12 8))
    (hback : m.before (s.rtNow e) = true)
    (hfar : 256 * s.rd (ephPg 0) RT_CFG_MARK_WIN < ((s.rtNow e).distance s.rt.lines m).natAbs)
    (hquiet : s.rt.tb ≠ .free ∨ s.rt.markRun = 0 ∨ s.noWindows) :
    ∃ t : State, exec (.rtMarkLineWrite pp val e) s = .next t ∧ t.rt.frame = m.1 ∧ t.rt.line = m.2.1 ∧
      (∀ c < 8, ∀ i < 1024, mapGet? t.armed (1024 * c + i) = (mapGet? s.armed (1024 * c + i)).map (t.rewound m c i)) ∧
      s.eqUpTo State.blankMark t := by
  obtain ⟨v, hmark, hv, hrt, harmed, hquiet'⟩ := State.mark_backward hback hfar hquiet
  have hexec := hmark ▸ exec_rtMarkLineWrite_link hopen hruns hlink hm
  have haccept := State.acceptMark_eqUpTo hquiet'
  have hline : v.acceptMark.lineStart = (m.1, m.2.1, 0) := by
    rw [State.acceptMark_lineStart hquiet', State.lineStart, hrt]
  have hnil : v.acceptMark.faults = [] :=
    haccept.time_faults.trans ((hv.get (·.faults) fun _ => rfl).trans hopen.1)
  have hstart := (State.done_lineStart_of_nil hnil).trans hline
  refine ⟨_, hexec, congrArg (·.1) hstart, congrArg (·.2.1) hstart, fun c _ i hi => ?_,
    (hv.trans haccept.line.lineMark).trans (State.done_eqUpTo_line hnil).lineMark⟩
  have hentry : v.acceptMark.done.ephEntry c i = v.ephEntry c i :=
    (State.done_ephEntry_of_nil hnil c i).trans (haccept.time_ephEntry c i)
  rw [State.done_armed_of_nil hnil, haccept.time_armed, State.rewound_congr hentry]
  exact harmed c hi

/-- Settles O43: either way raster time steps back, the model rewinds the armed occurrences, and nothing before or after that
in the same command reaches them. -/
theorem backwardStepsMoveFramesEntries : Obligations.BackwardStepsMoveFramesEntries := by
  refine ⟨fun s f hnil hruns hfree hstall hlast hset hback => ?_,
    fun s pp val e m hopen hruns hlink hm hback hfar hquiet => ?_⟩
  · obtain ⟨t, hexec, hline, harmed, hrest⟩ := lineEnd_setFrame_rewinds hnil hruns hfree hstall hlast hset hback
    exact ⟨t, hexec, hline, harmed, hrest.line_frame⟩
  · obtain ⟨t, hexec, hframe, hline, harmed, hrest⟩ := rtMarkLineWrite_rewinds hopen hruns hlink hm hback hfar hquiet
    exact ⟨t, hexec, hframe, hline, harmed, hrest.mark_frame⟩

end Sys2Proof.Machine

/-!
PROOFS. T_CFG (R353): what the end of a claim does to its source, over all claims of a target; what a changed configuration leaves in
the target and in its registers; and T_CFG_WRITE in CONFIGURE, elsewhere, and where it changes nothing.
-/
namespace Sys2Proof.Machine

/-! ### Listed entries of a sparse map -/

theorem mem_of_mapGet? {α : Type} {m : SMap α} {k : Nat} {v : α} (h : mapGet? m k = some v) : (k, v) ∈ m := by
  induction m with
  | nil => cases h
  | cons e t ih =>
    obtain ⟨j, w⟩ := e
    simp only [mapGet?] at h
    split at h
    · next hj => cases h; simp [hj]
    · exact List.mem_cons_of_mem _ (ih h)

/-- Where the keys rise, every listed entry is the one that is read at its key. -/
theorem mapGet?_of_mem {α : Type} {m : SMap α} (hrise : mapRising m = true) {e : Nat × α} (he : e ∈ m) :
    mapGet? m e.1 = some e.2 := by
  induction m with
  | nil => cases he
  | cons f t ih =>
    obtain ⟨habove, htail⟩ := (mapRising_cons f t).1 hrise
    rcases List.mem_cons.1 he with rfl | he
    · simp [mapGet?]
    · simp [mapGet?, Nat.ne_of_lt (habove e he), ih htail he]

theorem State.src_of_mem {s : State} (hrise : mapRising s.srcs = true) {e : Nat × IntSrc} (he : e ∈ s.srcs) : s.src e.1 = e.2 := by
  rw [State.src, mapGet, mapGet?_of_mem hrise he, Option.getD_some]

/-- A source with an active claim is listed: an unlisted one has none. -/
theorem State.mem_srcs_of_active {s : State} {j : Nat} (h : (s.src j).active = true) : (j, s.src j) ∈ s.srcs := by
  unfold State.src mapGet at h ⊢
  cases hget : mapGet? s.srcs j with
  | none => simp [hget] at h
  | some x => exact mem_of_mapGet? hget

/-! ### The end of one claim (R342, R346) -/

/-- No page asks for an interrupt, so no level source's condition holds (R342). -/
def State.quiet (s : State) : Prop := ∀ p, s.pageIrq p = false

theorem State.pageIrq_congr {s t : State} (h : s.regs = t.regs) (p : Nat) : s.pageIrq p = t.pageIrq p := by
  rw [State.pageIrq, State.pageIrq, State.rd_congr h, State.rd_congr h]

theorem State.quiet.of_regs {s t : State} (h : s.quiet) (hregs : t.regs = s.regs) : t.quiet :=
  fun p => (State.pageIrq_congr hregs p).trans (h p)

theorem State.quiet.pageCond {s : State} (h : s.quiet) (p : Nat) : s.pageCond p = false := by
  unfold State.pageCond
  split
  · rw [h, h]; rfl
  · rw [h, h]; rfl
  · exact h p

/-- An event takes no count away. -/
theorem State.event_count_ne_zero {s : State} {k : Nat} (h : (s.src k).count ≠ 0) : ((s.event k).src k).count ≠ 0 := by
  by_cases hruns : (s.src k).en = true ∧ s.icuRuns = true
  · obtain ⟨d, hd⟩ := s.event_src_self k hruns.1 hruns.2
    rw [hd]
    dsimp only
    omega
  · have hsame : s.event k = s := if_pos (by simpa [Classical.or_iff_not_imp_left] using hruns)
    rwa [hsame]

/-- The end of a claim clears it, and then counts one event where a level source's condition holds. -/
theorem State.endClaim_cases (s : State) (k : Nat) : ∃ u : State, u.regs = s.regs ∧
    (∃ d, u.src k = { s.src k with active := false, delay := d }) ∧
    (s.endClaim k = u ∨ s.endClaim k = u.event k ∧ ∃ p, u.pageCond p = true) := by
  generalize hend : s.endClaim k = t
  unfold State.endClaim at hend
  extract_lets s1 page s2 at hend
  have h1 : s1.src k = { s.src k with active := false } := State.modSrc_src_self _ _ _
  refine ⟨s2, ?_, ?_, ?_⟩
  · unfold s2
    split
    · exact State.startDelay_regs _ _
    · rfl
  · unfold s2
    split
    · obtain ⟨d, hd⟩ := s1.startDelay_src_self k
      exact ⟨d, by rw [hd, h1]⟩
    · exact ⟨_, h1⟩
  · clear_value page
    cases page with
    | none => exact .inl hend.symm
    | some p =>
      dsimp only at hend
      split at hend
      · next hcond => exact .inr ⟨hend.symm, p, hcond⟩
      · exact .inl hend.symm

/-- What ends of claims keep of a source, from `x` to `y`: it stays enabled or disabled, no claim begins, no count is lost, and none
is gained where every page is quiet. -/
structure IntSrc.Kept (quiet : Prop) (x y : IntSrc) : Prop where
  en : y.en = x.en
  inactive : x.active = false → y.active = false
  count_ne_zero : x.count ≠ 0 → y.count ≠ 0
  count_of_quiet : quiet → y.count = x.count

theorem IntSrc.Kept.refl (quiet : Prop) (x : IntSrc) : x.Kept quiet x := ⟨rfl, id, id, fun _ => rfl⟩

theorem IntSrc.Kept.trans {quiet : Prop} {x y z : IntSrc} (h : x.Kept quiet y) (g : y.Kept quiet z) : x.Kept quiet z :=
  ⟨g.en.trans h.en, g.inactive ∘ h.inactive, g.count_ne_zero ∘ h.count_ne_zero,
    fun hq => (g.count_of_quiet hq).trans (h.count_of_quiet hq)⟩

theorem State.endClaim_inactive (s : State) (k : Nat) : ((s.endClaim k).src k).active = false := by
  obtain ⟨c, d, hsrc⟩ := s.endClaim_src_self k
  rw [hsrc]

theorem State.endClaim_kept (s : State) (k j : Nat) : (s.src j).Kept s.quiet ((s.endClaim k).src j) := by
  by_cases hj : k = j
  · subst hj
    obtain ⟨c, e, hsrc⟩ := s.endClaim_src_self k
    refine ⟨by rw [hsrc], fun _ => s.endClaim_inactive k, ?_, ?_⟩
    all_goals obtain ⟨u, hregs, ⟨d, hclear⟩, hend | ⟨hend, p, hcond⟩⟩ := s.endClaim_cases k
    · rw [hend, hclear]; exact id
    · rw [hend]; exact fun hcount => State.event_count_ne_zero (by rwa [hclear])
    · rw [hend, hclear]; exact fun _ => rfl
    · intro hquiet
      rw [(hquiet.of_regs hregs).pageCond p] at hcond
      cases hcond
  · rw [State.endClaim_src_ne _ hj]
    exact .refl _ _

/-! ### The end of every claim of a target (R353) -/

/-- The listed claims end, in their order. -/
def State.endClaims (s : State) (l : List (Nat × IntSrc)) : State := s.each l fun s e => s.endClaim e.1

theorem State.endClaims_cons (s : State) (e : Nat × IntSrc) (l : List (Nat × IntSrc)) :
    s.endClaims (e :: l) = (s.endClaim e.1).endClaims l := rfl

/-- The ends of claims change the sources only. -/
theorem State.endClaims_frame (s : State) (l : List (Nat × IntSrc)) :
    s.endClaims l = { s with srcs := (s.endClaims l).srcs } := by
  induction l generalizing s with
  | nil => rfl
  | cons e l ih =>
    rw [State.endClaims_cons, ih, State.endClaim_frame]

theorem State.endClaims_src_of_not_mem {s : State} {l : List (Nat × IntSrc)} {j : Nat} (h : ∀ e ∈ l, e.1 ≠ j) :
    (s.endClaims l).src j = s.src j := by
  induction l generalizing s with
  | nil => rfl
  | cons e l ih =>
    rw [State.endClaims_cons, ih fun x hx => h x (by simp [hx]), State.endClaim_src_ne _ (h e (by simp))]

theorem State.endClaims_kept (s : State) (l : List (Nat × IntSrc)) (j : Nat) :
    (s.src j).Kept s.quiet ((s.endClaims l).src j) := by
  induction l generalizing s with
  | nil => exact .refl _ _
  | cons e l ih =>
    have hrest := ih (s.endClaim e.1)
    have hquiet : (s.endClaim e.1).quiet = s.quiet := by
      simp only [State.quiet, State.pageIrq_congr (s.endClaim_regs e.1)]
    rw [hquiet] at hrest
    exact (s.endClaim_kept e.1 j).trans hrest

theorem State.endClaims_inactive {s : State} {l : List (Nat × IntSrc)} {e : Nat × IntSrc} (he : e ∈ l) :
    ((s.endClaims l).src e.1).active = false := by
  induction l generalizing s with
  | nil => cases he
  | cons f l ih =>
    rw [State.endClaims_cons]
    rcases List.mem_cons.1 he with rfl | he
    · exact (State.endClaims_kept _ l e.1).inactive (s.endClaim_inactive e.1)
    · exact ih he

/-- The listed sources with an active claim of target `k` (R345). -/
def State.claimsOf (s : State) (k : Nat) : List (Nat × IntSrc) := s.srcs.filter fun e => e.2.active && e.2.atgt == k

theorem State.mem_claimsOf_of_active {s : State} {k j : Nat} (hactive : (s.src j).active = true) (hatgt : (s.src j).atgt = k) :
    (j, s.src j) ∈ s.claimsOf k :=
  List.mem_filter.2 ⟨State.mem_srcs_of_active hactive, by simp [hactive, hatgt]⟩

theorem State.active_of_mem_claimsOf {s : State} (hrise : mapRising s.srcs = true) {k : Nat} {e : Nat × IntSrc}
    (he : e ∈ s.claimsOf k) : (s.src e.1).active = true ∧ (s.src e.1).atgt = k := by
  obtain ⟨hlisted, hclaim⟩ := List.mem_filter.1 he
  rw [State.src_of_mem hrise hlisted]
  simpa using hclaim

/-! ### The new configuration of a target -/

/-- A target after a change of its configuration: no stack, no message outstanding or held (R353). -/
def TgtState.emptied (x : TgtState) : TgtState :=
  { x with stack := [], outN := false, outF := false, msgN := false, msgF := false }

/-- Target `k` takes its new configuration; its claims are still to end (R353). -/
def State.retarget (s : State) (k v : Nat) : State :=
  ((s.modTgt k TgtState.emptied).wr (tnPg k) T_CFG_MODE (bits v 0 1)).wr (tnPg k) T_CFG_FAST (bits v 4 4)

section Retarget
variable (s : State) (k v : Nat)

theorem State.retarget_rd_mode : (s.retarget k v).rd (tnPg k) T_CFG_MODE = bits v 0 1 := by
  have hne : fieldKey (tnPg k) T_CFG_FAST 0 ≠ fieldKey (tnPg k) T_CFG_MODE 0 :=
    headKey_ne (by decide) (by decide) (by decide) (by decide) (.inr (by decide))
  rw [State.retarget, State.rd_wr_ne _ _ hne, State.rd_wr_self]
  exact Nat.mod_mod _ _

theorem State.retarget_rd_fast : (s.retarget k v).rd (tnPg k) T_CFG_FAST = bits v 4 4 := by
  rw [State.retarget, State.rd_wr_self]
  exact Nat.mod_mod _ _

theorem State.retarget_tgt_self : (s.retarget k v).tgt k = (s.tgt k).emptied := by
  simp [State.retarget]

theorem State.retarget_tgt_ne {j : Nat} (h : j ≠ k) : (s.retarget k v).tgt j = s.tgt j := by
  simp [State.retarget, State.modTgt_tgt_ne _ _ h.symm]

theorem State.retarget_src (j : Nat) : (s.retarget k v).src j = s.src j := by
  simp [State.retarget]

/-- The fields of T_CFG. -/
def tCfgKeys (k : Nat) : List Nat := [fieldKey (tnPg k) T_CFG_MODE 0, fieldKey (tnPg k) T_CFG_FAST 0]

theorem State.retarget_regsBut : s.regsBut (s.retarget k v) (tCfgKeys k) :=
  State.regsBut_wr (State.regsBut_wr (s.regsBut_refl _) _ _ _ _ (by simp [tCfgKeys])) _ _ _ _ (by simp [tCfgKeys])

/-- T_CFG stands behind the header that every page has (R45). -/
theorem headKey_not_mem_tCfgKeys {p : Nat} {f : Field} (hoff : f.off < 0x040) (hlo : f.lo < 32) :
    fieldKey p f 0 ∉ tCfgKeys k := by
  simp only [tCfgKeys, List.mem_cons, List.not_mem_nil, or_false, not_or]
  constructor <;> exact headKey_ne (by omega) (by decide) hlo (by decide) (.inr (.inl (Nat.ne_of_lt hoff)))

theorem State.quiet.retarget {s : State} (h : s.quiet) : (s.retarget k v).quiet := by
  intro p
  rw [State.pageIrq, State.regsBut_rd (s.retarget_regsBut k v) (headKey_not_mem_tCfgKeys k (by decide) (by decide)),
    State.regsBut_rd (s.retarget_regsBut k v) (headKey_not_mem_tCfgKeys k (by decide) (by decide))]
  exact h p

end Retarget

/-- Target `k` takes its new configuration and its claims end (R353). -/
def State.reconfigure (s : State) (k v : Nat) : State := (s.retarget k v).endClaims (s.claimsOf k)

section Reconfigure
variable (s : State) (k v : Nat) {j : Nat}

theorem State.reconfigure_frame :
    s.reconfigure k v = { s.retarget k v with srcs := (s.reconfigure k v).srcs } :=
  (s.retarget k v).endClaims_frame _

theorem State.reconfigure_tgt_self : (s.reconfigure k v).tgt k = (s.tgt k).emptied := by
  rw [State.reconfigure_frame]
  exact s.retarget_tgt_self k v

theorem State.reconfigure_kept (j : Nat) : (s.src j).Kept s.quiet ((s.reconfigure k v).src j) := by
  have h := (s.retarget k v).endClaims_kept (s.claimsOf k) j
  rw [State.retarget_src] at h
  exact ⟨h.en, h.inactive, h.count_ne_zero, fun hquiet => h.count_of_quiet (hquiet.retarget k v)⟩

theorem State.reconfigure_inactive (hactive : (s.src j).active = true) (hatgt : (s.src j).atgt = k) :
    ((s.reconfigure k v).src j).active = false :=
  State.endClaims_inactive (State.mem_claimsOf_of_active hactive hatgt)

theorem State.reconfigure_src_of_unclaimed (hrise : mapRising s.srcs = true)
    (h : ¬((s.src j).active = true ∧ (s.src j).atgt = k)) : (s.reconfigure k v).src j = s.src j := by
  have hnot : ∀ e ∈ s.claimsOf k, e.1 ≠ j := fun e he hj => h (hj ▸ State.active_of_mem_claimsOf hrise he)
  rw [State.reconfigure, State.endClaims_src_of_not_mem hnot, State.retarget_src]

end Reconfigure

theorem State.runPrio_of_stack_nil {s : State} {k : Nat} (h : (s.tgt k).stack = []) : s.runPrio k = 0 := by
  rw [State.runPrio, h]

/-! ### T_CFG_WRITE (R353) -/

/-- T_CFG_WRITE is the write of T_CFG, then the end of the command. -/
theorem exec_tCfgWrite (pp : PPort) (k : Tgt) (val : Word) (s : State) :
    exec (.tCfgWrite pp k val) s = .next (s.tCfgWrite pp k val.toNat).done := rfl

theorem bne_or_bne_of_ne {a b c d : Nat} (h : b ≠ a ∨ d ≠ c) : (a != b || c != d) = true := by
  rw [Bool.or_eq_true, bne_iff_ne, bne_iff_ne]
  exact h.imp Ne.symm Ne.symm

section Write
variable {s : State} {pp k v : Nat} (hopen : s.opens pp (tnPg k))
include hopen

/-- A change in CONFIGURE: the target takes its configuration and its claims end. -/
theorem State.tCfgWrite_change (hmode : s.mode = .configure)
    (hchange : bits v 0 1 ≠ s.rd (tnPg k) T_CFG_MODE ∨ bits v 4 4 ≠ s.rd (tnPg k) T_CFG_FAST) :
    s.tCfgWrite pp k v = s.reconfigure k v := by
  unfold State.tCfgWrite
  extract_lets p mode fast changes
  have hchanges : changes = true := bne_or_bne_of_ne hchange
  rw [hchanges, hmode]
  exact State.guarded_opens hopen _

/-- A change outside CONFIGURE is refused (R8, R47). -/
theorem State.tCfgWrite_locked (hmode : s.mode ≠ .configure)
    (hchange : bits v 0 1 ≠ s.rd (tnPg k) T_CFG_MODE ∨ bits v 4 4 ≠ s.rd (tnPg k) T_CFG_FAST) :
    s.tCfgWrite pp k v = s.refuse (tnPg k) .rwc := by
  unfold State.tCfgWrite
  extract_lets p mode fast changes
  have hchanges : changes = true := bne_or_bne_of_ne hchange
  obtain ⟨-, hdeaf, hgate⟩ := hopen
  simp [State.guarded, p, hdeaf, hgate, hchanges, hmode]

/-- A write that changes nothing has no effect. -/
theorem State.tCfgWrite_same (hmode : s.rd (tnPg k) T_CFG_MODE = bits v 0 1)
    (hfast : s.rd (tnPg k) T_CFG_FAST = bits v 4 4) : s.tCfgWrite pp k v = s := by
  unfold State.tCfgWrite
  extract_lets p mode fast changes
  have hchanges : changes = false := by simp [changes, p, mode, fast, hmode, hfast]
  rw [hchanges]
  exact State.guarded_opens hopen _

end Write

/-- A refusal of a write to a target's page leaves its configuration. -/
theorem State.refuse_rd_tCfg (s : State) {k : Nat} (c : RefCause) {f : Field} (hf : fieldKey (tnPg k) f 0 ∈ tCfgKeys k) :
    (s.refuse (tnPg k) c).rd (tnPg k) f = s.rd (tnPg k) f := by
  refine State.regsBut_rd (s.refuse_regsBut (tnPg k) c) fun hmem => ?_
  simp only [refuseKeys, List.mem_cons, List.not_mem_nil, or_false] at hmem
  rcases hmem with h | h | h | h <;> exact headKey_not_mem_tCfgKeys k (by decide) (by decide) (h ▸ hf)

section Exec
variable {s : State} {pp : PPort} {k : Tgt} {val : Word} (hopen : s.opens pp (tnPg k))
include hopen

/-- A change in CONFIGURE ends the command in the state in which the target's claims have ended. -/
theorem exec_tCfgWrite_change (hmode : s.mode = .configure)
    (hchange : bits val.toNat 0 1 ≠ s.rd (tnPg k) T_CFG_MODE ∨ bits val.toNat 4 4 ≠ s.rd (tnPg k) T_CFG_FAST) :
    ∃ m, exec (.tCfgWrite pp k val) s = .next { s.reconfigure k val.toNat with moments := m } := by
  have hnil : (s.reconfigure k val.toNat).faults = [] := by
    rw [State.reconfigure_frame]
    exact hopen.1
  rw [exec_tCfgWrite, State.tCfgWrite_change hopen hmode hchange, State.done_frame_of_nil hnil]
  exact ⟨_, rfl⟩

/-- A change elsewhere ends the command in the refusal. -/
theorem exec_tCfgWrite_locked (hmode : s.mode ≠ .configure)
    (hchange : bits val.toNat 0 1 ≠ s.rd (tnPg k) T_CFG_MODE ∨ bits val.toNat 4 4 ≠ s.rd (tnPg k) T_CFG_FAST) :
    ∃ m, exec (.tCfgWrite pp k val) s = .next { s.refuse (tnPg k) .rwc with moments := m } := by
  have hnil : (s.refuse (tnPg k) .rwc).faults = [] := (s.refuse_faults _ _).trans hopen.1
  rw [exec_tCfgWrite, State.tCfgWrite_locked hopen hmode hchange, State.done_frame_of_nil hnil]
  exact ⟨_, rfl⟩

end Exec

/-- Settles O44: the target is retargeted, and then each of its claims ends at its own source. -/
theorem targetConfigurationEndsClaims : Obligations.TargetConfigurationEndsClaims := by
  refine ⟨fun s pp k val hopen hrise hmode hchange => ?_, fun s pp k val hopen hmode hchange => ?_,
    fun s pp k val hopen hmode hfast => ?_⟩
  · obtain ⟨m, hexec⟩ := exec_tCfgWrite_change hopen hmode hchange
    have hframe := s.reconfigure_frame k val.toNat
    have hkept := s.reconfigure_kept k val.toNat
    have htgt := s.reconfigure_tgt_self k val.toNat
    refine ⟨_, hexec, ?mode, ?fast, htgt, fun j => s.reconfigure_inactive k _,
      State.runPrio_of_stack_nil (s := s.reconfigure k val.toNat) (congrArg (·.stack) htgt),
      fun j => (hkept j).en, fun j => (hkept j).count_ne_zero, fun hquiet j => (hkept j).count_of_quiet hquiet,
      fun j => s.reconfigure_src_of_unclaimed k _ hrise, ?others, ?holdOff, ?regs, ?frame⟩
    case mode => rw [hframe]; exact s.retarget_rd_mode k _
    case fast => rw [hframe]; exact s.retarget_rd_fast k _
    case others => rw [hframe]; exact fun j => s.retarget_tgt_ne k val.toNat
    case holdOff => rw [hframe]; rfl
    case regs => rw [hframe]; exact s.retarget_regsBut k _
    case frame => rw [hframe]; rfl
  · obtain ⟨m, hexec⟩ := exec_tCfgWrite_locked hopen hmode hchange
    exact ⟨_, hexec, s.refuse_rd_refcause _ _, s.refuse_rd_tCfg _ (by simp [tCfgKeys]),
      s.refuse_rd_tCfg _ (by simp [tCfgKeys]), s.refuse_tgts _ _⟩
  · rw [exec_tCfgWrite, State.tCfgWrite_same hopen hmode hfast, State.done_of_nil hopen.1]

end Sys2Proof.Machine

/-!
PROOFS. The identification register (R511): an instruction of the test access port while the always-on domain is powered, the four
fields of the identification word, and IDCODE.
-/
namespace Sys2Proof.Machine

/-- With the always-on domain powered, a TAP instruction becomes current with the capture of its data register (R510). -/
theorem State.tapTo_of_powered {s : State} (hpower : s.chip.aonDown = false) (ir : TapIr) (dr : Nat) :
    s.tapTo ir dr = { s with tap := { s.tap with ir := ir, dr := dr } } := by
  simp [State.tapTo, hpower]

/-- Selecting a TAP instruction raises no fault, so that the end of its command changes the moments only. -/
theorem State.tapTo_done_frame {s : State} (hnil : s.faults = []) (hpower : s.chip.aonDown = false) (ir : TapIr) (dr : Nat) :
    ∃ m, (s.tapTo ir dr).done = { s with moments := m, tap := { s.tap with ir := ir, dr := dr } } := by
  rw [State.tapTo_of_powered hpower]
  exact ⟨_, State.done_frame_of_nil hnil⟩

theorem exec_idcode (s : State) : exec .idcode s = .next (s.tapTo .idcode idcodeWord).done := rfl

/-- The layout of R511: version in [31:28], part number in [27:12], manufacturer in [11:1], and 1 in [0]. -/
theorem idcodeWord_fields : bits idcodeWord 28 4 = 1 ∧ bits idcodeWord 12 16 = 0x0128 ∧ bits idcodeWord 1 11 = 0x3B7 ∧
    bits idcodeWord 0 1 = 1 := by
  decide

/-- Settles O52: IDCODE captures the identification word, whose fields are those of R511, and changes nothing else of the state. -/
theorem identificationRegisterReads : Obligations.IdentificationRegisterReads := by
  intro s hnil hpower
  obtain ⟨m, hdone⟩ := State.tapTo_done_frame hnil hpower .idcode idcodeWord
  obtain ⟨hversion, hpart, hmanufacturer, hone⟩ := idcodeWord_fields
  rw [exec_idcode, hdone]
  exact ⟨_, rfl, rfl, hversion, hpart, hmanufacturer, hone, rfl⟩

end Sys2Proof.Machine
